-- ==== Sys2Proof/Word.lean ====
section
/-!
DEFINITION. The word types of the MV6464: a byte, a 64-bit word of a Weft register, and the time types.
-/
namespace Sys2Proof

/-- One byte. -/
abbrev Byte := BitVec 8
/-- A 64-bit word: a Weft register, a wall time in ns (R9) or a pick time (R10). -/
abbrev Word := BitVec 64
/-- A 32-bit word: a BAR0 register, an instruction, a generation. -/
abbrev Word32 := BitVec 32

end Sys2Proof
end

