-- ==== Sys2Proof/Syntax.lean ====
section
/-!
DEFINITION. The commands of the block: what arrives from outside (commands of the host, register accesses, frames,
pins) and what happens inside (timers, completions, instructions of the cores), one constructor for each row of
spec/opcode_table.json. Operands are what the spec gives each of them.
-/
namespace Sys2Proof

/-- The submission path of a command packet: R552, R557, R579, R533, R634. -/
inductive Path where
  | mailbox
  | sq (n : Fin 64)
  | m0
  | fabric (link : Fin 4) (src : Fin 64)
  /-- The copy that the other device of a twin pair has sent, with the generation it reached (R535). -/
  | twin (link : Fin 4) (src : Fin 64) (gen : Word32)
  | script
  /-- JTAG, by which a debugger reaches threads in the name of the debugging slice (R280). -/
  | jtag
deriving DecidableEq, Repr

/-- A command packet as it reaches its execution: tile 0 of R560 without its opcode (the constructor names it), and
the continuation tiles. Its tiles' checks are those of `mboxInWrite`, `sqFetch` and the other transports. -/
structure Cmd where
  path : Path
  flags : BitVec 8 := 0
  slice : BitVec 8 := 0
  device : BitVec 8 := 0
  seq : BitVec 16 := 0
  expGen : Word32 := 0xFFFFFFFF
  handle : Word32 := 0
  /-- Bytes 16 to 59 of tile 0. -/
  params : BitVec 352 := 0
  /-- The continuation tiles. -/
  cont : List (BitVec 512) := []
  /-- The CHECK of tile 0, which the deduplication window keeps (R570). -/
  check : Word32 := 0
deriving DecidableEq, Repr

/-- The kinds of PTP message that the engine of R65 receives. -/
inductive PtpKind where
  | sync | followUp | announce | delayReq | delayResp | pdelayReq | pdelayResp | pdelayFollowUp | signaling | management
deriving DecidableEq, Repr

/-- A PTP message as the engine reads it. -/
structure PtpMsg where
  kind : PtpKind
  /-- domainNumber, and the transport that carried it as TRANSPORT of R605 numbers it. -/
  domain : BitVec 8
  transport : BitVec 2
  /-- twoStepFlag of a Sync. -/
  twoStep : Bool
  /-- sourcePortIdentity and sequenceId. -/
  source : BitVec 80
  seq : BitVec 16
  /-- clockIdentity of the sender's parent and stepsRemoved, of an Announce. -/
  parent : BitVec 64
  steps : BitVec 16
deriving DecidableEq, Repr

/-- What the PCS says of a frame's reception (R102, R101): a code error or a loss of lock, and the RS-FEC codewords that
were corrected and that could not be. -/
structure RxLine where
  codeErr : Bool := false
  fecFixed : Nat := 0
  fecBad : Nat := 0
deriving DecidableEq, Repr

/-- A fragment of a preemptable frame (R112): start or continuation, its frame and fragment counts, its bytes, and the four
check bytes at its end, an mCRC or, on the last, the frame's FCS. -/
structure MPacket where
  start : Bool
  frame : BitVec 2
  frag : BitVec 2
  data : List (BitVec 8)
  check : BitVec 32
deriving DecidableEq, Repr

/-- How a frame reaches a MAC: whole, FCS last, or in fragments (R112). -/
inductive RxFrame where
  | whole (bs : List (BitVec 8))
  | parts (l : List MPacket)
deriving DecidableEq, Repr

/-- Why a port's link is declared down (R119). -/
inductive PcsLoss where
  | lock | alignment | autoneg
deriving DecidableEq, Repr

/-- The messages that an interval of the PTP engine sends (R65). -/
inductive PtpTx where
  | sync | announce | delayReq | pdelayReq
deriving DecidableEq, Repr

/-- What a read of a table slot finds wrong (R394, R399): the slot as a whole, one half of a pinned slot, or two good
halves that differ. -/
inductive SlotFault where
  | whole | halfA | halfB | differ
deriving DecidableEq, Repr

/-- What a visit of the table scrubber reads (R400). -/
inductive ScrubAt where
  | station (n : Fin 262144)
  | stream (n : Fin 1048576)
  | route (n : Fin 131072)
  | index
deriving DecidableEq, Repr

/-- A frame as a Kubridex link delivers it (R513): its LINK_SEQ, its bytes from the header to LINK_CRC, and whether its
codewords could be corrected. -/
structure LinkRx where
  seq : BitVec 12
  bytes : List (BitVec 8)
  fecBad : Bool := false
deriving DecidableEq, Repr

/-- Why a link is declared DOWN (R518). -/
inductive LinkLoss where
  | alignment | noAck | fourth | hello
deriving DecidableEq, Repr

/-- The resets of the host interface alone (R545). -/
inductive HostLoss where
  | flr | hotReset | linkDown
deriving DecidableEq, Repr

/-- What resets the device from outside (R621, R659, R664): supplies that come up and RESET_N, whose rising edge samples
the straps ID_SEL5:0; a brown-out, which may tear the Selvedge entry being written; TEST_N. -/
inductive ResetSrc where
  | powerOn (straps : BitVec 6) | resetN (straps : BitVec 6) | brownOut (torn : Bool) | testN (low : Bool)
deriving DecidableEq, Repr

/-- The SerDes and PCIe reference clocks (R660). -/
inductive RefClk where
  | f0 | f1 | k | pcie
deriving DecidableEq, Repr

/-- How a start-up step ends (R627): whether its method has succeeded; at ST10 the cores whose self-test fails; at ST13
the component identities that step 1 of R488 reads, and the speed steps down at which a full training passes. -/
structure StepEnd where
  pass : Bool
  badCores : List (Fin 68) := []
  identity : BitVec 32 := 0
  fallbacks : Option Nat := none
deriving DecidableEq, Repr

/-- What a read of a cache line finds wrong (R503): the parity of its data, of its tag, or dirty copies that disagree. -/
inductive LineFault where
  | data | tag | dirtyCopies
deriving DecidableEq, Repr

/-- A ring whose pointers are checked (R138): a general ring, one of a port's warp rings, or a host DMA ring. -/
inductive RingRef where
  | general (n : Fin 4096)
  | warp (p : Fin 34) (express : Bool)
  | host (r : Fin 512)
deriving DecidableEq, Repr


/-- The commands of the block: one constructor for each row of spec/opcode_table.json. -/
inductive Instr where
  /-- DEVICE_CONFIG, R600. -/
  | deviceConfig (q : Cmd)
  /-- DEVICE_GET, R599. -/
  | deviceGet (q : Cmd)
  /-- MODE_SET, R636. -/
  | modeSet (q : Cmd)
  /-- SNAPSHOT, R582. -/
  | snapshot (q : Cmd)
  /-- PING, R599. -/
  | ping (q : Cmd)
  /-- SLICE_CONFIG, R554. -/
  | sliceConfig (q : Cmd)
  /-- SLICE_GET, R555. -/
  | sliceGet (q : Cmd)
  /-- SLICE_QUIESCE, R585. -/
  | sliceQuiesce (q : Cmd)
  /-- SLICE_RESUME, R585. -/
  | sliceResume (q : Cmd)
  /-- SLICE_RESET, R586. -/
  | sliceReset (q : Cmd)
  /-- PORT_CONFIG, R99. -/
  | portConfig (q : Cmd)
  /-- PORT_GET, R101. -/
  | portGet (q : Cmd)
  /-- PICK_CONFIG, R91. -/
  | pickConfig (q : Cmd)
  /-- PICK_GET, R92. -/
  | pickGet (q : Cmd)
  /-- PICK_SELECT, R89. -/
  | pickSelect (q : Cmd)
  /-- PICK_CONVERT, R602. -/
  | pickConvert (q : Cmd)
  /-- WALL_CONFIG, R71. -/
  | wallConfig (q : Cmd)
  /-- WALL_GET, R603. -/
  | wallGet (q : Cmd)
  /-- WALL_SET, R67. -/
  | wallSet (q : Cmd)
  /-- PTP_CLOCK_CONFIG, R604. -/
  | ptpClockConfig (q : Cmd)
  /-- PTP_PORT_CONFIG, R605. -/
  | ptpPortConfig (q : Cmd)
  /-- PTP_GET, R606. -/
  | ptpGet (q : Cmd)
  /-- HEDDLE_WRITE, R162. -/
  | heddleWrite (q : Cmd)
  /-- KEYSEL_WRITE, R170. -/
  | keyselWrite (q : Cmd)
  /-- PARSE_PORT_WRITE, R167. -/
  | parsePortWrite (q : Cmd)
  /-- RULE_RANGE_SET, R607. -/
  | ruleRangeSet (q : Cmd)
  /-- RULE_WRITE, R171. -/
  | ruleWrite (q : Cmd)
  /-- PROFILE_WRITE, R173. -/
  | profileWrite (q : Cmd)
  /-- COMMIT_RULESET, R183. -/
  | commitRuleset (q : Cmd)
  /-- RULESET_DISCARD, R189. -/
  | rulesetDiscard (q : Cmd)
  /-- RULESET_GET, R186. -/
  | rulesetGet (q : Cmd)
  /-- RULESET_READ, R607. -/
  | rulesetRead (q : Cmd)
  /-- RULE_GET, R172. -/
  | ruleGet (q : Cmd)
  /-- IT_CONFIG, R177. -/
  | itConfig (q : Cmd)
  /-- IT_WRITE, R177. -/
  | itWrite (q : Cmd)
  /-- IT_GET, R607. -/
  | itGet (q : Cmd)
  /-- HASH_KEY_SET, R181. -/
  | hashKeySet (q : Cmd)
  /-- HASH_KEY_GET, R181. -/
  | hashKeyGet (q : Cmd)
  /-- TABLE_PART_SET, R378. -/
  | tablePartSet (q : Cmd)
  /-- TABLE_PART_GET, R608. -/
  | tablePartGet (q : Cmd)
  /-- TABLE_CONFIG, R380. -/
  | tableConfig (q : Cmd)
  /-- TABLE_CONFIG_GET, R608. -/
  | tableConfigGet (q : Cmd)
  /-- STATION_WRITE, R407. -/
  | stationWrite (q : Cmd)
  /-- STATION_DELETE, R407. -/
  | stationDelete (q : Cmd)
  /-- STATION_FLUSH, R390. -/
  | stationFlush (q : Cmd)
  /-- STATION_GET, R407. -/
  | stationGet (q : Cmd)
  /-- STREAM_WRITE, R395. -/
  | streamWrite (q : Cmd)
  /-- STREAM_DELETE, R395. -/
  | streamDelete (q : Cmd)
  /-- STREAM_GET, R395. -/
  | streamGet (q : Cmd)
  /-- ROUTE_ADD, R398. -/
  | routeAdd (q : Cmd)
  /-- ROUTE_DELETE, R398. -/
  | routeDelete (q : Cmd)
  /-- ROUTE_GET, R608. -/
  | routeGet (q : Cmd)
  /-- POLICER_CONFIG, R424. -/
  | policerConfig (q : Cmd)
  /-- POLICER_GET, R427. -/
  | policerGet (q : Cmd)
  /-- QUEUE_ASSIGN, R609. -/
  | queueAssign (q : Cmd)
  /-- QUEUE_CONFIG, R435. -/
  | queueConfig (q : Cmd)
  /-- QUEUE_GET, R471. -/
  | queueGet (q : Cmd)
  /-- SHAPER_CONFIG, R447. -/
  | shaperConfig (q : Cmd)
  /-- SHAPER_GET, R609. -/
  | shaperGet (q : Cmd)
  /-- PORT_SCHED_CONFIG, R443. -/
  | portSchedConfig (q : Cmd)
  /-- PORT_SCHED_GET, R609. -/
  | portSchedGet (q : Cmd)
  /-- TREADLE_CONFIG, R453. -/
  | treadleConfig (q : Cmd)
  /-- TREADLE_WRITE, R609. -/
  | treadleWrite (q : Cmd)
  /-- TREADLE_COMMIT, R454. -/
  | treadleCommit (q : Cmd)
  /-- TREADLE_ABORT, R454. -/
  | treadleAbort (q : Cmd)
  /-- TREADLE_GET, R461. -/
  | treadleGet (q : Cmd)
  /-- RING_CONFIG, R126. -/
  | ringConfig (q : Cmd)
  /-- RING_GET, R127. -/
  | ringGet (q : Cmd)
  /-- CHAN_CONFIG, R366. -/
  | chanConfig (q : Cmd)
  /-- CHAN_GET, R374. -/
  | chanGet (q : Cmd)
  /-- WARP_CONFIG, R141. -/
  | warpConfig (q : Cmd)
  /-- WARP_GET, R127. -/
  | warpGet (q : Cmd)
  /-- POOL_CONFIG, R150. -/
  | poolConfig (q : Cmd)
  /-- POOL_GET, R611. -/
  | poolGet (q : Cmd)
  /-- HR_ASSIGN, R610. -/
  | hrAssign (q : Cmd)
  /-- HR_CONFIG, R575. -/
  | hrConfig (q : Cmd)
  /-- HR_GET, R610. -/
  | hrGet (q : Cmd)
  /-- HR_KICK, R576. -/
  | hrKick (q : Cmd)
  /-- CORE_CONFIG, R271. -/
  | coreConfig (q : Cmd)
  /-- CORE_GET, R272. -/
  | coreGet (q : Cmd)
  /-- CORE_RETEST, R278. -/
  | coreRetest (q : Cmd)
  /-- PROG_REGION_SET, R265. -/
  | progRegionSet (q : Cmd)
  /-- PROG_CONFIG, R265. -/
  | progConfig (q : Cmd)
  /-- PROG_GET, R612. -/
  | progGet (q : Cmd)
  /-- PROGRAM_LOAD, R268. -/
  | programLoad (q : Cmd)
  /-- PROG_COMMIT, R268. -/
  | progCommit (q : Cmd)
  /-- TG_CONFIG, R194. -/
  | tgConfig (q : Cmd)
  /-- TG_GET, R612. -/
  | tgGet (q : Cmd)
  /-- DISPATCH_CONFIG, R214. -/
  | dispatchConfig (q : Cmd)
  /-- DISPATCH_GET, R612. -/
  | dispatchGet (q : Cmd)
  /-- TASK_CREATE, R203. -/
  | taskCreate (q : Cmd)
  /-- TASK_CONFIG, R203. -/
  | taskConfig (q : Cmd)
  /-- TASK_KICK, R204. -/
  | taskKick (q : Cmd)
  /-- TASK_CANCEL, R221. -/
  | taskCancel (q : Cmd)
  /-- TASK_RESET, R205. -/
  | taskReset (q : Cmd)
  /-- TASK_DESTROY, R223. -/
  | taskDestroy (q : Cmd)
  /-- TASK_GET, R612. -/
  | taskGet (q : Cmd)
  /-- DELAY_ARM, R216. -/
  | delayArm (q : Cmd)
  /-- DELAY_DISARM, R220. -/
  | delayDisarm (q : Cmd)
  /-- DELAY_GET, R215. -/
  | delayGet (q : Cmd)
  /-- OD_CONFIG, R231. -/
  | odConfig (q : Cmd)
  /-- OD_GET, R232. -/
  | odGet (q : Cmd)
  /-- LOCK_CONFIG, R345. -/
  | lockConfig (q : Cmd)
  /-- LOCK_GET, R364. -/
  | lockGet (q : Cmd)
  /-- LOCK_BREAK, R361. -/
  | lockBreak (q : Cmd)
  /-- LOCK_UNIT_CONFIG, R346. -/
  | lockUnitConfig (q : Cmd)
  /-- LOCK_UNIT_GET, R613. -/
  | lockUnitGet (q : Cmd)
  /-- DRAM_GET, R494. -/
  | dramGet (q : Cmd)
  /-- DRAM_LAYOUT_SET, R480. -/
  | dramLayoutSet (q : Cmd)
  /-- CACHE_CONFIG, R499. -/
  | cacheConfig (q : Cmd)
  /-- CACHE_GET, R509. -/
  | cacheGet (q : Cmd)
  /-- CACHE_MAINT, R504. -/
  | cacheMaint (q : Cmd)
  /-- FABRIC_CONFIG, R532. -/
  | fabricConfig (q : Cmd)
  /-- FABRIC_GET, R532. -/
  | fabricGet (q : Cmd)
  /-- FABRIC_LINK_CONFIG, R511. -/
  | fabricLinkConfig (q : Cmd)
  /-- FABRIC_LINK_GET, R512. -/
  | fabricLinkGet (q : Cmd)
  /-- FABRIC_DISCOVER, R523. -/
  | fabricDiscover (q : Cmd)
  /-- FABRIC_ID_SET, R524. -/
  | fabricIdSet (q : Cmd)
  /-- FABRIC_ROUTE_GET, R529. -/
  | fabricRouteGet (q : Cmd)
  /-- ROUTE_PIN, R529. -/
  | routePin (q : Cmd)
  /-- ROUTE_UNPIN, R529. -/
  | routeUnpin (q : Cmd)
  /-- FABRIC_TWIN_CONFIG, R537. -/
  | fabricTwinConfig (q : Cmd)
  /-- FABRIC_TWIN_GET, R614. -/
  | fabricTwinGet (q : Cmd)
  /-- SELVEDGE_READ, R649. -/
  | selvedgeRead (q : Cmd)
  /-- SELVEDGE_CLEAR_ARM, R616. -/
  | selvedgeClearArm (q : Cmd)
  /-- SELVEDGE_CLEAR, R650. -/
  | selvedgeClear (q : Cmd)
  /-- IMAGE_WRITE, R615. -/
  | imageWrite (q : Cmd)
  /-- IMAGE_COMMIT, R615. -/
  | imageCommit (q : Cmd)
  /-- STATS_READ, R618. -/
  | statsRead (q : Cmd)
  /-- COUNTER_RANGE_SET, R617. -/
  | counterRangeSet (q : Cmd)
  /-- COUNTER_READ, R617. -/
  | counterRead (q : Cmd)
  /-- COUNTER_RANGE_GET, R617. -/
  | counterRangeGet (q : Cmd)
  /-- DEBUG_ATTACH, R280. -/
  | debugAttach (q : Cmd)
  /-- DEBUG_DETACH, R280. -/
  | debugDetach (q : Cmd)
  /-- DEBUG_HALT, R281. -/
  | debugHalt (q : Cmd)
  /-- DEBUG_RESUME, R281. -/
  | debugResume (q : Cmd)
  /-- DEBUG_STEP, R281. -/
  | debugStep (q : Cmd)
  /-- DEBUG_BREAK, R281. -/
  | debugBreak (q : Cmd)
  /-- DEBUG_READ, R619. -/
  | debugRead (q : Cmd)
  /-- DEBUG_WRITE, R619. -/
  | debugWrite (q : Cmd)
  /-- JTAG_CHALLENGE, R652. -/
  | jtagChallenge (q : Cmd)
  /-- JTAG_UNLOCK, R652. -/
  | jtagUnlock (q : Cmd)
  /-- HELD_COMMAND_EXECUTE, R568. -/
  | heldCommandExecute (n : Nat)
  /-- IDENT_READ, R548. -/
  | identRead (addr : BitVec 19) (size : Nat)
  /-- DEV_RESET_WRITE, R550. -/
  | devResetWrite (v : BitVec 32)
  /-- DEV_RESET_ARM_EXPIRY, R550. -/
  | devResetArmExpiry
  /-- IRQ_STATUS_WRITE, R551. -/
  | irqStatusWrite (hi : Bool) (v : BitVec 32)
  /-- MBOX_IN_WRITE, R552. -/
  | mboxInWrite (v : BitVec 32)
  /-- SQ_TAIL_WRITE, R558. -/
  | sqTailWrite (n : Fin 64) (v : BitVec 32)
  /-- CQ_HEAD_WRITE, R558. -/
  | cqHeadWrite (n : Fin 64) (v : BitVec 32)
  /-- BAR_REGISTER_WRITE, R547. -/
  | barRegisterWrite (addr : BitVec 19) (size : Nat) (v : BitVec 64)
  /-- HOST_RESET, R545. -/
  | hostReset (k : HostLoss)
  /-- SQ_FETCH, R559. -/
  | sqFetch (n : Fin 64) (tiles : Option (List (BitVec 512)))
  /-- EVENT_ITEM_COPY, R574. -/
  | eventItemCopy (n : Fin 64)
  /-- MGMT_COMMAND_FRAME, R579. -/
  | mgmtCommandFrame (bs : List (BitVec 8))
  /-- HR_POLL, R576. -/
  | hrPoll (r : Fin 512) (item : Option (BitVec 128))
  /-- HR_TX_ITEM, R577. -/
  | hrTxItem (r : Fin 512) (item : BitVec 128) (frame : Option (List (BitVec 8)))
  /-- HR_RX_WRITEBACK, R578. -/
  | hrRxWriteback (r : Fin 512)
  /-- SELF_DRAIN_EXPIRY, R587. -/
  | selfDrainExpiry (n : Fin 64)
  /-- QUIESCE_TIMEOUT, R585. -/
  | quiesceTimeout (n : Fin 64)
  /-- QUIESCE_DONE, R585. -/
  | quiesceDone (n : Fin 64)
  /-- FRAME_RECEIVE, R102. -/
  | frameReceive (p : Fin 33) (f : RxFrame) (line : RxLine) (age : Nat)
  /-- PREEMPT_VERIFY_SEND, R110. -/
  | preemptVerifySend (p : Fin 33)
  /-- PREEMPT_VERIFY_RESPONSE, R110. -/
  | preemptVerifyResponse (p : Fin 33)
  /-- PCS_LOCK_LOSS, R119. -/
  | pcsLockLoss (p : Fin 33) (why : PcsLoss)
  /-- TS_CALIBRATION_DONE, R114. -/
  | tsCalibrationDone (p : Fin 33)
  /-- LINK_UP_DECLARE, R119. -/
  | linkUpDeclare (p : Fin 33)
  /-- PTP_MESSAGE_RECEIVE, R65. -/
  | ptpMessageReceive (p : Fin 33) (m : PtpMsg)
  /-- PTP_ANNOUNCE_TIMEOUT, R66. -/
  | ptpAnnounceTimeout (p : Fin 33)
  /-- PPS_IN_EDGE, R69. -/
  | ppsInEdge
  /-- PPS_IN_TIMEOUT, R66. -/
  | ppsInTimeout
  /-- PPS_OUT_PULSE, R70. -/
  | ppsOutPulse
  /-- PHASE_EDGE, R76. -/
  | phaseEdge (input : Fin 2) (rising : Bool) (held : Nat)
  /-- PHASE_MISSED, R76. -/
  | phaseMissed (k : Fin 4) (pri : Bool)
  /-- ENC_Z_PULSE, R77. -/
  | encZPulse (enc : Fin 2)
  /-- ENCODER_UPDATE, R77. -/
  | encoderUpdate (k : Fin 4) (pri : Bool)
  /-- ENC_Z_TIMEOUT, R77. -/
  | encZTimeout (k : Fin 4) (pri : Bool)
  /-- SYNTH_UPDATE, R79. -/
  | synthUpdate (k : Fin 4) (pri : Bool)
  /-- STEER_MISS, R75. -/
  | steerMiss (k : Fin 4) (pri : Bool)
  /-- HOLD_LIMIT_EXPIRY, R88. -/
  | holdLimitExpiry (k : Fin 4)
  /-- PARSE_START, R160. -/
  | parseStart
  /-- DISPATCH, R199. -/
  | dispatch (express : Bool) (bad : Bool)
  /-- ENTRY_TILE_REWRITE, R266. -/
  | entryTileRewrite (tile : Fin 131072)
  /-- RUN_LIMIT_EXPIRY, R202. -/
  | runLimitExpiry (c : Fin 68) (t : Fin 8)
  /-- TASK_END_ACCEPT, R235. -/
  | taskEndAccept (c : Fin 68) (t : Fin 8)
  /-- REED_COMMIT, R238. -/
  | reedCommit (od : Fin 4096)
  /-- ORDER_SKIP, R242. -/
  | orderSkip (od : Fin 4096)
  /-- WATCHDOG_VISIT, R276. -/
  | watchdogVisit (c : Fin 68)
  /-- CORE_SELFTEST_DONE, R277. -/
  | coreSelftestDone (c : Fin 68) (pass : Bool)
  /-- CORE_JOIN_DONE, R277. -/
  | coreJoinDone (c : Fin 68)
  /-- SPARE_TEST, R278. -/
  | spareTest (result : Option Bool)
  /-- PROGRAM_TILE_REWRITE, R50. -/
  | programTileRewrite (tile : Fin 131072)
  /-- ICACHE_FILL_DONE, R269. -/
  | icacheFillDone (c : Fin 68) (tile : Fin 131072) (bad : Bool)
  /-- PROGRAM_STORE_SCRUB, R270. -/
  | programStoreScrub (tile : Fin 131072) (bad : Bool)
  /-- PROG_DRAIN_END, R268. -/
  | progDrainEnd (n : Fin 64)
  /-- RULESET_DRAIN_END, R183. -/
  | rulesetDrainEnd
  /-- RULESET_COPY_DONE, R183. -/
  | rulesetCopyDone
  /-- RULE_SCRUB, R174. -/
  | ruleScrub (found : List (Bool × Fin 8192))
  /-- RULESET_TILE_REWRITE, R174. -/
  | rulesetTileRewrite (b : Bool) (kind : Fin 7) (idx : Fin 16384)
  /-- DELAY_FIRE, R217. -/
  | delayFire (i : Fin 4096) (bad : Bool)
  /-- HELPER_COMPLETION, R209. -/
  | helperCompletion (k : Nat)
  /-- COPROCESSOR_COMPLETION, R342. -/
  | coprocessorCompletion (c : Fin 68) (cp : Bool)
  /-- BREAKPOINT_HIT, R281. -/
  | breakpointHit (c : Fin 68) (t : Fin 8)
  /-- LEASE_EXPIRY, R356. -/
  | leaseExpiry (n : Fin 4096)
  /-- RING_POINTER_MISMATCH, R139. -/
  | ringPointerMismatch (r : RingRef) (lo : Nat) (hi : Nat)
  /-- RING_RESET_DONE, R146. -/
  | ringResetDone (r : RingRef) (bad : List Nat) (items : List (BitVec 128))
  /-- PORT_SELECT, R442. -/
  | portSelect (p : Fin 52) (bad : Bool)
  /-- TX_COMPLETE, R153. -/
  | txComplete (p : Fin 52)
  /-- LAUNCH_DUE, R116. -/
  | launchDue (q : Fin 7680)
  /-- SPILL_REFILL, R465. -/
  | spillRefill (q : Fin 7680) (bad : Bool)
  /-- PREFETCH_COMPLETE, R467. -/
  | prefetchComplete (p : Fin 52)
  /-- TELEMETRY_SAMPLE, R469. -/
  | telemetrySample (q : Fin 8192)
  /-- TREADLE_ENTRY_BEGIN, R456. -/
  | treadleEntryBegin (p : Fin 33)
  /-- TREADLE_SWITCH, R457. -/
  | treadleSwitch (p : Fin 33)
  /-- TREADLE_COPY_DONE, R457. -/
  | treadleCopyDone (p : Fin 33)
  /-- TREADLE_ENTRY_REWRITE, R452. -/
  | treadleEntryRewrite (p : Fin 33) (i : Fin 1024)
  /-- TREADLE_REPOSITION, R460. -/
  | treadleReposition (p : Fin 33)
  /-- AGE_TICK, R388. -/
  | ageTick
  /-- STATION_AGER_VISIT, R388. -/
  | stationAgerVisit (n : Fin 262144)
  /-- FLUSH_WALK_END, R390. -/
  | flushWalkEnd (n : Fin 64)
  /-- TABLE_SCRUB, R400. -/
  | tableScrub (w : ScrubAt) (f : Option SlotFault)
  /-- MIRROR_REPAIR, R394. -/
  | mirrorRepair (n : Fin 65536)
  /-- TABLE_RESTORE_DONE, R404. -/
  | tableRestoreDone (tb : Fin 3) (n : Fin 1048576) (copy : Option (BitVec 512))
  /-- ROUTE_REBUILD, R400. -/
  | routeRebuild
  /-- CACHE_FILL_DONE, R500. -/
  | cacheFillDone (i : Fin 262144)
  /-- WRITEBACK_DONE, R502. -/
  | writebackDone (bad : Bool)
  /-- LINE_CLEAN, R501. -/
  | lineClean (i : Fin 262144) (bad : Bool)
  /-- CACHE_SCRUB, R501. -/
  | cacheScrub (i : Fin 262144) (f : Option LineFault)
  /-- CACHE_MAINT_DONE, R504. -/
  | cacheMaintDone (bad : List (Fin 262144))
  /-- CACHE_FLUSH_DONE, R506. -/
  | cacheFlushDone
  /-- REQUEST_AGED, R485. -/
  | requestAged
  /-- REFRESH_DEADLINE, R486. -/
  | refreshDeadline
  /-- REFRESH_RATE_READ, R486. -/
  | refreshRateRead (hot : Bool)
  /-- DRIFT_TRACK, R491. -/
  | driftTrack
  /-- ECS_READ, R487. -/
  | ecsRead (counts : BitVec 64)
  /-- FABRIC_DATA_RECEIVE, R520. -/
  | fabricDataReceive (k : Fin 4) (x : LinkRx)
  /-- FABRIC_COMMAND_RECEIVE, R533. -/
  | fabricCommandReceive (k : Fin 4) (x : LinkRx)
  /-- FABRIC_REPLY_RECEIVE, R533. -/
  | fabricReplyReceive (k : Fin 4) (x : LinkRx)
  /-- HELLO_RECEIVE, R522. -/
  | helloReceive (k : Fin 4) (x : LinkRx)
  /-- HELLO_SEND, R522. -/
  | helloSend
  /-- DISCOVER_RECEIVE, R523. -/
  | discoverReceive (k : Fin 4) (x : LinkRx)
  /-- ANSWER_RECEIVE, R523. -/
  | answerReceive (k : Fin 4) (x : LinkRx)
  /-- DISCOVER_WINDOW_END, R523. -/
  | discoverWindowEnd
  /-- FABRIC_ID_SET_TIMEOUT, R524. -/
  | fabricIdSetTimeout
  /-- LSA_RECEIVE, R526. -/
  | lsaReceive (k : Fin 4) (x : LinkRx)
  /-- LSA_FLOOD, R526. -/
  | lsaFlood
  /-- ID_CONFLICT_CLEAR, R525. -/
  | idConflictClear
  /-- ROUTE_RECOMPUTE, R527. -/
  | routeRecompute
  /-- LINK_ACK_RECEIVE, R516. -/
  | linkAckReceive (k : Fin 4) (nak : Bool) (seq : BitVec 12)
  /-- RETRY_TIMEOUT, R517. -/
  | retryTimeout (k : Fin 4)
  /-- FABRIC_LINK_DOWN, R518. -/
  | fabricLinkDown (k : Fin 4) (why : LinkLoss)
  /-- FAB_HOLD_EXPIRY, R520. -/
  | fabHoldExpiry (n : Fin 2048)
  /-- HEARTBEAT_SEND, R538. -/
  | heartbeatSend
  /-- HEARTBEAT_RECEIVE, R538. -/
  | heartbeatReceive (k : Fin 4) (x : LinkRx)
  /-- HEARTBEAT_PATH_LOSS, R538. -/
  | heartbeatPathLoss (p : Fin 4)
  /-- TIME_SEND, R536. -/
  | timeSend
  /-- TIME_RECEIVE, R536. -/
  | timeReceive (k : Fin 4) (x : LinkRx) (delay : Int) (off : Int)
  /-- CMD_TIMEOUT_EXPIRY, R534. -/
  | cmdTimeoutExpiry
  /-- TWIN_LISTEN_END, R638. -/
  | twinListenEnd
  /-- MODE_CHANGE_DONE, R636. -/
  | modeChangeDone
  /-- CP_WATCHDOG, R58. -/
  | cpWatchdog
  /-- SELVEDGE_WRITE, R643. -/
  | selvedgeWrite (good : Bool)
  /-- POWER_FAIL, R648. -/
  | powerFail
  /-- POWER_RESTORED, R648. -/
  | powerRestored
  /-- RESET, R621. -/
  | reset (src : ResetSrc)
  /-- STARTUP_STEP_DONE, R628. -/
  | startupStepDone (e : StepEnd)
  /-- STEP_LIMIT_EXPIRY, R629. -/
  | stepLimitExpiry
  /-- BOOT_WDG, R629. -/
  | bootWdg
  /-- AUTO_RESTART, R640. -/
  | autoRestart
  /-- REFCLK_LOSS, R661. -/
  | refclkLoss (c : RefClk)
  /-- THERM_ALERT, R673. -/
  | thermAlert (hot : Bool)
  /-- THERM_TRIP, R673. -/
  | thermTrip
  /-- STREAM_FIND, R393. -/
  | hStreamFind (k : Nat) (fs : List (Nat × SlotFault))
  /-- FIND_PINNED, R393. -/
  | hFindPinned (k : Nat) (fs : List (Nat × SlotFault))
  /-- SEQ_RECV, R414. -/
  | hSeqRecv (k : Nat) (fs : List (Nat × SlotFault))
  /-- SEQ_GEN, R418. -/
  | hSeqGen (k : Nat) (fs : List (Nat × SlotFault))
  /-- STATION_FIND, R384. -/
  | hStationFind (k : Nat) (fs : List (Nat × SlotFault))
  /-- LEARN, R385. -/
  | hLearn (k : Nat) (fs : List (Nat × SlotFault))
  /-- FIND4, R397. -/
  | hFind4 (k : Nat) (path : Bool) (entry : Bool)
  /-- FIND6, R397. -/
  | hFind6 (k : Nat) (path : Bool) (entry : Bool)
  /-- METER, R425. -/
  | hMeter (k : Nat)
  /-- COUNTER_ADD, R322. -/
  | hCounterAdd (k : Nat)
  /-- COUNTER_HELPER_READ, R322. -/
  | hCounterHelperRead (k : Nat)
  /-- LOCK_ACQUIRE, R349. -/
  | hLockAcquire (k : Nat)
  /-- LOCK_RELEASE, R352. -/
  | hLockRelease (k : Nat)
  /-- LOCK_RENEW, R353. -/
  | hLockRenew (k : Nat)
  /-- LOCK_CANCEL, R353. -/
  | hLockCancel (k : Nat)
  /-- LOCK_QUERY, R353. -/
  | hLockQuery (k : Nat)
  /-- CH_STAGE, R368. -/
  | hChStage (k : Nat)
  /-- CH_COMMIT, R369. -/
  | hChCommit (k : Nat)
  /-- CH_ABORT, R368. -/
  | hChAbort (k : Nat)
  /-- CH_POP, R370. -/
  | hChPop (k : Nat)
  /-- POOL_ALLOC, R151. -/
  | hPoolAlloc (k : Nat)
  /-- REF_ADD, R154. -/
  | hRefAdd (k : Nat)
  /-- FREE, R154. -/
  | hFree (k : Nat)
  /-- RING_PUSH, R130. -/
  | hRingPush (k : Nat)
  /-- RING_POP, R131. -/
  | hRingPop (k : Nat)
  /-- RING_MARK, R132. -/
  | hRingMark (k : Nat)
  /-- RING_REWIND, R132. -/
  | hRingRewind (k : Nat)
  /-- RING_RELEASE, R132. -/
  | hRingRelease (k : Nat)
  /-- TS_CONVERT, R327. -/
  | hTsConvert (k : Nat)
  /-- PICK_STEER, R78. -/
  | hPickSteer (k : Nat)
  /-- TASK_KICK_HELPER, R204. -/
  | hTaskKickHelper (k : Nat)
  /-- TASK_CANCEL_HELPER, R221. -/
  | hTaskCancelHelper (k : Nat)
  /-- DELAY_ARM_HELPER, R216. -/
  | hDelayArmHelper (k : Nat)
  /-- DELAY_DISARM_HELPER, R220. -/
  | hDelayDisarmHelper (k : Nat)
  /-- ORIGIN, R330. -/
  | hOrigin (k : Nat)
  /-- LAUNCH_SET, R329. -/
  | hLaunchSet (k : Nat)
  /-- HOST_SET, R329. -/
  | hHostSet (k : Nat)
  /-- CRC_RANGE, R323. -/
  | hCrcRange (k : Nat)
  /-- ADD, R288. -/
  | wAdd (c : Fin 68) (t : Fin 8) (a : BitVec 5) (b : BitVec 5) (d : BitVec 5)
  /-- SUB, R288. -/
  | wSub (c : Fin 68) (t : Fin 8) (a : BitVec 5) (b : BitVec 5) (d : BitVec 5)
  /-- AND, R288. -/
  | wAnd (c : Fin 68) (t : Fin 8) (a : BitVec 5) (b : BitVec 5) (d : BitVec 5)
  /-- OR, R288. -/
  | wOr (c : Fin 68) (t : Fin 8) (a : BitVec 5) (b : BitVec 5) (d : BitVec 5)
  /-- XOR, R288. -/
  | wXor (c : Fin 68) (t : Fin 8) (a : BitVec 5) (b : BitVec 5) (d : BitVec 5)
  /-- ANDN, R288. -/
  | wAndn (c : Fin 68) (t : Fin 8) (a : BitVec 5) (b : BitVec 5) (d : BitVec 5)
  /-- SLL, R288. -/
  | wSll (c : Fin 68) (t : Fin 8) (a : BitVec 5) (b : BitVec 5) (d : BitVec 5)
  /-- SRL, R288. -/
  | wSrl (c : Fin 68) (t : Fin 8) (a : BitVec 5) (b : BitVec 5) (d : BitVec 5)
  /-- SRA, R288. -/
  | wSra (c : Fin 68) (t : Fin 8) (a : BitVec 5) (b : BitVec 5) (d : BitVec 5)
  /-- ROL, R288. -/
  | wRol (c : Fin 68) (t : Fin 8) (a : BitVec 5) (b : BitVec 5) (d : BitVec 5)
  /-- SLT, R288. -/
  | wSlt (c : Fin 68) (t : Fin 8) (a : BitVec 5) (b : BitVec 5) (d : BitVec 5)
  /-- SLTU, R288. -/
  | wSltu (c : Fin 68) (t : Fin 8) (a : BitVec 5) (b : BitVec 5) (d : BitVec 5)
  /-- SEQ, R288. -/
  | wSeq (c : Fin 68) (t : Fin 8) (a : BitVec 5) (b : BitVec 5) (d : BitVec 5)
  /-- MIN, R288. -/
  | wMin (c : Fin 68) (t : Fin 8) (a : BitVec 5) (b : BitVec 5) (d : BitVec 5)
  /-- MAX, R288. -/
  | wMax (c : Fin 68) (t : Fin 8) (a : BitVec 5) (b : BitVec 5) (d : BitVec 5)
  /-- MINU, R288. -/
  | wMinu (c : Fin 68) (t : Fin 8) (a : BitVec 5) (b : BitVec 5) (d : BitVec 5)
  /-- MAXU, R288. -/
  | wMaxu (c : Fin 68) (t : Fin 8) (a : BitVec 5) (b : BitVec 5) (d : BitVec 5)
  /-- MUL, R288. -/
  | wMul (c : Fin 68) (t : Fin 8) (a : BitVec 5) (b : BitVec 5) (d : BitVec 5)
  /-- MULH, R288. -/
  | wMulh (c : Fin 68) (t : Fin 8) (a : BitVec 5) (b : BitVec 5) (d : BitVec 5)
  /-- MULHU, R288. -/
  | wMulhu (c : Fin 68) (t : Fin 8) (a : BitVec 5) (b : BitVec 5) (d : BitVec 5)
  /-- ADDI, R288. -/
  | wAddi (c : Fin 68) (t : Fin 8) (a : BitVec 5) (b : BitVec 5) (imm : BitVec 15)
  /-- ANDI, R288. -/
  | wAndi (c : Fin 68) (t : Fin 8) (a : BitVec 5) (b : BitVec 5) (imm : BitVec 15)
  /-- ORI, R288. -/
  | wOri (c : Fin 68) (t : Fin 8) (a : BitVec 5) (b : BitVec 5) (imm : BitVec 15)
  /-- XORI, R288. -/
  | wXori (c : Fin 68) (t : Fin 8) (a : BitVec 5) (b : BitVec 5) (imm : BitVec 15)
  /-- SLLI, R288. -/
  | wSlli (c : Fin 68) (t : Fin 8) (a : BitVec 5) (b : BitVec 5) (n : BitVec 6)
  /-- SRLI, R288. -/
  | wSrli (c : Fin 68) (t : Fin 8) (a : BitVec 5) (b : BitVec 5) (n : BitVec 6)
  /-- SRAI, R288. -/
  | wSrai (c : Fin 68) (t : Fin 8) (a : BitVec 5) (b : BitVec 5) (n : BitVec 6)
  /-- ROLI, R288. -/
  | wRoli (c : Fin 68) (t : Fin 8) (a : BitVec 5) (b : BitVec 5) (n : BitVec 6)
  /-- EXT, R288. -/
  | wExt (c : Fin 68) (t : Fin 8) (a : BitVec 5) (b : BitVec 5) (pos : BitVec 6) (lenM1 : BitVec 6)
  /-- EXTS, R288. -/
  | wExts (c : Fin 68) (t : Fin 8) (a : BitVec 5) (b : BitVec 5) (pos : BitVec 6) (lenM1 : BitVec 6)
  /-- INS, R288. -/
  | wIns (c : Fin 68) (t : Fin 8) (a : BitVec 5) (b : BitVec 5) (pos : BitVec 6) (lenM1 : BitVec 6)
  /-- LI, R288. -/
  | wLi (c : Fin 68) (t : Fin 8) (a : BitVec 5) (hw : BitVec 2) (imm : BitVec 16)
  /-- LIK, R288. -/
  | wLik (c : Fin 68) (t : Fin 8) (a : BitVec 5) (hw : BitVec 2) (imm : BitVec 16)
  /-- BSW16, R288. -/
  | wBsw16 (c : Fin 68) (t : Fin 8) (a : BitVec 5) (b : BitVec 5)
  /-- BSW32, R288. -/
  | wBsw32 (c : Fin 68) (t : Fin 8) (a : BitVec 5) (b : BitVec 5)
  /-- BSW64, R288. -/
  | wBsw64 (c : Fin 68) (t : Fin 8) (a : BitVec 5) (b : BitVec 5)
  /-- CLZ, R288. -/
  | wClz (c : Fin 68) (t : Fin 8) (a : BitVec 5) (b : BitVec 5)
  /-- CTZ, R288. -/
  | wCtz (c : Fin 68) (t : Fin 8) (a : BitVec 5) (b : BitVec 5)
  /-- POPC, R288. -/
  | wPopc (c : Fin 68) (t : Fin 8) (a : BitVec 5) (b : BitVec 5)
  /-- LDB, R289. -/
  | wLdb (c : Fin 68) (t : Fin 8) (a : BitVec 5) (b : BitVec 5) (imm : BitVec 15)
  /-- LDH, R289. -/
  | wLdh (c : Fin 68) (t : Fin 8) (a : BitVec 5) (b : BitVec 5) (imm : BitVec 15)
  /-- LDW, R289. -/
  | wLdw (c : Fin 68) (t : Fin 8) (a : BitVec 5) (b : BitVec 5) (imm : BitVec 15)
  /-- LDD, R289. -/
  | wLdd (c : Fin 68) (t : Fin 8) (a : BitVec 5) (b : BitVec 5) (imm : BitVec 15)
  /-- LDBS, R289. -/
  | wLdbs (c : Fin 68) (t : Fin 8) (a : BitVec 5) (b : BitVec 5) (imm : BitVec 15)
  /-- LDHS, R289. -/
  | wLdhs (c : Fin 68) (t : Fin 8) (a : BitVec 5) (b : BitVec 5) (imm : BitVec 15)
  /-- LDWS, R289. -/
  | wLdws (c : Fin 68) (t : Fin 8) (a : BitVec 5) (b : BitVec 5) (imm : BitVec 15)
  /-- STB, R289. -/
  | wStb (c : Fin 68) (t : Fin 8) (a : BitVec 5) (b : BitVec 5) (imm : BitVec 15)
  /-- STH, R289. -/
  | wSth (c : Fin 68) (t : Fin 8) (a : BitVec 5) (b : BitVec 5) (imm : BitVec 15)
  /-- STW, R289. -/
  | wStw (c : Fin 68) (t : Fin 8) (a : BitVec 5) (b : BitVec 5) (imm : BitVec 15)
  /-- STD, R289. -/
  | wStd (c : Fin 68) (t : Fin 8) (a : BitVec 5) (b : BitVec 5) (imm : BitVec 15)
  /-- LDHN, R289. -/
  | wLdhn (c : Fin 68) (t : Fin 8) (a : BitVec 5) (b : BitVec 5) (imm : BitVec 15)
  /-- LDWN, R289. -/
  | wLdwn (c : Fin 68) (t : Fin 8) (a : BitVec 5) (b : BitVec 5) (imm : BitVec 15)
  /-- STHN, R289. -/
  | wSthn (c : Fin 68) (t : Fin 8) (a : BitVec 5) (b : BitVec 5) (imm : BitVec 15)
  /-- STWN, R289. -/
  | wStwn (c : Fin 68) (t : Fin 8) (a : BitVec 5) (b : BitVec 5) (imm : BitVec 15)
  /-- CSRD, R290. -/
  | wCsrd (c : Fin 68) (t : Fin 8) (a : BitVec 5) (n : BitVec 4)
  /-- CSSWP, R290. -/
  | wCsswp (c : Fin 68) (t : Fin 8) (a : BitVec 5) (b : BitVec 5) (n : BitVec 4)
  /-- CSADD, R290. -/
  | wCsadd (c : Fin 68) (t : Fin 8) (a : BitVec 5) (b : BitVec 5) (n : BitVec 4)
  /-- CSAND, R290. -/
  | wCsand (c : Fin 68) (t : Fin 8) (a : BitVec 5) (b : BitVec 5) (n : BitVec 4)
  /-- CSOR, R290. -/
  | wCsor (c : Fin 68) (t : Fin 8) (a : BitVec 5) (b : BitVec 5) (n : BitVec 4)
  /-- CSCAS, R290. -/
  | wCscas (c : Fin 68) (t : Fin 8) (a : BitVec 5) (b : BitVec 5) (d : BitVec 5) (n : BitVec 4)
  /-- CBEQ, R291. -/
  | wCbeq (c : Fin 68) (t : Fin 8) (a : BitVec 5) (b : BitVec 5) (off : BitVec 12)
  /-- CBNE, R291. -/
  | wCbne (c : Fin 68) (t : Fin 8) (a : BitVec 5) (b : BitVec 5) (off : BitVec 12)
  /-- CBLT, R291. -/
  | wCblt (c : Fin 68) (t : Fin 8) (a : BitVec 5) (b : BitVec 5) (off : BitVec 12)
  /-- CBGE, R291. -/
  | wCbge (c : Fin 68) (t : Fin 8) (a : BitVec 5) (b : BitVec 5) (off : BitVec 12)
  /-- CBLTU, R291. -/
  | wCbltu (c : Fin 68) (t : Fin 8) (a : BitVec 5) (b : BitVec 5) (off : BitVec 12)
  /-- CBGEU, R291. -/
  | wCbgeu (c : Fin 68) (t : Fin 8) (a : BitVec 5) (b : BitVec 5) (off : BitVec 12)
  /-- CBEQI, R291. -/
  | wCbeqi (c : Fin 68) (t : Fin 8) (a : BitVec 5) (imm : BitVec 8) (off : BitVec 12)
  /-- CBNEI, R291. -/
  | wCbnei (c : Fin 68) (t : Fin 8) (a : BitVec 5) (imm : BitVec 8) (off : BitVec 12)
  /-- CBLTI, R291. -/
  | wCblti (c : Fin 68) (t : Fin 8) (a : BitVec 5) (imm : BitVec 8) (off : BitVec 12)
  /-- CBGEI, R291. -/
  | wCbgei (c : Fin 68) (t : Fin 8) (a : BitVec 5) (imm : BitVec 8) (off : BitVec 12)
  /-- CBLTUI, R291. -/
  | wCbltui (c : Fin 68) (t : Fin 8) (a : BitVec 5) (imm : BitVec 8) (off : BitVec 12)
  /-- CBGEUI, R291. -/
  | wCbgeui (c : Fin 68) (t : Fin 8) (a : BitVec 5) (imm : BitVec 8) (off : BitVec 12)
  /-- J, R291. -/
  | wJ (c : Fin 68) (t : Fin 8) (a : BitVec 5) (off : BitVec 20)
  /-- JR, R291. -/
  | wJr (c : Fin 68) (t : Fin 8) (a : BitVec 5) (b : BitVec 5) (imm : BitVec 15)
  /-- LOOP, R294. -/
  | wLoop (c : Fin 68) (t : Fin 8) (b : BitVec 5) (endOff : BitVec 12)
  /-- LOOPI, R294. -/
  | wLoopi (c : Fin 68) (t : Fin 8) (n : BitVec 13) (endOff : BitVec 12)
  /-- REQ_C, R299. -/
  | wReqC (c : Fin 68) (t : Fin 8) (a : BitVec 5) (b : BitVec 5) (tag : BitVec 12)
  /-- REQ_P, R313. -/
  | wReqP (c : Fin 68) (t : Fin 8) (a : BitVec 5) (b : BitVec 5) (tag : BitVec 12)
  /-- WAIT, R209. -/
  | wWait (c : Fin 68) (t : Fin 8)
  /-- EVWAIT, R263. -/
  | wEvwait (c : Fin 68) (t : Fin 8) (a : BitVec 5) (mask : BitVec 8)
  /-- EVSEND, R298. -/
  | wEvsend (c : Fin 68) (t : Fin 8) (line : BitVec 3) (dst : BitVec 3)
  /-- END, R210. -/
  | wEnd (c : Fin 68) (t : Fin 8)
  /-- FAULT, R298. -/
  | wFault (c : Fin 68) (t : Fin 8) (code : BitVec 16)
  /-- SCALL, R301. -/
  | wScall (c : Fin 68) (t : Fin 8) (n : BitVec 10)
  /-- SRET, R301. -/
  | wSret (c : Fin 68) (t : Fin 8)
  /-- MFCR, R302. -/
  | wMfcr (c : Fin 68) (t : Fin 8) (a : BitVec 5) (cr : BitVec 10)
  /-- MTCR, R303. -/
  | wMtcr (c : Fin 68) (t : Fin 8) (b : BitVec 5) (cr : BitVec 10)
  /-- CRCC, R305. -/
  | wCrcc (c : Fin 68) (t : Fin 8) (a : BitVec 5) (b : BitVec 5) (d : BitVec 5) (sz : BitVec 2)
  /-- CRCE, R305. -/
  | wCrce (c : Fin 68) (t : Fin 8) (a : BitVec 5) (b : BitVec 5) (d : BitVec 5) (sz : BitVec 2)
  /-- CRCZ, R305. -/
  | wCrcz (c : Fin 68) (t : Fin 8) (a : BitVec 5) (b : BitVec 5) (d : BitVec 5)
  /-- HMIX, R332. -/
  | wHmix (c : Fin 68) (t : Fin 8) (a : BitVec 5) (b : BitVec 5) (d : BitVec 5)
  /-- GKEY, R334. -/
  | wGkey (c : Fin 68) (t : Fin 8) (b : BitVec 5)
  /-- GIV, R334. -/
  | wGiv (c : Fin 68) (t : Fin 8) (b : BitVec 5)
  /-- GAAD, R334. -/
  | wGaad (c : Fin 68) (t : Fin 8) (b : BitVec 5)
  /-- GENC, R334. -/
  | wGenc (c : Fin 68) (t : Fin 8) (b : BitVec 5)
  /-- GDEC, R334. -/
  | wGdec (c : Fin 68) (t : Fin 8) (b : BitVec 5)
  /-- GTAG, R334. -/
  | wGtag (c : Fin 68) (t : Fin 8) (b : BitVec 5)
  /-- GVER, R334. -/
  | wGver (c : Fin 68) (t : Fin 8) (b : BitVec 5)
  /-- PFEED, R337. -/
  | wPfeed (c : Fin 68) (t : Fin 8) (b : BitVec 5) (d : BitVec 5)
  /-- PRE, R338. -/
  | wPre (c : Fin 68) (t : Fin 8) (a : BitVec 5) (d : BitVec 5)
  /-- PIM, R338. -/
  | wPim (c : Fin 68) (t : Fin 8) (a : BitVec 5) (d : BitVec 5)
  /-- PMAG, R338. -/
  | wPmag (c : Fin 68) (t : Fin 8) (a : BitVec 5) (d : BitVec 5)
  /-- PANG, R338. -/
  | wPang (c : Fin 68) (t : Fin 8) (a : BitVec 5) (d : BitVec 5)
  /-- PCFG, R336. -/
  | wPcfg (c : Fin 68) (t : Fin 8) (b : BitVec 5)
  /-- PFEEDM, R339. -/
  | wPfeedm (c : Fin 68) (t : Fin 8) (b : BitVec 5) (d : BitVec 5)
  /-- PGETM, R339. -/
  | wPgetm (c : Fin 68) (t : Fin 8) (b : BitVec 5)
  /-- CPACQ, R331. -/
  | wCpacq (c : Fin 68) (t : Fin 8) (cp : Bool) (a : BitVec 5)
  /-- CPREL, R331. -/
  | wCprel (c : Fin 68) (t : Fin 8) (cp : Bool)
  /-- CPSAVE, R340. -/
  | wCpsave (c : Fin 68) (t : Fin 8) (cp : Bool) (b : BitVec 5)
  /-- CPLOAD, R340. -/
  | wCpload (c : Fin 68) (t : Fin 8) (cp : Bool) (b : BitVec 5)
  /-- PCS_LOCK_ACQUIRE, R114. -/
  | pcsLockAcquire (p : Fin 33)
  /-- AUTONEG_DONE, R119. -/
  | autonegDone (p : Fin 33)
  /-- LINK_TRAINING_DONE, R119. -/
  | linkTrainingDone (p : Fin 33)
  /-- FABRIC_BLOCK_LOCK, R522. -/
  | fabricBlockLock (k : Fin 4)
  /-- ENC_COUNT_EDGE, R77. -/
  | encCountEdge (enc : Fin 2) (up : Bool)
  /-- PPS_OUT_FALL, R70. -/
  | ppsOutFall
  /-- PTP_MESSAGE_SEND, R65. -/
  | ptpMessageSend (p : Fin 33) (k : PtpTx)
  /-- MEM_TIMEOUT, R258. -/
  | memTimeout (c : Fin 68) (t : Fin 8)
  /-- SNAPSHOT_COPY_DONE, R582. -/
  | snapshotCopyDone
  /-- SNAPSHOT_DONE, R583. -/
  | snapshotDone
  /-- CORE_RETEST_DONE, R278. -/
  | coreRetestDone (c : Fin 68) (pass : Bool)
  /-- SYS_XIN_LOSS, R661. -/
  | sysXinLoss
  /-- REFCLK_RESTORE, R661. -/
  | refclkRestore (c : RefClk)
deriving DecidableEq, Repr

end Sys2Proof
end

