-- ==== Sys2Proof/Decode.lean ====
section
/-!
DEFINITION. Weft instruction words (R283 to R305): the decoder and the encoder of the 32-bit words that the program
store holds, and `decodeTableWord`. The opcode table gives no row bits, so a table word spells no command.
-/
namespace Sys2Proof

/-- A Weft instruction with its fields (R288 to R305), apart from the thread that runs it. -/
inductive WeftOp where
  | add (a : BitVec 5) (b : BitVec 5) (d : BitVec 5)
  | sub (a : BitVec 5) (b : BitVec 5) (d : BitVec 5)
  | and (a : BitVec 5) (b : BitVec 5) (d : BitVec 5)
  | or (a : BitVec 5) (b : BitVec 5) (d : BitVec 5)
  | xor (a : BitVec 5) (b : BitVec 5) (d : BitVec 5)
  | andn (a : BitVec 5) (b : BitVec 5) (d : BitVec 5)
  | sll (a : BitVec 5) (b : BitVec 5) (d : BitVec 5)
  | srl (a : BitVec 5) (b : BitVec 5) (d : BitVec 5)
  | sra (a : BitVec 5) (b : BitVec 5) (d : BitVec 5)
  | rol (a : BitVec 5) (b : BitVec 5) (d : BitVec 5)
  | slt (a : BitVec 5) (b : BitVec 5) (d : BitVec 5)
  | sltu (a : BitVec 5) (b : BitVec 5) (d : BitVec 5)
  | seq (a : BitVec 5) (b : BitVec 5) (d : BitVec 5)
  | min (a : BitVec 5) (b : BitVec 5) (d : BitVec 5)
  | max (a : BitVec 5) (b : BitVec 5) (d : BitVec 5)
  | minu (a : BitVec 5) (b : BitVec 5) (d : BitVec 5)
  | maxu (a : BitVec 5) (b : BitVec 5) (d : BitVec 5)
  | mul (a : BitVec 5) (b : BitVec 5) (d : BitVec 5)
  | mulh (a : BitVec 5) (b : BitVec 5) (d : BitVec 5)
  | mulhu (a : BitVec 5) (b : BitVec 5) (d : BitVec 5)
  | addi (a : BitVec 5) (b : BitVec 5) (imm : BitVec 15)
  | andi (a : BitVec 5) (b : BitVec 5) (imm : BitVec 15)
  | ori (a : BitVec 5) (b : BitVec 5) (imm : BitVec 15)
  | xori (a : BitVec 5) (b : BitVec 5) (imm : BitVec 15)
  | slli (a : BitVec 5) (b : BitVec 5) (n : BitVec 6)
  | srli (a : BitVec 5) (b : BitVec 5) (n : BitVec 6)
  | srai (a : BitVec 5) (b : BitVec 5) (n : BitVec 6)
  | roli (a : BitVec 5) (b : BitVec 5) (n : BitVec 6)
  | ext (a : BitVec 5) (b : BitVec 5) (pos : BitVec 6) (lenM1 : BitVec 6)
  | exts (a : BitVec 5) (b : BitVec 5) (pos : BitVec 6) (lenM1 : BitVec 6)
  | ins (a : BitVec 5) (b : BitVec 5) (pos : BitVec 6) (lenM1 : BitVec 6)
  | li (a : BitVec 5) (hw : BitVec 2) (imm : BitVec 16)
  | lik (a : BitVec 5) (hw : BitVec 2) (imm : BitVec 16)
  | bsw16 (a : BitVec 5) (b : BitVec 5)
  | bsw32 (a : BitVec 5) (b : BitVec 5)
  | bsw64 (a : BitVec 5) (b : BitVec 5)
  | clz (a : BitVec 5) (b : BitVec 5)
  | ctz (a : BitVec 5) (b : BitVec 5)
  | popc (a : BitVec 5) (b : BitVec 5)
  | ldb (a : BitVec 5) (b : BitVec 5) (imm : BitVec 15)
  | ldh (a : BitVec 5) (b : BitVec 5) (imm : BitVec 15)
  | ldw (a : BitVec 5) (b : BitVec 5) (imm : BitVec 15)
  | ldd (a : BitVec 5) (b : BitVec 5) (imm : BitVec 15)
  | ldbs (a : BitVec 5) (b : BitVec 5) (imm : BitVec 15)
  | ldhs (a : BitVec 5) (b : BitVec 5) (imm : BitVec 15)
  | ldws (a : BitVec 5) (b : BitVec 5) (imm : BitVec 15)
  | stb (a : BitVec 5) (b : BitVec 5) (imm : BitVec 15)
  | sth (a : BitVec 5) (b : BitVec 5) (imm : BitVec 15)
  | stw (a : BitVec 5) (b : BitVec 5) (imm : BitVec 15)
  | std (a : BitVec 5) (b : BitVec 5) (imm : BitVec 15)
  | ldhn (a : BitVec 5) (b : BitVec 5) (imm : BitVec 15)
  | ldwn (a : BitVec 5) (b : BitVec 5) (imm : BitVec 15)
  | sthn (a : BitVec 5) (b : BitVec 5) (imm : BitVec 15)
  | stwn (a : BitVec 5) (b : BitVec 5) (imm : BitVec 15)
  | csrd (a : BitVec 5) (n : BitVec 4)
  | csswp (a : BitVec 5) (b : BitVec 5) (n : BitVec 4)
  | csadd (a : BitVec 5) (b : BitVec 5) (n : BitVec 4)
  | csand (a : BitVec 5) (b : BitVec 5) (n : BitVec 4)
  | csor (a : BitVec 5) (b : BitVec 5) (n : BitVec 4)
  | cscas (a : BitVec 5) (b : BitVec 5) (d : BitVec 5) (n : BitVec 4)
  | cbeq (a : BitVec 5) (b : BitVec 5) (off : BitVec 12)
  | cbne (a : BitVec 5) (b : BitVec 5) (off : BitVec 12)
  | cblt (a : BitVec 5) (b : BitVec 5) (off : BitVec 12)
  | cbge (a : BitVec 5) (b : BitVec 5) (off : BitVec 12)
  | cbltu (a : BitVec 5) (b : BitVec 5) (off : BitVec 12)
  | cbgeu (a : BitVec 5) (b : BitVec 5) (off : BitVec 12)
  | cbeqi (a : BitVec 5) (imm : BitVec 8) (off : BitVec 12)
  | cbnei (a : BitVec 5) (imm : BitVec 8) (off : BitVec 12)
  | cblti (a : BitVec 5) (imm : BitVec 8) (off : BitVec 12)
  | cbgei (a : BitVec 5) (imm : BitVec 8) (off : BitVec 12)
  | cbltui (a : BitVec 5) (imm : BitVec 8) (off : BitVec 12)
  | cbgeui (a : BitVec 5) (imm : BitVec 8) (off : BitVec 12)
  | j (a : BitVec 5) (off : BitVec 20)
  | jr (a : BitVec 5) (b : BitVec 5) (imm : BitVec 15)
  | loop (b : BitVec 5) (endOff : BitVec 12)
  | loopi (n : BitVec 13) (endOff : BitVec 12)
  | reqC (a : BitVec 5) (b : BitVec 5) (tag : BitVec 12)
  | reqP (a : BitVec 5) (b : BitVec 5) (tag : BitVec 12)
  | wait
  | evwait (a : BitVec 5) (mask : BitVec 8)
  | evsend (line : BitVec 3) (dst : BitVec 3)
  | endTask
  | fault (code : BitVec 16)
  | scall (n : BitVec 10)
  | sret
  | mfcr (a : BitVec 5) (cr : BitVec 10)
  | mtcr (b : BitVec 5) (cr : BitVec 10)
  | crcc (a : BitVec 5) (b : BitVec 5) (d : BitVec 5) (sz : BitVec 2)
  | crce (a : BitVec 5) (b : BitVec 5) (d : BitVec 5) (sz : BitVec 2)
  | crcz (a : BitVec 5) (b : BitVec 5) (d : BitVec 5)
  | hmix (a : BitVec 5) (b : BitVec 5) (d : BitVec 5)
  | gkey (b : BitVec 5)
  | giv (b : BitVec 5)
  | gaad (b : BitVec 5)
  | genc (b : BitVec 5)
  | gdec (b : BitVec 5)
  | gtag (b : BitVec 5)
  | gver (b : BitVec 5)
  | pfeed (b : BitVec 5) (d : BitVec 5)
  | pre (a : BitVec 5) (d : BitVec 5)
  | pim (a : BitVec 5) (d : BitVec 5)
  | pmag (a : BitVec 5) (d : BitVec 5)
  | pang (a : BitVec 5) (d : BitVec 5)
  | pcfg (b : BitVec 5)
  | pfeedm (b : BitVec 5) (d : BitVec 5)
  | pgetm (b : BitVec 5)
  | cpacq (cp : Bool) (a : BitVec 5)
  | cprel (cp : Bool)
  | cpsave (cp : Bool) (b : BitVec 5)
  | cpload (cp : Bool) (b : BitVec 5)
deriving DecidableEq, Repr

/-! ## Fields of R284 -/

/-- Field a, bits 24:20. -/
def fldA (w : Word32) : BitVec 5 := w.extractLsb' 20 5
/-- Field b, bits 19:15. -/
def fldB (w : Word32) : BitVec 5 := w.extractLsb' 15 5
/-- Field c of format R, bits 14:10. -/
def fldC (w : Word32) : BitVec 5 := w.extractLsb' 10 5
/-- Field sub of format R, bits 9:0. -/
def fldSub (w : Word32) : BitVec 10 := w.extractLsb' 0 10
/-- imm15 of format I. -/
def fldImm (w : Word32) : BitVec 15 := w.extractLsb' 0 15
/-- off12 or end12 of formats B, BI and L. -/
def fldOff (w : Word32) : BitVec 12 := w.extractLsb' 0 12
/-- A decoding that holds only where its reserved fields are zero (R285). -/
def only (ok : Bool) (i : WeftOp) : Option WeftOp := if ok then some i else none

/-! ## The decoder, by major opcode (R287) -/

/-- Major 0x01 (R288). -/
def decReg (w : Word32) : Option WeftOp :=
  match (fldSub w).toNat with
  | 0x0 => some (.add (fldA w) (fldB w) (fldC w))
  | 0x1 => some (.sub (fldA w) (fldB w) (fldC w))
  | 0x2 => some (.and (fldA w) (fldB w) (fldC w))
  | 0x3 => some (.or (fldA w) (fldB w) (fldC w))
  | 0x4 => some (.xor (fldA w) (fldB w) (fldC w))
  | 0x5 => some (.andn (fldA w) (fldB w) (fldC w))
  | 0x8 => some (.sll (fldA w) (fldB w) (fldC w))
  | 0x9 => some (.srl (fldA w) (fldB w) (fldC w))
  | 0xA => some (.sra (fldA w) (fldB w) (fldC w))
  | 0xB => some (.rol (fldA w) (fldB w) (fldC w))
  | 0x10 => some (.slt (fldA w) (fldB w) (fldC w))
  | 0x11 => some (.sltu (fldA w) (fldB w) (fldC w))
  | 0x12 => some (.seq (fldA w) (fldB w) (fldC w))
  | 0x14 => some (.min (fldA w) (fldB w) (fldC w))
  | 0x15 => some (.max (fldA w) (fldB w) (fldC w))
  | 0x16 => some (.minu (fldA w) (fldB w) (fldC w))
  | 0x17 => some (.maxu (fldA w) (fldB w) (fldC w))
  | 0x20 => some (.mul (fldA w) (fldB w) (fldC w))
  | 0x21 => some (.mulh (fldA w) (fldB w) (fldC w))
  | 0x22 => some (.mulhu (fldA w) (fldB w) (fldC w))
  | _ => none

/-- Major 0x0A, with c = 0 (R288). -/
def decUnary (w : Word32) : Option WeftOp :=
  match (fldSub w).toNat with
  | 0x0 => only (fldC w = 0) (.bsw16 (fldA w) (fldB w))
  | 0x1 => only (fldC w = 0) (.bsw32 (fldA w) (fldB w))
  | 0x2 => only (fldC w = 0) (.bsw64 (fldA w) (fldB w))
  | 0x8 => only (fldC w = 0) (.clz (fldA w) (fldB w))
  | 0x9 => only (fldC w = 0) (.ctz (fldA w) (fldB w))
  | 0xA => only (fldC w = 0) (.popc (fldA w) (fldB w))
  | _ => none

/-- Major 0x06: sub[9:8] the shift, sub[7:6] reserved, c 0 (R288). -/
def decShift (w : Word32) : Option WeftOp :=
  let n : BitVec 6 := w.extractLsb' 0 6
  let z : Bool := fldC w = 0 ∧ w.extractLsb' 6 2 = 0
  match (w.extractLsb' 8 2).toNat with
  | 0 => only z (.slli (fldA w) (fldB w) n)
  | 1 => only z (.srli (fldA w) (fldB w) n)
  | 2 => only z (.srai (fldA w) (fldB w) n)
  | _ => only z (.roli (fldA w) (fldB w) n)

/-- Major 0x07: pos + len at most 64; kinds 3 to 7 reserved (R288). -/
def decField (w : Word32) : Option WeftOp :=
  let pos : BitVec 6 := w.extractLsb' 9 6
  let l : BitVec 6 := w.extractLsb' 3 6
  let z : Bool := pos.toNat + l.toNat + 1 ≤ 64
  match (w.extractLsb' 0 3).toNat with
  | 0 => only z (.ext (fldA w) (fldB w) pos l)
  | 1 => only z (.exts (fldA w) (fldB w) pos l)
  | 2 => only z (.ins (fldA w) (fldB w) pos l)
  | _ => none

/-- Major 0x20: sub[7:4] the operation, sub[3:0] the register, sub[9:8] reserved (R290). -/
def decShared (w : Word32) : Option WeftOp :=
  let n : BitVec 4 := w.extractLsb' 0 4
  let z : Bool := fldC w = 0
  match (w.extractLsb' 4 6).toNat with
  | 0 => only (z && fldB w = 0) (.csrd (fldA w) n)
  | 1 => only z (.csswp (fldA w) (fldB w) n)
  | 2 => only z (.csadd (fldA w) (fldB w) n)
  | 3 => only z (.csand (fldA w) (fldB w) n)
  | 4 => only z (.csor (fldA w) (fldB w) n)
  | 5 => some (.cscas (fldA w) (fldB w) (fldC w) n)
  | _ => none

/-- Major 0x70, CP0 (R305). -/
def decCp0 (w : Word32) : Option WeftOp :=
  let sz : BitVec 2 := w.extractLsb' 0 2
  match (w.extractLsb' 2 8).toNat with
  | 0 => some (.crcc (fldA w) (fldB w) (fldC w) sz)
  | 1 => some (.crce (fldA w) (fldB w) (fldC w) sz)
  | 2 => only (sz = 0) (.crcz (fldA w) (fldB w) (fldC w))
  | 4 => only (sz = 0) (.hmix (fldA w) (fldB w) (fldC w))
  | _ => none

/-- Major 0x75, CP1 (R305). -/
def decCp1 (w : Word32) : Option WeftOp :=
  match (fldSub w).toNat with
  | 0x0 => only (fldA w = 0 && fldC w = 0) (.gkey (fldB w))
  | 0x1 => only (fldA w = 0 && fldC w = 0) (.giv (fldB w))
  | 0x2 => only (fldA w = 0 && fldC w = 0) (.gaad (fldB w))
  | 0x3 => only (fldA w = 0 && fldC w = 0) (.genc (fldB w))
  | 0x4 => only (fldA w = 0 && fldC w = 0) (.gdec (fldB w))
  | 0x5 => only (fldA w = 0 && fldC w = 0) (.gtag (fldB w))
  | 0x6 => only (fldA w = 0 && fldC w = 0) (.gver (fldB w))
  | _ => none

/-- Major 0x78, CP2 register operations (R305). -/
def decCp2Reg (w : Word32) : Option WeftOp :=
  match (fldSub w).toNat with
  | 0x0 => only (fldA w = 0) (.pfeed (fldB w) (fldC w))
  | 0x8 => only (fldB w = 0) (.pre (fldA w) (fldC w))
  | 0x9 => only (fldB w = 0) (.pim (fldA w) (fldC w))
  | 0xA => only (fldB w = 0) (.pmag (fldA w) (fldC w))
  | 0xB => only (fldB w = 0) (.pang (fldA w) (fldC w))
  | _ => none

/-- Major 0x79, CP2 memory operations (R305). -/
def decCp2Mem (w : Word32) : Option WeftOp :=
  match (fldSub w).toNat with
  | 0 => only (fldA w = 0 && fldC w = 0) (.pcfg (fldB w))
  | 1 => only (fldA w = 0) (.pfeedm (fldB w) (fldC w))
  | 2 => only (fldA w = 0 && fldC w = 0) (.pgetm (fldB w))
  | _ => none

/-- Majors 0x76 and 0x7A, control of CP1 and CP2 (R305). -/
def decCtl (cp : Bool) (w : Word32) : Option WeftOp :=
  match (fldSub w).toNat with
  | 0 => only (fldB w = 0 && fldC w = 0) (.cpacq cp (fldA w))
  | 1 => only (fldA w = 0 && fldB w = 0 && fldC w = 0) (.cprel cp)
  | 2 => only (fldA w = 0 && fldC w = 0) (.cpsave cp (fldB w))
  | 3 => only (fldA w = 0 && fldC w = 0) (.cpload cp (fldB w))
  | _ => none

/-- Majors 0x48 to 0x4F, task, event and supervisor instructions (R298). An `evwait` with mask 0 is ILLEGAL. -/
def decTask (w : Word32) : Option WeftOp :=
  match (w.extractLsb' 25 7).toNat with
  | 0x48 =>
    if w.extractLsb' 13 2 ≠ 0 then none
    else if w.getLsbD 12 then some (.reqC (fldA w) (fldB w) (fldOff w))
    else some (.reqP (fldA w) (fldB w) (fldOff w))
  | 0x49 => only (w.extractLsb' 0 25 = 0) (.wait)
  | 0x4A => only (w.extractLsb' 8 12 = 0 && w.extractLsb' 0 8 ≠ 0) (.evwait (fldA w) (w.extractLsb' 0 8))
  | 0x4B => only (w.extractLsb' 6 19 = 0) (.evsend (w.extractLsb' 3 3) (w.extractLsb' 0 3))
  | 0x4C => only (w.extractLsb' 0 25 = 0) (.endTask)
  | 0x4D => only (w.extractLsb' 16 9 = 0) (.fault (w.extractLsb' 0 16))
  | 0x4E => only (w.extractLsb' 10 15 = 0) (.scall (fldSub w))
  | _ => only (w.extractLsb' 0 25 = 0) (.sret)

/-- The instruction that a word spells; `none` is ILLEGAL (R285, R287). -/
def decodeWeft (w : Word32) : Option WeftOp :=
  match (w.extractLsb' 25 7).toNat with
  | 0x01 => decReg w
  | 0x02 => some (.addi (fldA w) (fldB w) (fldImm w))
  | 0x03 => some (.andi (fldA w) (fldB w) (fldImm w))
  | 0x04 => some (.ori (fldA w) (fldB w) (fldImm w))
  | 0x05 => some (.xori (fldA w) (fldB w) (fldImm w))
  | 0x10 => some (.ldb (fldA w) (fldB w) (fldImm w))
  | 0x11 => some (.ldh (fldA w) (fldB w) (fldImm w))
  | 0x12 => some (.ldw (fldA w) (fldB w) (fldImm w))
  | 0x13 => some (.ldd (fldA w) (fldB w) (fldImm w))
  | 0x14 => some (.ldbs (fldA w) (fldB w) (fldImm w))
  | 0x15 => some (.ldhs (fldA w) (fldB w) (fldImm w))
  | 0x16 => some (.ldws (fldA w) (fldB w) (fldImm w))
  | 0x18 => some (.stb (fldA w) (fldB w) (fldImm w))
  | 0x19 => some (.sth (fldA w) (fldB w) (fldImm w))
  | 0x1A => some (.stw (fldA w) (fldB w) (fldImm w))
  | 0x1B => some (.std (fldA w) (fldB w) (fldImm w))
  | 0x1C => some (.ldhn (fldA w) (fldB w) (fldImm w))
  | 0x1D => some (.ldwn (fldA w) (fldB w) (fldImm w))
  | 0x1E => some (.sthn (fldA w) (fldB w) (fldImm w))
  | 0x1F => some (.stwn (fldA w) (fldB w) (fldImm w))
  | 0x06 => decShift w
  | 0x07 => decField w
  | 0x08 => only (w.extractLsb' 18 2 = 0) (.li (fldA w) (w.extractLsb' 16 2) (w.extractLsb' 0 16))
  | 0x09 => only (w.extractLsb' 18 2 = 0) (.lik (fldA w) (w.extractLsb' 16 2) (w.extractLsb' 0 16))
  | 0x0A => decUnary w
  | 0x20 => decShared w
  | 0x30 => only (w.extractLsb' 12 3 = 0) (.cbeq (fldA w) (fldB w) (fldOff w))
  | 0x31 => only (w.extractLsb' 12 3 = 0) (.cbne (fldA w) (fldB w) (fldOff w))
  | 0x32 => only (w.extractLsb' 12 3 = 0) (.cblt (fldA w) (fldB w) (fldOff w))
  | 0x33 => only (w.extractLsb' 12 3 = 0) (.cbge (fldA w) (fldB w) (fldOff w))
  | 0x34 => only (w.extractLsb' 12 3 = 0) (.cbltu (fldA w) (fldB w) (fldOff w))
  | 0x35 => only (w.extractLsb' 12 3 = 0) (.cbgeu (fldA w) (fldB w) (fldOff w))
  | 0x38 => some (.cbeqi (fldA w) (w.extractLsb' 12 8) (fldOff w))
  | 0x39 => some (.cbnei (fldA w) (w.extractLsb' 12 8) (fldOff w))
  | 0x3A => some (.cblti (fldA w) (w.extractLsb' 12 8) (fldOff w))
  | 0x3B => some (.cbgei (fldA w) (w.extractLsb' 12 8) (fldOff w))
  | 0x3C => some (.cbltui (fldA w) (w.extractLsb' 12 8) (fldOff w))
  | 0x3D => some (.cbgeui (fldA w) (w.extractLsb' 12 8) (fldOff w))
  | 0x3E => some (.j (fldA w) (w.extractLsb' 0 20))
  | 0x3F => some (.jr (fldA w) (fldB w) (fldImm w))
  | 0x40 => only (fldA w = 0 && w.extractLsb' 12 3 = 0) (.loop (fldB w) (fldOff w))
  | 0x41 => some (.loopi (w.extractLsb' 12 13) (fldOff w))
  | 0x48 | 0x49 | 0x4A | 0x4B | 0x4C | 0x4D | 0x4E | 0x4F => decTask w
  | 0x50 => only (fldB w = 0 && fldC w = 0) (.mfcr (fldA w) (fldSub w))
  | 0x51 => only (fldA w = 0 && fldC w = 0) (.mtcr (fldB w) (fldSub w))
  | 0x70 => decCp0 w
  | 0x75 => decCp1 w
  | 0x76 => decCtl false w
  | 0x78 => decCp2Reg w
  | 0x79 => decCp2Mem w
  | 0x7A => decCtl true w
  | _ => none

/-! ## The encoder -/

/-- Format R. -/
def encR (maj : BitVec 7) (a b d : BitVec 5) (sub : BitVec 10) : Word32 := maj ++ a ++ b ++ d ++ sub
/-- Format I. -/
def encI (maj : BitVec 7) (a b : BitVec 5) (imm : BitVec 15) : Word32 := maj ++ a ++ b ++ imm
/-- Format W. -/
def encW (maj : BitVec 7) (a : BitVec 5) (hw : BitVec 2) (imm : BitVec 16) : Word32 := maj ++ a ++ 0#2 ++ hw ++ imm
/-- Format F. -/
def encF (a b : BitVec 5) (pos l : BitVec 6) (kind : BitVec 3) : Word32 := 0x07#7 ++ a ++ b ++ pos ++ l ++ kind
/-- Format B. -/
def encB (maj : BitVec 7) (a b : BitVec 5) (off : BitVec 12) : Word32 := maj ++ a ++ b ++ 0#3 ++ off
/-- Format BI. -/
def encBI (maj : BitVec 7) (a : BitVec 5) (imm : BitVec 8) (off : BitVec 12) : Word32 := maj ++ a ++ imm ++ off

/-- The word of an instruction. -/
def encodeWeft (i : WeftOp) : Word32 :=
  match i with
  | .add a b d => encR 0x01 a b d 0x000
  | .sub a b d => encR 0x01 a b d 0x001
  | .and a b d => encR 0x01 a b d 0x002
  | .or a b d => encR 0x01 a b d 0x003
  | .xor a b d => encR 0x01 a b d 0x004
  | .andn a b d => encR 0x01 a b d 0x005
  | .sll a b d => encR 0x01 a b d 0x008
  | .srl a b d => encR 0x01 a b d 0x009
  | .sra a b d => encR 0x01 a b d 0x00A
  | .rol a b d => encR 0x01 a b d 0x00B
  | .slt a b d => encR 0x01 a b d 0x010
  | .sltu a b d => encR 0x01 a b d 0x011
  | .seq a b d => encR 0x01 a b d 0x012
  | .min a b d => encR 0x01 a b d 0x014
  | .max a b d => encR 0x01 a b d 0x015
  | .minu a b d => encR 0x01 a b d 0x016
  | .maxu a b d => encR 0x01 a b d 0x017
  | .mul a b d => encR 0x01 a b d 0x020
  | .mulh a b d => encR 0x01 a b d 0x021
  | .mulhu a b d => encR 0x01 a b d 0x022
  | .addi a b imm => encI 0x02 a b imm
  | .andi a b imm => encI 0x03 a b imm
  | .ori a b imm => encI 0x04 a b imm
  | .xori a b imm => encI 0x05 a b imm
  | .ldb a b imm => encI 0x10 a b imm
  | .ldh a b imm => encI 0x11 a b imm
  | .ldw a b imm => encI 0x12 a b imm
  | .ldd a b imm => encI 0x13 a b imm
  | .ldbs a b imm => encI 0x14 a b imm
  | .ldhs a b imm => encI 0x15 a b imm
  | .ldws a b imm => encI 0x16 a b imm
  | .stb a b imm => encI 0x18 a b imm
  | .sth a b imm => encI 0x19 a b imm
  | .stw a b imm => encI 0x1A a b imm
  | .std a b imm => encI 0x1B a b imm
  | .ldhn a b imm => encI 0x1C a b imm
  | .ldwn a b imm => encI 0x1D a b imm
  | .sthn a b imm => encI 0x1E a b imm
  | .stwn a b imm => encI 0x1F a b imm
  | .slli a b n => encR 0x06 a b 0 (0#2 ++ 0#2 ++ n)
  | .srli a b n => encR 0x06 a b 0 (1#2 ++ 0#2 ++ n)
  | .srai a b n => encR 0x06 a b 0 (2#2 ++ 0#2 ++ n)
  | .roli a b n => encR 0x06 a b 0 (3#2 ++ 0#2 ++ n)
  | .ext a b pos l => encF a b pos l 0
  | .exts a b pos l => encF a b pos l 1
  | .ins a b pos l => encF a b pos l 2
  | .li a hw imm => encW 0x08 a hw imm
  | .lik a hw imm => encW 0x09 a hw imm
  | .bsw16 a b => encR 0x0A a b 0 0x000
  | .bsw32 a b => encR 0x0A a b 0 0x001
  | .bsw64 a b => encR 0x0A a b 0 0x002
  | .clz a b => encR 0x0A a b 0 0x008
  | .ctz a b => encR 0x0A a b 0 0x009
  | .popc a b => encR 0x0A a b 0 0x00A
  | .csrd a n => encR 0x20 a 0 0 (0#6 ++ n)
  | .csswp a b n => encR 0x20 a b 0 (1#6 ++ n)
  | .csadd a b n => encR 0x20 a b 0 (2#6 ++ n)
  | .csand a b n => encR 0x20 a b 0 (3#6 ++ n)
  | .csor a b n => encR 0x20 a b 0 (4#6 ++ n)
  | .cscas a b d n => encR 0x20 a b d (5#6 ++ n)
  | .cbeq a b off => encB 0x30 a b off
  | .cbne a b off => encB 0x31 a b off
  | .cblt a b off => encB 0x32 a b off
  | .cbge a b off => encB 0x33 a b off
  | .cbltu a b off => encB 0x34 a b off
  | .cbgeu a b off => encB 0x35 a b off
  | .cbeqi a imm off => encBI 0x38 a imm off
  | .cbnei a imm off => encBI 0x39 a imm off
  | .cblti a imm off => encBI 0x3A a imm off
  | .cbgei a imm off => encBI 0x3B a imm off
  | .cbltui a imm off => encBI 0x3C a imm off
  | .cbgeui a imm off => encBI 0x3D a imm off
  | .j a off => 0x3E#7 ++ a ++ off
  | .jr a b imm => encI 0x3F a b imm
  | .loop b e => 0x40#7 ++ 0#5 ++ b ++ 0#3 ++ e
  | .loopi n e => 0x41#7 ++ n ++ e
  | .reqC a b tag => 0x48#7 ++ a ++ b ++ 0#2 ++ 1#1 ++ tag
  | .reqP a b tag => 0x48#7 ++ a ++ b ++ 0#2 ++ 0#1 ++ tag
  | .wait => 0x49#7 ++ 0#25
  | .evwait a m => 0x4A#7 ++ a ++ 0#12 ++ m
  | .evsend l d => 0x4B#7 ++ 0#19 ++ l ++ d
  | .endTask => 0x4C#7 ++ 0#25
  | .fault k => 0x4D#7 ++ 0#9 ++ k
  | .scall n => 0x4E#7 ++ 0#15 ++ n
  | .sret => 0x4F#7 ++ 0#25
  | .mfcr a cr => encR 0x50 a 0 0 cr
  | .mtcr b cr => encR 0x51 0 b 0 cr
  | .crcc a b d sz => encR 0x70 a b d (0#8 ++ sz)
  | .crce a b d sz => encR 0x70 a b d (1#8 ++ sz)
  | .crcz a b d => encR 0x70 a b d 0x008
  | .hmix a b d => encR 0x70 a b d 0x010
  | .gkey b => encR 0x75 0 b 0 0x000
  | .giv b => encR 0x75 0 b 0 0x001
  | .gaad b => encR 0x75 0 b 0 0x002
  | .genc b => encR 0x75 0 b 0 0x003
  | .gdec b => encR 0x75 0 b 0 0x004
  | .gtag b => encR 0x75 0 b 0 0x005
  | .gver b => encR 0x75 0 b 0 0x006
  | .pfeed b d => encR 0x78 0 b d 0x000
  | .pre a d => encR 0x78 a 0 d 0x008
  | .pim a d => encR 0x78 a 0 d 0x009
  | .pmag a d => encR 0x78 a 0 d 0x00A
  | .pang a d => encR 0x78 a 0 d 0x00B
  | .pcfg b => encR 0x79 0 b 0 0x000
  | .pfeedm b d => encR 0x79 0 b d 0x001
  | .pgetm b => encR 0x79 0 b 0 0x002
  | .cpacq cp a => encR (if cp then 0x7A else 0x76) a 0 0 0x000
  | .cprel cp => encR (if cp then 0x7A else 0x76) 0 0 0 0x001
  | .cpsave cp b => encR (if cp then 0x7A else 0x76) 0 b 0 0x002
  | .cpload cp b => encR (if cp then 0x7A else 0x76) 0 b 0 0x003

/-- The command that a table word spells: the table gives no row bits, so none. -/
def decodeTableWord (_nbits _w : Nat) : Option Instr := none

end Sys2Proof
end

