-- ==== Sys2Proof/Config.lean ====
section
/-!
DEFINITION. What the spec leaves open: values that an implementation fixes, and the free values. Each is an opaque
constant without a body, so that nothing can be proved of the value it gives.
-/
namespace Sys2Proof.Config

/-- What may go wrong in a store between two commands: a word whose parity fails (R257, R250, R259), a cell's record (R152), a
rule (R174), a treadle entry (R452), a warp slot's state copies or descriptor (R142, R21), a byte of DRAM, a
copy of the persistent records (R646), a cache line (R503; kind 0 its data, 1 its tag, 2 its dirty copies). -/
inductive Upset where
  | none
  | localWord (core word : Nat)
  | register (core thread reg : Nat)
  | shared (core reg : Nat)
  | cellRec (i : Nat)
  | rule (bank : Bool) (i : Nat)
  | treadleEntry (port i : Nat)
  | slotState (port : Nat) (express : Bool) (slot : Nat)
  | slotDesc (port : Nat) (express : Bool) (slot bit : Nat)
  | dramByte (a : Nat) (mask : BitVec 8)
  | record (newer : Bool)
  | cacheLine (way kind : Nat)
deriving DecidableEq, Repr, Inhabited

/-- What goes wrong in a nanosecond, by draw: the spec says how each is found and answered, not when it comes. -/
opaque upset : Nat → Upset

/-- RX_LAT_NS of a port for a MODE and FEC other than MODE 0 (R113: the values are not listed). -/
opaque rxLatNs : Nat → Nat → BitVec 32
/-- TX_LAT_NS of a port for a MODE and FEC other than MODE 0 (R113). -/
opaque txLatNs : Nat → Nat → BitVec 32
/-- The servo's new FADJ for the n-th free value, before the limits of R63 and R67 (the servo's law is not given). -/
opaque servoFadj : Nat → BitVec 64
/-- What the PTP engine measures from a message (R65 refers to IEEE 1588): offset in ns, signed. -/
opaque ptpOffset : Nat → Int
/-- Mean delay the PTP engine computes. -/
opaque ptpDelay : Nat → BitVec 32
/-- The port state that the PTP engine's best-master choice gives a port, as an index into those R65 admits. -/
opaque ptpState : Nat → BitVec 4
/-- clockIdentity of the device's PTP clock (IEEE 1588-2019; the spec gives none). -/
opaque clockIdentity : BitVec 64
/-- The source MAC address of a port's own frames (the spec gives none). -/
opaque portMac : Nat → BitVec 48
/-- Ethernet, IP and UDP heads of a PTP message on a port under TRANSPORT 1 or 2 (R65; the spec gives no addresses). -/
opaque udpHead : Nat → Nat → List (BitVec 8) → List (BitVec 8)
/-- What an Announce carries and the spec does not hold: UTC offset, accuracy, variance, time source. -/
opaque announceRest : Nat → BitVec 56
/-- Content of the IEEE C37.238-2017 TLV. -/
opaque c37Tlv : Nat → BitVec 96
/-- The fused 64-bit serial (R548). -/
opaque serial : BitVec 64
/-- The fused JTAG unlock key (R652). -/
opaque unlockKey : List Byte
/-- The hash of the image-signing key fused at manufacture is met, and the signature verifies (R625 checks 3, 4). -/
opaque signatureOk : List (BitVec 512) → Bool
/-- The VID code fused at manufacture (R655). -/
opaque vidCode : BitVec 3
/-- Random values: tokens (R616), challenges (R652), the sealing key (R335), RANDOM eviction (R386). -/
opaque random : Nat → BitVec 256
/-- Any other value the spec leaves open, by draw. -/
opaque freeWord : Nat → BitVec 64

/-- A byte of local memory that R314 leaves unspecified, by draw and address. -/
opaque unsettledByte : Nat → Nat → BitVec 8
/-- What `cpsave` of CP1 writes (R335: sealed with a key that is never disclosed), by draw. -/
opaque sealedArea : Nat → BitVec 1536
/-- What `cpsave` of CP2 writes before its CRC (R340: the layout is not defined), by draw. -/
opaque cp2Area : Nat → BitVec 26592

end Sys2Proof.Config
end

