-- ==== Sys2Proof/Machine/Bits.lean ====
section
/-!
DEFINITION. Bit fields, byte order, checks and sparse tables: the helpers every other file of the machine uses.
-/
namespace Sys2Proof.Machine

/-- Field `v` placed at bit `lo` of a word of `W` bits. -/
def put (W lo : Nat) {n : Nat} (v : BitVec n) : BitVec W := v.setWidth W <<< lo

/-- Byte `k` of a little-endian structure (R5). -/
def byteAt {n : Nat} (t : BitVec n) (k : Nat) : Byte := t.extractLsb' (8 * k) 8

/-- The first `k` bytes of a little-endian structure, byte 0 first (R5). -/
def bytesOf {n : Nat} (t : BitVec n) (k : Nat) : List Byte := (List.range k).map (byteAt t)

/-- A little-endian number of the given bytes (R5), as a natural number. -/
def leNat : List Byte → Nat
  | [] => 0
  | b :: bs => b.toNat + 256 * leNat bs

/-- A big-endian (network order, R5) number of the given bytes. -/
def beNat (bs : List Byte) : Nat := leNat bs.reverse

/-- A little-endian bit vector of the given bytes. -/
def leBits (n : Nat) (bs : List Byte) : BitVec n := BitVec.ofNat n (leNat bs)

/-- A network-order bit vector of the given bytes. -/
def beBits (n : Nat) (bs : List Byte) : BitVec n := BitVec.ofNat n (beNat bs)

/-- The low `k` bytes of a number in network order. -/
def beBytes {n : Nat} (v : BitVec n) (k : Nat) : List Byte := (bytesOf v k).reverse

/-- Byte `k` of a list, 0 beyond its end. -/
def nthByte (bs : List Byte) (k : Nat) : Byte := bs.getD k 0

/-- `k` bytes of a list from offset `o`, padded with zero bytes. -/
def slice (bs : List Byte) (o k : Nat) : List Byte := (List.range k).map fun i => nthByte bs (o + i)

/-- `bs` with the bytes `v` written over it from offset `o`; bytes beyond its end are dropped. -/
def overlay (bs : List Byte) (o : Nat) (v : List Byte) : List Byte :=
  bs.take o ++ (v ++ bs.drop (o + v.length)).take (bs.length - o)

/-- One bit of a reflected CRC of 32 bits. -/
def crcBit (poly c : Word32) : Word32 := if c.getLsbD 0 then (c >>> 1) ^^^ poly else c >>> 1

/-- One byte of a reflected CRC of 32 bits. -/
def crcByte (poly c : Word32) (b : Byte) : Word32 :=
  (List.range 8).foldl (fun c _ => crcBit poly c) (c ^^^ b.setWidth 32)

/-- A CRC over bytes from a register value, without the final exclusive-or. -/
def crcRun (poly c : Word32) (bs : List Byte) : Word32 := bs.foldl (crcByte poly) c

/-- CRC-32C of R6. -/
def crc32c (bs : List Byte) : Word32 := ~~~ crcRun 0x82F63B78 (BitVec.allOnes 32) bs

/-- CRC-32 of IEEE 802.3, the Ethernet FCS. -/
def crc32 (bs : List Byte) : Word32 := ~~~ crcRun 0xEDB88320 (BitVec.allOnes 32) bs

/-- A tile with its CRC-32C over bytes 0 to 59 in bytes 60 to 63. -/
def sealTile (t : BitVec 512) : BitVec 512 :=
  t.extractLsb' 0 480 |>.setWidth 512 |>.or (put 512 480 (crc32c (bytesOf t 60)))

/-- Whether bytes 60 to 63 of a tile are the CRC-32C over bytes 0 to 59. -/
def tileOk (t : BitVec 512) : Bool := t.extractLsb' 480 32 == crc32c (bytesOf t 60)

/-- A shuttle descriptor with its CHECK over bytes 0 to 27 (R18). -/
def sealDesc (t : BitVec 256) : BitVec 256 :=
  t.extractLsb' 0 224 |>.setWidth 256 |>.or (put 256 224 (crc32c (bytesOf t 28)))

/-- Saturating increment by a natural number. -/
def satAdd {n : Nat} (v : BitVec n) (k : Nat) : BitVec n :=
  if v.toNat + k < 2 ^ n then v + BitVec.ofNat n k else BitVec.allOnes n

/-- Saturating increment. -/
def satInc {n : Nat} (v : BitVec n) : BitVec n := satAdd v 1

/-- Saturating conversion of a natural number. -/
def satNat (n k : Nat) : BitVec n := satAdd (0 : BitVec n) k

/-- Saturating conversion of an integer to a signed field. -/
def satInt (n : Nat) (k : Int) : BitVec n :=
  if k ≥ 2 ^ (n - 1) then BitVec.ofNat n (2 ^ (n - 1) - 1)
  else if k < - 2 ^ (n - 1) then BitVec.ofNat n (2 ^ (n - 1)) else BitVec.ofInt n k

/-- A one-bit field from a truth value. -/
def bit (b : Bool) : BitVec 1 := if b then 1 else 0

/-- Even parity of a word: true when the number of ones is even. -/
def evenParity {n : Nat} (v : BitVec n) : Bool :=
  (List.range n).foldl (fun p i => p ^^ v.getLsbD i) true

/-! ## Sparse tables: the one form in which every large array of the device is held -/

/-- A sparse table: (index, value) pairs, indices strictly rising, no value equal to what an unlisted index reads. -/
abbrev Tab (α : Type) := List (Nat × α)

/-- The value at an index; `d` is what an unlisted index reads. -/
def Tab.get {α : Type} (d : α) : Tab α → Nat → α
  | [], _ => d
  | (k, v) :: r, i => if k = i then v else if i < k then d else Tab.get d r i

/-- Put a pair into its place, replacing an old one. -/
def Tab.insert {α : Type} (i : Nat) (x : α) : Tab α → Tab α
  | [] => [(i, x)]
  | (k, v) :: r => if i < k then (i, x) :: (k, v) :: r else if i = k then (i, x) :: r
      else (k, v) :: Tab.insert i x r

/-- Take the pair of an index away. -/
def Tab.erase {α : Type} (i : Nat) : Tab α → Tab α
  | [] => []
  | (k, v) :: r => if k = i then r else (k, v) :: Tab.erase i r

/-- Write a value, keeping the form: the value an unlisted index reads removes the pair. -/
def Tab.set {α : Type} [DecidableEq α] (d : α) (m : Tab α) (i : Nat) (x : α) : Tab α :=
  if x = d then Tab.erase i m else Tab.insert i x m

/-- Change the value at an index by a function. -/
def Tab.upd {α : Type} [DecidableEq α] (d : α) (m : Tab α) (i : Nat) (f : α → α) : Tab α :=
  Tab.set d m i (f (Tab.get d m i))

/-- Indices above `lo` strictly rising. -/
def Tab.rising {α : Type} : Nat → Tab α → Bool
  | _, [] => true
  | lo, (k, _) :: r => lo ≤ k && Tab.rising (k + 1) r

/-- The canonical form: indices strictly rising and no value the default. -/
def Tab.wf {α : Type} [DecidableEq α] (d : α) (m : Tab α) : Bool :=
  Tab.rising 0 m && m.all fun p => decide (p.2 ≠ d)

/-- A byte memory: sparse, unlisted bytes read 0. -/
abbrev Mem := Tab Byte

/-- One byte of a memory. -/
def Mem.byte (m : Mem) (a : Nat) : Byte := Tab.get 0 m a

/-- `k` bytes of a memory from an address. -/
def Mem.read (m : Mem) (a k : Nat) : List Byte := (List.range k).map fun i => Mem.byte m (a + i)

/-- Write bytes from an address upward. -/
def Mem.write (m : Mem) (a : Nat) : List Byte → Mem
  | [] => m
  | b :: bs => Mem.write (Tab.set 0 m a b) (a + 1) bs

/-- The first of a list of numbers that satisfies a test. -/
def firstIdx (n : Nat) (p : Nat → Bool) : Option Nat := (List.range n).find? p

end Sys2Proof.Machine
end

