-- ==== Sys2Proof/Machine/Objects.lean ====
section
/-!
DEFINITION. The configuration, status and record layouts of the spec, one structure for each layout table,
each field with its width and the reset value the table gives (a column entry of none is 0 here: such a record
is never read before it is written). A field list that the spec repeats (an array of equal fields) is one packed field.
-/
namespace Sys2Proof.Machine

/-- A 64-byte tile: bit 8k is the least significant bit of byte k. -/
abbrev Tile := BitVec 512

/-- R18 of spec/01_architecture.md. -/
structure Desc where
  typeV : BitVec 4 := 0
  tc : BitVec 3 := 0
  express : BitVec 1 := 0
  inPort : BitVec 6 := 0
  length : BitVec 14 := 0
  buf : BitVec 24 := 0
  rsver : BitVec 8 := 0
  attempt : BitVec 2 := 0
  pstat : BitVec 2 := 0
  seq : BitVec 32 := 0
  od : BitVec 12 := 0
  tg : BitVec 4 := 0
  warpSlot : BitVec 16 := 0
  tsWallLo : BitVec 32 := 0
  queue : BitVec 13 := 0
  qvalid : BitVec 1 := 0
  outPort : BitVec 6 := 0
  destDev : BitVec 6 := 0
  fcsMode : BitVec 2 := 0
  action : BitVec 4 := 0
  rule : BitVec 14 := 0
  ruleHit : BitVec 1 := 0
  flowHash : BitVec 16 := 0
deriving DecidableEq, Repr

/-- R22 of spec/01_architecture.md. -/
structure MetaTile where
  tsWall : BitVec 64 := 0
  tsPk0 : BitVec 64 := 0
  tsPk1 : BitVec 64 := 0
  tsPk2 : BitVec 64 := 0
  tsPk3 : BitVec 64 := 0
  pkEn : BitVec 4 := 0
  pkHold : BitVec 4 := 0
  wallUnsync : BitVec 1 := 0
  fcsIn : BitVec 32 := 0
deriving DecidableEq, Repr

/-- R71 of spec/03_pick_clocks.md. -/
structure WallCfg where
  source : BitVec 3 := 0
  profile : BitVec 2 := 1
  ppsOutEn : BitVec 1 := 0
  ppsOutSrc : BitVec 1 := 0
  ppsPk : BitVec 3 := 0
  lockNs : BitVec 16 := 100
  ppsWidth : BitVec 32 := 0x5f5e100
  ppsInComp : BitVec 32 := 0
  ppsOutComp : BitVec 32 := 0
  slewLimit : BitVec 32 := 0x186a0
deriving DecidableEq, Repr

/-- R90 of spec/03_pick_clocks.md. -/
structure PickCfg where
  enable : BitVec 1 := 0
  primary : BitVec 3 := 6
  fallback : BitVec 3 := 0
  revert : BitVec 1 := 0
  bw : BitVec 3 := 3
  synthFreq : BitVec 1 := 0
  phaseEdges : BitVec 1 := 1
  encDir : BitVec 1 := 0
  missLimit : BitVec 8 := 3
  qualCycles : BitVec 8 := 16
  holdLimit : BitVec 32 := 0x1f4
  nomFreq : BitVec 32 := 0x320000
  priOffset : BitVec 20 := 0
  fbOffset : BitVec 20 := 0
  encCpr : BitVec 21 := 0x1000
  glitchNs : BitVec 16 := 0x1f4
  steerSlice : BitVec 6 := 0
  steerRate : BitVec 8 := 1
  lockThresh : BitVec 20 := 0x1000
  unlockThresh : BitVec 20 := 0x4000
  initTime : BitVec 64 := 0xffffffffffffffff
deriving DecidableEq, Repr

/-- R92 of spec/03_pick_clocks.md. -/
structure PickSt where
  pickNow : BitVec 64 := 0
  wallNow : BitVec 64 := 0
  freqEst : BitVec 64 := 0
  freqNow : BitVec 64 := 0
  phaseErr : BitVec 32 := 0
  state : BitVec 3 := 0
  activeSrc : BitVec 3 := 0
  slewing : BitVec 1 := 0
  onFallback : BitVec 1 := 0
  holdover : BitVec 1 := 0
  holdCycles : BitVec 32 := 0
  missedRef : BitVec 32 := 0
  pulseReject : BitVec 32 := 0
  steerStale : BitVec 16 := 0
  reverse : BitVec 16 := 0
  sourceSwitches : BitVec 32 := 0
deriving DecidableEq, Repr

/-- R98 of spec/04_ports.md. -/
structure PortCfg where
  enable : BitVec 1 := 0
  mode : BitVec 4 := 0
  fec : BitVec 1 := 0
  anEn : BitVec 1 := 0
  ltEn : BitVec 1 := 0
  eqPreset : BitVec 3 := 0
  preemptEn : BitVec 1 := 0
  verifyDis : BitVec 1 := 0
  txAddFrag : BitVec 2 := 0
  maxFrame : BitVec 14 := 0x5f2
  loop : BitVec 2 := 0
  pcpMap : BitVec 24 := 0xfac688
  defaultTc : BitVec 3 := 0
  launchLate : BitVec 1 := 0
  rxPol : BitVec 4 := 0
  txPol : BitVec 4 := 0
  linkUpMs : BitVec 12 := 0
  tpidB : BitVec 16 := 0x88a8
  rxCalPs : BitVec 16 := 0
  txCalPs : BitVec 16 := 0
  launchTol : BitVec 16 := 100
  launchHorizon : BitVec 32 := 0xf4240
deriving DecidableEq, Repr

/-- R101 of spec/04_ports.md. -/
structure PortSt where
  linkUp : BitVec 1 := 0
  pcsLock : BitVec 1 := 0
  tsCalDone : BitVec 1 := 0
  anDone : BitVec 1 := 0
  preemptState : BitVec 2 := 0
  fecActive : BitVec 1 := 0
  linkDownCount : BitVec 32 := 0
  linkChangeWall : BitVec 64 := 0
  fecCorrected : BitVec 32 := 0
  fecUncorrected : BitVec 32 := 0
  rxLatNs : BitVec 32 := 0
  txLatNs : BitVec 32 := 0
deriving DecidableEq, Repr

/-- R125 of spec/05_rings_and_bobbins.md. -/
structure RingCfg where
  enable : BitVec 1 := 0
  depthLog2 : BitVec 5 := 4
  itemSize : BitVec 2 := 0
  kind : BitVec 3 := 0
  markEn : BitVec 1 := 0
  store : BitVec 1 := 0
  owner : BitVec 6 := 0
  neEvEn : BitVec 1 := 0
  neCore : BitVec 7 := 0
  neThread : BitVec 3 := 0
  neLine : BitVec 3 := 0
  base : BitVec 64 := 0
deriving DecidableEq, Repr

/-- R127 of spec/05_rings_and_bobbins.md. -/
structure RingSt where
  fill : BitVec 17 := 0
  dualClock : BitVec 1 := 0
  markValid : BitVec 1 := 0
  resetting : BitVec 1 := 0
  highWater : BitVec 17 := 0
  lostCount : BitVec 64 := 0
  markLost : BitVec 32 := 0
  ptrResets : BitVec 16 := 0
  w : BitVec 32 := 0
  p : BitVec 32 := 0
  l : BitVec 32 := 0
deriving DecidableEq, Repr

/-- R140 of spec/05_rings_and_bobbins.md. -/
structure WarpCfg where
  expDepthLog2 : BitVec 4 := 5
  normDepthLog2 : BitVec 4 := 9
  rxPool : BitVec 6 := 0
  rxPoolX : BitVec 6 := 0
deriving DecidableEq, Repr

/-- R149 of spec/05_rings_and_bobbins.md. -/
structure PoolCfg where
  enable : BitVec 1 := 0
  kind : BitVec 1 := 0
  owner : BitVec 6 := 0
  lowEvEn : BitVec 1 := 0
  reserve : BitVec 32 := 0
  limit : BitVec 32 := 0
  first : BitVec 32 := 0
  lowMark : BitVec 32 := 0
deriving DecidableEq, Repr

/-- R152 of spec/05_rings_and_bobbins.md. -/
structure CellRec where
  refcnt : BitVec 8 := 0
  pool : BitVec 6 := 0
  alloc : BitVec 1 := 0
  last : BitVec 1 := 0
  next : BitVec 22 := 0
  nextOff : BitVec 11 := 0
  fill : BitVec 12 := 0
  par : BitVec 1 := 0
deriving DecidableEq, Repr

/-- R162 of spec/06_parser_classifier.md. -/
structure Heddle where
  typeV : BitVec 4 := 0
  valid : BitVec 1 := 0
  defNext : BitVec 6 := 63
  selOff : BitVec 8 := 0
  selEn : BitVec 1 := 0
  genLen : BitVec 8 := 0
  lenOff : BitVec 8 := 0
  lenMask : BitVec 8 := 0
  lenScale : BitVec 3 := 0
  ext0Off : BitVec 8 := 0
  ext0Len : BitVec 4 := 0
  ext0Dst : BitVec 3 := 0
  ext1Off : BitVec 8 := 0
  ext1Len : BitVec 4 := 0
  ext1Dst : BitVec 3 := 0
  trs : BitVec 384 := 0
deriving DecidableEq, Repr

/-- R167 of spec/06_parser_classifier.md. -/
structure ParsePort where
  startNode : BitVec 6 := 0
  prpDetect : BitVec 1 := 0
  depth : BitVec 5 := 16
  defAction : BitVec 3 := 0
  defOdBase : BitVec 12 := 0
  defQueue : BitVec 13 := 0
  defHostRing : BitVec 9 := 0
  mirrorRing : BitVec 9 := 0
  mirrorPl : BitVec 14 := 0
  defProfile : BitVec 10 := 0
deriving DecidableEq, Repr

/-- R171 of spec/06_parser_classifier.md. -/
structure Rule where
  value : BitVec 512 := 0
  mask : BitVec 512 := 0
  valid : BitVec 1 := 0
  profile : BitVec 10 := 0
  countEn : BitVec 1 := 0
deriving DecidableEq, Repr

/-- R173 of spec/06_parser_classifier.md. -/
structure Profile where
  valid : BitVec 1 := 0
  owner : BitVec 6 := 0
  spread : BitVec 1 := 0
  hashAlg : BitVec 1 := 0
  it : BitVec 6 := 0
  tcEn : BitVec 1 := 0
  tcSet : BitVec 3 := 0
  fixOd : BitVec 12 := 0
  fixTg : BitVec 4 := 0
  fixQueue : BitVec 13 := 0
  fixQvalid : BitVec 1 := 0
  fixFpath : BitVec 2 := 0
  entry : BitVec 16 := 0
  hashMask : BitVec 128 := 0
deriving DecidableEq, Repr

/-- R176 of spec/06_parser_classifier.md. -/
structure ItEntry where
  od : BitVec 12 := 0
  tg : BitVec 4 := 0
  queue : BitVec 13 := 0
  qvalid : BitVec 1 := 0
  fpath : BitVec 2 := 0
  valid : BitVec 1 := 0
deriving DecidableEq, Repr

/-- R193 of spec/07_tasks_and_dispatch.md. -/
structure TgCfg where
  enable : BitVec 1 := 0
  owner : BitVec 6 := 0
  threadMask : BitVec 7 := 127
  bgMax : BitVec 3 := 7
  runLimitPkt : BitVec 32 := 100
  runLimitBg : BitVec 32 := 0
  coreMask : BitVec 68 := 0
deriving DecidableEq, Repr

/-- R200 of spec/07_tasks_and_dispatch.md. -/
structure DispImage where
  ctx : BitVec 13 := 0
  kind : BitVec 1 := 0
  epoch : BitVec 8 := 0
  retry : BitVec 1 := 0
  handback : BitVec 1 := 0
  slice : BitVec 6 := 0
  tg : BitVec 4 := 0
  prio : BitVec 3 := 0
  express : BitVec 1 := 0
  entry : BitVec 16 := 0
  arg : BitVec 64 := 0
  headLen : BitVec 16 := 0
deriving DecidableEq, Repr

/-- R203 of spec/07_tasks_and_dispatch.md. -/
structure TaskObj where
  owner : BitVec 6 := 0
  tg : BitVec 4 := 0
  prio : BitVec 3 := 0
  entry : BitVec 16 := 0
  originOd : BitVec 12 := 0
  arg : BitVec 64 := 0
  state : BitVec 3 := 0
  pending : BitVec 1 := 0
  restart : BitVec 1 := 0
  runs : BitVec 32 := 0
deriving DecidableEq, Repr

/-- R214 of spec/07_tasks_and_dispatch.md. -/
structure DispatchCfg where
  expReserve : BitVec 12 := 0x200
  pkTickLog20 : BitVec 5 := 12
  pkTickLog21 : BitVec 5 := 12
  pkTickLog22 : BitVec 5 := 12
  pkTickLog23 : BitVec 5 := 12
deriving DecidableEq, Repr

/-- R215 of spec/07_tasks_and_dispatch.md. -/
structure DelayEntry where
  valid : BitVec 1 := 0
  scale : BitVec 3 := 0
  kind : BitVec 2 := 0
  owner : BitVec 6 := 0
  tag : BitVec 12 := 0
  target : BitVec 32 := 0
  due : BitVec 64 := 0
  period : BitVec 64 := 0
  fires : BitVec 32 := 0
  skips : BitVec 32 := 0
deriving DecidableEq, Repr

/-- R230 of spec/08_reed_ordering.md. -/
structure OdCfg where
  enable : BitVec 1 := 0
  classV : BitVec 3 := 0
  skipEvEn : BitVec 1 := 1
  orderTimeout : BitVec 32 := 0x186a0
deriving DecidableEq, Repr

/-- R232 of spec/08_reed_ordering.md. -/
structure OdSt where
  nextSeq : BitVec 32 := 0
  headSeq : BitVec 32 := 0
  outstanding : BitVec 14 := 0
  headWait : BitVec 1 := 0
  headWaitNs : BitVec 32 := 0
  committed : BitVec 32 := 0
  dropped : BitVec 32 := 0
  reedDup : BitVec 32 := 0
  reedLate : BitVec 32 := 0
  orderSkip : BitVec 32 := 0
  poisonDrop : BitVec 32 := 0
  markLostDrop : BitVec 32 := 0
  reedNoBuf : BitVec 32 := 0
  reedBadLen : BitVec 32 := 0
deriving DecidableEq, Repr

/-- R265 of spec/09_weft_cores.md. -/
structure ProgCfg where
  enable : BitVec 1 := 0
  activeTable : BitVec 1 := 0
  draining : BitVec 1 := 0
  progBase : BitVec 17 := 128
  progTiles : BitVec 18 := 0
  expBase : BitVec 7 := 0
  expTiles : BitVec 8 := 0
  entryTab0 : BitVec 17 := 0
  entryTab1 : BitVec 17 := 0
  entryCount0 : BitVec 13 := 0
  entryCount1 : BitVec 13 := 0
  supvEntry : BitVec 23 := 0
  supvEn : BitVec 1 := 0
deriving DecidableEq, Repr

/-- R266 of spec/09_weft_cores.md. -/
structure EntryWord where
  valid : BitVec 1 := 0
  express : BitVec 1 := 0
  addr : BitVec 21 := 0
deriving DecidableEq, Repr

/-- R271 of spec/09_weft_cores.md. -/
structure CoreCfg where
  lmEn : BitVec 8 := 0
  lmSupv : BitVec 8 := 0
  lmOwner : BitVec 48 := 0
  csEn : BitVec 16 := 0
  csSupv : BitVec 16 := 0
  csOwner : BitVec 96 := 0
deriving DecidableEq, Repr

/-- R272 of spec/09_weft_cores.md. -/
structure CoreSt where
  state : BitVec 3 := 0
  stopCause : BitVec 8 := 0
  stopThread : BitVec 3 := 0
  coreStopCount : BitVec 32 := 0
  stops24h : BitVec 8 := 0
  stopPc : BitVec 32 := 0
  stopAddr : BitVec 64 := 0
  stopWall : BitVec 64 := 0
  stopSlice : BitVec 6 := 0
  stopCtx : BitVec 13 := 0
  stopEpoch : BitVec 8 := 0
  groups : BitVec 16 := 0
  replaces : BitVec 7 := 127
  dbg : BitVec 1 := 0
deriving DecidableEq, Repr

/-- R309 of spec/11_coprocessors_helpers.md. -/
structure HelperWord where
  helper : BitVec 8 := 0
  op : BitVec 8 := 0
  blen : BitVec 7 := 0
deriving DecidableEq, Repr

/-- R344 of spec/12_locks_channels.md. -/
structure LockCfg where
  enable : BitVec 1 := 0
  owner : BitVec 6 := 0
  expEvEn : BitVec 1 := 1
  leaseUs : BitVec 16 := 0x3e8
deriving DecidableEq, Repr

/-- R364 of spec/12_locks_channels.md. -/
structure LockSt where
  lstate : BitVec 1 := 0
  abandonPend : BitVec 1 := 0
  grantKind : BitVec 1 := 0
  holderCore : BitVec 7 := 0
  holderThread : BitVec 3 := 0
  holderSlice : BitVec 6 := 0
  holderPrio : BitVec 4 := 0
  waiters : BitVec 10 := 0
  topPrio : BitVec 4 := 0
  leaseLeftNs : BitVec 32 := 0
  acquires : BitVec 32 := 0
  contended : BitVec 32 := 0
  abandons : BitVec 32 := 0
  expiries : BitVec 32 := 0
  notHeldErr : BitVec 32 := 0
deriving DecidableEq, Repr

/-- R365 of spec/12_locks_channels.md. -/
structure ChanCfg where
  prodCore : BitVec 7 := 0
  prodThread : BitVec 3 := 0
  consCore : BitVec 7 := 0
  consThread : BitVec 3 := 0
  msgMax : BitVec 4 := 1
deriving DecidableEq, Repr

/-- R377 of spec/13_tables_learning.md. -/
structure TablePart where
  enable : BitVec 1 := 0
  stQuota : BitVec 24 := 0
  sePinQuota : BitVec 32 := 0
  seMainQuota : BitVec 32 := 0
  rtQuota : BitVec 32 := 0
  lrnRing : BitVec 12 := 0
  lrnEn : BitVec 1 := 0
  copyBase : BitVec 64 := 0
  copyMask : BitVec 3 := 0
deriving DecidableEq, Repr

/-- R379 of spec/13_tables_learning.md. -/
structure TableCfg where
  ageEn : BitVec 1 := 1
  evict : BitVec 2 := 2
  ageTickMs : BitVec 16 := 0x3e8
  ageLimit : BitVec 16 := 0x12c
  hashSeed : BitVec 32 := 0
deriving DecidableEq, Repr

/-- R383 of spec/13_tables_learning.md. -/
structure Station where
  mac : BitVec 48 := 0
  fid : BitVec 12 := 0
  owner : BitVec 6 := 0
  valid : BitVec 1 := 0
  staticV : BitVec 1 := 0
  port : BitVec 6 := 0
  dev : BitVec 6 := 0
  srcDrop : BitVec 1 := 0
  dstDrop : BitVec 1 := 0
  qvalid : BitVec 1 := 0
  queue : BitVec 13 := 0
  age : BitVec 16 := 0
deriving DecidableEq, Repr

/-- R391 of spec/13_tables_learning.md. -/
structure Stream where
  dmac : BitVec 48 := 0
  vid : BitVec 12 := 0
  appid : BitVec 16 := 0
  owner : BitVec 6 := 0
  flags : BitVec 32 := 0
  policer : BitVec 14 := 0
  queue : BitVec 13 := 0
  seqCfg : BitVec 32 := 0
  seqState : BitVec 256 := 0
deriving DecidableEq, Repr

/-- R392 of spec/13_tables_learning.md. -/
structure StreamFlags where
  valid : BitVec 1 := 0
  seSimok : BitVec 1 := 0
  pinned : BitVec 1 := 0
  blocked : BitVec 1 := 0
  qvalid : BitVec 1 := 0
  user : BitVec 24 := 0
deriving DecidableEq, Repr

/-- R396 of spec/13_tables_learning.md. -/
structure Route where
  valid : BitVec 1 := 0
  af : BitVec 1 := 0
  owner : BitVec 6 := 0
  plen : BitVec 8 := 0
  ract : BitVec 2 := 0
  prefixV : BitVec 128 := 0
  queue : BitVec 13 := 0
  qvalid : BitVec 1 := 0
  outPort : BitVec 6 := 0
  destDev : BitVec 6 := 0
  nhMac : BitVec 48 := 0
  nhVid : BitVec 12 := 0
  rcounter : BitVec 32 := 0
deriving DecidableEq, Repr

/-- R411 of spec/14_redundant_streams.md. -/
structure SeqCfg where
  mode : BitVec 2 := 0
  src : BitVec 2 := 0
  userOff : BitVec 3 := 0
  alg : BitVec 1 := 0
  winLog2 : BitVec 3 := 0
  resetLog2 : BitVec 4 := 0
  copyB : BitVec 1 := 0
  queueB : BitVec 13 := 0
  strip : BitVec 1 := 0
deriving DecidableEq, Repr

/-- R412 of spec/14_redundant_streams.md. -/
structure SeqState where
  history : BitVec 128 := 0
  recovSeq : BitVec 16 := 0
  genSeq : BitVec 16 := 0
  takeAny : BitVec 1 := 0
  lastT : BitVec 32 := 0
  discards : BitVec 16 := 0
  rogue : BitVec 16 := 0
deriving DecidableEq, Repr

/-- R423 of spec/14_redundant_streams.md. -/
structure PolicerCfg where
  enable : BitVec 1 := 0
  owner : BitVec 6 := 0
  unit : BitVec 1 := 0
  dropForce : BitVec 1 := 1
  resetFill : BitVec 1 := 1
  maxSdu : BitVec 14 := 0
  rate : BitVec 32 := 0
  burst : BitVec 25 := 0
deriving DecidableEq, Repr

/-- R427 of spec/14_redundant_streams.md. -/
structure PolicerSt where
  tokens : BitVec 64 := 0
  conform : BitVec 32 := 0
  nonconform : BitVec 32 := 0
  oversize : BitVec 32 := 0
  forcedDrop : BitVec 32 := 0
deriving DecidableEq, Repr

/-- R434 of spec/15_traffic_manager.md. -/
structure QueueCfg where
  enable : BitVec 1 := 0
  owner : BitVec 6 := 0
  port : BitVec 6 := 0
  tc : BitVec 3 := 0
  launch : BitVec 1 := 0
  spill : BitVec 1 := 0
  telemEn : BitVec 1 := 0
  telemRing : BitVec 12 := 0
  sampleLog2 : BitVec 5 := 0
  quantum : BitVec 14 := 0x640
  maxFrames : BitVec 32 := 0x400
  maxBytes : BitVec 32 := 0x100000
  spillBytes : BitVec 32 := 0x10000
  spillPool : BitVec 6 := 0
  spillLog2 : BitVec 5 := 10
  spillBase : BitVec 64 := 0
deriving DecidableEq, Repr

/-- R436 of spec/15_traffic_manager.md. -/
structure QEntry where
  desc : BitVec 256 := 0
  fcsD : BitVec 32 := 0
  launchTime : BitVec 64 := 0
  lscale : BitVec 3 := 0
  launchEn : BitVec 1 := 0
  trailerEn : BitVec 1 := 0
  strip : BitVec 1 := 0
  copyB : BitVec 1 := 0
  dram : BitVec 1 := 0
  trailer : BitVec 48 := 0
  enqLocal : BitVec 64 := 0
deriving DecidableEq, Repr

/-- R443 of spec/15_traffic_manager.md. -/
structure PortSched where
  strictMask : BitVec 7 := 0
  classQuantums : BitVec 112 := 0x640064006400640064006400640
  fabQbase : BitVec 13 := 0
  fabQen : BitVec 1 := 0
  prefetchLow : BitVec 16 := 0x4000
deriving DecidableEq, Repr

/-- R445 of spec/15_traffic_manager.md. -/
structure ShaperCfg where
  enable : BitVec 1 := 0
  resetFill : BitVec 1 := 1
  overhead : BitVec 8 := 20
  rate : BitVec 32 := 0
  burst : BitVec 25 := 0
deriving DecidableEq, Repr

/-- R452 of spec/15_traffic_manager.md. -/
structure TreadleEntry where
  shed : BitVec 8 := 0
  hold : BitVec 1 := 0
  duration : BitVec 32 := 0
  floorNs : BitVec 32 := 0
deriving DecidableEq, Repr

/-- R453 of spec/15_traffic_manager.md. -/
structure TreadleHdr where
  enable : BitVec 1 := 0
  scale : BitVec 3 := 0
  count : BitVec 11 := 1
  baseTime : BitVec 64 := 0
  cycleTime : BitVec 64 := 0
deriving DecidableEq, Repr

/-- R461 of spec/15_traffic_manager.md. -/
structure TreadleSt where
  active : BitVec 1 := 0
  activeScale : BitVec 3 := 0
  activeCount : BitVec 11 := 0
  curEntry : BitVec 10 := 0
  curShed : BitVec 8 := 255
  curHold : BitVec 1 := 0
  heldRemainder : BitVec 1 := 0
  pending : BitVec 2 := 0
  activeStart : BitVec 64 := 0
  pendingStart : BitVec 64 := 0
  cycles : BitVec 64 := 0
  floorExtend : BitVec 32 := 0
  treadleSkip : BitVec 32 := 0
  treadleCut : BitVec 32 := 0
  treadleStep : BitVec 32 := 0
  gateOverrun : BitVec 32 := 0
deriving DecidableEq, Repr

/-- R471 of spec/15_traffic_manager.md. -/
structure QueueSt where
  depthFrames : BitVec 32 := 0
  depthBytes : BitVec 32 := 0
  dramFrames : BitVec 32 := 0
  headAgeNs : BitVec 32 := 0
  enqFrames : BitVec 64 := 0
  txFrames : BitVec 64 := 0
  txBytes : BitVec 64 := 0
  headDrop : BitVec 32 := 0
  spilled : BitVec 32 := 0
  spillNoBuf : BitVec 32 := 0
  deficit : BitVec 32 := 0
deriving DecidableEq, Repr

/-- R476 of spec/16_dram_and_cache.md. -/
structure DramBoard where
  dramEn : BitVec 1 := 0
  chMask : BitVec 2 := 0
  ranks : BitVec 1 := 0
  width : BitVec 1 := 0
  density : BitVec 1 := 0
  speedMax : BitVec 3 := 0
  flyByPs : BitVec 16 := 0
deriving DecidableEq, Repr

/-- R479 of spec/16_dram_and_cache.md. -/
structure DramLayout where
  bufBase : BitVec 64 := 0
  bufCount : BitVec 23 := 0
deriving DecidableEq, Repr

/-- R494 of spec/16_dram_and_cache.md. -/
structure DramSt where
  state : BitVec 3 := 0
  speed : BitVec 3 := 0
  trainSrc : BitVec 1 := 0
  hotRefresh : BitVec 1 := 0
  fallbacks : BitVec 3 := 0
  sizeMib : BitVec 32 := 0
  refForced : BitVec 64 := 0
  panicActiveNs : BitVec 64 := 0
  trackUpdates : BitVec 32 := 0
  agedReq : BitVec 32 := 0
  ecsCounts : BitVec 64 := 0
deriving DecidableEq, Repr

/-- R498 of spec/16_dram_and_cache.md. -/
structure CacheCfg where
  enable : BitVec 1 := 1
  cleanUs : BitVec 16 := 100
  wayMasks : BitVec 256 := 0xffffffffffffffffffffffffffffffffffffffffffffffffffffffffffffffff
deriving DecidableEq, Repr

/-- R509 of spec/16_dram_and_cache.md. -/
structure CacheSt where
  state : BitVec 2 := 0
  evbUsed : BitVec 6 := 0
  validLines : BitVec 32 := 0
  dirtyLines : BitVec 32 := 0
  writebacks : BitVec 64 := 0
  evbHits : BitVec 32 := 0
  evbStall : BitVec 32 := 0
  cleanParity : BitVec 32 := 0
  discardedDirty : BitVec 32 := 0
deriving DecidableEq, Repr

/-- R511 of spec/17_kubridex_fabric.md. -/
structure LinkCfg where
  enable : BitVec 1 := 0
  ltEn : BitVec 1 := 0
  eqPreset : BitVec 3 := 0
  rxPol : BitVec 4 := 0
  txPol : BitVec 4 := 0
deriving DecidableEq, Repr

/-- R512 of spec/17_kubridex_fabric.md. -/
structure LinkSt where
  state : BitVec 3 := 0
  neighId : BitVec 6 := 0
  neighLink : BitVec 2 := 0
  neighMode : BitVec 3 := 0
  neighSerial : BitVec 64 := 0
  linkDownCount : BitVec 32 := 0
  resends : BitVec 32 := 0
  linkCrcErr : BitVec 32 := 0
  fecUncorrected : BitVec 32 := 0
  retryFullNs : BitVec 32 := 0
  fabricUnreach : BitVec 32 := 0
deriving DecidableEq, Repr

/-- R532 of spec/17_kubridex_fabric.md. -/
structure FabCfg where
  enable : BitVec 1 := 0
  root : BitVec 1 := 0
  wallLink : BitVec 2 := 0
  fabHoldNs : BitVec 32 := 0xfa0
  cmdTimeoutUs : BitVec 32 := 0x2710
deriving DecidableEq, Repr

/-- R532 of spec/17_kubridex_fabric.md. -/
structure FabSt where
  id : BitVec 6 := 0
  idState : BitVec 2 := 0
  twinState : BitVec 3 := 0
  pathUp : BitVec 4 := 0
  twinDesync : BitVec 1 := 0
  fabDup : BitVec 32 := 0
  fabGap : BitVec 32 := 0
  fabSkip : BitVec 32 := 0
  fabHops : BitVec 32 := 0
  cmdLateReply : BitVec 32 := 0
  rootConflict : BitVec 16 := 0
  fabHbMisroute : BitVec 16 := 0
deriving DecidableEq, Repr

/-- R537 of spec/17_kubridex_fabric.md. -/
structure TwinCfg where
  twinEn : BitVec 1 := 0
  npaths : BitVec 3 := 1
  hbPaths : BitVec 128 := 0
deriving DecidableEq, Repr

/-- R548 of spec/18_host_and_slices.md. -/
structure Ident where
  part : BitVec 16 := 0x6464
  stepping : BitVec 8 := 16
  ifVer : BitVec 8 := 1
  serial : BitVec 64 := 0
  fwVer : BitVec 32 := 0
  devId : BitVec 6 := 0
  mode : BitVec 3 := 0
  dramPresent : BitVec 1 := 0
  activeCores : BitVec 7 := 0
  spareCores : BitVec 7 := 0
  devGen : BitVec 32 := 0
deriving DecidableEq, Repr

/-- R549 of spec/18_host_and_slices.md. -/
structure BootStep where
  step : BitVec 5 := 1
  outcome : BitVec 2 := 0
  alt : BitVec 1 := 0
  mode : BitVec 3 := 0
  hostReady : BitVec 1 := 0
deriving DecidableEq, Repr

/-- R553 of spec/18_host_and_slices.md. -/
structure SliceCfg where
  enable : BitVec 1 := 0
  pasidEn : BitVec 1 := 0
  pasid : BitVec 20 := 0
  sqLog2 : BitVec 4 := 6
  cqLog2 : BitVec 4 := 6
  sqBase : BitVec 64 := 0
  cqBase : BitVec 64 := 0
  evtBase : BitVec 64 := 0
  evtRing : BitVec 12 := 0
  evtEn : BitVec 1 := 0
  vecBase : BitVec 8 := 0
  vecCount : BitVec 8 := 0
  winBase : BitVec 64 := 0
  winMib : BitVec 32 := 0
  winCid : BitVec 4 := 4
deriving DecidableEq, Repr

/-- R555 of spec/18_host_and_slices.md. -/
structure SliceSt where
  state : BitVec 3 := 0
  sqHalted : BitVec 1 := 0
  haltCause : BitVec 2 := 0
  sqFetch : BitVec 13 := 0
  cqResv : BitVec 13 := 0
  cmdAccepted : BitVec 32 := 0
  cmdReplayed : BitVec 32 := 0
  cmdRejected : BitVec 32 := 0
  replyOrphan : BitVec 32 := 0
  dmaErr : BitVec 32 := 0
  sqHalts : BitVec 16 := 0
  doorbellBad : BitVec 16 := 0
deriving DecidableEq, Repr

/-- R575 of spec/18_host_and_slices.md. -/
structure HrCfg where
  enable : BitVec 1 := 0
  dir : BitVec 1 := 0
  selfDrain : BitVec 1 := 0
  metaEn : BitVec 1 := 0
  depthLog2 : BitVec 5 := 4
  owner : BitVec 6 := 0
  vecOff : BitVec 6 := 0
  pollUs : BitVec 10 := 10
  base : BitVec 64 := 0
deriving DecidableEq, Repr

/-- R600 of spec/19_command_reference.md. -/
structure DevCfg where
  mgmtEn : BitVec 1 := 0
  mgmtSlice : BitVec 6 := 0
  mgmtPeer : BitVec 48 := 0
deriving DecidableEq, Repr

/-- R603 of spec/19_command_reference.md. -/
structure WallSt where
  wallNow : BitVec 64 := 0
  fadj : BitVec 64 := 0
  wallUnsync : BitVec 1 := 1
  grandmaster : BitVec 1 := 0
  ptpPort : BitVec 6 := 63
  lastOffsetNs : BitVec 32 := 0
  ppsReject : BitVec 32 := 0
  ptpMgmtDrop : BitVec 32 := 0
  wallSteps : BitVec 32 := 0
deriving DecidableEq, Repr

/-- R604 of spec/19_command_reference.md. -/
structure PtpClock where
  clockType : BitVec 3 := 0
  domain : BitVec 8 := 0
  priority1 : BitVec 8 := 128
  priority2 : BitVec 8 := 128
  clockClass : BitVec 8 := 248
  announceTimeout : BitVec 4 := 3
deriving DecidableEq, Repr

/-- R605 of spec/19_command_reference.md. -/
structure PtpPort where
  enable : BitVec 1 := 0
  delayMech : BitVec 1 := 0
  transport : BitVec 2 := 0
  oneStep : BitVec 1 := 0
  logSync : BitVec 8 := 0
  logAnnounce : BitVec 8 := 1
  logPdelay : BitVec 8 := 0
  asymNs : BitVec 32 := 0
deriving DecidableEq, Repr

/-- R606 of spec/19_command_reference.md. -/
structure PtpSt where
  portState : BitVec 4 := 3
  meanDelayNs : BitVec 32 := 0
  parentId : BitVec 64 := 0
  stepsRemoved : BitVec 16 := 0
  syncRx : BitVec 32 := 0
  announceRx : BitVec 32 := 0
  delayRx : BitVec 32 := 0
  timeouts : BitVec 32 := 0
deriving DecidableEq, Repr

/-- R611 of spec/19_command_reference.md. -/
structure PoolSt where
  freeCount : BitVec 32 := 0
  held : BitVec 32 := 0
  lowFree : BitVec 32 := 0
  allocFail : BitVec 32 := 0
  doubleFree : BitVec 32 := 0
  badHandle : BitVec 32 := 0
  notOwner : BitVec 32 := 0
  refOverflow : BitVec 32 := 0
  recParity : BitVec 32 := 0
  lostBuf : BitVec 32 := 0
deriving DecidableEq, Repr

/-- R626 of spec/20_startup_modes_selvedge.md. -/
structure BootRec where
  targetMode : BitVec 3 := 0
  autoRestartS : BitVec 16 := 0
  m0Mac : BitVec 48 := 0
  subsysVendor : BitVec 16 := 0
  subsysId : BitVec 16 := 0
  linkEn : BitVec 4 := 0
  fabPreset : BitVec 12 := 0
  fabAltPreset : BitVec 12 := 0
deriving DecidableEq, Repr

end Sys2Proof.Machine
end

