-- ==== Sys2Proof/Machine/State.lean ====
section
/-!
DEFINITION. The state of the block as plain data, chapter by chapter of the spec: configuration objects, status,
queues, tables, memories, the cores' registers, and the queue of commands that wait. Large arrays are `Tab`s (sparse,
canonical): what an unlisted index holds is the object's reset value.
-/
namespace Sys2Proof.Machine

/-! ## Modes, statuses, generations (R635, R598, R567) -/

/-- Operating modes of R635. -/
inductive Mode where
  | boot | commission | run | shadow | hold | safe
deriving DecidableEq, Repr

/-- Status codes of R598. -/
inductive Status where
  | ok | pending | replayed | badOpcode | badCheck | badLength | badParam | notOwner | staleGeneration
  | wrongMode | notQuiesced | noRoom | busy | dirtyPresent | unreachable | timeout | internal
deriving DecidableEq, Repr

/-- Kinds of object that carry a generation (R567, R597). -/
inductive ObjKind where
  | device | slice | port | pick | wall | ptpClock | ptpPort | ruleset | it | hashKey | tablePart | tableCfg
  | station | stream | route | policer | queue | shaper | sched | treadle | ring | chan | warp | pool | hr | core
  | prog | tg | dispatch | task | delay | od | lock | lockUnit | dram | cache | fabric | link | routeMask | twin
  | counters | image | selvedge | debug | jtag | mode
deriving DecidableEq, Repr

/-- An object that a command names: its kind and its number. -/
abbrev ObjKey := ObjKind × Nat

/-- The named 64-bit counters of the device that no status tile holds (R36, R121, R190, R195, R228, R282, R409,
R431, R472, R588 and the rules that name each): read by STATS_READ (R618). -/
inductive Ctr where
  | egressMuted | modeDrop | descCheckErr | rxFrames | rxBytes | rxCodeErr
  | rxRunt | rxOversize | rxFcsErr | rxMacCtrl | rxFragErr | rxModeDrop
  | rxNoBuf | txFrames | txBytes | txPreempt | txOversize | txLate
  | txLaunchBad | txLinkDown | tc7Over | barBadAccess | mboxOverrun | mgmtDrop
  | hrFrames | hrDrop | hrTooBig | hrNoItem | hrSquashed | tornSeen
  | ctxStallNs | delaySkip | delayMisfire | delayParity | delayHeld | dispatched
  | replayed | handedBack | expWait | tgDeny | bgRuns | kickMerged
  | lateCompletion | endWithLock | runLimitHit | noAction | spreadErr | parseNomatch
  | parseErr | parseDepthStop | classMiss | defDrop | defToHost | defForward
  | defProfile | defMirror | mirrorPoliced | defOdOff | issued | squashed
  | icacheMiss | evDrop | entryBad | postedErr | cpLoadBad | tmQDisabled
  | tmNotOwner | tmClassErr | tmEntryFull | tmFabqLocal | fabricNoq | prefetchStall
  | panicNs | srNoTag | srReset | srGen | srCopyB | srAccept
  | srDuplicate | srRogue | srLate | srGap | stInsert | stMove
  | stEvict | stAged | stFull | stQuota | stStaticConflict | stFlushed
  | lookupMissCheck | restored | lost | cacheHits | cacheMisses
deriving DecidableEq, Repr

/-! ## The host interface (chapter 18) -/

/-- A reply as R561 gives it, before it is laid into tiles. -/
structure Reply where
  opcode : BitVec 12 := 0
  status : Status := .ok
  device : BitVec 8 := 0
  seq : BitVec 16 := 0
  gen : Word32 := 0
  handle : Word32 := 0
  /-- Bytes 16 to 59 of tile 0. -/
  data : BitVec 352 := 0
  tiles : List Tile := []
deriving DecidableEq, Repr

/-- One entry of a deduplication window (R570): the command's SEQ and CHECK, and, once it has one, its reply and the
tiles of it. -/
structure WinEntry where
  seq : BitVec 16
  check : Word32
  reply : Option Reply
  tiles : Nat := 1
deriving DecidableEq, Repr

/-- Reply tiles reserved in a CQ (R559); `replay` when the slot repeats a command of the window (R571). -/
structure Resv where
  seq : BitVec 16
  first : BitVec 13
  tiles : Nat
  replay : Bool
deriving DecidableEq, Repr

/-- What the device has sent outward: host memory writes, messages, frames. The model's own record of its outputs. -/
inductive Output where
  | hostTile (slice : Nat) (addr : Word) (t : Tile)
  | hostBytes (slice : Nat) (addr : Word) (bs : List Byte)
  | msix (vector : Nat)
  | frame (port : Nat) (bs : List Byte)
  | fragment (port : Nat) (bs : List Byte) (last : Bool)
  | verify (port : Nat)
  | link (k : Nat) (kind : Nat) (bs : List Byte)
  /-- An ACK or NAK control block of a link (R516). -/
  | linkCtl (k : Nat) (nak : Bool) (seq : Nat)
  /-- What a read of BAR0 answers (R546, R547). -/
  | barRead (addr : Nat) (v : Word)
  | ppsOut (level : Bool)
  | thermAlert (asserted : Bool)
  | thermTrip
  | flash (slot unit : Nat) (t : Tile)
  /-- A reply on the JTAG port (R280). -/
  | jtag (bs : List Byte)
  /-- The DMA read of a table copy, in a slice's PASID (R401). -/
  | hostRead (slice : Nat) (addr : Word) (bytes : Nat)
deriving DecidableEq, Repr

/-- A slice: its configuration (R553), status (R555), doorbells (R558), event count (R573), deduplication window
(R570) and reserved reply slots. -/
structure SliceHost where
  cfg : SliceCfg := {}
  st : SliceSt := {}
  sqTail : BitVec 13 := 0
  cqHead : BitVec 13 := 0
  evtSeq : Word32 := 0
  window : List WinEntry := []
  resv : List Resv := []
  /-- While RESETTING or draining, the local time at which the 1 ms of R587 ends. -/
  drainEnd : Option Nat := none
deriving DecidableEq, Repr

/-- Why a command that has executed its first part replies later. -/
inductive Wait where
  | quiesce (n : Nat) (due : Nat)
  | sliceReset (n : Nat)
  | progCommit (slice : Nat)
  | stationFlush (slice : Nat)
  | cacheMaint
  | cacheFlush
  | rulesetCopy
  | discover
  | idSet
  | coreRetest (core : Nat)
  | modeSet
  | snapshot
  | debugHalt (core thread : Nat)
  | debugStep (core thread : Nat)
  | selvedgeClear
deriving DecidableEq, Repr

/-- A command that executes or has executed and whose reply is still due. -/
structure Deferred where
  wait : Wait
  opcode : BitVec 12
  cmd : Cmd
  keys : List ObjKey
  replyTiles : Nat
deriving DecidableEq, Repr

/-- A command held before its execution (R186, R568, R582): it executes by HELD_COMMAND_EXECUTE. -/
structure Held where
  opcode : BitVec 12
  cmd : Cmd
  keys : List ObjKey
deriving DecidableEq, Repr

/-- A frame on its way to host memory: the RX item as it will be written back, the handle whose cells it holds, the
bytes, and the packet whose leaving it counts for (R185). -/
structure Delivery where
  item : BitVec 128
  buf : BitVec 24
  bytes : List Byte
  pkt : Option Nat := none
deriving DecidableEq, Repr

/-- A host DMA ring: configuration (R575), item count, and the transfers in progress (item words of R577, R578). -/
structure HostRing where
  cfg : HrCfg := {}
  /-- Items taken since the ring was enabled (POSITION, R610). -/
  pos : Word32 := 0
  /-- RX items read from host memory with OWN 1 and not yet used. -/
  ready : List (BitVec 128) := []
  /-- RX items whose frame is on its way to host memory. -/
  inFlight : List Delivery := []
  /-- HR_KICK has asked for one read of the next item, and the local time from which the device reads it by itself (R576). -/
  kick : Bool := false
  readAt : Nat := 0
  /-- A pointer reset is in progress (R139, R53). -/
  resetting : Bool := false
deriving DecidableEq, Repr

/-- SNAPSHOT in progress (R582): its requester, and the records of its staging copy, header tiles included. -/
structure Snapshot where
  slice : Nat
  addr : Word
  flags : BitVec 8
  /-- True until the staging copy ends: commands that change objects are held. -/
  staging : Bool
  devGen : Word32
  wall : Word
  tiles : List Tile
  records : Nat
deriving DecidableEq, Repr

/-- The host interface and the command processor. -/
structure HostState where
  slices : Tab SliceHost := []
  rings : Tab HostRing := []
  mboxIn : Tile := 0
  mboxOut : Tile := 0
  mboxPending : Bool := false
  /-- Mailbox commands that a reset of the host interface has overtaken: they answer into the window only (R545). -/
  mboxGone : List (BitVec 16) := []
  /-- The latched copy of IDENT (R548). -/
  identLatch : Tile := 0
  /-- DEV_RESET armed until this local time (R550). -/
  resetArm : Option Nat := none
  irq : Word := 0
  msix : Mem := []
  pba : BitVec 256 := 0
  gens : Tab Word32 := []
  devGen : Word32 := 1
  held : List Held := []
  deferred : List Deferred := []
  m0Window : List WinEntry := []
  /-- M0 senders of commands still executing (R579): SEQ and MAC address. -/
  m0Peers : List (BitVec 16 × BitVec 48) := []
  devCfg : DevCfg := {}
  /-- SELVEDGE_CLEAR_ARM: token, scope, local time and path (R616); void once another SL0 command executes. -/
  clearArm : Option (Word32 × BitVec 8 × Nat × Path) := none
  /-- Counter ranges of the slices: first and count (R617). -/
  ctrRange : Tab (Nat × Nat) := []
  /-- Counter pairs: packets, bytes (R322). -/
  pairs : Tab (Word × Word) := []
  ctr : Tab Word := []
  /-- The counters of the event codes (R62), by code. -/
  evCtr : Tab Word := []
  snapshot : Option Snapshot := none
deriving DecidableEq, Repr

/-! ## Selvedge, start-up, modes (chapters 20, 21) -/

/-- An entry that waits for the Selvedge writer (R645): area 0 events, 1 start-up, 2 fatal snapshot. -/
structure SelvEntry where
  area : Nat
  code : BitVec 16
  mode : Mode
  wall : Word
  handle : Word32
  payload : BitVec 288
  /-- A tile that is written as it stands: a status tile or a copied entry of a snapshot (R647). -/
  raw : Option Tile := none
deriving DecidableEq, Repr

/-- What one copy of the persistent records holds (R646). -/
structure Persist where
  startCount : Word32 := 0
  resetCause : BitVec 8 := 0
  safeStarts : Nat := 0
  stepLevel : Tab Nat := []
  failCount : Tab Nat := []
  activeSlot : BitVec 1 := 0
  retired : List Nat := []
  stopCount : Tab Word32 := []
  stopWalls : Tab (List Word) := []
  trained : Option (BitVec 8 × Word32 × Word32) := none
  fabricId : Option (BitVec 6) := none
deriving DecidableEq, Repr

/-- The Selvedge record: rings by slot, sequence numbers, the writer's queue and the persistent records (R641 to
R648). -/
structure Selvedge where
  events : Tab Tile := []
  startup : Tab Tile := []
  snap : Tab Tile := []
  evSeq : Word32 := 0
  suSeq : Word32 := 0
  snSeq : Word32 := 0
  evHead : Nat := 0
  suHead : Nat := 0
  /-- Snapshots ever written; the slot of the next follows R647. -/
  snapCount : Nat := 0
  /-- Tiles written in each snapshot slot, and whether its header stands; the slot being written, with the code of its
  fault (R647). -/
  snapLen : Tab Nat := []
  snapWhole : Tab Bool := []
  snapNow : Option (Nat × BitVec 16) := none
  queue : List SelvEntry := []
  dropped : Nat := 0
  droppedSince : Bool := false
  /-- When the writer takes its next entry (R645). -/
  writeAt : Nat := 0
  /-- Writing stopped by POWER_FAIL (R648). -/
  stopped : Bool := false
  /-- ST02 has ended: entries can be written (R628). -/
  opened : Bool := false
  /-- Persistent records of R646. -/
  startCount : Word32 := 0
  resetCause : BitVec 8 := 0
  safeStarts : Nat := 0
  stepLevel : Tab Nat := []
  /-- The step's last record of this start is START without an end. -/
  stepHung : Tab Bool := []
  failCount : Tab Nat := []
  activeSlot : BitVec 1 := 0
  retired : List Nat := []
  stopCount : Tab Word32 := []
  stopWalls : Tab (List Word) := []
  /-- DRAM_TRAIN record: speed code, CRC-32C of the board record, component identities (R489). -/
  trained : Option (BitVec 8 × Word32 × Word32) := none
  /-- FABRIC_ID record: none, the straps decide; some id, the stored ID. -/
  fabricId : Option (BitVec 6) := none
  /-- The two copies of the records in Selvedge: the one of the higher record sequence, with that number, and the other;
  whether a tile of a copy is bad (R646). -/
  recNew : Persist := {}
  recOld : Persist := {}
  recSeq : Word32 := 0
  newBad : Bool := false
  oldBad : Bool := false
  /-- Anti-rollback level in the fuses (R625). -/
  fuseLevel : Nat := 0
deriving DecidableEq, Repr

/-- Start-up and mode state (R627 to R640), boot flash (R623), JTAG (R652), pins (chapter 21). -/
structure SysState where
  mode : Mode := .boot
  startNo : Word32 := 0
  step : Nat := 1
  outcome : BitVec 2 := 0
  level : Nat := 0
  stepStart : Nat := 0
  /-- Start-up is over: ST24 has ended, or a step has ended it (R632). -/
  started : Bool := false
  hostReady : Bool := false
  recovery : Bool := false
  /-- The device has stopped (R632 ST01 or ST03; R661): only a reset goes on. -/
  stopped : Bool := false
  st02Failed : Bool := false
  boot : BootRec := {}
  /-- A boot record has been read (ST06). -/
  bootRead : Bool := false
  fwVer : Word32 := 0
  imageSlot : BitVec 1 := 0
  imageRollback : Nat := 0
  /-- Boot flash units by slot × 131,072 + unit (R623). -/
  flash : Tab Tile := []
  dramSpeed : BitVec 8 := 0xFF
  /-- WALL of the newest valid Selvedge entry that ST02 has found (R639). -/
  lastWall : Word := 0
  /-- The commands of the start-up script have all answered OK so far (R634), and the reply of the last command that
  came by the script's path. -/
  scriptOk : Bool := true
  lastReply : Option Reply := none
  /-- The level at which a step was left at START in the previous start (R630); steps whose FAIL_COUNT has risen in this
  start (R631). -/
  prevHung : Tab (Option Nat) := []
  failedNow : List Nat := []
  /-- A mode change in progress: from, to (R637). -/
  modeChange : Option (Mode × Mode) := none
  /-- The 20 µs listen of R638: end and whether the twin was heard in RUN. -/
  listen : Option (Nat × Bool) := none
  safeSince : Option Nat := none
  autoRestart : Bool := false
  jtagOpen : Bool := false
  jtagChallenge : Option (BitVec 128 × Nat) := none
  jtagWrong : Nat := 0
  thermAlert : Bool := false
  thermTrip : Bool := false
  idSel : BitVec 6 := 0
  /-- The code that VID2:0 drives; none while the pins are high-impedance, until ST01 (R655). -/
  vid : Option (BitVec 3) := none
  /-- TEST_N; while it is low the device stays in reset (R664). -/
  testN : Bool := true
  /-- Reference clocks that are lost (R661): 0 and 1 of the front lanes, 2 of the links, 3 of PCIe. -/
  refLost : Tab Bool := []
  xinLost : Bool := false
deriving DecidableEq, Repr

/-! ## Wall time and pick clocks (chapter 3) -/

/-- A segment of a pick clock (R72), with its anchor in wall time and in local time. -/
structure Seg where
  wallA : Word
  localA : Nat
  pickA : Word
  rem : Nat
  freq : Word
deriving DecidableEq, Repr

/-- What a pick clock knows of one of its two sources (R75 to R77). -/
structure SrcState where
  lost : Bool := true
  everLost : Bool := false
  lastEdge : Option Nat := none
  /-- Misses already counted since the last accepted edge. -/
  misses : Nat := 0
  /-- The clock's pick time at the first of the present run of accepted events (QUAL_CYCLES, R75). -/
  runFrom : Option Nat := none
  /-- Encoder count since Z, signed, and its state. -/
  encCount : Int := 0
  encEdge : Option Nat := none
  encBack : Nat := 0
  zSeen : Bool := false
  lastZ : Option Nat := none
  badZ : Nat := 0
  /-- Revolutions already counted as misses since the last Z pulse. -/
  revMiss : Nat := 0
  /-- The level behind the glitch filter (R76); none before its first edge. -/
  level : Option Bool := none
  /-- Local time of the last 100 µs update (R75). -/
  upAt : Option Nat := none
deriving DecidableEq, Repr

/-- A pick clock: configuration (R90), status (R92), its last 64 segments (newest first) and its loop. -/
structure PickState where
  cfg : PickCfg := {}
  /-- A configuration that waits for the next loop update (R91). -/
  next : Option PickCfg := none
  st : PickSt := {}
  segs : List Seg := []
  /-- The segments of the clock's last run, for timestamp points before it was disabled. -/
  old : List Seg := []
  pri : SrcState := {}
  fb : SrcState := {}
  /-- The first event of the primary seen in ACQUIRING: local time and target pick. -/
  acqFirst : Option (Nat × Nat) := none
  /-- Pick value at which the present run of small errors began (R85). -/
  lockFrom : Option Nat := none
  unlockRun : Nat := 0
  /-- Pick value at entry to HOLDOVER (R88). -/
  holdFrom : Nat := 0
  /-- The holdover followed the loss of the fallback (R88 step 6). -/
  fbHoldover : Bool := false
  /-- PS_T of the last accepted PICK_STEER (R328). -/
  lastSteer : Option Nat := none
deriving DecidableEq, Repr

/-- What the PTP engine keeps of a port (R65): local times of its last sends, sequence numbers, the two-step Sync whose
Follow_Up is due, the requests that wait for their answers, and the last egress timestamp returned to it (R114). -/
structure PtpRun where
  syncAt : Option Nat := none
  announceAt : Option Nat := none
  pdelayAt : Option Nat := none
  syncSeq : BitVec 16 := 0
  announceSeq : BitVec 16 := 0
  delaySeq : BitVec 16 := 0
  pdelaySeq : BitVec 16 := 0
  followUp : Option (BitVec 80 × BitVec 16) := none
  delayOpen : Bool := false
  pdelayOpen : Bool := false
  txStamp : Option (BitVec 16 × Word) := none
  /-- Local time of the last Announce, or of the start of its receipt timeout. -/
  heardAt : Nat := 0
deriving DecidableEq, Repr

/-- The wall counter and the flags of a metadata tile as they were from a local time on: the model's own record, by which a
row reads the timestamp point of a frame that arrived earlier (R22). -/
structure Past where
  at' : Nat
  wall : Word
  frac : Word32
  fadj : Word
  unsync : BitVec 1
  on : BitVec 4
  hold : BitVec 4
deriving DecidableEq, Repr

/-- Time: the local oscillator's count, the wall counter (R63), its configuration and status, PTP, PPS. -/
structure TimeState where
  /-- Nanoseconds counted by the local oscillator since reset. -/
  now : Nat := 0
  wall : Word := 0
  frac : Word32 := 0
  cfg : WallCfg := {}
  st : WallSt := { wallUnsync := 1 }
  /-- Wall time of the newest step, and its local time (R74). -/
  lastStep : Word := 0
  stepAt : Nat := 0
  goodRun : Nat := 0
  badRun : Nat := 0
  todSet : Bool := false
  lastPps : Option Nat := none
  ppsHigh : Bool := false
  /-- Local time of the last rising edge of PPS_OUT (R70). -/
  ppsAt : Nat := 0
  picks : Tab PickState := []
  ptpClock : PtpClock := {}
  ptpPorts : Tab PtpPort := []
  ptpSt : Tab PtpSt := []
  ptpRun : Tab PtpRun := []
  /-- The model's own field: how many free values have been drawn. -/
  free : Nat := 0
  /-- The model's own field: the last 64 changes of the counter's line and of the flags, newest first. -/
  past : List Past := []
deriving DecidableEq, Repr

/-! ## Ports (chapter 4) -/

/-- A frame or fragment on its way out of a port or link: which queue entry, its bytes, what has been sent. -/
structure TxFrame where
  queue : Nat
  entry : QEntry
  /-- The frame as it goes on the wire, FCS last. -/
  bytes : List Byte
  sent : Nat := 0
  frags : Nat := 0
  tc : Nat
  started : Nat
  /-- Local time at which the frame's first bit left; `started` is moved by each fragment. -/
  began : Nat := 0
  /-- Preemption was in force when the frame began: it may be cut (R100, R111). -/
  cuts : Bool := true
  /-- The packet whose leaving this frame's end counts for (R185). -/
  pkt : Option Nat := none
deriving DecidableEq, Repr

/-- A frame held in a port's receive staging during a warp-ring reset (R147): descriptor and express flag. -/
structure Staged where
  desc : BitVec 256
deriving DecidableEq, Repr

/-- A front port or M0: configuration (R98), status (R101), link timers, preemption, transmission. -/
structure PortState where
  cfg : PortCfg := {}
  st : PortSt := {}
  /-- Local time of the last PCS lock (R119). -/
  lockAt : Nat := 0
  ltDone : Bool := false
  verifyTries : Nat := 0
  /-- Local time of the last verify mPacket (R110). -/
  verifyAt : Option Nat := none
  /-- PREEMPT_EN has been cleared, or set, and takes effect when the frame on the wire, or the last fragment of a preempted
  one, has been sent (R100, R111). -/
  preemptOff : Bool := false
  preemptOn : Bool := false
  /-- Local times at which the configuration changed, newest first, with the configuration before: a frame that began
  before a change is received under the old one (R100). -/
  cfgPast : List (Nat × PortCfg) := []
  /-- Local time at which the link was last declared down: a frame that began before is lost (R120). -/
  downAt : Option Nat := none
  tx : Option TxFrame := none
  /-- The remainder of a preempted frame. -/
  txHeld : Option TxFrame := none
  staging : List Staged := []
deriving DecidableEq, Repr

/-! ## Rings and pools (chapter 5) -/

/-- A general ring: configuration (R125), counters of R127, the pointers as running counts, and its items from L to W,
oldest first. Items narrower than 64 B are held in the low bytes. -/
structure GenRing where
  cfg : RingCfg := {}
  /-- W: items ever pushed since the ring was enabled or reset. -/
  w : Nat := 0
  /-- P − L: items popped and not yet released. -/
  popped : Nat := 0
  items : List (BitVec 512) := []
  mark : Option Nat := none
  markLost : Bool := false
  resetting : Bool := false
  high : BitVec 17 := 0
  lost : Word := 0
  markLosts : Word32 := 0
  ptrResets : BitVec 16 := 0
deriving DecidableEq, Repr

/-- State of a warp-ring slot (R142). -/
inductive SlotState where
  | idle | written | held
deriving DecidableEq, Repr

/-- A warp-ring slot: its state, the descriptor's 32 bytes, and whether a parse has started on it (R144). -/
structure WarpSlot where
  state : SlotState := .idle
  desc : BitVec 256 := BitVec.allOnes 256
  parsing : Bool := false
  /-- A release came while the ring was resetting (R248). -/
  released : Bool := false
  /-- The two copies of its state disagree (R142). -/
  split : Bool := false
deriving DecidableEq, Repr

/-- A warp ring: running pointers, slots by number, counters of R127. -/
structure WarpRing where
  w : Nat := 0
  p : Nat := 0
  l : Nat := 0
  slots : Tab WarpSlot := []
  resetting : Bool := false
  high : BitVec 17 := 0
  lost : Word := 0
  markLosts : Word32 := 0
  ptrResets : BitVec 16 := 0
  /-- L and W of the range that a pointer reset fixed (R146 step 3). -/
  resetRange : Option (Nat × Nat) := none
deriving DecidableEq, Repr

/-- The warp rings of a port (R140). -/
structure WarpPair where
  cfg : WarpCfg := {}
  exp : WarpRing := {}
  norm : WarpRing := {}
deriving DecidableEq, Repr

/-- A bobbin pool: configuration (R149), counts (R611), quarantined cells (R156). -/
structure Pool where
  cfg : PoolCfg := {}
  st : PoolSt := {}
  quarantine : List Nat := []
deriving DecidableEq, Repr

/-- Rings, warp rings, pools, cell memory and DRAM buffers. -/
structure BufState where
  rings : Tab GenRing := []
  warps : Tab WarpPair := []
  pools : Tab Pool := []
  /-- Records of cells (by cell index) and of buffers (by 2^22 + buffer index), which DRAM holds too (R152, R478). -/
  recs : Tab CellRec := []
  /-- Cells whose record's parity fails (R156). -/
  badRecs : List Nat := []
  /-- Cell memory by byte address (R148). -/
  cells : Mem := []
  /-- The model's own field: which records' cells begin with a metadata tile (R22; FILL of R152 counts after it). -/
  metas : Tab Bool := []
  /-- The model's own field: local time in ps at which the last bit of the FCS crossed the pins of the port a frame entered
  by, by the record of its head cell (R46). -/
  rxEnd : Tab Int := []
deriving DecidableEq, Repr
/-! ## Tasks and the Reed (chapters 7, 8) -/

/-- An origin frame (R330): its descriptor, its launch time, whether it is for its parent's own domain, and the slice
of the program that built it. -/
structure Origin where
  desc : Desc
  launch : Option (BitVec 3 × Word) := none
  own : Bool
  slice : Nat
deriving DecidableEq, Repr

/-- What one instance holds until its end (R318, R319, R329, R330). -/
structure Recorded where
  launch : Option (BitVec 3 × Word) := none
  hostRing : Option Nat := none
  /-- Handles allocated by the instance (R319). -/
  handles : List (BitVec 24) := []
  origins : List Origin := []
  /-- Whether the instance has made its one SEQ_RECV and its one SEQ_GEN (R413). -/
  didRecv : Bool := false
  didGen : Bool := false
deriving DecidableEq, Repr

/-- A SEQ_RECV kept with a packet's sequence record (R416): handle, number, outcome, and what it armed (R419, R421). -/
structure SeqDone where
  handle : Nat
  num : BitVec 16
  status : Nat
  detail : Nat
  copyB : Option Nat := none
  strip : Bool := false
  /-- MODE PRP: a trailer is appended (R420). -/
  prp : Bool := false
deriving DecidableEq, Repr

/-- The end record of a context (R235). -/
structure EndRec where
  /-- The head window up to the new length; `none` for a context ended at intake (R196, R197). -/
  head : Option (List Byte)
  action : BitVec 4
  queue : BitVec 13
  qvalid : BitVec 1
  destDev : BitVec 6
  outPort : BitVec 6
  tc : BitVec 3
  length : BitVec 14
  recd : Recorded := {}
  /-- The context whose instance ended first. -/
  winner : Nat
deriving DecidableEq, Repr

/-- States of a packet context (R211). -/
inductive CtxState where
  | free | intake | ready | running | waiting | ended
deriving DecidableEq, Repr

/-- States of a sequence record (R234). -/
inductive RecState where
  | none | opened | ready | done
deriving DecidableEq, Repr

/-- A sequence record (R234) with what all instances of its packet share. -/
structure SeqRecord where
  st : RecState := .none
  skipped : Bool := false
  endRec : Option EndRec := none
  /-- The policer whose NONCONFORM drops the packet at commit (R426). -/
  forced : Option Nat := none
  seqRecv : Option SeqDone := none
  seqGen : Option SeqDone := none
deriving DecidableEq, Repr

/-- A packet context: its packet's descriptor, mark and key; the sequence record lives in the context that `recCtx`
names, which is the context itself but for a hand-back. -/
structure Ctx where
  state : CtxState := .free
  desc : Desc := {}
  port : Nat := 0
  slot : Nat := 0
  markValid : Bool := false
  key : BitVec 1024 := 0
  /-- Owner and ENTRY of the packet's profile; false in `byProgram` for a default action. -/
  slice : Nat := 0
  entry : BitVec 16 := 0
  byProgram : Bool := false
  fpath : BitVec 2 := 0
  epoch : BitVec 8 := 0
  handback : Bool := false
  recCtx : Nat := 0
  record : SeqRecord := {}
  /-- The instance is live: on a ready list or a thread. -/
  live : Bool := false
  /-- The instance holds its reference (R153). -/
  holdsRef : Bool := false
  /-- The entry table of the packet's first dispatch (R268). -/
  table : Option (BitVec 1) := none
  /-- The instance waits for a program tile to be rewritten (R245). -/
  blocked : Option Nat := none
  /-- The packet's number in the count of its bank (R185). -/
  pkt : Option Nat := none
  /-- The frame of an origin frame's context (R240). -/
  origin : Option Origin := none
deriving DecidableEq, Repr

/-- An ordering domain (R230, R232): the contexts of its records from HEAD_SEQ on, and since when the head is open. -/
structure Domain where
  cfg : OdCfg := {}
  st : OdSt := {}
  recs : List Nat := []
  headSince : Nat := 0
deriving DecidableEq, Repr

/-- A background task (R203): created or not, its object, its EPOCH. -/
structure BgTask where
  live : Bool := false
  obj : TaskObj := {}
  epoch : BitVec 8 := 0
  blocked : Option Nat := none
  /-- Local time of the last kick that KICK_MERGED has not counted (R222). -/
  kickAt : Option Nat := none
deriving DecidableEq, Repr

/-- What waits on a ready list: a context or a background task, and the order in which it became ready. -/
structure ReadyItem where
  task : Bool
  idx : Nat
  order : Nat
  /-- EXP_WAIT has counted this wait (R199). -/
  waited : Bool := false
deriving DecidableEq, Repr

/-- A delay-list entry (R215), the order in which it was armed, and the helper request that waits for a COMPLETE entry. -/
structure DelayObj where
  e : DelayEntry := {}
  order : Nat := 0
  op : Option Nat := none
deriving DecidableEq, Repr

/-- A hand-back that waits for a context (R211): its record's context, its ring and slot, and its descriptor. -/
structure Handback where
  recCtx : Nat
  port : Nat
  express : Bool
  slot : Nat
deriving DecidableEq, Repr

/-- The task sequencer and the Reed. -/
structure TaskState where
  groups : Tab TgCfg := []
  ctxs : Tab Ctx := []
  tasks : Tab BgTask := []
  /-- Ready lists: group × 9 + priority, 8 the express list (R198). -/
  lists : Tab (List ReadyItem) := []
  order : Nat := 0
  cfg : DispatchCfg := {}
  delays : Tab DelayObj := []
  domains : Tab Domain := []
  handbacks : List Handback := []
  /-- The domain, not of CLASS 7, in which the Reed last acted (R236). -/
  lastOd : Nat := 4095
  /-- The delay unit: the list it served last, its present comparison by local time / 10 ns, and the entries that this one
  has taken (R217). -/
  lastList : Nat := 4
  cmpAt : Nat := 0
  cmpTaken : Nat := 0
deriving DecidableEq, Repr

/-! ## Ruleset, indirection tables, policers (chapters 6, 14) -/

/-- Rule and profile ranges of a slice (R158, R607). -/
structure RuleRange where
  ruleFirst : Nat := 0
  ruleCount : Nat := 0
  profFirst : Nat := 0
  profCount : Nat := 0
deriving DecidableEq, Repr

/-- KEY_SEL[i] = i, the reset value of R170. -/
def keySelReset : BitVec 448 := 0x7ef9ebc76e9cb86ed9ab466c98b05eb96ac56a94a84e992a446890a03e78e9c3668c982e58a9426488901e3868c16284880e182840608080

/-- A bank of the ruleset (R158). -/
structure RuleBank where
  heddles : Tab Heddle := []
  keysel : BitVec 448 := keySelReset
  ports : Tab ParsePort := []
  ranges : Tab RuleRange := []
  rules : Tab Rule := []
  /-- Rules whose parity fails until the scrubber finds them (R174). -/
  badRules : List Nat := []
  profiles : Tab Profile := []
  /-- The version this bank carries or last carried as the current one. -/
  version : BitVec 8 := 0
  /-- In-flight count (R185). -/
  inflight : Nat := 0
deriving DecidableEq, Repr

/-- States of the ruleset (R182). -/
inductive RulesetState where
  | idle | draining | copying
deriving DecidableEq, Repr

/-- An indirection table (R176, R177). -/
structure ItTable where
  owner : BitVec 6 := 0
  entries : Tab ItEntry := []
deriving DecidableEq, Repr

/-- A policer (R423, R425): tokens in millionths of a bit, and the local time of the last refill. -/
structure Policer where
  cfg : PolicerCfg := {}
  tok : Nat := 0
  last : Nat := 0
  st : PolicerSt := {}
deriving DecidableEq, Repr

/-- The ruleset with its two banks, hit counts (R172), indirection tables, Toeplitz secret (R181), the parser's
round-robin positions (R160), and the policers. -/
structure RuleState where
  bank0 : RuleBank := {}
  bank1 : RuleBank := {}
  /-- Bank 1 is current. -/
  cur : Bool := false
  state : RulesetState := .idle
  hits : Tab Word32 := []
  its : Tab ItTable := []
  secret : BitVec 1056 := 0
  lastExp : Nat := 33
  lastNorm : Nat := 33
  policers : Tab Policer := []
  /-- Packets parsed so far; and, by packet number × 256 + version, what still keeps the packet in the device: its
  record with its instances, and its entry or delivery behind the Reed (R185). -/
  packets : Nat := 0
  legs : Tab Nat := []
deriving DecidableEq, Repr

/-! ## Weft cores (chapters 9 to 11) -/

/-- States of a thread (R255). -/
inductive ThState where
  | idle | running | waiting | evwait | halted | stopped
deriving DecidableEq, Repr

/-- Privilege levels (R256). -/
inductive Priv where
  | u | s | m
deriving DecidableEq, Repr

/-- A hardware loop level (R294): start, end, iterations remaining, the level at which it was set up (R297). -/
structure LoopLevel where
  ls : Nat
  le : Nat
  lc : Nat
  priv : Priv
deriving DecidableEq, Repr

/-- The instance on a thread: a packet task's context or a background task's activation. -/
structure Inst where
  task : Bool
  idx : Nat
  epoch : BitVec 8
  slice : Nat
  tg : Nat
  prio : Nat
  express : Bool
  /-- The entry table under which it was dispatched (R268). -/
  table : BitVec 1
  /-- RETRY or HANDBACK of TASK_INFO (R200). -/
  later : Bool
  /-- Local time on the thread so far excludes halts (R202): time of dispatch, moved on by each halt. -/
  since : Nat
  recd : Recorded := {}
deriving DecidableEq, Repr

/-- A load or store of the slice DRAM window that waits for its line (R252): its instruction's address, its data
address, the line, the DRAM byte address, bytes, and for a load the register and its extension. -/
structure Attach where
  line : Nat
  addr : Nat
  phys : Nat
  bytes : Nat
  load : Bool
  reg : BitVec 5 := 0
  signed : Bool := false
  net : Bool := false
  data : List Byte := []
  /-- Local time at which it began (R258). -/
  at' : Nat := 0
deriving DecidableEq, Repr

/-- A thread: its registers (R250), its dependence counter, its state and its debugger. -/
structure Thread where
  st : ThState := .idle
  /-- The state a HALTED thread left (R255). -/
  from' : ThState := .running
  regs : Tab Word := []
  /-- General registers whose parity fails until they are written (R250). -/
  badRegs : List Nat := []
  pc : Nat := 0
  priv : Priv := .u
  depcnt : Nat := 0
  /-- Result fields, as first byte and length in local memory, of the counted requests since the counter last stood at
  zero: they hold unspecified bytes until it does again (R314). -/
  unsettled : List (Nat × Nat) := []
  evPend : BitVec 8 := 0
  cpen : Word := 0x777
  sepc : Word := 0
  scause : Word := 0
  /-- Active loop levels, outermost first. -/
  loops : List LoopLevel := []
  icount : Word32 := 0
  inst : Option Inst := none
  /-- The slice of the thread's last task (R200). -/
  lastSlice : Option Nat := none
  /-- An `evwait` waits: its mask and destination register. -/
  evMask : BitVec 8 := 0
  evDest : BitVec 5 := 0
  /-- An `end` waits for the last completion (R210), or for the Reed to accept it (R240). -/
  atEnd : Bool := false
  /-- The tile whose fill the thread waits for (R252). -/
  miss : Option Nat := none
  /-- A DRAM-window access is outstanding (R252): completed by MEM_TIMEOUT or by its answer. -/
  attach : Option Attach := none
  bps : Tab Nat := []
  stepping : Bool := false
  /-- The debugging slice attached to the thread (R280); a HALT that waits for an instruction boundary; the breakpoint
  at the present address has halted the thread once. -/
  dbg : Option Nat := none
  haltReq : Bool := false
  skipBp : Bool := false
  /-- Local time of the halt, for the run limit (R281). -/
  haltAt : Nat := 0
  /-- Cycles for which it is not selectable: after a load, a `wait` or an `evwait` (R252). -/
  bar : Nat := 0
deriving DecidableEq, Repr

/-- CP1 (R334): key (bits), its length in bytes, J0, GHASH, lengths, state. -/
structure Cp1 where
  key : BitVec 256 := 0
  keyLen : Nat := 0
  j0 : BitVec 128 := 0
  ghash : BitVec 128 := 0
  /-- Data blocks counted so far. -/
  ctr : Nat := 0
  aadLen : Nat := 0
  dataLen : Nat := 0
  /-- A short last piece has ended the AAD or the data phase. -/
  aadEnd : Bool := false
  dataEnd : Bool := false
  /-- The data phase decrypts. -/
  dec : Bool := false
  st : Nat := 0
deriving DecidableEq, Repr

/-- One CP2 channel (R337): sums, count, and the last N samples by position. -/
structure Cp2Chan where
  re : Word := 0
  im : Word := 0
  m : Nat := 0
  hist : Tab Word32 := []
deriving DecidableEq, Repr

/-- CP2 (R336). -/
structure Cp2 where
  opmode : Nat := 0
  n : Nat := 0
  chEn : BitVec 8 := 0
  chans : Tab Cp2Chan := []
deriving DecidableEq, Repr

/-- A MEM or CTL coprocessor operation that has been sent (R305, R341): its name by number, the address of its block,
`pfeedm`'s count, and the level at which it was sent. -/
structure CpOp where
  cp : Nat
  thread : Nat
  inst : Inst
  priv : Priv
  name : Nat
  addr : Nat
  arg : Nat := 0
  /-- The address of its instruction (R678). -/
  pc : Nat := 0
deriving DecidableEq, Repr

/-- A core. -/
structure Core where
  cfg : CoreCfg := {}
  st : CoreSt := { state := 6 }
  /-- ACTIVE or SPARE before the mode took the core OFFLINE; `recover` when it was in recovery (R279). -/
  wasSpare : Bool := false
  recover : Bool := false
  /-- Local memory by the addresses of R257's M column: slices from 0x1_0000, windows from 0x8000. -/
  lmem : Mem := []
  /-- The 8 B words of local memory, by address / 8, and the core-shared registers whose parity fails until they are
  written (R257, R259). -/
  badWords : List Nat := []
  cs : Tab Word := []
  badCs : List Nat := []
  threads : Tab Thread := []
  cp1 : Cp1 := {}
  cp2 : Cp2 := {}
  /-- Owners of CP1 and CP2 (R331), and the slice of the previous owner's task. -/
  cpOwner : Tab (Option Nat) := []
  cpSlice : Tab (Option Nat) := []
  cpOps : List CpOp := []
  progress : Bool := false
  /-- The thread that last issued from 1 to 7 (R251); the local time of the last watchdog visit (R276). -/
  lastIssue : Nat := 7
  visitAt : Option Nat := none
  /-- The present stop has yet to be judged for STOPS_24H (R275). -/
  toJudge : Bool := false
  /-- Ways 2 and 3 by set, most recently used first (R269). -/
  icache : Tab (List Nat) := []
  /-- The watchdog has noticed the present stop. -/
  noticed : Bool := false
  /-- The replay of R245 waits for the debugger's detach (R51). -/
  replayDue : Bool := false
  /-- A poison packet was involved in the present stop (R49). -/
  poison : Bool := false
deriving DecidableEq, Repr

/-- A helper request in flight (R309, R310): its instance, its helper word, its block as copied (R300), and its outcome
once the helper has served it. -/
structure HelperOp where
  id : Nat
  core : Nat
  thread : Nat
  inst : Inst
  counted : Bool
  tag : BitVec 12
  word : HelperWord
  addr : Nat
  block : List Byte
  /-- Bytes to write at block offsets, STATUS and TAG among them; `none` while not served. -/
  done : Option (List (Nat × List Byte)) := none
  /-- The request has taken effect and waits for its delay entry to fire (R216). -/
  parked : Bool := false
  /-- The request waits for a free delay entry, and DELAY_HELD has counted it (R214). -/
  held : Bool := false
  /-- The requester's packet, for the operations that act on it (R416). -/
  pkt : Option Nat := none
deriving DecidableEq, Repr

/-- Cores, program store, program configurations, helper requests. -/
structure WeftState where
  cores : Tab Core := []
  /-- Program-store tiles without their CHECK (R264). -/
  prog : Tab (BitVec 480) := []
  progs : Tab ProgCfg := []
  ops : List HelperOp := []
  nextOp : Nat := 0
  /-- Areas that CP1 has saved since this start, with what they hold (R335). -/
  sealed : List (BitVec 1536 × Cp1) := []
  /-- Areas that CP2 has saved, with what they hold (R340). -/
  saved : List (BitVec 26592 × Cp2) := []
  /-- Program tiles that wait for their rewrite (R245). -/
  badTiles : List Nat := []
  /-- The spare to be tested next (R278), and the one under test. -/
  nextSpare : Nat := 0
  underTest : Option Nat := none
  /-- Wall time at which the last spare test began (R278). -/
  spareAt : Option Word := none
deriving DecidableEq, Repr

/-! ## Traffic manager (chapter 15) -/

/-- A queued entry (R436), its acceptance order in the device, and whether a DRAM frame lies whole in the prefetch
buffer (R467). -/
structure QEnt where
  e : QEntry
  /-- The fabric path of the frame (R519) and its hop count in transit (R531), for fabric queues. -/
  fpath : BitVec 2 := 0
  /-- A frame in transit keeps its source, sequence number, destination port, hop count and marks: the fabric header's
  bytes (R514). -/
  transit : Option (BitVec 128) := none
  /-- A fabric arrival: its frame, in the fabric receiver's own store (its BUF is the null handle). -/
  arrived : Option (List Byte) := none
  fetched : Bool := false
  /-- t of R107: bytes of the tail behind an edited head. -/
  tail : Nat := 0
  /-- The terms of R41: bits on the wire of the TC7 frames ahead on its port, which add to the bound of a TC7 frame. -/
  ahead : Nat := 0
  /-- The packet whose leaving this entry's end counts for (R185). -/
  pkt : Option Nat := none
deriving DecidableEq, Repr

/-- A queue: configuration (R434), counters (R471), its two parts, DWRR deficit, and what telemetry has gathered since
the last sample (R470). -/
structure Queue where
  cfg : QueueCfg := {}
  st : QueueSt := {}
  onchip : List QEnt := []
  dram : List QEnt := []
  maxSojourn : Nat := 0
  txSince : Nat := 0
  dropSince : Nat := 0
  sampleSeq : BitVec 8 := 0
  /-- Local time at which the queue's next sample is due (R469). -/
  sampleAt : Nat := 0
  /-- Entries ever written to the DRAM part's ring (R463). -/
  dramW : Nat := 0
deriving DecidableEq, Repr

/-- A shaper (R445): tokens in bytes / 8,000,000. -/
structure Shaper where
  cfg : ShaperCfg := {}
  tok : Int := 0
  last : Nat := 0
deriving DecidableEq, Repr

/-- Selection state of an egress port (R442). -/
structure PortTm where
  sched : PortSched := {}
  /-- Last TC7 queue served; current class of the DWRR over classes; current queue of each class's group. -/
  lastTc7 : Option Nat := none
  curClass : Option Nat := none
  curQueue : Tab (Option Nat) := []
  classDeficit : Tab Nat := []
  /-- Round-robin position of the prefetcher (R467). -/
  prefetchAt : Nat := 0
deriving DecidableEq, Repr

/-- A treadle list of a port (R451): header and entries of both copies, status, and where the active list stands. -/
structure Treadle where
  pendHdr : TreadleHdr := {}
  pend : Tab TreadleEntry := []
  actHdr : TreadleHdr := {}
  act : Tab TreadleEntry := []
  st : TreadleSt := {}
  /-- S of the active list, the present cycle number, and the local time at which the present entry began (R456). -/
  cycle : Nat := 0
  entryAt : Nat := 0
  /-- The first entry has begun. -/
  begun : Bool := false
  /-- A removal waits for the end of the cycle (R454). -/
  removing : Bool := false
  /-- The entry in progress ends by a switch or a jump: only its floor holds it. -/
  cut : Bool := false
  /-- Entries of the active list whose parity fails, and those of them that have begun so (R452). -/
  badEnts : List Nat := []
  foundBad : List Nat := []
  /-- Jumps of the list's scale that it has yet to follow (R460). -/
  jumps : Nat := 0
deriving DecidableEq, Repr

/-- The traffic manager. -/
structure TmState where
  queues : Tab Queue := []
  shapers : Tab Shaper := []
  ports : Tab PortTm := []
  treadles : Tab Treadle := []
  /-- Local time of the sampler's last sample: at most one in 2 ns (R469). -/
  sampledAt : Nat := 0
deriving DecidableEq, Repr

/-! ## The Kubridex fabric (chapter 17) -/

/-- A fabric frame: header fields of R514 and its payload. -/
structure FabFrame where
  kind : Nat
  cls : BitVec 3 := 0
  dest : BitVec 6 := 0
  fpath : BitVec 2 := 0
  port : BitVec 6 := 63
  src : BitVec 6 := 0
  seq : BitVec 16 := 0
  hash : BitVec 16 := 0
  hops : Nat := 0
  rerouted : Bool := false
  first : Bool := false
  /-- Bytes 11 to 15 of the header. -/
  extra : BitVec 40 := 0
  payload : List Byte := []
deriving DecidableEq, Repr

/-- A frame kept until it is acknowledged (R517). -/
structure RetryEnt where
  seq : Nat
  frame : FabFrame
  sentAt : Nat
  sends : Nat := 1
deriving DecidableEq, Repr

/-- A Kubridex link. -/
structure FabLink where
  cfg : LinkCfg := {}
  st : LinkSt := {}
  lock : Bool := false
  /-- LINK_SEQ of the next frame sent and of the next accepted (R516). -/
  txSeq : Nat := 0
  rxSeq : Nat := 0
  retry : List RetryEnt := []
  ackAt : Nat := 0
  /-- Consecutive HELLOs from one serial (R522), that serial, and the time of the last. -/
  helloRun : Nat := 0
  helloSerial : Word := 0
  helloAt : Nat := 0
  tx : Option TxFrame := none
  /-- A frame suspended for express frames (R515). -/
  held : Option TxFrame := none
  /-- TIME exchange: the last measured link delay and offset in ns (R536). -/
  delayNs : Int := 0
  offsetNs : Int := 0
  neighUnsync : Bool := true
  neighWallLink : Nat := 7
deriving DecidableEq, Repr

/-- A frame that waits for its number in the reorder store (R520): the link on which it came, and the local time. -/
structure FabHeld where
  frame : FabFrame
  link : Nat
  at' : Nat
deriving DecidableEq, Repr

/-- A stream at its destination (R520). -/
structure FabStream where
  e : Option (BitVec 16) := none
  held : List FabHeld := []
  holding : Bool := false
  t0 : Nat := 0
deriving DecidableEq, Repr

/-- A link-state advertisement (R526). -/
structure Lsa where
  id : BitVec 6
  serial : Word
  mode : BitVec 3
  seq : Word32
  links : List (BitVec 2 × BitVec 6)
  accepts : List (BitVec 6)
deriving DecidableEq, Repr

/-- Routing of a destination (R527, R529): masks, pinned, hops, and since when its serving link has changed (R521). -/
structure FabRoute where
  prim : BitVec 4 := 0
  alt : BitVec 4 := 0
  pinned : Bool := false
  hops : Nat := 0
  changedAt : Option Nat := none
deriving DecidableEq, Repr

/-- A twin heartbeat path (R538). -/
structure HbPath where
  held : Bool := false
  at' : Nat := 0
deriving DecidableEq, Repr

/-- FABRIC_DISCOVER in progress (R523): answers collected, and until when; and DISCOVERs seen: root serial, first link. -/
structure Discovery where
  until' : Option Nat := none
  answers : List (BitVec 512) := []
  seen : List (Word × Nat × Nat) := []
  count : Nat := 0
deriving DecidableEq, Repr

/-- A command sent to another device, or to the twin (R533, R535), that waits for its reply. -/
structure RemoteCmd where
  cmd : Cmd
  opcode : BitVec 12
  keys : List ObjKey
  target : BitVec 6
  due : Nat
  /-- For a twin copy: the reply that is sent when the twin reports back. -/
  twin : Option Reply := none
  replyTiles : Nat := 1
deriving DecidableEq, Repr

/-- The fabric. -/
structure FabState where
  cfg : FabCfg := {}
  st : FabSt := {}
  links : Tab FabLink := []
  /-- Streams received, by source × 32 + class × 4 + FPATH, and streams sent, by destination: next SEQ. -/
  rxStreams : Tab FabStream := []
  txStreams : Tab (Option (BitVec 16)) := []
  lsas : Tab (Option Lsa) := []
  ownLsaSeq : Word32 := 0
  routes : Tab FabRoute := []
  cmdRoutes : Tab FabRoute := []
  twin : TwinCfg := {}
  hb : Tab HbPath := []
  hbCount : Word32 := 0
  /-- The twin's mode as its last heartbeat gave it (R538). -/
  twinMode : BitVec 3 := 0
  disc : Discovery := {}
  /-- FABRIC_ID_SET waits for its serial's answer: the serial, and until when (R524). -/
  idSet : Option (Word × Nat) := none
  /-- The local time of the last LSA of another serial with this device's ID (R525). -/
  conflictAt : Nat := 0
  /-- Both IDs of the pair are claimed (R541). -/
  tookOver : Bool := false
  remote : List RemoteCmd := []
  /-- Windows of replies to commands of other devices, by device × 64 + slice (R534). -/
  windows : Tab (List WinEntry) := []
  /-- Local times from which the next periodic HELLO, LSA, TIME and HEARTBEAT frames go out (R522, R526, R536, R538). -/
  helloDue : Nat := 0
  lsaDue : Nat := 0
  timeDue : Nat := 0
  hbDue : Nat := 0
deriving DecidableEq, Repr

/-! ## Locks and channels (chapter 12) -/

/-- The identity of a lock's holder (R343) and its priority (R351). -/
structure LockHolder where
  core : Nat
  thread : Nat
  slice : Nat
  prio : Nat
deriving DecidableEq, Repr

/-- A queued thread (R349): its identity, priority, the line raised at its grant, and its place. -/
structure LockWaiter where
  who : LockHolder
  line : Nat
deriving DecidableEq, Repr

/-- A lock: configuration (R344), counters and flags of R364, holder, lease end in local ns, queue in joining order,
and the expired holder (R356). -/
structure Lock where
  cfg : LockCfg := {}
  st : LockSt := {}
  holder : Option LockHolder := none
  leaseEnd : Nat := 0
  queue : List LockWaiter := []
  expired : Option LockHolder := none
deriving DecidableEq, Repr

/-- A channel's binding (R365), the lengths of its messages, oldest first (R369), and its counters (R374). -/
structure Chan where
  cfg : ChanCfg := {}
  msgs : List Nat := []
  commits : Word32 := 0
  msgLost : Word32 := 0
  stageLost : Word32 := 0
deriving DecidableEq, Repr

/-- A thread's staging area (R367): its channel and its items. -/
structure Stage where
  chan : Nat := 0
  items : List (BitVec 512) := []
deriving DecidableEq, Repr

/-- The lock unit and the channels; staging areas by core × 8 + thread. -/
structure LockState where
  locks : Tab Lock := []
  /-- LEASE_FREEZE (R346). -/
  freeze : BitVec 1 := 0
  chans : Tab Chan := []
  stages : Tab Stage := []
deriving DecidableEq, Repr

/-! ## Tables (chapter 13) -/

/-- A station flush that walks (R390): its slice, FID or every one, PORT or every one, and the slots that matched at
its start and have not been inserted, moved or refreshed since. -/
structure Flush where
  slice : Nat
  slots : List Nat
deriving DecidableEq, Repr

/-- The three tables. A slot whose check has failed stands in a list of slots that await restoration (R405). -/
structure TableState where
  parts : Tab TablePart := []
  cfg : TableCfg := {}
  now16 : BitVec 16 := 0
  /-- Local time of the next AGE_TICK_MS boundary (R380, R388). -/
  tickDue : Nat := 1000000 * ({} : TableCfg).ageTickMs.toNat
  stations : Tab Station := []
  streams : Tab Stream := []
  routes : Tab Route := []
  /-- Slots that await restoration: table (0 station, 1 stream, 2 route) and slot. -/
  bad : List (Nat × Nat) := []
  /-- Local time at which the slot's fault was detected, by table × 2^20 + slot: its copy has 1 ms from then (R404). -/
  badAt : Tab Nat := []
  /-- The slice whose entry a free slot held last, by table × 2^20 + slot: whose copy restores the slot (R402). -/
  lastOwner : Tab Nat := []
  /-- Pinned stream slots with one bad half: slot, and true for half B. -/
  badHalf : List (Nat × Bool) := []
  /-- A part of the route search structure is damaged (R400). -/
  routeDamaged : Bool := false
  flushes : List Flush := []
deriving DecidableEq, Repr

/-! ## DRAM and the table cache (chapter 16) -/

/-- A line of the cache: its line address (byte address / 64), dirty and since when, whether its fill is in progress,
and what DRAM itself holds while the line is dirty. -/
structure CacheLine where
  line : Nat
  dirty : Bool := false
  since : Nat := 0
  filling : Bool := false
  /-- The 64 bytes of DRAM under a dirty line. -/
  old : BitVec 512 := 0
  /-- What its next read finds wrong (R503). -/
  bad : Option LineFault := none
deriving DecidableEq, Repr

/-- A CACHE_MAINT in progress (R504): operation, and first line and number of lines, `none` for the whole cache. -/
structure Maint where
  op : Nat
  range : Option (Nat × Nat)
deriving DecidableEq, Repr

/-- The DRAM controller and the table cache. `mem` is what a cached access reads: dirty lines lie over what DRAM
itself holds, which each keeps as `old`. -/
structure DramState where
  /-- The DRAM board record as start-up read it (R476). -/
  board : Tile := 0
  layout : DramLayout := {}
  st : DramSt := {}
  mem : Mem := []
  cacheCfg : CacheCfg := {}
  cacheSt : CacheSt := {}
  /-- Lines by set × 16 + way. -/
  lines : Tab (Option CacheLine) := []
  /-- The eviction buffer, oldest first. -/
  evb : List CacheLine := []
  maint : List Maint := []
  /-- Faulty lines that accesses have met and that are not reported yet (R503): way and line. -/
  met : List (Nat × CacheLine) := []
  /-- Local times from which the refresh-rate registers, the drift of the next rank and the error counts may be read
(R486, R487, R491), and the next rank of the tracking round. -/
  rateAt : Nat := 0
  trackAt : Nat := 0
  trackRank : Nat := 0
  ecsAt : Nat := 0
deriving DecidableEq, Repr


/-! ## The whole -/

/-- The block's state. -/
structure State where
  time : TimeState
  host : HostState
  sys : SysState
  selv : Selvedge
  ports : Tab PortState
  buf : BufState
  task : TaskState
  rules : RuleState
  weft : WeftState
  tm : TmState
  fab : FabState
  lock : LockState
  tab : TableState
  dram : DramState
  /-- What the device has sent outward, oldest first: the model's own record. -/
  out : List Output
  /-- The commands that wait, first in, first out: the model's own queue. -/
  pending : List Instr
deriving DecidableEq, Repr

/-- How a step can stop the machine with a fault: in no way. Every error the spec describes is a next state (an error
reply, a counted drop, a stopped core, SAFE), and a device that has stopped (R632, R661) takes commands without effect. -/
inductive Fault where
deriving DecidableEq, Repr

/-- Why a command has no meaning. -/
inductive Refusal where
  /-- Raised by an arm of `exec` whose command is not modelled yet. Safe: nothing is claimed of it. -/
  | notModelled (mnemonic : String)
deriving DecidableEq, Repr

/-- The machine right after reset: every field at the value its layout or its rule gives. -/
def State.reset : State where
  time := {}
  host := {}
  sys := {}
  selv := {}
  ports := []
  buf := {}
  task := {}
  rules := {}
  weft := {}
  tm := {}
  fab := {}
  lock := {}
  tab := {}
  dram := {}
  out := []
  pending := []

end Sys2Proof.Machine
end

