-- ==== Sys2Proof/Machine/Tiles.lean ====
section
/-!
DEFINITION. The codec of every layout of Objects.lean: `ofTile` reads the fields at the bit positions of the spec's
table, `toTile` writes them back (a 512-bit tile with its CRC-32C, R6), and `rsv` marks the reserved bits, which a
writer must give as 0 (R7).
-/
namespace Sys2Proof.Machine

/-- Fields of R18. -/
def Desc.ofTile (t : BitVec 256) : Desc :=
  { typeV := t.extractLsb' 0 4,
    tc := t.extractLsb' 4 3,
    express := t.extractLsb' 7 1,
    inPort := t.extractLsb' 8 6,
    length := t.extractLsb' 14 14,
    buf := t.extractLsb' 28 24,
    rsver := t.extractLsb' 52 8,
    attempt := t.extractLsb' 60 2,
    pstat := t.extractLsb' 62 2,
    seq := t.extractLsb' 64 32,
    od := t.extractLsb' 96 12,
    tg := t.extractLsb' 108 4,
    warpSlot := t.extractLsb' 112 16,
    tsWallLo := t.extractLsb' 128 32,
    queue := t.extractLsb' 160 13,
    qvalid := t.extractLsb' 173 1,
    outPort := t.extractLsb' 174 6,
    destDev := t.extractLsb' 180 6,
    fcsMode := t.extractLsb' 186 2,
    action := t.extractLsb' 188 4,
    rule := t.extractLsb' 192 14,
    ruleHit := t.extractLsb' 206 1,
    flowHash := t.extractLsb' 208 16 }
/-- Layout of R18, with its CHECK over bytes 0 to 27. -/
def Desc.toTile (c : Desc) : BitVec 256 := sealDesc
   (put 256 0 c.typeV |||
    put 256 4 c.tc |||
    put 256 7 c.express |||
    put 256 8 c.inPort |||
    put 256 14 c.length |||
    put 256 28 c.buf |||
    put 256 52 c.rsver |||
    put 256 60 c.attempt |||
    put 256 62 c.pstat |||
    put 256 64 c.seq |||
    put 256 96 c.od |||
    put 256 108 c.tg |||
    put 256 112 c.warpSlot |||
    put 256 128 c.tsWallLo |||
    put 256 160 c.queue |||
    put 256 173 c.qvalid |||
    put 256 174 c.outPort |||
    put 256 180 c.destDev |||
    put 256 186 c.fcsMode |||
    put 256 188 c.action |||
    put 256 192 c.rule |||
    put 256 206 c.ruleHit |||
    put 256 208 c.flowHash)
/-- Reserved bits of R18. -/
def Desc.rsv : BitVec 256 := 0x8000000000000000000000000000000000000000000000000000

/-- Fields of R22. -/
def MetaTile.ofTile (t : BitVec 512) : MetaTile :=
  { tsWall := t.extractLsb' 0 64,
    tsPk0 := t.extractLsb' 64 64,
    tsPk1 := t.extractLsb' 128 64,
    tsPk2 := t.extractLsb' 192 64,
    tsPk3 := t.extractLsb' 256 64,
    pkEn := t.extractLsb' 320 4,
    pkHold := t.extractLsb' 324 4,
    wallUnsync := t.extractLsb' 328 1,
    fcsIn := t.extractLsb' 384 32 }
/-- Layout of R22, sealed. -/
def MetaTile.toTile (c : MetaTile) : Tile := sealTile
   (put 512 0 c.tsWall |||
    put 512 64 c.tsPk0 |||
    put 512 128 c.tsPk1 |||
    put 512 192 c.tsPk2 |||
    put 512 256 c.tsPk3 |||
    put 512 320 c.pkEn |||
    put 512 324 c.pkHold |||
    put 512 328 c.wallUnsync |||
    put 512 384 c.fcsIn)
/-- Reserved bits of R22. -/
def MetaTile.rsv : BitVec 512 := 0xffffffffffffffff00000000fffffffffffffe0000000000000000000000000000000000000000000000000000000000000000000000000000000000

/-- Fields of R71. -/
def WallCfg.ofTile (t : BitVec 512) : WallCfg :=
  { source := t.extractLsb' 0 3,
    profile := t.extractLsb' 3 2,
    ppsOutEn := t.extractLsb' 5 1,
    ppsOutSrc := t.extractLsb' 6 1,
    ppsPk := t.extractLsb' 7 3,
    lockNs := t.extractLsb' 16 16,
    ppsWidth := t.extractLsb' 32 32,
    ppsInComp := t.extractLsb' 64 32,
    ppsOutComp := t.extractLsb' 96 32,
    slewLimit := t.extractLsb' 128 32 }
/-- Layout of R71, sealed. -/
def WallCfg.toTile (c : WallCfg) : Tile := sealTile
   (put 512 0 c.source |||
    put 512 3 c.profile |||
    put 512 5 c.ppsOutEn |||
    put 512 6 c.ppsOutSrc |||
    put 512 7 c.ppsPk |||
    put 512 16 c.lockNs |||
    put 512 32 c.ppsWidth |||
    put 512 64 c.ppsInComp |||
    put 512 96 c.ppsOutComp |||
    put 512 128 c.slewLimit)
/-- Reserved bits of R71. -/
def WallCfg.rsv : BitVec 512 := 0xffffffffffffffffffffffffffffffffffffffffffffffffffffffffffffffffffffffffffffffff000000000000000000000000000000000000fc00

/-- Fields of R90. -/
def PickCfg.ofTile (t : BitVec 512) : PickCfg :=
  { enable := t.extractLsb' 0 1,
    primary := t.extractLsb' 1 3,
    fallback := t.extractLsb' 4 3,
    revert := t.extractLsb' 7 1,
    bw := t.extractLsb' 8 3,
    synthFreq := t.extractLsb' 11 1,
    phaseEdges := t.extractLsb' 12 1,
    encDir := t.extractLsb' 13 1,
    missLimit := t.extractLsb' 16 8,
    qualCycles := t.extractLsb' 24 8,
    holdLimit := t.extractLsb' 32 32,
    nomFreq := t.extractLsb' 64 32,
    priOffset := t.extractLsb' 96 20,
    fbOffset := t.extractLsb' 128 20,
    encCpr := t.extractLsb' 160 21,
    glitchNs := t.extractLsb' 192 16,
    steerSlice := t.extractLsb' 208 6,
    steerRate := t.extractLsb' 216 8,
    lockThresh := t.extractLsb' 224 20,
    unlockThresh := t.extractLsb' 244 20,
    initTime := t.extractLsb' 288 64 }
/-- Layout of R90, sealed. -/
def PickCfg.toTile (c : PickCfg) : Tile := sealTile
   (put 512 0 c.enable |||
    put 512 1 c.primary |||
    put 512 4 c.fallback |||
    put 512 7 c.revert |||
    put 512 8 c.bw |||
    put 512 11 c.synthFreq |||
    put 512 12 c.phaseEdges |||
    put 512 13 c.encDir |||
    put 512 16 c.missLimit |||
    put 512 24 c.qualCycles |||
    put 512 32 c.holdLimit |||
    put 512 64 c.nomFreq |||
    put 512 96 c.priOffset |||
    put 512 128 c.fbOffset |||
    put 512 160 c.encCpr |||
    put 512 192 c.glitchNs |||
    put 512 208 c.steerSlice |||
    put 512 216 c.steerRate |||
    put 512 224 c.lockThresh |||
    put 512 244 c.unlockThresh |||
    put 512 288 c.initTime)
/-- Reserved bits of R90. -/
def PickCfg.rsv : BitVec 512 := 0xffffffffffffffffffffffffffffffff0000000000000000ffffff000000000000c00000ffe00000fff00000fff0000000000000000000000000c000

/-- Fields of R92. -/
def PickSt.ofTile (t : BitVec 512) : PickSt :=
  { pickNow := t.extractLsb' 0 64,
    wallNow := t.extractLsb' 64 64,
    freqEst := t.extractLsb' 128 64,
    freqNow := t.extractLsb' 192 64,
    phaseErr := t.extractLsb' 256 32,
    state := t.extractLsb' 288 3,
    activeSrc := t.extractLsb' 291 3,
    slewing := t.extractLsb' 294 1,
    onFallback := t.extractLsb' 295 1,
    holdover := t.extractLsb' 296 1,
    holdCycles := t.extractLsb' 320 32,
    missedRef := t.extractLsb' 352 32,
    pulseReject := t.extractLsb' 384 32,
    steerStale := t.extractLsb' 416 16,
    reverse := t.extractLsb' 432 16,
    sourceSwitches := t.extractLsb' 448 32 }
/-- Layout of R92, sealed. -/
def PickSt.toTile (c : PickSt) : Tile := sealTile
   (put 512 0 c.pickNow |||
    put 512 64 c.wallNow |||
    put 512 128 c.freqEst |||
    put 512 192 c.freqNow |||
    put 512 256 c.phaseErr |||
    put 512 288 c.state |||
    put 512 291 c.activeSrc |||
    put 512 294 c.slewing |||
    put 512 295 c.onFallback |||
    put 512 296 c.holdover |||
    put 512 320 c.holdCycles |||
    put 512 352 c.missedRef |||
    put 512 384 c.pulseReject |||
    put 512 416 c.steerStale |||
    put 512 432 c.reverse |||
    put 512 448 c.sourceSwitches)
/-- Reserved bits of R92. -/
def PickSt.rsv : BitVec 512 := 0xfffffe00000000000000000000000000000000000000000000000000000000000000000000000000

/-- Fields of R98. -/
def PortCfg.ofTile (t : BitVec 512) : PortCfg :=
  { enable := t.extractLsb' 0 1,
    mode := t.extractLsb' 1 4,
    fec := t.extractLsb' 5 1,
    anEn := t.extractLsb' 6 1,
    ltEn := t.extractLsb' 7 1,
    eqPreset := t.extractLsb' 8 3,
    preemptEn := t.extractLsb' 11 1,
    verifyDis := t.extractLsb' 12 1,
    txAddFrag := t.extractLsb' 13 2,
    maxFrame := t.extractLsb' 16 14,
    loop := t.extractLsb' 30 2,
    pcpMap := t.extractLsb' 32 24,
    defaultTc := t.extractLsb' 56 3,
    launchLate := t.extractLsb' 59 1,
    rxPol := t.extractLsb' 60 4,
    txPol := t.extractLsb' 64 4,
    linkUpMs := t.extractLsb' 68 12,
    tpidB := t.extractLsb' 80 16,
    rxCalPs := t.extractLsb' 96 16,
    txCalPs := t.extractLsb' 112 16,
    launchTol := t.extractLsb' 128 16,
    launchHorizon := t.extractLsb' 144 32 }
/-- Layout of R98, sealed. -/
def PortCfg.toTile (c : PortCfg) : Tile := sealTile
   (put 512 0 c.enable |||
    put 512 1 c.mode |||
    put 512 5 c.fec |||
    put 512 6 c.anEn |||
    put 512 7 c.ltEn |||
    put 512 8 c.eqPreset |||
    put 512 11 c.preemptEn |||
    put 512 12 c.verifyDis |||
    put 512 13 c.txAddFrag |||
    put 512 16 c.maxFrame |||
    put 512 30 c.loop |||
    put 512 32 c.pcpMap |||
    put 512 56 c.defaultTc |||
    put 512 59 c.launchLate |||
    put 512 60 c.rxPol |||
    put 512 64 c.txPol |||
    put 512 68 c.linkUpMs |||
    put 512 80 c.tpidB |||
    put 512 96 c.rxCalPs |||
    put 512 112 c.txCalPs |||
    put 512 128 c.launchTol |||
    put 512 144 c.launchHorizon)
/-- Reserved bits of R98. -/
def PortCfg.rsv : BitVec 512 := 0xffffffffffffffffffffffffffffffffffffffffffffffffffffffffffffffffffffffffffff00000000000000000000000000000000000000008000

/-- Fields of R101. -/
def PortSt.ofTile (t : BitVec 512) : PortSt :=
  { linkUp := t.extractLsb' 0 1,
    pcsLock := t.extractLsb' 1 1,
    tsCalDone := t.extractLsb' 2 1,
    anDone := t.extractLsb' 3 1,
    preemptState := t.extractLsb' 4 2,
    fecActive := t.extractLsb' 6 1,
    linkDownCount := t.extractLsb' 32 32,
    linkChangeWall := t.extractLsb' 64 64,
    fecCorrected := t.extractLsb' 128 32,
    fecUncorrected := t.extractLsb' 160 32,
    rxLatNs := t.extractLsb' 192 32,
    txLatNs := t.extractLsb' 224 32 }
/-- Layout of R101, sealed. -/
def PortSt.toTile (c : PortSt) : Tile := sealTile
   (put 512 0 c.linkUp |||
    put 512 1 c.pcsLock |||
    put 512 2 c.tsCalDone |||
    put 512 3 c.anDone |||
    put 512 4 c.preemptState |||
    put 512 6 c.fecActive |||
    put 512 32 c.linkDownCount |||
    put 512 64 c.linkChangeWall |||
    put 512 128 c.fecCorrected |||
    put 512 160 c.fecUncorrected |||
    put 512 192 c.rxLatNs |||
    put 512 224 c.txLatNs)
/-- Reserved bits of R101. -/
def PortSt.rsv : BitVec 512 := 0xffffffffffffffffffffffffffffffffffffffffffffffffffffffff00000000000000000000000000000000000000000000000000000000ffffff80

/-- Fields of R125. -/
def RingCfg.ofTile (t : BitVec 512) : RingCfg :=
  { enable := t.extractLsb' 0 1,
    depthLog2 := t.extractLsb' 1 5,
    itemSize := t.extractLsb' 6 2,
    kind := t.extractLsb' 8 3,
    markEn := t.extractLsb' 11 1,
    store := t.extractLsb' 12 1,
    owner := t.extractLsb' 13 6,
    neEvEn := t.extractLsb' 19 1,
    neCore := t.extractLsb' 20 7,
    neThread := t.extractLsb' 27 3,
    neLine := t.extractLsb' 30 3,
    base := t.extractLsb' 64 64 }
/-- Layout of R125, sealed. -/
def RingCfg.toTile (c : RingCfg) : Tile := sealTile
   (put 512 0 c.enable |||
    put 512 1 c.depthLog2 |||
    put 512 6 c.itemSize |||
    put 512 8 c.kind |||
    put 512 11 c.markEn |||
    put 512 12 c.store |||
    put 512 13 c.owner |||
    put 512 19 c.neEvEn |||
    put 512 20 c.neCore |||
    put 512 27 c.neThread |||
    put 512 30 c.neLine |||
    put 512 64 c.base)
/-- Reserved bits of R125. -/
def RingCfg.rsv : BitVec 512 := 0xffffffffffffffffffffffffffffffffffffffffffffffffffffffffffffffffffffffffffffffffffffffff0000000000000000fffffffe00000000

/-- Fields of R127. -/
def RingSt.ofTile (t : BitVec 512) : RingSt :=
  { fill := t.extractLsb' 0 17,
    dualClock := t.extractLsb' 17 1,
    markValid := t.extractLsb' 18 1,
    resetting := t.extractLsb' 19 1,
    highWater := t.extractLsb' 32 17,
    lostCount := t.extractLsb' 64 64,
    markLost := t.extractLsb' 128 32,
    ptrResets := t.extractLsb' 160 16,
    w := t.extractLsb' 192 32,
    p := t.extractLsb' 224 32,
    l := t.extractLsb' 256 32 }
/-- Layout of R127, sealed. -/
def RingSt.toTile (c : RingSt) : Tile := sealTile
   (put 512 0 c.fill |||
    put 512 17 c.dualClock |||
    put 512 18 c.markValid |||
    put 512 19 c.resetting |||
    put 512 32 c.highWater |||
    put 512 64 c.lostCount |||
    put 512 128 c.markLost |||
    put 512 160 c.ptrResets |||
    put 512 192 c.w |||
    put 512 224 c.p |||
    put 512 256 c.l)
/-- Reserved bits of R127. -/
def RingSt.rsv : BitVec 512 := 0xffffffffffffffffffffffffffffffffffffffffffffffff000000000000000000000000ffff0000000000000000000000000000fffe0000fff00000

/-- Fields of R140. -/
def WarpCfg.ofTile (t : BitVec 512) : WarpCfg :=
  { expDepthLog2 := t.extractLsb' 0 4,
    normDepthLog2 := t.extractLsb' 4 4,
    rxPool := t.extractLsb' 8 6,
    rxPoolX := t.extractLsb' 16 6 }
/-- Layout of R140, sealed. -/
def WarpCfg.toTile (c : WarpCfg) : Tile := sealTile
   (put 512 0 c.expDepthLog2 |||
    put 512 4 c.normDepthLog2 |||
    put 512 8 c.rxPool |||
    put 512 16 c.rxPoolX)
/-- Reserved bits of R140. -/
def WarpCfg.rsv : BitVec 512 := 0xffffffffffffffffffffffffffffffffffffffffffffffffffffffffffffffffffffffffffffffffffffffffffffffffffffffffffffffffffc0c000

/-- Fields of R149. -/
def PoolCfg.ofTile (t : BitVec 512) : PoolCfg :=
  { enable := t.extractLsb' 0 1,
    kind := t.extractLsb' 1 1,
    owner := t.extractLsb' 2 6,
    lowEvEn := t.extractLsb' 8 1,
    reserve := t.extractLsb' 32 32,
    limit := t.extractLsb' 64 32,
    first := t.extractLsb' 96 32,
    lowMark := t.extractLsb' 128 32 }
/-- Layout of R149, sealed. -/
def PoolCfg.toTile (c : PoolCfg) : Tile := sealTile
   (put 512 0 c.enable |||
    put 512 1 c.kind |||
    put 512 2 c.owner |||
    put 512 8 c.lowEvEn |||
    put 512 32 c.reserve |||
    put 512 64 c.limit |||
    put 512 96 c.first |||
    put 512 128 c.lowMark)
/-- Reserved bits of R149. -/
def PoolCfg.rsv : BitVec 512 := 0xffffffffffffffffffffffffffffffffffffffffffffffffffffffffffffffffffffffffffffffff00000000000000000000000000000000fffffe00

/-- Fields of R152. -/
def CellRec.ofTile (t : BitVec 64) : CellRec :=
  { refcnt := t.extractLsb' 0 8,
    pool := t.extractLsb' 8 6,
    alloc := t.extractLsb' 14 1,
    last := t.extractLsb' 15 1,
    next := t.extractLsb' 16 22,
    nextOff := t.extractLsb' 38 11,
    fill := t.extractLsb' 49 12,
    par := t.extractLsb' 63 1 }
/-- Layout of R152. -/
def CellRec.toTile (c : CellRec) : BitVec 64 :=
    put 64 0 c.refcnt |||
    put 64 8 c.pool |||
    put 64 14 c.alloc |||
    put 64 15 c.last |||
    put 64 16 c.next |||
    put 64 38 c.nextOff |||
    put 64 49 c.fill |||
    put 64 63 c.par
/-- Reserved bits of R152. -/
def CellRec.rsv : BitVec 64 := 0x6000000000000000

/-- Fields of R162. -/
def Heddle.ofTile (t : BitVec 512) : Heddle :=
  { typeV := t.extractLsb' 0 4,
    valid := t.extractLsb' 4 1,
    defNext := t.extractLsb' 8 6,
    selOff := t.extractLsb' 16 8,
    selEn := t.extractLsb' 24 1,
    genLen := t.extractLsb' 32 8,
    lenOff := t.extractLsb' 40 8,
    lenMask := t.extractLsb' 48 8,
    lenScale := t.extractLsb' 56 3,
    ext0Off := t.extractLsb' 64 8,
    ext0Len := t.extractLsb' 72 4,
    ext0Dst := t.extractLsb' 76 3,
    ext1Off := t.extractLsb' 80 8,
    ext1Len := t.extractLsb' 88 4,
    ext1Dst := t.extractLsb' 92 3,
    trs := t.extractLsb' 96 384 }
/-- Layout of R162, sealed. -/
def Heddle.toTile (c : Heddle) : Tile := sealTile
   (put 512 0 c.typeV |||
    put 512 4 c.valid |||
    put 512 8 c.defNext |||
    put 512 16 c.selOff |||
    put 512 24 c.selEn |||
    put 512 32 c.genLen |||
    put 512 40 c.lenOff |||
    put 512 48 c.lenMask |||
    put 512 56 c.lenScale |||
    put 512 64 c.ext0Off |||
    put 512 72 c.ext0Len |||
    put 512 76 c.ext0Dst |||
    put 512 80 c.ext1Off |||
    put 512 88 c.ext1Len |||
    put 512 92 c.ext1Dst |||
    put 512 96 c.trs)
/-- Reserved bits of R162. -/
def Heddle.rsv : BitVec 512 := 0xff8000000000ff8000000000ff8000000000ff8000000000ff8000000000ff8000000000ff8000000000ff800000000080008000f8000000fe00c0e0

/-- Fields of R167. -/
def ParsePort.ofTile (t : BitVec 512) : ParsePort :=
  { startNode := t.extractLsb' 0 6,
    prpDetect := t.extractLsb' 6 1,
    depth := t.extractLsb' 8 5,
    defAction := t.extractLsb' 16 3,
    defOdBase := t.extractLsb' 24 12,
    defQueue := t.extractLsb' 36 13,
    defHostRing := t.extractLsb' 64 9,
    mirrorRing := t.extractLsb' 73 9,
    mirrorPl := t.extractLsb' 82 14,
    defProfile := t.extractLsb' 96 10 }
/-- Layout of R167, sealed. -/
def ParsePort.toTile (c : ParsePort) : Tile := sealTile
   (put 512 0 c.startNode |||
    put 512 6 c.prpDetect |||
    put 512 8 c.depth |||
    put 512 16 c.defAction |||
    put 512 24 c.defOdBase |||
    put 512 36 c.defQueue |||
    put 512 64 c.defHostRing |||
    put 512 73 c.mirrorRing |||
    put 512 82 c.mirrorPl |||
    put 512 96 c.defProfile)
/-- Reserved bits of R167. -/
def ParsePort.rsv : BitVec 512 := 0xfffffffffffffffffffffffffffffffffffffffffffffffffffffffffffffffffffffffffffffffffffffffffffffc0000000000fffe000000f8e080

/-- Fields of R171. -/
def Rule.ofTile (t : BitVec 1088) : Rule :=
  { value := t.extractLsb' 0 512,
    mask := t.extractLsb' 512 512,
    valid := t.extractLsb' 1024 1,
    profile := t.extractLsb' 1025 10,
    countEn := t.extractLsb' 1035 1 }
/-- Layout of R171. -/
def Rule.toTile (c : Rule) : BitVec 1088 :=
    put 1088 0 c.value |||
    put 1088 512 c.mask |||
    put 1088 1024 c.valid |||
    put 1088 1025 c.profile |||
    put 1088 1035 c.countEn
/-- Reserved bits of R171. -/
def Rule.rsv : BitVec 1088 := 0xfffffffffffff0000000000000000000000000000000000000000000000000000000000000000000000000000000000000000000000000000000000000000000000000000000000000000000000000000000000000000000000000000000000000000000000000000000000000000000000000000000000000000000000000000000000000000000

/-- Fields of R173. -/
def Profile.ofTile (t : BitVec 512) : Profile :=
  { valid := t.extractLsb' 0 1,
    owner := t.extractLsb' 1 6,
    spread := t.extractLsb' 7 1,
    hashAlg := t.extractLsb' 8 1,
    it := t.extractLsb' 9 6,
    tcEn := t.extractLsb' 15 1,
    tcSet := t.extractLsb' 16 3,
    fixOd := t.extractLsb' 20 12,
    fixTg := t.extractLsb' 32 4,
    fixQueue := t.extractLsb' 36 13,
    fixQvalid := t.extractLsb' 49 1,
    fixFpath := t.extractLsb' 50 2,
    entry := t.extractLsb' 64 16,
    hashMask := t.extractLsb' 128 128 }
/-- Layout of R173, sealed. -/
def Profile.toTile (c : Profile) : Tile := sealTile
   (put 512 0 c.valid |||
    put 512 1 c.owner |||
    put 512 7 c.spread |||
    put 512 8 c.hashAlg |||
    put 512 9 c.it |||
    put 512 15 c.tcEn |||
    put 512 16 c.tcSet |||
    put 512 20 c.fixOd |||
    put 512 32 c.fixTg |||
    put 512 36 c.fixQueue |||
    put 512 49 c.fixQvalid |||
    put 512 50 c.fixFpath |||
    put 512 64 c.entry |||
    put 512 128 c.hashMask)
/-- Reserved bits of R173. -/
def Profile.rsv : BitVec 512 := 0xffffffffffffffffffffffffffffffffffffffffffffffffffffffff00000000000000000000000000000000ffffffffffff0000fff0000000080000

/-- Fields of R176. -/
def ItEntry.ofTile (t : BitVec 64) : ItEntry :=
  { od := t.extractLsb' 0 12,
    tg := t.extractLsb' 12 4,
    queue := t.extractLsb' 16 13,
    qvalid := t.extractLsb' 29 1,
    fpath := t.extractLsb' 30 2,
    valid := t.extractLsb' 32 1 }
/-- Layout of R176. -/
def ItEntry.toTile (c : ItEntry) : BitVec 64 :=
    put 64 0 c.od |||
    put 64 12 c.tg |||
    put 64 16 c.queue |||
    put 64 29 c.qvalid |||
    put 64 30 c.fpath |||
    put 64 32 c.valid
/-- Reserved bits of R176. -/
def ItEntry.rsv : BitVec 64 := 0xfffffffe00000000

/-- Fields of R193. -/
def TgCfg.ofTile (t : BitVec 512) : TgCfg :=
  { enable := t.extractLsb' 0 1,
    owner := t.extractLsb' 1 6,
    threadMask := t.extractLsb' 8 7,
    bgMax := t.extractLsb' 15 3,
    runLimitPkt := t.extractLsb' 32 32,
    runLimitBg := t.extractLsb' 64 32,
    coreMask := t.extractLsb' 96 68 }
/-- Layout of R193, sealed. -/
def TgCfg.toTile (c : TgCfg) : Tile := sealTile
   (put 512 0 c.enable |||
    put 512 1 c.owner |||
    put 512 8 c.threadMask |||
    put 512 15 c.bgMax |||
    put 512 32 c.runLimitPkt |||
    put 512 64 c.runLimitBg |||
    put 512 96 c.coreMask)
/-- Reserved bits of R193. -/
def TgCfg.rsv : BitVec 512 := 0xfffffffffffffffffffffffffffffffffffffffffffffffffffffffffffffffffffffffffffffff000000000000000000000000000000000fffc0080

/-- Fields of R200. -/
def DispImage.ofTile (t : BitVec 256) : DispImage :=
  { ctx := t.extractLsb' 0 13,
    kind := t.extractLsb' 15 1,
    epoch := t.extractLsb' 16 8,
    retry := t.extractLsb' 24 1,
    handback := t.extractLsb' 25 1,
    slice := t.extractLsb' 26 6,
    tg := t.extractLsb' 32 4,
    prio := t.extractLsb' 36 3,
    express := t.extractLsb' 39 1,
    entry := t.extractLsb' 40 16,
    arg := t.extractLsb' 64 64,
    headLen := t.extractLsb' 128 16 }
/-- Layout of R200. -/
def DispImage.toTile (c : DispImage) : BitVec 256 :=
    put 256 0 c.ctx |||
    put 256 15 c.kind |||
    put 256 16 c.epoch |||
    put 256 24 c.retry |||
    put 256 25 c.handback |||
    put 256 26 c.slice |||
    put 256 32 c.tg |||
    put 256 36 c.prio |||
    put 256 39 c.express |||
    put 256 40 c.entry |||
    put 256 64 c.arg |||
    put 256 128 c.headLen
/-- Reserved bits of R200. -/
def DispImage.rsv : BitVec 256 := 0xffffffffffffffffffffffffffff00000000000000000000ff00000000006000

/-- Fields of R203. -/
def TaskObj.ofTile (t : BitVec 512) : TaskObj :=
  { owner := t.extractLsb' 0 6,
    tg := t.extractLsb' 6 4,
    prio := t.extractLsb' 10 3,
    entry := t.extractLsb' 16 16,
    originOd := t.extractLsb' 32 12,
    arg := t.extractLsb' 64 64,
    state := t.extractLsb' 128 3,
    pending := t.extractLsb' 131 1,
    restart := t.extractLsb' 132 1,
    runs := t.extractLsb' 160 32 }
/-- Layout of R203, sealed. -/
def TaskObj.toTile (c : TaskObj) : Tile := sealTile
   (put 512 0 c.owner |||
    put 512 6 c.tg |||
    put 512 10 c.prio |||
    put 512 16 c.entry |||
    put 512 32 c.originOd |||
    put 512 64 c.arg |||
    put 512 128 c.state |||
    put 512 131 c.pending |||
    put 512 132 c.restart |||
    put 512 160 c.runs)
/-- Reserved bits of R203. -/
def TaskObj.rsv : BitVec 512 := 0xffffffffffffffffffffffffffffffffffffffffffffffffffffffffffffffffffffffff00000000ffffffe00000000000000000fffff0000000e000

/-- Fields of R214. -/
def DispatchCfg.ofTile (t : BitVec 512) : DispatchCfg :=
  { expReserve := t.extractLsb' 0 12,
    pkTickLog20 := t.extractLsb' 16 5,
    pkTickLog21 := t.extractLsb' 24 5,
    pkTickLog22 := t.extractLsb' 32 5,
    pkTickLog23 := t.extractLsb' 40 5 }
/-- Layout of R214, sealed. -/
def DispatchCfg.toTile (c : DispatchCfg) : Tile := sealTile
   (put 512 0 c.expReserve |||
    put 512 16 c.pkTickLog20 |||
    put 512 24 c.pkTickLog21 |||
    put 512 32 c.pkTickLog22 |||
    put 512 40 c.pkTickLog23)
/-- Reserved bits of R214. -/
def DispatchCfg.rsv : BitVec 512 := 0xffffffffffffffffffffffffffffffffffffffffffffffffffffffffffffffffffffffffffffffffffffffffffffffffffffffffffffe0e0e0e0f000

/-- Fields of R215. -/
def DelayEntry.ofTile (t : BitVec 256) : DelayEntry :=
  { valid := t.extractLsb' 0 1,
    scale := t.extractLsb' 1 3,
    kind := t.extractLsb' 4 2,
    owner := t.extractLsb' 8 6,
    tag := t.extractLsb' 16 12,
    target := t.extractLsb' 32 32,
    due := t.extractLsb' 64 64,
    period := t.extractLsb' 128 64,
    fires := t.extractLsb' 192 32,
    skips := t.extractLsb' 224 32 }
/-- Layout of R215. -/
def DelayEntry.toTile (c : DelayEntry) : BitVec 256 :=
    put 256 0 c.valid |||
    put 256 1 c.scale |||
    put 256 4 c.kind |||
    put 256 8 c.owner |||
    put 256 16 c.tag |||
    put 256 32 c.target |||
    put 256 64 c.due |||
    put 256 128 c.period |||
    put 256 192 c.fires |||
    put 256 224 c.skips
/-- Reserved bits of R215. -/
def DelayEntry.rsv : BitVec 256 := 0xf000c0c0

/-- Fields of R230. -/
def OdCfg.ofTile (t : BitVec 512) : OdCfg :=
  { enable := t.extractLsb' 0 1,
    classV := t.extractLsb' 1 3,
    skipEvEn := t.extractLsb' 4 1,
    orderTimeout := t.extractLsb' 32 32 }
/-- Layout of R230, sealed. -/
def OdCfg.toTile (c : OdCfg) : Tile := sealTile
   (put 512 0 c.enable |||
    put 512 1 c.classV |||
    put 512 4 c.skipEvEn |||
    put 512 32 c.orderTimeout)
/-- Reserved bits of R230. -/
def OdCfg.rsv : BitVec 512 := 0xffffffffffffffffffffffffffffffffffffffffffffffffffffffffffffffffffffffffffffffffffffffffffffffffffffffff00000000ffffffe0

/-- Fields of R232. -/
def OdSt.ofTile (t : BitVec 512) : OdSt :=
  { nextSeq := t.extractLsb' 0 32,
    headSeq := t.extractLsb' 32 32,
    outstanding := t.extractLsb' 64 14,
    headWait := t.extractLsb' 78 1,
    headWaitNs := t.extractLsb' 96 32,
    committed := t.extractLsb' 128 32,
    dropped := t.extractLsb' 160 32,
    reedDup := t.extractLsb' 192 32,
    reedLate := t.extractLsb' 224 32,
    orderSkip := t.extractLsb' 256 32,
    poisonDrop := t.extractLsb' 288 32,
    markLostDrop := t.extractLsb' 320 32,
    reedNoBuf := t.extractLsb' 352 32,
    reedBadLen := t.extractLsb' 384 32 }
/-- Layout of R232, sealed. -/
def OdSt.toTile (c : OdSt) : Tile := sealTile
   (put 512 0 c.nextSeq |||
    put 512 32 c.headSeq |||
    put 512 64 c.outstanding |||
    put 512 78 c.headWait |||
    put 512 96 c.headWaitNs |||
    put 512 128 c.committed |||
    put 512 160 c.dropped |||
    put 512 192 c.reedDup |||
    put 512 224 c.reedLate |||
    put 512 256 c.orderSkip |||
    put 512 288 c.poisonDrop |||
    put 512 320 c.markLostDrop |||
    put 512 352 c.reedNoBuf |||
    put 512 384 c.reedBadLen)
/-- Reserved bits of R232. -/
def OdSt.rsv : BitVec 512 := 0xffffffffffffffff00000000000000000000000000000000000000000000000000000000000000000000000000000000ffff80000000000000000000

/-- Fields of R265. -/
def ProgCfg.ofTile (t : BitVec 512) : ProgCfg :=
  { enable := t.extractLsb' 0 1,
    activeTable := t.extractLsb' 1 1,
    draining := t.extractLsb' 2 1,
    progBase := t.extractLsb' 8 17,
    progTiles := t.extractLsb' 32 18,
    expBase := t.extractLsb' 56 7,
    expTiles := t.extractLsb' 64 8,
    entryTab0 := t.extractLsb' 96 17,
    entryTab1 := t.extractLsb' 128 17,
    entryCount0 := t.extractLsb' 160 13,
    entryCount1 := t.extractLsb' 176 13,
    supvEntry := t.extractLsb' 192 23,
    supvEn := t.extractLsb' 215 1 }
/-- Layout of R265, sealed. -/
def ProgCfg.toTile (c : ProgCfg) : Tile := sealTile
   (put 512 0 c.enable |||
    put 512 1 c.activeTable |||
    put 512 2 c.draining |||
    put 512 8 c.progBase |||
    put 512 32 c.progTiles |||
    put 512 56 c.expBase |||
    put 512 64 c.expTiles |||
    put 512 96 c.entryTab0 |||
    put 512 128 c.entryTab1 |||
    put 512 160 c.entryCount0 |||
    put 512 176 c.entryCount1 |||
    put 512 192 c.supvEntry |||
    put 512 215 c.supvEn)
/-- Reserved bits of R265. -/
def ProgCfg.rsv : BitVec 512 := 0xffffffffffffffffffffffffffffffffffffffffffffffffffffffffffffffffff000000e000e000fffe0000fffe0000ffffff0080fc0000fe0000f8

/-- Fields of R266. -/
def EntryWord.ofTile (t : BitVec 32) : EntryWord :=
  { valid := t.extractLsb' 0 1,
    express := t.extractLsb' 1 1,
    addr := t.extractLsb' 2 21 }
/-- Layout of R266. -/
def EntryWord.toTile (c : EntryWord) : BitVec 32 :=
    put 32 0 c.valid |||
    put 32 1 c.express |||
    put 32 2 c.addr
/-- Reserved bits of R266. -/
def EntryWord.rsv : BitVec 32 := 0xff800000

/-- Fields of R271. -/
def CoreCfg.ofTile (t : BitVec 512) : CoreCfg :=
  { lmEn := t.extractLsb' 0 8,
    lmSupv := t.extractLsb' 8 8,
    lmOwner := t.extractLsb' 16 48,
    csEn := t.extractLsb' 64 16,
    csSupv := t.extractLsb' 80 16,
    csOwner := t.extractLsb' 96 96 }
/-- Layout of R271, sealed. -/
def CoreCfg.toTile (c : CoreCfg) : Tile := sealTile
   (put 512 0 c.lmEn |||
    put 512 8 c.lmSupv |||
    put 512 16 c.lmOwner |||
    put 512 64 c.csEn |||
    put 512 80 c.csSupv |||
    put 512 96 c.csOwner)
/-- Reserved bits of R271. -/
def CoreCfg.rsv : BitVec 512 := 0xffffffffffffffffffffffffffffffffffffffffffffffffffffffffffffffffffffffff000000000000000000000000000000000000000000000000

/-- Fields of R272. -/
def CoreSt.ofTile (t : BitVec 512) : CoreSt :=
  { state := t.extractLsb' 0 3,
    stopCause := t.extractLsb' 8 8,
    stopThread := t.extractLsb' 16 3,
    coreStopCount := t.extractLsb' 32 32,
    stops24h := t.extractLsb' 64 8,
    stopPc := t.extractLsb' 96 32,
    stopAddr := t.extractLsb' 128 64,
    stopWall := t.extractLsb' 192 64,
    stopSlice := t.extractLsb' 256 6,
    stopCtx := t.extractLsb' 264 13,
    stopEpoch := t.extractLsb' 280 8,
    groups := t.extractLsb' 288 16,
    replaces := t.extractLsb' 304 7,
    dbg := t.extractLsb' 311 1 }
/-- Layout of R272, sealed. -/
def CoreSt.toTile (c : CoreSt) : Tile := sealTile
   (put 512 0 c.state |||
    put 512 8 c.stopCause |||
    put 512 16 c.stopThread |||
    put 512 32 c.coreStopCount |||
    put 512 64 c.stops24h |||
    put 512 96 c.stopPc |||
    put 512 128 c.stopAddr |||
    put 512 192 c.stopWall |||
    put 512 256 c.stopSlice |||
    put 512 264 c.stopCtx |||
    put 512 280 c.stopEpoch |||
    put 512 288 c.groups |||
    put 512 304 c.replaces |||
    put 512 311 c.dbg)
/-- Reserved bits of R272. -/
def CoreSt.rsv : BitVec 512 := 0xffffffffffffffffffffffffffffffffffffffffff00000000e000c00000000000000000000000000000000000000000ffffff0000000000fff800f8

/-- Fields of R309. -/
def HelperWord.ofTile (t : BitVec 64) : HelperWord :=
  { helper := t.extractLsb' 0 8,
    op := t.extractLsb' 8 8,
    blen := t.extractLsb' 16 7 }
/-- Layout of R309. -/
def HelperWord.toTile (c : HelperWord) : BitVec 64 :=
    put 64 0 c.helper |||
    put 64 8 c.op |||
    put 64 16 c.blen
/-- Reserved bits of R309. -/
def HelperWord.rsv : BitVec 64 := 0xffffffffff800000

/-- Fields of R344. -/
def LockCfg.ofTile (t : BitVec 512) : LockCfg :=
  { enable := t.extractLsb' 0 1,
    owner := t.extractLsb' 1 6,
    expEvEn := t.extractLsb' 7 1,
    leaseUs := t.extractLsb' 16 16 }
/-- Layout of R344, sealed. -/
def LockCfg.toTile (c : LockCfg) : Tile := sealTile
   (put 512 0 c.enable |||
    put 512 1 c.owner |||
    put 512 7 c.expEvEn |||
    put 512 16 c.leaseUs)
/-- Reserved bits of R344. -/
def LockCfg.rsv : BitVec 512 := 0xffffffffffffffffffffffffffffffffffffffffffffffffffffffffffffffffffffffffffffffffffffffffffffffffffffffffffffffff0000ff00

/-- Fields of R364. -/
def LockSt.ofTile (t : BitVec 512) : LockSt :=
  { lstate := t.extractLsb' 0 1,
    abandonPend := t.extractLsb' 1 1,
    grantKind := t.extractLsb' 2 1,
    holderCore := t.extractLsb' 8 7,
    holderThread := t.extractLsb' 16 3,
    holderSlice := t.extractLsb' 20 6,
    holderPrio := t.extractLsb' 28 4,
    waiters := t.extractLsb' 32 10,
    topPrio := t.extractLsb' 48 4,
    leaseLeftNs := t.extractLsb' 64 32,
    acquires := t.extractLsb' 96 32,
    contended := t.extractLsb' 128 32,
    abandons := t.extractLsb' 160 32,
    expiries := t.extractLsb' 192 32,
    notHeldErr := t.extractLsb' 224 32 }
/-- Layout of R364, sealed. -/
def LockSt.toTile (c : LockSt) : Tile := sealTile
   (put 512 0 c.lstate |||
    put 512 1 c.abandonPend |||
    put 512 2 c.grantKind |||
    put 512 8 c.holderCore |||
    put 512 16 c.holderThread |||
    put 512 20 c.holderSlice |||
    put 512 28 c.holderPrio |||
    put 512 32 c.waiters |||
    put 512 48 c.topPrio |||
    put 512 64 c.leaseLeftNs |||
    put 512 96 c.acquires |||
    put 512 128 c.contended |||
    put 512 160 c.abandons |||
    put 512 192 c.expiries |||
    put 512 224 c.notHeldErr)
/-- Reserved bits of R364. -/
def LockSt.rsv : BitVec 512 := 0xffffffffffffffffffffffffffffffffffffffffffffffffffffffff000000000000000000000000000000000000000000000000fff0fc000c0880f8

/-- Fields of R365. -/
def ChanCfg.ofTile (t : BitVec 512) : ChanCfg :=
  { prodCore := t.extractLsb' 0 7,
    prodThread := t.extractLsb' 8 3,
    consCore := t.extractLsb' 12 7,
    consThread := t.extractLsb' 20 3,
    msgMax := t.extractLsb' 24 4 }
/-- Layout of R365, sealed. -/
def ChanCfg.toTile (c : ChanCfg) : Tile := sealTile
   (put 512 0 c.prodCore |||
    put 512 8 c.prodThread |||
    put 512 12 c.consCore |||
    put 512 20 c.consThread |||
    put 512 24 c.msgMax)
/-- Reserved bits of R365. -/
def ChanCfg.rsv : BitVec 512 := 0xfffffffffffffffffffffffffffffffffffffffffffffffffffffffffffffffffffffffffffffffffffffffffffffffffffffffffffffffff0880880

/-- Fields of R377. -/
def TablePart.ofTile (t : BitVec 512) : TablePart :=
  { enable := t.extractLsb' 0 1,
    stQuota := t.extractLsb' 8 24,
    sePinQuota := t.extractLsb' 32 32,
    seMainQuota := t.extractLsb' 64 32,
    rtQuota := t.extractLsb' 96 32,
    lrnRing := t.extractLsb' 128 12,
    lrnEn := t.extractLsb' 140 1,
    copyBase := t.extractLsb' 192 64,
    copyMask := t.extractLsb' 256 3 }
/-- Layout of R377, sealed. -/
def TablePart.toTile (c : TablePart) : Tile := sealTile
   (put 512 0 c.enable |||
    put 512 8 c.stQuota |||
    put 512 32 c.sePinQuota |||
    put 512 64 c.seMainQuota |||
    put 512 96 c.rtQuota |||
    put 512 128 c.lrnRing |||
    put 512 140 c.lrnEn |||
    put 512 192 c.copyBase |||
    put 512 256 c.copyMask)
/-- Reserved bits of R377. -/
def TablePart.rsv : BitVec 512 := 0xfffffffffffffffffffffffffffffffffffffffffffffffffffffff80000000000000000ffffffffffffe000000000000000000000000000000000fe

/-- Fields of R379. -/
def TableCfg.ofTile (t : BitVec 512) : TableCfg :=
  { ageEn := t.extractLsb' 0 1,
    evict := t.extractLsb' 1 2,
    ageTickMs := t.extractLsb' 16 16,
    ageLimit := t.extractLsb' 32 16,
    hashSeed := t.extractLsb' 64 32 }
/-- Layout of R379, sealed. -/
def TableCfg.toTile (c : TableCfg) : Tile := sealTile
   (put 512 0 c.ageEn |||
    put 512 1 c.evict |||
    put 512 16 c.ageTickMs |||
    put 512 32 c.ageLimit |||
    put 512 64 c.hashSeed)
/-- Reserved bits of R379. -/
def TableCfg.rsv : BitVec 512 := 0xffffffffffffffffffffffffffffffffffffffffffffffffffffffffffffffffffffffffffffffffffffffffffffffff00000000ffff00000000fff8

/-- Fields of R383. -/
def Station.ofTile (t : BitVec 512) : Station :=
  { mac := t.extractLsb' 0 48,
    fid := t.extractLsb' 48 12,
    owner := t.extractLsb' 64 6,
    valid := t.extractLsb' 70 1,
    staticV := t.extractLsb' 71 1,
    port := t.extractLsb' 72 6,
    dev := t.extractLsb' 78 6,
    srcDrop := t.extractLsb' 84 1,
    dstDrop := t.extractLsb' 85 1,
    qvalid := t.extractLsb' 86 1,
    queue := t.extractLsb' 88 13,
    age := t.extractLsb' 112 16 }
/-- Layout of R383, sealed. -/
def Station.toTile (c : Station) : Tile := sealTile
   (put 512 0 c.mac |||
    put 512 48 c.fid |||
    put 512 64 c.owner |||
    put 512 70 c.valid |||
    put 512 71 c.staticV |||
    put 512 72 c.port |||
    put 512 78 c.dev |||
    put 512 84 c.srcDrop |||
    put 512 85 c.dstDrop |||
    put 512 86 c.qvalid |||
    put 512 88 c.queue |||
    put 512 112 c.age)
/-- Reserved bits of R383. -/
def Station.rsv : BitVec 512 := 0xffffffffffffffffffffffffffffffffffffffffffffffffffffffffffffffffffffffffffffffffffffffff0000ffe000800000f000000000000000

/-- Fields of R391. -/
def Stream.ofTile (t : BitVec 512) : Stream :=
  { dmac := t.extractLsb' 0 48,
    vid := t.extractLsb' 48 12,
    appid := t.extractLsb' 64 16,
    owner := t.extractLsb' 80 6,
    flags := t.extractLsb' 96 32,
    policer := t.extractLsb' 128 14,
    queue := t.extractLsb' 144 13,
    seqCfg := t.extractLsb' 192 32,
    seqState := t.extractLsb' 224 256 }
/-- Layout of R391, sealed. -/
def Stream.toTile (c : Stream) : Tile := sealTile
   (put 512 0 c.dmac |||
    put 512 48 c.vid |||
    put 512 64 c.appid |||
    put 512 80 c.owner |||
    put 512 96 c.flags |||
    put 512 128 c.policer |||
    put 512 144 c.queue |||
    put 512 192 c.seqCfg |||
    put 512 224 c.seqState)
/-- Reserved bits of R391. -/
def Stream.rsv : BitVec 512 := 0xffffffffe000c00000000000ffc00000f000000000000000

/-- Fields of R392. -/
def StreamFlags.ofTile (t : BitVec 32) : StreamFlags :=
  { valid := t.extractLsb' 0 1,
    seSimok := t.extractLsb' 1 1,
    pinned := t.extractLsb' 2 1,
    blocked := t.extractLsb' 3 1,
    qvalid := t.extractLsb' 4 1,
    user := t.extractLsb' 8 24 }
/-- Layout of R392. -/
def StreamFlags.toTile (c : StreamFlags) : BitVec 32 :=
    put 32 0 c.valid |||
    put 32 1 c.seSimok |||
    put 32 2 c.pinned |||
    put 32 3 c.blocked |||
    put 32 4 c.qvalid |||
    put 32 8 c.user
/-- Reserved bits of R392. -/
def StreamFlags.rsv : BitVec 32 := 0xe0

/-- Fields of R396. -/
def Route.ofTile (t : BitVec 512) : Route :=
  { valid := t.extractLsb' 0 1,
    af := t.extractLsb' 1 1,
    owner := t.extractLsb' 2 6,
    plen := t.extractLsb' 8 8,
    ract := t.extractLsb' 16 2,
    prefixV := t.extractLsb' 32 128,
    queue := t.extractLsb' 160 13,
    qvalid := t.extractLsb' 173 1,
    outPort := t.extractLsb' 174 6,
    destDev := t.extractLsb' 180 6,
    nhMac := t.extractLsb' 192 48,
    nhVid := t.extractLsb' 240 12,
    rcounter := t.extractLsb' 256 32 }
/-- Layout of R396, sealed. -/
def Route.toTile (c : Route) : Tile := sealTile
   (put 512 0 c.valid |||
    put 512 1 c.af |||
    put 512 2 c.owner |||
    put 512 8 c.plen |||
    put 512 16 c.ract |||
    put 512 32 c.prefixV |||
    put 512 160 c.queue |||
    put 512 173 c.qvalid |||
    put 512 174 c.outPort |||
    put 512 180 c.destDev |||
    put 512 192 c.nhMac |||
    put 512 240 c.nhVid |||
    put 512 256 c.rcounter)
/-- Reserved bits of R396. -/
def Route.rsv : BitVec 512 := 0xffffffffffffffffffffffffffffffffffffffffffffffff00000000f000000000000000fc00000000000000000000000000000000000000fffc0000

/-- Fields of R411. -/
def SeqCfg.ofTile (t : BitVec 32) : SeqCfg :=
  { mode := t.extractLsb' 0 2,
    src := t.extractLsb' 2 2,
    userOff := t.extractLsb' 4 3,
    alg := t.extractLsb' 7 1,
    winLog2 := t.extractLsb' 8 3,
    resetLog2 := t.extractLsb' 11 4,
    copyB := t.extractLsb' 15 1,
    queueB := t.extractLsb' 16 13,
    strip := t.extractLsb' 29 1 }
/-- Layout of R411. -/
def SeqCfg.toTile (c : SeqCfg) : BitVec 32 :=
    put 32 0 c.mode |||
    put 32 2 c.src |||
    put 32 4 c.userOff |||
    put 32 7 c.alg |||
    put 32 8 c.winLog2 |||
    put 32 11 c.resetLog2 |||
    put 32 15 c.copyB |||
    put 32 16 c.queueB |||
    put 32 29 c.strip
/-- Reserved bits of R411. -/
def SeqCfg.rsv : BitVec 32 := 0xc0000000

/-- Fields of R412. -/
def SeqState.ofTile (t : BitVec 256) : SeqState :=
  { history := t.extractLsb' 0 128,
    recovSeq := t.extractLsb' 128 16,
    genSeq := t.extractLsb' 144 16,
    takeAny := t.extractLsb' 160 1,
    lastT := t.extractLsb' 192 32,
    discards := t.extractLsb' 224 16,
    rogue := t.extractLsb' 240 16 }
/-- Layout of R412. -/
def SeqState.toTile (c : SeqState) : BitVec 256 :=
    put 256 0 c.history |||
    put 256 128 c.recovSeq |||
    put 256 144 c.genSeq |||
    put 256 160 c.takeAny |||
    put 256 192 c.lastT |||
    put 256 224 c.discards |||
    put 256 240 c.rogue
/-- Reserved bits of R412. -/
def SeqState.rsv : BitVec 256 := 0xfffffffe0000000000000000000000000000000000000000

/-- Fields of R423. -/
def PolicerCfg.ofTile (t : BitVec 512) : PolicerCfg :=
  { enable := t.extractLsb' 0 1,
    owner := t.extractLsb' 1 6,
    unit := t.extractLsb' 7 1,
    dropForce := t.extractLsb' 8 1,
    resetFill := t.extractLsb' 9 1,
    maxSdu := t.extractLsb' 16 14,
    rate := t.extractLsb' 32 32,
    burst := t.extractLsb' 64 25 }
/-- Layout of R423, sealed. -/
def PolicerCfg.toTile (c : PolicerCfg) : Tile := sealTile
   (put 512 0 c.enable |||
    put 512 1 c.owner |||
    put 512 7 c.unit |||
    put 512 8 c.dropForce |||
    put 512 9 c.resetFill |||
    put 512 16 c.maxSdu |||
    put 512 32 c.rate |||
    put 512 64 c.burst)
/-- Reserved bits of R423. -/
def PolicerCfg.rsv : BitVec 512 := 0xfffffffffffffffffffffffffffffffffffffffffffffffffffffffffffffffffffffffffffffffffffffffffffffffffe00000000000000c000fc00

/-- Fields of R427. -/
def PolicerSt.ofTile (t : BitVec 512) : PolicerSt :=
  { tokens := t.extractLsb' 0 64,
    conform := t.extractLsb' 64 32,
    nonconform := t.extractLsb' 96 32,
    oversize := t.extractLsb' 128 32,
    forcedDrop := t.extractLsb' 160 32 }
/-- Layout of R427, sealed. -/
def PolicerSt.toTile (c : PolicerSt) : Tile := sealTile
   (put 512 0 c.tokens |||
    put 512 64 c.conform |||
    put 512 96 c.nonconform |||
    put 512 128 c.oversize |||
    put 512 160 c.forcedDrop)
/-- Reserved bits of R427. -/
def PolicerSt.rsv : BitVec 512 := 0xffffffffffffffffffffffffffffffffffffffffffffffffffffffffffffffffffffffff000000000000000000000000000000000000000000000000

/-- Fields of R434. -/
def QueueCfg.ofTile (t : BitVec 512) : QueueCfg :=
  { enable := t.extractLsb' 0 1,
    owner := t.extractLsb' 1 6,
    port := t.extractLsb' 7 6,
    tc := t.extractLsb' 13 3,
    launch := t.extractLsb' 16 1,
    spill := t.extractLsb' 17 1,
    telemEn := t.extractLsb' 18 1,
    telemRing := t.extractLsb' 20 12,
    sampleLog2 := t.extractLsb' 32 5,
    quantum := t.extractLsb' 48 14,
    maxFrames := t.extractLsb' 64 32,
    maxBytes := t.extractLsb' 96 32,
    spillBytes := t.extractLsb' 128 32,
    spillPool := t.extractLsb' 160 6,
    spillLog2 := t.extractLsb' 172 5,
    spillBase := t.extractLsb' 192 64 }
/-- Layout of R434, sealed. -/
def QueueCfg.toTile (c : QueueCfg) : Tile := sealTile
   (put 512 0 c.enable |||
    put 512 1 c.owner |||
    put 512 7 c.port |||
    put 512 13 c.tc |||
    put 512 16 c.launch |||
    put 512 17 c.spill |||
    put 512 18 c.telemEn |||
    put 512 20 c.telemRing |||
    put 512 32 c.sampleLog2 |||
    put 512 48 c.quantum |||
    put 512 64 c.maxFrames |||
    put 512 96 c.maxBytes |||
    put 512 128 c.spillBytes |||
    put 512 160 c.spillPool |||
    put 512 172 c.spillLog2 |||
    put 512 192 c.spillBase)
/-- Reserved bits of R434. -/
def QueueCfg.rsv : BitVec 512 := 0xffffffffffffffffffffffffffffffffffffffffffffffffffffffff0000000000000000fffe0fc0000000000000000000000000c000ffe000080000

/-- Fields of R436. -/
def QEntry.ofTile (t : BitVec 512) : QEntry :=
  { desc := t.extractLsb' 0 256,
    fcsD := t.extractLsb' 256 32,
    launchTime := t.extractLsb' 288 64,
    lscale := t.extractLsb' 352 3,
    launchEn := t.extractLsb' 355 1,
    trailerEn := t.extractLsb' 356 1,
    strip := t.extractLsb' 357 1,
    copyB := t.extractLsb' 358 1,
    dram := t.extractLsb' 359 1,
    trailer := t.extractLsb' 368 48,
    enqLocal := t.extractLsb' 416 64 }
/-- Layout of R436, sealed. -/
def QEntry.toTile (c : QEntry) : Tile := sealTile
   (put 512 0 c.desc |||
    put 512 256 c.fcsD |||
    put 512 288 c.launchTime |||
    put 512 352 c.lscale |||
    put 512 355 c.launchEn |||
    put 512 356 c.trailerEn |||
    put 512 357 c.strip |||
    put 512 358 c.copyB |||
    put 512 359 c.dram |||
    put 512 368 c.trailer |||
    put 512 416 c.enqLocal)
/-- Reserved bits of R436. -/
def QEntry.rsv : BitVec 512 := 0xff000000000000000000000000000000000000000000000000000000000000000000000000000000000000000000

/-- Fields of R443. -/
def PortSched.ofTile (t : BitVec 512) : PortSched :=
  { strictMask := t.extractLsb' 0 7,
    classQuantums := t.extractLsb' 16 112,
    fabQbase := t.extractLsb' 128 13,
    fabQen := t.extractLsb' 141 1,
    prefetchLow := t.extractLsb' 144 16 }
/-- Layout of R443, sealed. -/
def PortSched.toTile (c : PortSched) : Tile := sealTile
   (put 512 0 c.strictMask |||
    put 512 16 c.classQuantums |||
    put 512 128 c.fabQbase |||
    put 512 141 c.fabQen |||
    put 512 144 c.prefetchLow)
/-- Reserved bits of R443. -/
def PortSched.rsv : BitVec 512 := 0xffffffffffffffffffffffffffffffffffffffffffffffffffffffffffffffffffffffffffffffff0000c000c000c000c000c000c000c000c000ff80

/-- Fields of R445. -/
def ShaperCfg.ofTile (t : BitVec 512) : ShaperCfg :=
  { enable := t.extractLsb' 0 1,
    resetFill := t.extractLsb' 1 1,
    overhead := t.extractLsb' 8 8,
    rate := t.extractLsb' 32 32,
    burst := t.extractLsb' 64 25 }
/-- Layout of R445, sealed. -/
def ShaperCfg.toTile (c : ShaperCfg) : Tile := sealTile
   (put 512 0 c.enable |||
    put 512 1 c.resetFill |||
    put 512 8 c.overhead |||
    put 512 32 c.rate |||
    put 512 64 c.burst)
/-- Reserved bits of R445. -/
def ShaperCfg.rsv : BitVec 512 := 0xfffffffffffffffffffffffffffffffffffffffffffffffffffffffffffffffffffffffffffffffffffffffffffffffffe00000000000000ffff00fc

/-- Fields of R452. -/
def TreadleEntry.ofTile (t : BitVec 96) : TreadleEntry :=
  { shed := t.extractLsb' 0 8,
    hold := t.extractLsb' 8 1,
    duration := t.extractLsb' 16 32,
    floorNs := t.extractLsb' 48 32 }
/-- Layout of R452. -/
def TreadleEntry.toTile (c : TreadleEntry) : BitVec 96 :=
    put 96 0 c.shed |||
    put 96 8 c.hold |||
    put 96 16 c.duration |||
    put 96 48 c.floorNs
/-- Reserved bits of R452. -/
def TreadleEntry.rsv : BitVec 96 := 0xffff0000000000000000fe00

/-- Fields of R453. -/
def TreadleHdr.ofTile (t : BitVec 512) : TreadleHdr :=
  { enable := t.extractLsb' 0 1,
    scale := t.extractLsb' 1 3,
    count := t.extractLsb' 4 11,
    baseTime := t.extractLsb' 64 64,
    cycleTime := t.extractLsb' 128 64 }
/-- Layout of R453, sealed. -/
def TreadleHdr.toTile (c : TreadleHdr) : Tile := sealTile
   (put 512 0 c.enable |||
    put 512 1 c.scale |||
    put 512 4 c.count |||
    put 512 64 c.baseTime |||
    put 512 128 c.cycleTime)
/-- Reserved bits of R453. -/
def TreadleHdr.rsv : BitVec 512 := 0xffffffffffffffffffffffffffffffffffffffffffffffffffffffffffffffffffffffff00000000000000000000000000000000ffffffffffff8000

/-- Fields of R461. -/
def TreadleSt.ofTile (t : BitVec 512) : TreadleSt :=
  { active := t.extractLsb' 0 1,
    activeScale := t.extractLsb' 1 3,
    activeCount := t.extractLsb' 4 11,
    curEntry := t.extractLsb' 16 10,
    curShed := t.extractLsb' 32 8,
    curHold := t.extractLsb' 40 1,
    heldRemainder := t.extractLsb' 41 1,
    pending := t.extractLsb' 42 2,
    activeStart := t.extractLsb' 64 64,
    pendingStart := t.extractLsb' 128 64,
    cycles := t.extractLsb' 192 64,
    floorExtend := t.extractLsb' 256 32,
    treadleSkip := t.extractLsb' 288 32,
    treadleCut := t.extractLsb' 320 32,
    treadleStep := t.extractLsb' 352 32,
    gateOverrun := t.extractLsb' 384 32 }
/-- Layout of R461, sealed. -/
def TreadleSt.toTile (c : TreadleSt) : Tile := sealTile
   (put 512 0 c.active |||
    put 512 1 c.activeScale |||
    put 512 4 c.activeCount |||
    put 512 16 c.curEntry |||
    put 512 32 c.curShed |||
    put 512 40 c.curHold |||
    put 512 41 c.heldRemainder |||
    put 512 42 c.pending |||
    put 512 64 c.activeStart |||
    put 512 128 c.pendingStart |||
    put 512 192 c.cycles |||
    put 512 256 c.floorExtend |||
    put 512 288 c.treadleSkip |||
    put 512 320 c.treadleCut |||
    put 512 352 c.treadleStep |||
    put 512 384 c.gateOverrun)
/-- Reserved bits of R461. -/
def TreadleSt.rsv : BitVec 512 := 0xffffffffffffffff0000000000000000000000000000000000000000000000000000000000000000000000000000000000000000fffff000fc008000

/-- Fields of R471. -/
def QueueSt.ofTile (t : BitVec 512) : QueueSt :=
  { depthFrames := t.extractLsb' 0 32,
    depthBytes := t.extractLsb' 32 32,
    dramFrames := t.extractLsb' 64 32,
    headAgeNs := t.extractLsb' 96 32,
    enqFrames := t.extractLsb' 128 64,
    txFrames := t.extractLsb' 192 64,
    txBytes := t.extractLsb' 256 64,
    headDrop := t.extractLsb' 320 32,
    spilled := t.extractLsb' 352 32,
    spillNoBuf := t.extractLsb' 384 32,
    deficit := t.extractLsb' 416 32 }
/-- Layout of R471, sealed. -/
def QueueSt.toTile (c : QueueSt) : Tile := sealTile
   (put 512 0 c.depthFrames |||
    put 512 32 c.depthBytes |||
    put 512 64 c.dramFrames |||
    put 512 96 c.headAgeNs |||
    put 512 128 c.enqFrames |||
    put 512 192 c.txFrames |||
    put 512 256 c.txBytes |||
    put 512 320 c.headDrop |||
    put 512 352 c.spilled |||
    put 512 384 c.spillNoBuf |||
    put 512 416 c.deficit)
/-- Reserved bits of R471. -/
def QueueSt.rsv : BitVec 512 := 0xffffffff0000000000000000000000000000000000000000000000000000000000000000000000000000000000000000000000000000000000000000

/-- Fields of R476. -/
def DramBoard.ofTile (t : BitVec 512) : DramBoard :=
  { dramEn := t.extractLsb' 0 1,
    chMask := t.extractLsb' 1 2,
    ranks := t.extractLsb' 3 1,
    width := t.extractLsb' 4 1,
    density := t.extractLsb' 5 1,
    speedMax := t.extractLsb' 6 3,
    flyByPs := t.extractLsb' 16 16 }
/-- Layout of R476, sealed. -/
def DramBoard.toTile (c : DramBoard) : Tile := sealTile
   (put 512 0 c.dramEn |||
    put 512 1 c.chMask |||
    put 512 3 c.ranks |||
    put 512 4 c.width |||
    put 512 5 c.density |||
    put 512 6 c.speedMax |||
    put 512 16 c.flyByPs)
/-- Reserved bits of R476. -/
def DramBoard.rsv : BitVec 512 := 0xffffffffffffffffffffffffffffffffffffffffffffffffffffffffffffffffffffffffffffffffffffffffffffffffffffffffffffffff0000fe00

/-- Fields of R479. -/
def DramLayout.ofTile (t : BitVec 512) : DramLayout :=
  { bufBase := t.extractLsb' 0 64,
    bufCount := t.extractLsb' 64 23 }
/-- Layout of R479, sealed. -/
def DramLayout.toTile (c : DramLayout) : Tile := sealTile
   (put 512 0 c.bufBase |||
    put 512 64 c.bufCount)
/-- Reserved bits of R479. -/
def DramLayout.rsv : BitVec 512 := 0xffffffffffffffffffffffffffffffffffffffffffffffffffffffffffffffffffffffffffffffffffffffffffffffffff8000000000000000000000

/-- Fields of R494. -/
def DramSt.ofTile (t : BitVec 512) : DramSt :=
  { state := t.extractLsb' 0 3,
    speed := t.extractLsb' 3 3,
    trainSrc := t.extractLsb' 6 1,
    hotRefresh := t.extractLsb' 7 1,
    fallbacks := t.extractLsb' 8 3,
    sizeMib := t.extractLsb' 32 32,
    refForced := t.extractLsb' 64 64,
    panicActiveNs := t.extractLsb' 128 64,
    trackUpdates := t.extractLsb' 192 32,
    agedReq := t.extractLsb' 224 32,
    ecsCounts := t.extractLsb' 256 64 }
/-- Layout of R494, sealed. -/
def DramSt.toTile (c : DramSt) : Tile := sealTile
   (put 512 0 c.state |||
    put 512 3 c.speed |||
    put 512 6 c.trainSrc |||
    put 512 7 c.hotRefresh |||
    put 512 8 c.fallbacks |||
    put 512 32 c.sizeMib |||
    put 512 64 c.refForced |||
    put 512 128 c.panicActiveNs |||
    put 512 192 c.trackUpdates |||
    put 512 224 c.agedReq |||
    put 512 256 c.ecsCounts)
/-- Reserved bits of R494. -/
def DramSt.rsv : BitVec 512 := 0xffffffffffffffffffffffffffffffffffffffff000000000000000000000000000000000000000000000000000000000000000000000000fffff800

/-- Fields of R498. -/
def CacheCfg.ofTile (t : BitVec 512) : CacheCfg :=
  { enable := t.extractLsb' 0 1,
    cleanUs := t.extractLsb' 16 16,
    wayMasks := t.extractLsb' 32 256 }
/-- Layout of R498, sealed. -/
def CacheCfg.toTile (c : CacheCfg) : Tile := sealTile
   (put 512 0 c.enable |||
    put 512 16 c.cleanUs |||
    put 512 32 c.wayMasks)
/-- Reserved bits of R498. -/
def CacheCfg.rsv : BitVec 512 := 0xffffffffffffffffffffffffffffffffffffffffffffffff00000000000000000000000000000000000000000000000000000000000000000000fffe

/-- Fields of R509. -/
def CacheSt.ofTile (t : BitVec 512) : CacheSt :=
  { state := t.extractLsb' 0 2,
    evbUsed := t.extractLsb' 2 6,
    validLines := t.extractLsb' 32 32,
    dirtyLines := t.extractLsb' 64 32,
    writebacks := t.extractLsb' 96 64,
    evbHits := t.extractLsb' 160 32,
    evbStall := t.extractLsb' 192 32,
    cleanParity := t.extractLsb' 224 32,
    discardedDirty := t.extractLsb' 256 32 }
/-- Layout of R509, sealed. -/
def CacheSt.toTile (c : CacheSt) : Tile := sealTile
   (put 512 0 c.state |||
    put 512 2 c.evbUsed |||
    put 512 32 c.validLines |||
    put 512 64 c.dirtyLines |||
    put 512 96 c.writebacks |||
    put 512 160 c.evbHits |||
    put 512 192 c.evbStall |||
    put 512 224 c.cleanParity |||
    put 512 256 c.discardedDirty)
/-- Reserved bits of R509. -/
def CacheSt.rsv : BitVec 512 := 0xffffffffffffffffffffffffffffffffffffffffffffffff0000000000000000000000000000000000000000000000000000000000000000ffffff00

/-- Fields of R511. -/
def LinkCfg.ofTile (t : BitVec 512) : LinkCfg :=
  { enable := t.extractLsb' 0 1,
    ltEn := t.extractLsb' 1 1,
    eqPreset := t.extractLsb' 2 3,
    rxPol := t.extractLsb' 8 4,
    txPol := t.extractLsb' 12 4 }
/-- Layout of R511, sealed. -/
def LinkCfg.toTile (c : LinkCfg) : Tile := sealTile
   (put 512 0 c.enable |||
    put 512 1 c.ltEn |||
    put 512 2 c.eqPreset |||
    put 512 8 c.rxPol |||
    put 512 12 c.txPol)
/-- Reserved bits of R511. -/
def LinkCfg.rsv : BitVec 512 := 0xffffffffffffffffffffffffffffffffffffffffffffffffffffffffffffffffffffffffffffffffffffffffffffffffffffffffffffffffffff00e0

/-- Fields of R512. -/
def LinkSt.ofTile (t : BitVec 512) : LinkSt :=
  { state := t.extractLsb' 0 3,
    neighId := t.extractLsb' 3 6,
    neighLink := t.extractLsb' 9 2,
    neighMode := t.extractLsb' 11 3,
    neighSerial := t.extractLsb' 32 64,
    linkDownCount := t.extractLsb' 96 32,
    resends := t.extractLsb' 128 32,
    linkCrcErr := t.extractLsb' 160 32,
    fecUncorrected := t.extractLsb' 192 32,
    retryFullNs := t.extractLsb' 224 32,
    fabricUnreach := t.extractLsb' 256 32 }
/-- Layout of R512, sealed. -/
def LinkSt.toTile (c : LinkSt) : Tile := sealTile
   (put 512 0 c.state |||
    put 512 3 c.neighId |||
    put 512 9 c.neighLink |||
    put 512 11 c.neighMode |||
    put 512 32 c.neighSerial |||
    put 512 96 c.linkDownCount |||
    put 512 128 c.resends |||
    put 512 160 c.linkCrcErr |||
    put 512 192 c.fecUncorrected |||
    put 512 224 c.retryFullNs |||
    put 512 256 c.fabricUnreach)
/-- Reserved bits of R512. -/
def LinkSt.rsv : BitVec 512 := 0xffffffffffffffffffffffffffffffffffffffffffffffff0000000000000000000000000000000000000000000000000000000000000000ffffc000

/-- Fields of R532. -/
def FabCfg.ofTile (t : BitVec 512) : FabCfg :=
  { enable := t.extractLsb' 0 1,
    root := t.extractLsb' 1 1,
    wallLink := t.extractLsb' 2 2,
    fabHoldNs := t.extractLsb' 32 32,
    cmdTimeoutUs := t.extractLsb' 64 32 }
/-- Layout of R532, sealed. -/
def FabCfg.toTile (c : FabCfg) : Tile := sealTile
   (put 512 0 c.enable |||
    put 512 1 c.root |||
    put 512 2 c.wallLink |||
    put 512 32 c.fabHoldNs |||
    put 512 64 c.cmdTimeoutUs)
/-- Reserved bits of R532. -/
def FabCfg.rsv : BitVec 512 := 0xffffffffffffffffffffffffffffffffffffffffffffffffffffffffffffffffffffffffffffffffffffffffffffffff0000000000000000fffffff0

/-- Fields of R532. -/
def FabSt.ofTile (t : BitVec 512) : FabSt :=
  { id := t.extractLsb' 0 6,
    idState := t.extractLsb' 6 2,
    twinState := t.extractLsb' 8 3,
    pathUp := t.extractLsb' 11 4,
    twinDesync := t.extractLsb' 15 1,
    fabDup := t.extractLsb' 32 32,
    fabGap := t.extractLsb' 64 32,
    fabSkip := t.extractLsb' 96 32,
    fabHops := t.extractLsb' 128 32,
    cmdLateReply := t.extractLsb' 160 32,
    rootConflict := t.extractLsb' 192 16,
    fabHbMisroute := t.extractLsb' 208 16 }
/-- Layout of R532, sealed. -/
def FabSt.toTile (c : FabSt) : Tile := sealTile
   (put 512 0 c.id |||
    put 512 6 c.idState |||
    put 512 8 c.twinState |||
    put 512 11 c.pathUp |||
    put 512 15 c.twinDesync |||
    put 512 32 c.fabDup |||
    put 512 64 c.fabGap |||
    put 512 96 c.fabSkip |||
    put 512 128 c.fabHops |||
    put 512 160 c.cmdLateReply |||
    put 512 192 c.rootConflict |||
    put 512 208 c.fabHbMisroute)
/-- Reserved bits of R532. -/
def FabSt.rsv : BitVec 512 := 0xffffffffffffffffffffffffffffffffffffffffffffffffffffffffffffffff000000000000000000000000000000000000000000000000ffff0000

/-- Fields of R537. -/
def TwinCfg.ofTile (t : BitVec 512) : TwinCfg :=
  { twinEn := t.extractLsb' 0 1,
    npaths := t.extractLsb' 1 3,
    hbPaths := t.extractLsb' 32 128 }
/-- Layout of R537, sealed. -/
def TwinCfg.toTile (c : TwinCfg) : Tile := sealTile
   (put 512 0 c.twinEn |||
    put 512 1 c.npaths |||
    put 512 32 c.hbPaths)
/-- Reserved bits of R537. -/
def TwinCfg.rsv : BitVec 512 := 0xfffffffffffffffffffffffffffffffffffffffffffffffffffffffffffffffffffffffffffffffffff80000fff80000fff80000fff80000fffffff0

/-- Fields of R548. -/
def Ident.ofTile (t : BitVec 512) : Ident :=
  { part := t.extractLsb' 0 16,
    stepping := t.extractLsb' 16 8,
    ifVer := t.extractLsb' 24 8,
    serial := t.extractLsb' 32 64,
    fwVer := t.extractLsb' 96 32,
    devId := t.extractLsb' 128 6,
    mode := t.extractLsb' 134 3,
    dramPresent := t.extractLsb' 137 1,
    activeCores := t.extractLsb' 144 7,
    spareCores := t.extractLsb' 152 7,
    devGen := t.extractLsb' 160 32 }
/-- Layout of R548, sealed. -/
def Ident.toTile (c : Ident) : Tile := sealTile
   (put 512 0 c.part |||
    put 512 16 c.stepping |||
    put 512 24 c.ifVer |||
    put 512 32 c.serial |||
    put 512 96 c.fwVer |||
    put 512 128 c.devId |||
    put 512 134 c.mode |||
    put 512 137 c.dramPresent |||
    put 512 144 c.activeCores |||
    put 512 152 c.spareCores |||
    put 512 160 c.devGen)
/-- Reserved bits of R548. -/
def Ident.rsv : BitVec 512 := 0xffffffffffffffffffffffffffffffffffffffffffffffffffffffffffffffffffffffff000000008080fc0000000000000000000000000000000000

/-- Fields of R549. -/
def BootStep.ofTile (t : BitVec 32) : BootStep :=
  { step := t.extractLsb' 0 5,
    outcome := t.extractLsb' 5 2,
    alt := t.extractLsb' 7 1,
    mode := t.extractLsb' 8 3,
    hostReady := t.extractLsb' 11 1 }
/-- Layout of R549. -/
def BootStep.toTile (c : BootStep) : BitVec 32 :=
    put 32 0 c.step |||
    put 32 5 c.outcome |||
    put 32 7 c.alt |||
    put 32 8 c.mode |||
    put 32 11 c.hostReady
/-- Reserved bits of R549. -/
def BootStep.rsv : BitVec 32 := 0xfffff000

/-- Fields of R553. -/
def SliceCfg.ofTile (t : BitVec 512) : SliceCfg :=
  { enable := t.extractLsb' 0 1,
    pasidEn := t.extractLsb' 1 1,
    pasid := t.extractLsb' 2 20,
    sqLog2 := t.extractLsb' 24 4,
    cqLog2 := t.extractLsb' 28 4,
    sqBase := t.extractLsb' 32 64,
    cqBase := t.extractLsb' 96 64,
    evtBase := t.extractLsb' 160 64,
    evtRing := t.extractLsb' 224 12,
    evtEn := t.extractLsb' 236 1,
    vecBase := t.extractLsb' 240 8,
    vecCount := t.extractLsb' 248 8,
    winBase := t.extractLsb' 256 64,
    winMib := t.extractLsb' 320 32,
    winCid := t.extractLsb' 352 4 }
/-- Layout of R553, sealed. -/
def SliceCfg.toTile (c : SliceCfg) : Tile := sealTile
   (put 512 0 c.enable |||
    put 512 1 c.pasidEn |||
    put 512 2 c.pasid |||
    put 512 24 c.sqLog2 |||
    put 512 28 c.cqLog2 |||
    put 512 32 c.sqBase |||
    put 512 96 c.cqBase |||
    put 512 160 c.evtBase |||
    put 512 224 c.evtRing |||
    put 512 236 c.evtEn |||
    put 512 240 c.vecBase |||
    put 512 248 c.vecCount |||
    put 512 256 c.winBase |||
    put 512 320 c.winMib |||
    put 512 352 c.winCid)
/-- Reserved bits of R553. -/
def SliceCfg.rsv : BitVec 512 := 0xfffffffffffffffffffffffffffffff00000000000000000000000000000e00000000000000000000000000000000000000000000000000000c00000

/-- Fields of R555. -/
def SliceSt.ofTile (t : BitVec 512) : SliceSt :=
  { state := t.extractLsb' 0 3,
    sqHalted := t.extractLsb' 3 1,
    haltCause := t.extractLsb' 4 2,
    sqFetch := t.extractLsb' 16 13,
    cqResv := t.extractLsb' 32 13,
    cmdAccepted := t.extractLsb' 64 32,
    cmdReplayed := t.extractLsb' 96 32,
    cmdRejected := t.extractLsb' 128 32,
    replyOrphan := t.extractLsb' 160 32,
    dmaErr := t.extractLsb' 192 32,
    sqHalts := t.extractLsb' 224 16,
    doorbellBad := t.extractLsb' 240 16 }
/-- Layout of R555, sealed. -/
def SliceSt.toTile (c : SliceSt) : Tile := sealTile
   (put 512 0 c.state |||
    put 512 3 c.sqHalted |||
    put 512 4 c.haltCause |||
    put 512 16 c.sqFetch |||
    put 512 32 c.cqResv |||
    put 512 64 c.cmdAccepted |||
    put 512 96 c.cmdReplayed |||
    put 512 128 c.cmdRejected |||
    put 512 160 c.replyOrphan |||
    put 512 192 c.dmaErr |||
    put 512 224 c.sqHalts |||
    put 512 240 c.doorbellBad)
/-- Reserved bits of R555. -/
def SliceSt.rsv : BitVec 512 := 0xffffffffffffffffffffffffffffffffffffffffffffffffffffffff000000000000000000000000000000000000000000000000ffffe000e000ffc0

/-- Fields of R575. -/
def HrCfg.ofTile (t : BitVec 512) : HrCfg :=
  { enable := t.extractLsb' 0 1,
    dir := t.extractLsb' 1 1,
    selfDrain := t.extractLsb' 2 1,
    metaEn := t.extractLsb' 3 1,
    depthLog2 := t.extractLsb' 4 5,
    owner := t.extractLsb' 9 6,
    vecOff := t.extractLsb' 16 6,
    pollUs := t.extractLsb' 32 10,
    base := t.extractLsb' 64 64 }
/-- Layout of R575, sealed. -/
def HrCfg.toTile (c : HrCfg) : Tile := sealTile
   (put 512 0 c.enable |||
    put 512 1 c.dir |||
    put 512 2 c.selfDrain |||
    put 512 3 c.metaEn |||
    put 512 4 c.depthLog2 |||
    put 512 9 c.owner |||
    put 512 16 c.vecOff |||
    put 512 32 c.pollUs |||
    put 512 64 c.base)
/-- Reserved bits of R575. -/
def HrCfg.rsv : BitVec 512 := 0xffffffffffffffffffffffffffffffffffffffffffffffffffffffffffffffffffffffffffffffffffffffff0000000000000000fffffc00ffc08000

/-- Fields of R600. -/
def DevCfg.ofTile (t : BitVec 512) : DevCfg :=
  { mgmtEn := t.extractLsb' 0 1,
    mgmtSlice := t.extractLsb' 1 6,
    mgmtPeer := t.extractLsb' 8 48 }
/-- Layout of R600, sealed. -/
def DevCfg.toTile (c : DevCfg) : Tile := sealTile
   (put 512 0 c.mgmtEn |||
    put 512 1 c.mgmtSlice |||
    put 512 8 c.mgmtPeer)
/-- Reserved bits of R600. -/
def DevCfg.rsv : BitVec 512 := 0xffffffffffffffffffffffffffffffffffffffffffffffffffffffffffffffffffffffffffffffffffffffffffffffffffffffffff00000000000080

/-- Fields of R603. -/
def WallSt.ofTile (t : BitVec 512) : WallSt :=
  { wallNow := t.extractLsb' 0 64,
    fadj := t.extractLsb' 64 64,
    wallUnsync := t.extractLsb' 128 1,
    grandmaster := t.extractLsb' 129 1,
    ptpPort := t.extractLsb' 130 6,
    lastOffsetNs := t.extractLsb' 160 32,
    ppsReject := t.extractLsb' 192 32,
    ptpMgmtDrop := t.extractLsb' 224 32,
    wallSteps := t.extractLsb' 256 32 }
/-- Layout of R603, sealed. -/
def WallSt.toTile (c : WallSt) : Tile := sealTile
   (put 512 0 c.wallNow |||
    put 512 64 c.fadj |||
    put 512 128 c.wallUnsync |||
    put 512 129 c.grandmaster |||
    put 512 130 c.ptpPort |||
    put 512 160 c.lastOffsetNs |||
    put 512 192 c.ppsReject |||
    put 512 224 c.ptpMgmtDrop |||
    put 512 256 c.wallSteps)
/-- Reserved bits of R603. -/
def WallSt.rsv : BitVec 512 := 0xffffffffffffffffffffffffffffffffffffffffffffffff00000000000000000000000000000000ffffff0000000000000000000000000000000000

/-- Fields of R604. -/
def PtpClock.ofTile (t : BitVec 512) : PtpClock :=
  { clockType := t.extractLsb' 0 3,
    domain := t.extractLsb' 8 8,
    priority1 := t.extractLsb' 16 8,
    priority2 := t.extractLsb' 24 8,
    clockClass := t.extractLsb' 32 8,
    announceTimeout := t.extractLsb' 40 4 }
/-- Layout of R604, sealed. -/
def PtpClock.toTile (c : PtpClock) : Tile := sealTile
   (put 512 0 c.clockType |||
    put 512 8 c.domain |||
    put 512 16 c.priority1 |||
    put 512 24 c.priority2 |||
    put 512 32 c.clockClass |||
    put 512 40 c.announceTimeout)
/-- Reserved bits of R604. -/
def PtpClock.rsv : BitVec 512 := 0xfffffffffffffffffffffffffffffffffffffffffffffffffffffffffffffffffffffffffffffffffffffffffffffffffffffffffffff000000000f8

/-- Fields of R605. -/
def PtpPort.ofTile (t : BitVec 512) : PtpPort :=
  { enable := t.extractLsb' 0 1,
    delayMech := t.extractLsb' 1 1,
    transport := t.extractLsb' 2 2,
    oneStep := t.extractLsb' 4 1,
    logSync := t.extractLsb' 8 8,
    logAnnounce := t.extractLsb' 16 8,
    logPdelay := t.extractLsb' 24 8,
    asymNs := t.extractLsb' 32 32 }
/-- Layout of R605, sealed. -/
def PtpPort.toTile (c : PtpPort) : Tile := sealTile
   (put 512 0 c.enable |||
    put 512 1 c.delayMech |||
    put 512 2 c.transport |||
    put 512 4 c.oneStep |||
    put 512 8 c.logSync |||
    put 512 16 c.logAnnounce |||
    put 512 24 c.logPdelay |||
    put 512 32 c.asymNs)
/-- Reserved bits of R605. -/
def PtpPort.rsv : BitVec 512 := 0xffffffffffffffffffffffffffffffffffffffffffffffffffffffffffffffffffffffffffffffffffffffffffffffffffffffff00000000000000e0

/-- Fields of R606. -/
def PtpSt.ofTile (t : BitVec 512) : PtpSt :=
  { portState := t.extractLsb' 0 4,
    meanDelayNs := t.extractLsb' 32 32,
    parentId := t.extractLsb' 64 64,
    stepsRemoved := t.extractLsb' 128 16,
    syncRx := t.extractLsb' 160 32,
    announceRx := t.extractLsb' 192 32,
    delayRx := t.extractLsb' 224 32,
    timeouts := t.extractLsb' 256 32 }
/-- Layout of R606, sealed. -/
def PtpSt.toTile (c : PtpSt) : Tile := sealTile
   (put 512 0 c.portState |||
    put 512 32 c.meanDelayNs |||
    put 512 64 c.parentId |||
    put 512 128 c.stepsRemoved |||
    put 512 160 c.syncRx |||
    put 512 192 c.announceRx |||
    put 512 224 c.delayRx |||
    put 512 256 c.timeouts)
/-- Reserved bits of R606. -/
def PtpSt.rsv : BitVec 512 := 0xffffffffffffffffffffffffffffffffffffffffffffffff00000000000000000000000000000000ffff0000000000000000000000000000fffffff0

/-- Fields of R611. -/
def PoolSt.ofTile (t : BitVec 512) : PoolSt :=
  { freeCount := t.extractLsb' 0 32,
    held := t.extractLsb' 32 32,
    lowFree := t.extractLsb' 64 32,
    allocFail := t.extractLsb' 96 32,
    doubleFree := t.extractLsb' 128 32,
    badHandle := t.extractLsb' 160 32,
    notOwner := t.extractLsb' 192 32,
    refOverflow := t.extractLsb' 224 32,
    recParity := t.extractLsb' 256 32,
    lostBuf := t.extractLsb' 288 32 }
/-- Layout of R611, sealed. -/
def PoolSt.toTile (c : PoolSt) : Tile := sealTile
   (put 512 0 c.freeCount |||
    put 512 32 c.held |||
    put 512 64 c.lowFree |||
    put 512 96 c.allocFail |||
    put 512 128 c.doubleFree |||
    put 512 160 c.badHandle |||
    put 512 192 c.notOwner |||
    put 512 224 c.refOverflow |||
    put 512 256 c.recParity |||
    put 512 288 c.lostBuf)
/-- Reserved bits of R611. -/
def PoolSt.rsv : BitVec 512 := 0xffffffffffffffffffffffffffffffffffffffff00000000000000000000000000000000000000000000000000000000000000000000000000000000

/-- Fields of R626. -/
def BootRec.ofTile (t : BitVec 512) : BootRec :=
  { targetMode := t.extractLsb' 0 3,
    autoRestartS := t.extractLsb' 16 16,
    m0Mac := t.extractLsb' 32 48,
    subsysVendor := t.extractLsb' 80 16,
    subsysId := t.extractLsb' 96 16,
    linkEn := t.extractLsb' 112 4,
    fabPreset := t.extractLsb' 116 12,
    fabAltPreset := t.extractLsb' 128 12 }
/-- Layout of R626, sealed. -/
def BootRec.toTile (c : BootRec) : Tile := sealTile
   (put 512 0 c.targetMode |||
    put 512 16 c.autoRestartS |||
    put 512 32 c.m0Mac |||
    put 512 80 c.subsysVendor |||
    put 512 96 c.subsysId |||
    put 512 112 c.linkEn |||
    put 512 116 c.fabPreset |||
    put 512 128 c.fabAltPreset)
/-- Reserved bits of R626. -/
def BootRec.rsv : BitVec 512 := 0xfffffffffffffffffffffffffffffffffffffffffffffffffffffffffffffffffffffffffffffffffffff0000000000000000000000000000000fff8

end Sys2Proof.Machine
end

