-- ==== Sys2Proof/Machine/Ops.lean ====
section
/-!
DEFINITION. The named reads and writes of the state that every meaning uses: the object tables, counters,
generations, codes, free values and outputs.
-/
namespace Sys2Proof.Machine

/-- What a command answers. -/
abbrev Out := Host.Outcome State Fault Refusal

/-- The end of a command: the new state, unless the device has stopped (R632, R661), which takes no command. -/
def ok (s t : State) : Out := .next (if s.sys.stopped then s else t)

/-! ## Codes -/

/-- Mode code of R635. -/
def Mode.code : Mode → BitVec 3
  | .boot => 0 | .commission => 1 | .run => 2 | .shadow => 3 | .hold => 4 | .safe => 5

/-- The mode a code names (R635); 6 and 7 are reserved. -/
def Mode.ofCode (v : Nat) : Option Mode :=
  match v with
  | 0 => some .boot | 1 => some .commission | 2 => some .run | 3 => some .shadow | 4 => some .hold | 5 => some .safe
  | _ => none

/-- Status code of R598. -/
def Status.code : Status → BitVec 16
  | .ok => 0x0000 | .pending => 0x0001 | .replayed => 0x0002 | .badOpcode => 0x0100 | .badCheck => 0x0101
  | .badLength => 0x0102 | .badParam => 0x0103 | .notOwner => 0x0200 | .staleGeneration => 0x0201
  | .wrongMode => 0x0202 | .notQuiesced => 0x0203 | .noRoom => 0x0300 | .busy => 0x0301 | .dirtyPresent => 0x0302
  | .unreachable => 0x0400 | .timeout => 0x0401 | .internal => 0x0500

/-- Whether the data path runs: cores and Reed of R35. -/
def Mode.live : Mode → Bool
  | .commission | .run | .shadow => true
  | _ => false

/-! ## Tables -/

/-- A port by its code. -/
def State.port (s : State) (p : Nat) : PortState := Tab.get {} s.ports p
/-- Change a port. -/
def State.modPort (s : State) (p : Nat) (f : PortState → PortState) : State :=
  { s with ports := Tab.upd {} s.ports p f }
/-- A general ring. -/
def State.ring (s : State) (r : Nat) : GenRing := Tab.get {} s.buf.rings r
/-- Change a general ring. -/
def State.modRing (s : State) (r : Nat) (f : GenRing → GenRing) : State :=
  { s with buf.rings := Tab.upd {} s.buf.rings r f }
/-- A port's warp rings. -/
def State.warp (s : State) (p : Nat) : WarpPair := Tab.get {} s.buf.warps p
/-- Change a port's warp rings. -/
def State.modWarp (s : State) (p : Nat) (f : WarpPair → WarpPair) : State :=
  { s with buf.warps := Tab.upd {} s.buf.warps p f }
/-- A pool. -/
def State.pool (s : State) (b : Nat) : Pool := Tab.get {} s.buf.pools b
/-- Change a pool. -/
def State.modPool (s : State) (b : Nat) (f : Pool → Pool) : State :=
  { s with buf.pools := Tab.upd {} s.buf.pools b f }
/-- The record of a cell or, at 2^22 + index, of a buffer. -/
def State.cell (s : State) (i : Nat) : CellRec := Tab.get {} s.buf.recs i
/-- Change a cell record. -/
def State.modCell (s : State) (i : Nat) (f : CellRec → CellRec) : State :=
  { s with buf.recs := Tab.upd {} s.buf.recs i f }
/-- A slice. -/
def State.sl (s : State) (n : Nat) : SliceHost := Tab.get {} s.host.slices n
/-- Change a slice. -/
def State.modSl (s : State) (n : Nat) (f : SliceHost → SliceHost) : State :=
  { s with host.slices := Tab.upd {} s.host.slices n f }
/-- A host DMA ring. -/
def State.hr (s : State) (r : Nat) : HostRing := Tab.get {} s.host.rings r
/-- Change a host DMA ring. -/
def State.modHr (s : State) (r : Nat) (f : HostRing → HostRing) : State :=
  { s with host.rings := Tab.upd {} s.host.rings r f }
/-- A pick clock. -/
def State.pick (s : State) (k : Nat) : PickState := Tab.get {} s.time.picks k
/-- Change a pick clock. -/
def State.modPick (s : State) (k : Nat) (f : PickState → PickState) : State :=
  { s with time.picks := Tab.upd {} s.time.picks k f }
/-- A port's PTP status. -/
def State.ptpSt (s : State) (p : Nat) : PtpSt := Tab.get {} s.time.ptpSt p
/-- Change a port's PTP status. -/
def State.modPtpSt (s : State) (p : Nat) (f : PtpSt → PtpSt) : State :=
  { s with time.ptpSt := Tab.upd {} s.time.ptpSt p f }

/-- A MODE of a four-lane port (R96). -/
def fourLane (m : BitVec 4) : Bool := m == 6 || m == 7
/-- A lane whose number a four-lane port has taken: it does not exist (R13). Where MODE 6 or 7 was written while another
lane still had ENABLE 1, that lane goes on existing until its ENABLE is 0 (DESIGN CHOICE, log entry 86). -/
def State.absorbed (s : State) (p : Nat) : Bool :=
  p < 32 && p % 4 ≠ 0 && fourLane (s.port (p / 4 * 4)).cfg.mode && (s.port p).cfg.enable = 0

/-! ## Ruleset banks (R158, R185) -/

/-- A bank: `true` names bank 1. -/
def State.bank (s : State) (b : Bool) : RuleBank := if b then s.rules.bank1 else s.rules.bank0
/-- Change a bank. -/
def State.modBank (s : State) (b : Bool) (f : RuleBank → RuleBank) : State :=
  if b then { s with rules.bank1 := f s.rules.bank1 } else { s with rules.bank0 := f s.rules.bank0 }
/-- The current bank. -/
def State.curBank (s : State) : RuleBank := s.bank s.rules.cur
/-- The bank that a version names: the current one, or the one that drains (R187). -/
def State.bankOf (s : State) (v : BitVec 8) : Bool := if s.curBank.version = v then s.rules.cur else !s.rules.cur
/-- A packet has left the device: the count of its bank falls (R185). -/
def State.leaveBank (s : State) (v : BitVec 8) : State :=
  s.modBank (s.bankOf v) fun b => { b with inflight := b.inflight - 1 }

/-- One more thing keeps a packet in the device (R185). -/
def State.legAdd (s : State) : Option Nat → State
  | none => s
  | some k => { s with rules.legs := Tab.upd 0 s.rules.legs k (· + 1) }
/-- One thing less keeps a packet in the device; with the last the packet has left its bank. -/
def State.legGone (s : State) : Option Nat → State
  | none => s
  | some k =>
    let n := Tab.get 0 s.rules.legs k
    let s1 := { s with rules.legs := Tab.set 0 s.rules.legs k (n - 1) }
    if n = 1 then s1.leaveBank (BitVec.ofNat 8 k) else s1

/-! ## Counters (64 bits, saturating) -/

/-- Where a counter of index `i` lies. -/
def ctrKey (c : Ctr) (i : Nat) : Nat := c.ctorIdx * 65536 + i
/-- A counter. -/
def State.count (s : State) (c : Ctr) (i : Nat) : Word := Tab.get 0 s.host.ctr (ctrKey c i)
/-- Add to a counter, saturating. -/
def State.bumpBy (s : State) (c : Ctr) (i k : Nat) : State :=
  { s with host.ctr := Tab.upd 0 s.host.ctr (ctrKey c i) fun v => satAdd v k }
/-- Add one to a counter. -/
def State.bump (s : State) (c : Ctr) (i : Nat) : State := s.bumpBy c i 1

/-! ## Generations (R567) -/

/-- The next generation: modulo 2^32, skipping 0 and 0xFFFF_FFFF. -/
def nextGen (g : Word32) : Word32 :=
  if g + 1 = 0 ∨ g + 1 = 0xFFFFFFFF then 1 else g + 1

/-- Where an object's generation lies. -/
def genKey (k : ObjKey) : Nat := k.1.ctorIdx * 2 ^ 24 + k.2
/-- An object's generation; 1 after reset. -/
def State.gen (s : State) (k : ObjKey) : Word32 := Tab.get 1 s.host.gens (genKey k)
/-- One change of an object. -/
def State.bumpGen (s : State) (k : ObjKey) : State :=
  { s with host.gens := Tab.upd 1 s.host.gens (genKey k) nextGen }
/-- One change of each object of a list. -/
def State.bumpGens (s : State) (ks : List ObjKey) : State := ks.foldl State.bumpGen s

/-! ## Free values and outputs -/

/-- Advance the count of free values; the value drawn is an opaque function of the old count. -/
def State.drawn (s : State) : State := { s with time.free := s.time.free + 1 }

/-- Append to what the device has sent outward. -/
def State.emit (s : State) (o : Output) : State := { s with out := s.out ++ [o] }

/-- A frame that the device itself sends leaves a port and counts there (R121). -/
def State.sendOwn (s : State) (p : Nat) (f : List Byte) : State :=
  ((s.emit (.frame p f)).bump .txFrames p).bumpBy .txBytes p f.length

/-- The device's own fabric ID is kept with the fabric; the operating mode as a code. -/
def State.modeCode (s : State) : BitVec 3 := s.sys.mode.code

end Sys2Proof.Machine
end

