-- ==== Sys2Proof/Machine/Time.lean ====
section
/-!
DEFINITION. Reading time: the local oscillator, the wall counter (R63), the segments of the pick clocks (R72) and
conversion between the scales (R74). What changes a pick clock's rate is in Clocks.lean.
-/
namespace Sys2Proof.Machine

/-- The local time in ns. -/
def State.now (s : State) : Nat := s.time.now
/-- The wall time. -/
def State.wall (s : State) : Word := s.time.wall

/-- FADJ as a signed number of 2^-32 ns/ns (R63). -/
def State.fadj (s : State) : Int := s.time.st.fadj.toInt

/-- The wall counter with its fraction, in 2^-32 ns. -/
def TimeState.fine (t : TimeState) : Int := t.wall.toNat * 2 ^ 32 + t.frac.toNat

/-- The wall counter `d` ns of the local oscillator later (R63). -/
def TimeState.fineAfter (t : TimeState) (d : Int) : Int := t.fine + d * (2 ^ 32 + t.st.fadj.toInt)

/-- Local time passes: the counter advances by 1 + FADJ for each ns (R63). -/
def TimeState.advance (t : TimeState) (d : Nat) : TimeState :=
  { t with now := t.now + d
           wall := BitVec.ofInt 64 (t.fineAfter d / 2 ^ 32)
           frac := BitVec.ofInt 32 (t.fineAfter d) }

/-- A bit for each pick clock. -/
def TimeState.clockBits (t : TimeState) (f : PickState → Bool) : BitVec 4 :=
  let b (k : Nat) : BitVec 1 := bit (f (Tab.get {} t.picks k))
  b 3 ++ b 2 ++ b 1 ++ b 0

/-- Whether a clock runs: any state but DISABLED (R82). -/
def PickState.on (p : PickState) : Bool := p.st.state != 0

/-- The present instant as the record of the past keeps it. -/
def TimeState.present (t : TimeState) : Past where
  at' := t.now
  wall := t.wall
  frac := t.frac
  fadj := t.st.fadj
  unsync := t.st.wallUnsync
  on := t.clockBits PickState.on
  hold := t.clockBits fun p => p.st.state == 4 || p.st.state == 5

/-- The counter of a record, in 2^-32 ns, at a local time in ps, times 1,000. -/
def Past.fine (e : Past) (ps : Int) : Int :=
  ((e.wall.toNat * 2 ^ 32 + e.frac.toNat : Nat) : Int) * 1000 + (ps - e.at' * 1000) * (2 ^ 32 + e.fadj.toInt)

/-- The present instant is recorded unless it lies on the line of the last record with the same flags. -/
def TimeState.noted (t : TimeState) : TimeState :=
  let n := t.present
  match t.past with
  | [] => { t with past := [n] }
  | e :: _ =>
    if e.fadj = n.fadj ∧ e.unsync = n.unsync ∧ e.on = n.on ∧ e.hold = n.hold ∧
        e.fine (t.now * 1000) = n.fine (t.now * 1000) then t
    else { t with past := (n :: t.past).take 64 }

/-- The record in force at a local time in ps; the present one from the present instant on. -/
def State.pastAt (s : State) (ps : Int) : Past :=
  if s.now * 1000 ≤ ps then s.time.present
  else (s.time.past.find? fun e => decide ((e.at' : Int) * 1000 ≤ ps)).getD (s.time.past.getLastD s.time.present)

/-- The wall time at a local time in ps, rounded to 1 ns (R113). -/
def State.wallAt (s : State) (ps : Int) : Word :=
  BitVec.ofInt 64 (((s.pastAt ps).fine ps + 500 * 2 ^ 32) / (1000 * 2 ^ 32))

/-- The divisor of R72: 2^12 × 10^9. -/
def pickDiv : Nat := 4096000000000

/-- Pick time and remainder of a segment, `d` ns after its anchor (R72). -/
def Seg.run (g : Seg) (d : Nat) : Nat × Nat :=
  (g.pickA.toNat + (g.rem + d * g.freq.toNat) / pickDiv, (g.rem + d * g.freq.toNat) % pickDiv)

/-- The segment that holds a local time: the newest whose anchor is not after it. -/
def segAt (t : Nat) : List Seg → Option Seg
  | [] => none
  | [g] => some g
  | g :: r => if g.localA ≤ t then some g else segAt t r

/-- A running clock's pick time at a local time (R72). -/
def PickState.at (p : PickState) (t : Nat) : Nat :=
  match segAt t p.segs with
  | some g => (g.run (t - g.localA)).1
  | none => 0

/-- A clock's pick time at a local time, of its last run where it was disabled since. -/
def PickState.stampAt (p : PickState) (t : Nat) : Nat :=
  if p.old ≠ [] ∧ (p.segs.getLast?).all (fun g => decide (t < g.localA)) then
    (match segAt t p.old with | some g => (g.run (t - g.localA)).1 | none => 0)
  else p.at t

/-- TS_PKn of a timestamp: the pick time, or all ones when the clock was not enabled then (R23). -/
def State.pickStamp (s : State) (k t : Nat) : Word :=
  if (s.pastAt (t * 1000)).on.getLsbD k then BitVec.ofNat 64 ((s.pick k).stampAt t) else BitVec.allOnes 64

/-- The pick time now. -/
def State.pickNow (s : State) (k : Nat) : Nat := (s.pick k).at s.now

/-- Result of a conversion (R74): 0 OK, 1 PREDICTED, 2 OUT_OF_HISTORY, 3 DISABLED. -/
structure Conv where
  value : Nat
  status : Nat
deriving DecidableEq, Repr

/-- The segment of a wall time: the newest whose anchor is not after it. -/
def segOfWall (w : Nat) : List Seg → Option Seg
  | [] => none
  | g :: r => if g.wallA.toNat ≤ w then some g else segOfWall w r

/-- The kept segments of a clock since the last step of wall time, newest first (R74). -/
def State.kept (s : State) (k : Nat) : List Seg := (s.pick k).segs.filter fun g => decide (s.time.stepAt ≤ g.localA)

/-- Wall time to pick time (R74). -/
def State.wallToPick (s : State) (k w : Nat) : Conv :=
  if !(s.pick k).on then ⟨0, 3⟩
  else if w < s.time.lastStep.toNat then ⟨0, 2⟩
  else match segOfWall w (s.kept k) with
    | none => ⟨0, 2⟩
    | some g => ⟨(g.run (w - g.wallA.toNat)).1, if s.wall.toNat < w then 1 else 0⟩

/-- The first wall time at which the segments, oldest first, reach a pick time (R74); `none` before the oldest. -/
def firstReach (p : Nat) : List Seg → Option Nat
  | [] => none
  | g :: r =>
    if p < g.pickA.toNat then none
    else
      let t := g.wallA.toNat + ((p - g.pickA.toNat) * pickDiv - g.rem + (g.freq.toNat - 1)) / g.freq.toNat
      match r with
      | [] => some t
      | h :: _ => if p ≤ h.pickA.toNat then some (min t h.wallA.toNat) else firstReach p r

/-- Pick time to wall time (R74). -/
def State.pickToWall (s : State) (k p : Nat) : Conv :=
  if !(s.pick k).on then ⟨0, 3⟩
  else match firstReach p (s.kept k).reverse with
    | none => ⟨0, 2⟩
    | some t => if t < s.time.lastStep.toNat then ⟨0, 2⟩ else ⟨t, if s.wall.toNat < t then 1 else 0⟩

/-- Conversion between two time scales (R11): 0 is wall time, 1 to 4 are PK0 to PK3. Between two pick clocks it goes
through wall time, and the worse status stands. -/
def State.convert (s : State) (src dst v : Nat) : Conv :=
  if src = dst then (if src ≠ 0 ∧ !(s.pick (src - 1)).on then ⟨0, 3⟩ else ⟨v, 0⟩)
  else if src = 0 then s.wallToPick (dst - 1) v
  else if dst = 0 then s.pickToWall (src - 1) v
  else
    let a := s.pickToWall (src - 1) v
    if a.status ≥ 2 then a
    else
      let b := s.wallToPick (dst - 1) a.value
      if b.status ≥ 2 then b else ⟨b.value, max a.status b.status⟩

/-- The present reading of a time scale (R11). -/
def State.scaleNow (s : State) (c : Nat) : Nat := if c = 0 then s.wall.toNat else s.pickNow (c - 1)

/-- Whether a scale reads a time or more at a local time in ps (R94, R115). -/
def State.dueAt (s : State) (c t : Nat) (ps : Int) : Bool :=
  if c = 0 then t ≤ (s.wallAt ps).toNat
  else (s.pick (c - 1)).on && decide (t ≤ (s.pick (c - 1)).at (ps / 1000).toNat)

/-- An event scheduled at a time of a scale is due once the scale reads it or more (R94). -/
def State.due (s : State) (c t : Nat) : Bool := (c = 0 || (s.pick (c - 1)).on) && t ≤ s.scaleNow c

end Sys2Proof.Machine
end

