-- ==== Sys2Proof/Machine/Threads.lean ====
section
/-!
DEFINITION. The threads of the Weft cores as the rest of the device sees them: registers, event lines (R261 to R263),
and the stop of a core (R273 to R275).
-/
namespace Sys2Proof.Machine

/-- The device's fabric ID (R512). -/
def State.devId (s : State) : BitVec 6 := s.fab.st.id

/-- A core. -/
def State.core (s : State) (c : Nat) : Core := Tab.get {} s.weft.cores c
/-- Change a core. -/
def State.modCore (s : State) (c : Nat) (f : Core → Core) : State :=
  { s with weft.cores := Tab.upd {} s.weft.cores c f }
/-- A thread of a core. -/
def Core.th (k : Core) (t : Nat) : Thread := Tab.get {} k.threads t
/-- A thread. -/
def State.th (s : State) (c t : Nat) : Thread := (s.core c).th t
/-- Change a thread. -/
def State.modTh (s : State) (c t : Nat) (f : Thread → Thread) : State :=
  s.modCore c fun k => { k with threads := Tab.upd {} k.threads t f }

/-- Bytes are written into a core's local memory: a word that is wholly written has good parity again (DESIGN CHOICE for a
word written in part, which stays bad: log entry 83). -/
def Core.lmPut (k : Core) (a : Nat) (bs : List Byte) : Core :=
  { k with lmem := Mem.write k.lmem a bs
           badWords := k.badWords.filter fun w => !(decide (a ≤ 8 * w) && decide (8 * w + 8 ≤ a + bs.length)) }

/-- A general register; g0 reads zero (R286). -/
def Thread.reg (h : Thread) (r : BitVec 5) : Word := if r = 0 then 0 else Tab.get 0 h.regs r.toNat
/-- Write a general register; a result written to g0 is discarded (R285). -/
def Thread.setReg (h : Thread) (r : BitVec 5) (v : Word) : Thread :=
  if r = 0 then h else { h with regs := Tab.set 0 h.regs r.toNat v, badRegs := h.badRegs.filter (· ≠ r.toNat) }

/-- A thread waits on event lines, halted or not. -/
def Thread.inEvwait (h : Thread) : Bool := h.st == .evwait || (h.st == .halted && h.from' == .evwait)

/-- An `evwait` whose condition is met takes its lines (R263). -/
def Thread.evTake (h : Thread) : Thread :=
  { h.setReg h.evDest ((h.evPend &&& h.evMask).setWidth 64) with evPend := h.evPend &&& ~~~ h.evMask }

/-- A waiting `evwait` completes once a masked line is pending; a HALTED thread keeps the condition for its resume. -/
def Thread.evWake (h : Thread) : Thread :=
  if h.st = .evwait ∧ h.evPend &&& h.evMask ≠ 0 then { h.evTake with st := .running } else h

/-- Whether a thread runs a task of a slice. -/
def Thread.runs (h : Thread) (slice : Nat) : Bool :=
  match h.inst with
  | some i => decide (i.slice = slice) && h.st != .stopped && h.st != .idle
  | none => false

/-- A raise of an event line as a slice (R261); true when it was taken. A raise that meets no task of the slice is
discarded and counted in EV_DROP. -/
def State.raiseLine (s : State) (slice c t line : Nat) : State × Bool :=
  if (s.th c t).runs slice then
    (s.modTh c t fun h => ({ h with evPend := h.evPend ||| (1 <<< line) }).evWake, true)
  else (s.bump .evDrop c, false)

/-- The states that a core's STATE field gives (R272). -/
def Core.active (k : Core) : Bool := k.st.state == 0

/-- The instance that a thread carries, as R275 records it: slice, context or background task, EPOCH. -/
def Thread.record (h : Thread) : BitVec 6 × BitVec 13 × BitVec 8 :=
  match h.inst with
  | some i => (BitVec.ofNat 6 i.slice, BitVec.ofNat 13 i.idx, i.epoch)
  | none => (0, 0, 0)

/-- Younger instructions are squashed: they have issued and have no effect (R253, R282). How many of at most `n` were in
the pipeline is a free value; each counts in ISSUED as well (DESIGN CHOICE: log entry 92). -/
def State.squashYounger (s : State) (c n : Nat) : State :=
  let k := (Config.freeWord s.time.free).toNat % (n + 1)
  (s.drawn.bumpBy .squashed c k).bumpBy .issued c k

/-- A core stops (R274, R275): what its pipeline holds in IF, ID, RF and EX is squashed, its threads are STOPPED with their
contents kept, and the stop is recorded. -/
def State.stopCore (s : State) (c t cause pc : Nat) (addr : Word) : State :=
  let r := (s.th c t).record
  (s.squashYounger c 4).modCore c fun k =>
    { k with
      st.state := 2, st.stopCause := BitVec.ofNat 8 cause, st.stopThread := BitVec.ofNat 3 t
      st.stopPc := BitVec.ofNat 32 pc, st.stopAddr := addr, st.stopWall := s.wall
      st.stopSlice := r.1, st.stopCtx := r.2.1, st.stopEpoch := r.2.2
      noticed := false, poison := false, toJudge := true
      threads := (List.range 8).foldl (fun (m : Tab Thread) i =>
        Tab.upd {} m i fun h => { h with st := .stopped, attach := none, miss := none }) k.threads }

/-- The causes of R273. -/
inductive Cause where
  | illegal | privilege | access | align | fetch | loopDepth | cpDenied | programTile | runLimit | memTimeout
  | lmParity | assertV | hang
deriving DecidableEq, Repr

/-- Codes of R273. -/
def Cause.code : Cause → Nat
  | .illegal => 1 | .privilege => 2 | .access => 3 | .align => 4 | .fetch => 5 | .loopDepth => 6 | .cpDenied => 7
  | .programTile => 8 | .runLimit => 9 | .memTimeout => 10 | .lmParity => 11 | .assertV => 12 | .hang => 13

/-- A thread faults at its present instruction: its whole core stops. -/
def State.fault (s : State) (c t : Nat) (e : Cause) (addr : Word) : State :=
  s.stopCore c t e.code (s.th c t).pc addr

/-- Whether some clock is named by a treadle list, a launch-time queue or a delay entry (R91); `c` is the scale. -/
def State.scaleInUse (s : State) (c : Nat) : Bool :=
  s.tm.treadles.any (fun (_, d) =>
    (d.st.active = 1 && d.st.activeScale.toNat = c) || (d.st.pending ≠ 0 && d.pendHdr.scale.toNat = c)) ||
  s.task.delays.any (fun (_, d) => d.e.valid = 1 && d.e.scale.toNat = c) ||
  s.tm.queues.any (fun (_, q) => (q.onchip ++ q.dram).any fun e => e.e.launchEn = 1 && e.e.lscale.toNat = c)

end Sys2Proof.Machine
end

