-- ==== Sys2Proof/Machine/Dram.lean ====
section
/-!
DEFINITION. DRAM through the table cache (R496 to R503): hits, misses and fills, victims and the eviction buffer. What
a cached access reads is `mem`; a dirty line keeps what DRAM itself holds.
-/
namespace Sys2Proof.Machine

/-- The device runs with DRAM (R492). -/
def State.dramOn (s : State) : Bool := s.dram.st.state != 0
/-- Base of the buffer region (R148, R479). -/
def State.bufBase (s : State) : Nat := s.dram.layout.bufBase.toNat
/-- Buffers that the layout provides (R150, R479). -/
def State.bufCount (s : State) : Nat := if s.dramOn then s.dram.layout.bufCount.toNat else 0
/-- DRAM size in bytes. -/
def State.dramSize (s : State) : Nat := s.dram.st.sizeMib.toNat * 2 ^ 20

/-- 64 bytes of DRAM as a number, little-endian. -/
def State.dramLine (s : State) (line : Nat) : BitVec 512 := leBits 512 (Mem.read s.dram.mem (line * 64) 64)

/-- The set of a line (R496): a[19:6] XOR a[33:20]. -/
def cacheSet (line : Nat) : Nat := (line % 16384) ^^^ (line / 16384 % 16384)

/-- WAY_MASK of a requester (R498). -/
def CacheCfg.mask (c : CacheCfg) (cid : Nat) : BitVec 16 := c.wayMasks.extractLsb' (16 * cid) 16

/-- Where a line lies in the cache. -/
def State.cacheFind (s : State) (line : Nat) : Option Nat :=
  firstIdx 16 (fun w =>
    match Tab.get none s.dram.lines (cacheSet line * 16 + w) with
    | some l => l.line == line
    | none => false) |>.map (cacheSet line * 16 + ·)

/-- Write a way. -/
def State.setLine (s : State) (i : Nat) (l : Option CacheLine) : State :=
  { s with dram.lines := Tab.set none s.dram.lines i l }

/-- The oldest eviction entry's write-back completes (R502). -/
def State.evbRetire (s : State) : State :=
  { s with dram.evb := s.dram.evb.drop 1, dram.cacheSt.writebacks := satInc s.dram.cacheSt.writebacks }

/-- A dirty victim leaves for the eviction buffer of 32 (R502); a full buffer stalls the miss until an entry's
write-back completes, which the model lets happen at once (the stall is timing). -/
def State.evict (s : State) (l : CacheLine) : State :=
  if l.dirty then
    let s1 := if s.dram.evb.length ≥ 32 then
        { s with dram.cacheSt.evbStall := satInc s.dram.cacheSt.evbStall }.evbRetire else s
    { s1 with dram.evb := s1.dram.evb ++ [l] }
  else s

/-- The way a miss takes (R500): an invalid allowed way, else the pseudo-LRU choice, which is a free value among the
allowed ways. -/
def State.victim (s : State) (cid line : Nat) : Nat × State :=
  let ok := (List.range 16).filter fun w => (s.dram.cacheCfg.mask cid).getLsbD w
  let at' := fun w => cacheSet line * 16 + w
  match ok.find? fun w => (Tab.get none s.dram.lines (at' w)).isNone with
  | some w => (at' w, s)
  | none => (at' (ok.getD ((Config.freeWord s.time.free).toNat % ok.length) 0), s.drawn)

/-- Mark a line of the cache written (R500): what DRAM holds is kept from the first write on. -/
def State.markDirty (s : State) (i : Nat) : State :=
  match Tab.get none s.dram.lines i with
  | some l => if l.dirty then s
      else s.setLine i (some { l with dirty := true, since := s.now, old := s.dramLine l.line })
  | none => s

/-- A miss counts. -/
def State.cacheMiss (s : State) (cid : Nat) : State := s.bump .cacheMisses cid

/-- An access reads the line in a way (R503): a bad clean line is refetched for it, whose fill it waits for (true); a bad
dirty line is a fatal fault. The next tick reports what has been met. -/
def State.meetFault (s : State) (i : Nat) : State × Bool :=
  match Tab.get none s.dram.lines i with
  | none => (s, false)
  | some l =>
    if l.bad.isNone ∨ s.dram.met.contains (i, l) then (s, false)
    else
      let s1 := { s with dram.met := s.dram.met ++ [(i, l)] }
      if l.dirty ∨ l.bad = some .dirtyCopies then (s1, false) else (s1.setLine i (some { line := l.line, filling := true }), true)

/-- A cached access to one line, before its data moves (R500, R502); true when the line's fill has to complete. -/
def State.cacheTouch (s : State) (cid line : Nat) (write : Bool) : State × Bool :=
  let miss := s.cacheMiss cid
  match s.cacheFind line with
  | some i =>
    let (s0, again) := s.meetFault i
    let fill := again || (Tab.get none s0.dram.lines i).any (·.filling)
    let s1 := if fill then s0.cacheMiss cid else s0.bump .cacheHits cid
    (if write then s1.markDirty i else s1, fill)
  | none =>
    if s.dram.evb.any (fun l => l.line = line) then
      ({ miss with dram.cacheSt.evbHits := satInc s.dram.cacheSt.evbHits }, false)
    else if s.dram.cacheSt.state ≠ 0 ∨ s.dram.cacheCfg.enable = 0 ∨ s.dram.cacheCfg.mask cid = 0 then (miss, false)
    else
      let (i, s1) := miss.victim cid line
      let s2 := match Tab.get none s1.dram.lines i with | some l => s1.evict l | none => s1
      let s3 := s2.setLine i (some { line := line, filling := true })
      (if write then s3.markDirty i else s3, true)

/-- The lines of a range of bytes. -/
def linesOf (a k : Nat) : List Nat := (List.range ((a + k + 63) / 64 - a / 64)).map (a / 64 + ·)

/-- A cached access to a range, its data apart. -/
def State.cacheRange (s : State) (cid a k : Nat) (write : Bool) : State :=
  (linesOf a k).foldl (fun s l => (s.cacheTouch cid l write).1) s

/-- A cached write. -/
def State.cachedWrite (s : State) (cid a : Nat) (bs : List Byte) : State :=
  let s1 := s.cacheRange cid a bs.length true
  { s1 with dram.mem := Mem.write s1.dram.mem a bs }

/-- Bytes of DRAM. -/
def State.dramMem (s : State) : Mem := s.dram.mem
/-- A write by a direct client (R482): the buffer region, which no cached client reaches. -/
def State.dramWrite (s : State) (a : Nat) (bs : List Byte) : State :=
  { s with dram.mem := Mem.write s.dram.mem a bs }

end Sys2Proof.Machine
end

