-- ==== Sys2Proof/Machine/Rings.lean ====
section
/-!
DEFINITION. General rings: the operations of R128 to R133, shared by the helpers, channels, telemetry, event and
notification rings. Each answers the status of R129.
-/
namespace Sys2Proof.Machine

/-- Logical depth D (R123). -/
def GenRing.depth (g : GenRing) : Nat := 2 ^ g.cfg.depthLog2.toNat
/-- Item size in bytes (R125). -/
def GenRing.itemBytes (g : GenRing) : Nat := 16 <<< g.cfg.itemSize.toNat
/-- EVENT and NOTIFY rings have two clocks (R122). -/
def GenRing.dual (g : GenRing) : Bool := g.cfg.kind == 3 || g.cfg.kind == 4
/-- Physical slots (R123). -/
def GenRing.slots (g : GenRing) : Nat := g.depth + if g.dual then 4 else 0
/-- L as a running count. -/
def GenRing.l (g : GenRing) : Nat := g.w - g.items.length
/-- P as a running count. -/
def GenRing.p (g : GenRing) : Nat := g.l + g.popped

/-- The status of R127. -/
def GenRing.status (g : GenRing) : RingSt :=
  { fill := BitVec.ofNat 17 g.items.length, dualClock := bit g.dual, markValid := bit (g.mark.isSome && !g.markLost)
    resetting := bit g.resetting, highWater := g.high, lostCount := g.lost, markLost := g.markLosts
    ptrResets := g.ptrResets, w := BitVec.ofNat 32 (g.w % (2 * g.slots)), p := BitVec.ofNat 32 (g.p % (2 * g.slots))
    l := BitVec.ofNat 32 (g.l % (2 * g.slots)) }

/-- Counters of R127 cleared. -/
def GenRing.clear (g : GenRing) : GenRing :=
  { g with high := BitVec.ofNat 17 g.items.length, lost := 0, markLosts := 0, ptrResets := 0 }

/-- A push stores its item; a full ring loses its oldest (R130), and a mark that L passes is invalid (R132). -/
def GenRing.push (g : GenRing) (x : BitVec 512) : GenRing :=
  let full := g.items.length == g.depth
  let items := (if full then g.items.drop 1 else g.items) ++ [x]
  let l := g.w + 1 - items.length
  { g with
    items := items, w := g.w + 1
    popped := if full then g.popped - 1 else g.popped
    lost := if full then satInc g.lost else g.lost
    markLost := g.markLost || (match g.mark with | some m => m < l | none => false)
    high := if g.high.toNat < items.length then BitVec.ofNat 17 items.length else g.high }

/-- All items discarded and counted, pointers at 0 (R126, R139). -/
def GenRing.discard (g : GenRing) : GenRing :=
  { g with items := [], w := 0, popped := 0, mark := none, markLost := false, lost := satAdd g.lost g.items.length }

/-- Where the item of a pointer of a STORE 1 ring lies in DRAM (R123, R125). -/
def GenRing.itemAt (g : GenRing) (ptr : Nat) : Nat := g.cfg.base.toNat + ptr % g.slots * g.itemBytes
/-- A pushed item of a STORE 1 ring goes to DRAM through the table cache, CID 2 (R124, R497). -/
def State.ringStoreItem (s : State) (g : GenRing) (x : BitVec 512) : State :=
  if g.cfg.store = 1 then s.cachedWrite 2 (g.itemAt g.w) (bytesOf x g.itemBytes) else s
/-- The item at P as its store holds it, and the state after the read: of a STORE 1 ring, what DRAM holds (R124). -/
def State.ringReadItem (s : State) (g : GenRing) (x : BitVec 512) : State × BitVec 512 :=
  if g.cfg.store = 1 then
    (s.cacheRange 2 (g.itemAt g.p) g.itemBytes false, leBits 512 (Mem.read s.dram.mem (g.itemAt g.p) g.itemBytes))
  else (s, x)

/-- Push with its event line (R125 NE_EV_EN). Statuses: 0x00 OK, 0x02 OVERWROTE, 0x07 RESETTING. An item that is pushed by
the device itself while the ring is RESETTING is lost and not counted (R139 does not say; DESIGN CHOICE, log entry 83). -/
def ringPush (s : State) (r : Nat) (x : BitVec 512) : State × Nat :=
  let g := s.ring r
  if g.resetting then (s, 0x07)
  else
    let s' := (s.ringStoreItem g x).modRing r fun g => g.push x
    let s'' := if g.items.length = 0 ∧ g.cfg.neEvEn = 1 then
        (s'.raiseLine g.cfg.owner.toNat g.cfg.neCore.toNat g.cfg.neThread.toNat g.cfg.neLine.toNat).1 else s'
    (s'', if g.items.length = g.depth then 0x02 else 0x00)

/-- Pop: the oldest item, or the idle item with EMPTY (R131). With MARK_EN 1 nothing is freed (R132). -/
def ringPop (s : State) (r : Nat) : State × BitVec 512 × Nat :=
  let g := s.ring r
  if g.resetting then (s, BitVec.allOnes 512, 0x07)
  else match g.items[g.popped]? with
    | none => (s, BitVec.allOnes 512, 0x01)
    | some x =>
      let (s1, y) := s.ringReadItem g x
      if g.cfg.markEn = 1 then (s1.modRing r fun g => { g with popped := g.popped + 1 }, y, 0x00)
      else (s1.modRing r fun g => { g with items := g.items.drop 1 }, y, 0x00)

/-- RING_MARK (R132). -/
def ringMark (s : State) (r : Nat) : State × Nat :=
  let g := s.ring r
  if g.resetting then (s, 0x07)
  else if g.cfg.markEn = 0 then (s, 0x06)
  else (s.modRing r fun g => { g with mark := some g.p, markLost := false }, 0x00)

/-- RING_REWIND (R132). -/
def ringRewind (s : State) (r : Nat) : State × Nat :=
  let g := s.ring r
  if g.resetting then (s, 0x07)
  else if g.cfg.markEn = 0 then (s, 0x06)
  else if g.markLost then
    (s.modRing r fun g => { g with mark := none, markLost := false, markLosts := satInc g.markLosts }, 0x03)
  else match g.mark with
    | none => (s, 0x04)
    | some m => (s.modRing r fun g => { g with popped := m - g.l }, 0x00)

/-- RING_RELEASE of `n` items (R132). -/
def ringRelease (s : State) (r n : Nat) : State × Nat :=
  let g := s.ring r
  if g.resetting then (s, 0x07)
  else if g.cfg.markEn = 0 then (s, 0x06)
  else if g.popped < n then (s, 0x05)
  else
    (s.modRing r fun g =>
      { g with items := g.items.drop n, popped := g.popped - n
               mark := match g.mark with | some m => if m < g.l + n then none else some m | none => none }, 0x00)

end Sys2Proof.Machine
end

