-- ==== Sys2Proof/Machine/Events.lean ====
section
/-!
DEFINITION. Reporting: the three ways of R62 (a Selvedge entry, the counter of the event's name, an item on SL0's
event ring and on the owner's), the notices of R573, and interrupts (R551, R556).
-/
namespace Sys2Proof.Machine

/-- An entry joins the Selvedge writer's queue of 128; an event entry that finds it full is dropped and counted
(R645). Start-up entries and snapshot tiles are never dropped. -/
def State.queueSelv (s : State) (e : SelvEntry) : State :=
  if e.area = 0 ∧ s.selv.queue.length ≥ 128 then
    { s with selv.dropped := s.selv.dropped + 1, selv.droppedSince := true }
  else { s with selv.queue := s.selv.queue ++ [e] }

/-- An event item or notice of R573: `kind` 0 FAULT, 1 NOTICE. -/
def eventItem (code : BitVec 16) (kind : BitVec 8) (dev : BitVec 8) (seq : Word32) (wall : Word) (handle : Word32)
    (payload : BitVec 288) : Tile :=
  sealTile (put 512 0 code ||| put 512 16 kind ||| put 512 24 dev ||| put 512 32 seq ||| put 512 64 wall |||
    put 512 128 handle ||| put 512 192 payload)

/-- Post an item on a slice's event ring, when the slice takes events (EVT_EN): EVT_SEQ counts every item. -/
def State.postItem (s : State) (n : Nat) (code : BitVec 16) (kind : BitVec 8) (handle : Word32)
    (payload : BitVec 288) : State :=
  let h := s.sl n
  if h.cfg.evtEn = 1 then
    let it := eventItem code kind (s.devId.setWidth 8) h.evtSeq s.wall handle payload
    ((ringPush s h.cfg.evtRing.toNat it).1).modSl n fun h => { h with evtSeq := h.evtSeq + 1 }
  else s

/-- Report a fault as R62 gives: Selvedge, the counter of its name, SL0, and the owner of the object concerned. -/
def State.report (s : State) (code : BitVec 16) (handle : Word32) (payload : BitVec 288) (owner : Nat) : State :=
  let s1 := s.queueSelv { area := 0, code := code, mode := s.sys.mode, wall := s.wall, handle := handle, payload := payload }
  let s2 := { s1 with host.evCtr := Tab.upd 0 s1.host.evCtr code.toNat satInc }
  let s3 := s2.postItem 0 code 0 handle payload
  if owner = 0 then s3 else s3.postItem owner code 0 handle payload

/-- A report about the device itself. -/
def State.reportDev (s : State) (code : BitVec 16) (handle : Nat) (payload : BitVec 288) : State :=
  s.report code (BitVec.ofNat 32 handle) payload 0

/-- A notice of R573 to one slice, with its 8 payload bytes. -/
def State.notice (s : State) (n : Nat) (code : BitVec 16) (handle : Nat) (payload : Word) : State :=
  s.postItem n code 1 (BitVec.ofNat 32 handle) (payload.setWidth 288)

/-- A byte of the MSI-X table: every vector is masked after reset, as PCI Express defines (R546). -/
def State.msixByte (s : State) (a : Nat) : Byte := Mem.byte s.host.msix a ^^^ (if a % 16 = 12 then 1 else 0)

/-- Signal a vector of a slice, after what it signals is in host memory (R556); a slice without vectors, or whose
vector is masked, sets its bit of IRQ_STATUS (R551). `off` is the offset in the slice's vectors. -/
def State.signal (s : State) (n off : Nat) : State :=
  let c := (s.sl n).cfg
  let v := c.vecBase.toNat + off
  let masked := (s.msixByte (16 * v + 12)).getLsbD 0
  if c.vecCount = 0 then { s with host.irq := s.host.irq ||| (1 <<< n) }
  else if masked then
    { s with host.irq := s.host.irq ||| (1 <<< n), host.pba := s.host.pba ||| (1 <<< v) }
  else s.emit (.msix v)

end Sys2Proof.Machine
end

