-- ==== Sys2Proof/Machine/Pools.lean ====
section
/-!
DEFINITION. Bobbin pools (R148 to R157): allocation, reference counts, chains of cells, and the frame bytes they hold.
-/
namespace Sys2Proof.Machine

/-- Cells on chip (R16). -/
def cellCount : Nat := 196608
/-- Where the record of a handle lies: cells by index, buffers at 2^22 + index. -/
def recOf (h : BitVec 24) : Nat := (if h.getLsbD 23 then 2 ^ 22 else 0) + (h.extractLsb' 0 22).toNat
/-- The handle of a record. -/
def handleOf (i : Nat) : BitVec 24 := if i < 2 ^ 22 then BitVec.ofNat 24 i else BitVec.ofNat 24 (i - 2 ^ 22 + 2 ^ 23)
/-- The null handle (R148). -/
def nullHandle : BitVec 24 := 0xFFFFFF

/-! ## Records (R152, R156) -/

/-- A record with its PAR: even parity over bits 62:0 (R152). -/
def CellRec.sealed (c : CellRec) : CellRec := { c with par := bit !evenParity ({ c with par := 0 } : CellRec).toTile }

/-- The line of DRAM in which the record of a buffer lies (R478), by its place in `recs`. -/
def recLine (i : Nat) : Nat := 0x00120000 + (i - 2 ^ 22) / 7

/-- The seven buffer records of a tile, with its CHECK (R152). -/
def State.recTile (s : State) (i : Nat) : Tile :=
  let first := i - (i - 2 ^ 22) % 7
  sealTile ((List.range 7).foldl (fun t j => t ||| put 512 (64 * j) ({ s.cell (first + j) with par := 0 } : CellRec).toTile) 0)

/-- A record that fails when it is read: a cell's by its parity (R156), a buffer's by the CHECK of its tile (R478). A tile
that nothing has written yet holds records of zeros. -/
def State.badRec (s : State) (i : Nat) : Bool :=
  if i < 2 ^ 22 then s.buf.badRecs.contains i
  else let t := s.dramLine (recLine i); t != 0 && !tileOk t

/-- The tile of a buffer's record is written through the cache (CID 3, R497). -/
def State.writeRec (s : State) (i : Nat) : State :=
  if i < 2 ^ 22 then s else s.cachedWrite 3 (recLine i * 64) (bytesOf (s.recTile i) 64)

/-- Change a record: a cell's gets its parity, a buffer's goes to its tile. A record that fails is never used (R156). -/
def State.modRecord (s : State) (i : Nat) (f : CellRec → CellRec) : State :=
  if s.badRec i then s
  else if i < 2 ^ 22 then s.modCell i fun c => (f c).sealed
  else (s.modCell i f).writeRec i

/-- The least index from `n` that is listed with no busy value. -/
def Tab.leastFree {α : Type} (busy : Nat → α → Bool) : Tab α → Nat → Nat
  | [], n => n
  | (k, v) :: r, n =>
    if k < n then Tab.leastFree busy r n
    else if k = n ∧ busy k v then Tab.leastFree busy r (n + 1) else n

/-- Sum of RESERVE over the enabled CELL pools, and of what each pool holds above its own (R151). -/
def State.reserved (s : State) : Nat :=
  (s.buf.pools.map fun (_, p) => if p.cfg.enable = 1 ∧ p.cfg.kind = 0 then p.cfg.reserve.toNat else 0).sum
/-- Cells held above the pools' reserves (R151). -/
def State.aboveReserve (s : State) : Nat :=
  (s.buf.pools.map fun (_, p) => if p.cfg.kind = 0 then p.st.held.toNat - (if p.cfg.enable = 1 then p.cfg.reserve.toNat else 0)
    else 0).sum
/-- The shared remainder of R151. -/
def State.remainder (s : State) : Nat := cellCount - s.reserved - s.aboveReserve

/-- FREE_COUNT of a pool (R157): what it could still allocate. -/
def State.freeCount (s : State) (b : Nat) : Nat :=
  let p := s.pool b
  if p.cfg.enable = 0 then 0
  else if p.cfg.kind = 1 then p.cfg.limit.toNat - p.st.held.toNat
  else min (p.cfg.limit.toNat - p.st.held.toNat) (p.cfg.reserve.toNat - p.st.held.toNat + s.remainder)

/-- Whether a cell is quarantined (R156). -/
def State.quarantined (s : State) (i : Nat) : Bool := s.buf.pools.any fun (_, p) => p.quarantine.contains i

/-- A record is found to fail (R156): its cell is quarantined in the pool that holds it, or else in pool `b`, REC_PARITY
counts, and SL0 gets an item, as POOL_ERROR of that pool with no status (DESIGN CHOICE, log entry 91). -/
def State.quarantineRec (s : State) (b i : Nat) : State :=
  if s.quarantined i then s
  else
    let c := s.cell i
    let held : Bool := c.alloc = 1
    let n := if held then c.pool.toNat else b
    let s1 := s.modCell i fun c => { c with alloc := 1, refcnt := 0, pool := BitVec.ofNat 6 n }
    let s2 := s1.modPool n fun p =>
      { p with quarantine := i :: p.quarantine
               st := { p.st with recParity := satInc p.st.recParity, held := if held then p.st.held - 1 else p.st.held } }
    s2.notice 0 0x0003 n (put 64 32 (handleOf i))

/-- The index a pool's next allocation takes: the lowest free one (the spec names none). -/
def State.nextCell (s : State) (b : Nat) : Nat :=
  let p := s.pool b
  let from0 := if p.cfg.kind = 1 then 2 ^ 22 + p.cfg.first.toNat else 0
  Tab.leastFree (fun i (c : CellRec) => c.alloc = 1 || s.quarantined i) s.buf.recs from0

/-- Whether a pool can allocate now (R151): its counts allow it and a cell, or a buffer of its range, is free. -/
def State.canAlloc (s : State) (b : Nat) : Bool :=
  let c := (s.pool b).cfg
  c.enable = 1 && decide (0 < s.freeCount b) &&
    decide (s.nextCell b < if c.kind = 1 then 2 ^ 22 + c.first.toNat + c.limit.toNat else cellCount)

/-- A notice when a pool's free count falls below LOW_MARK (R149), and LOW_FREE (R157). -/
def State.noteFree (s : State) (b before : Nat) : State :=
  let now := s.freeCount b
  let s1 := s.modPool b fun p => { p with st.lowFree := if now < p.st.lowFree.toNat then BitVec.ofNat 32 now else p.st.lowFree }
  let c := (s.pool b).cfg
  if c.lowEvEn = 1 ∧ now < c.lowMark.toNat ∧ c.lowMark.toNat ≤ before then
    s1.notice c.owner.toNat 0x0002 b (BitVec.ofNat 64 now) else s1

/-- Notices and LOW_FREE of every pool whose free count has changed since a state before (R149, R157): cells that one pool
takes of the shared remainder are lost to the others. -/
def State.noteFrees (s old : State) : State :=
  old.buf.pools.foldl (fun (s : State) (b, _) => s.noteFree b (old.freeCount b)) s

/-- Allocate one cell or buffer with REFCNT 1; `none` counts ALLOC_FAIL at the caller (R151). A free cell whose record fails
is quarantined and passed over, at most `fuel` of them. -/
def State.allocFrom (s : State) (b : Nat) : Nat → Option (State × Nat)
  | 0 => none
  | fuel + 1 =>
    if s.canAlloc b then
      let i := s.nextCell b
      if s.badRec i then State.allocFrom (s.quarantineRec b i) b fuel
      else
        let s1 := { s.modRecord i fun _ => { refcnt := 1, pool := BitVec.ofNat 6 b, alloc := 1, last := 1 } with
          buf.metas := Tab.set false s.buf.metas i false }
        some ((s1.modPool b fun p => { p with st.held := p.st.held + 1 }).noteFrees s, i)
    else none

/-- One allocation: at most every failing cell record, and 64 failing buffer records, are passed over. -/
def State.allocOne (s : State) (b : Nat) : Option (State × Nat) := s.allocFrom b (s.buf.badRecs.length + 64)

/-- Allocate `n`, all or none: a failure leaves the state and counts once. -/
def State.allocMany (s : State) (b : Nat) : Nat → Option (State × List Nat)
  | 0 => some (s, [])
  | n + 1 => match s.allocOne b with
    | none => none
    | some (s1, i) => match State.allocMany s1 b n with
      | none => none
      | some (s2, is) => some (s2, i :: is)

/-- An allocation that cannot be met (R151). -/
def State.allocFail (s : State) (b : Nat) : State :=
  s.modPool b fun p => { p with st.allocFail := satInc p.st.allocFail }

/-- Drop one reference; at zero the cell returns to its pool (R153). -/
def State.dropRef (s : State) (i : Nat) : State :=
  let c := s.cell i
  if c.alloc = 0 ∨ s.badRec i then s
  else if c.refcnt.toNat ≤ 1 then
    (s.modRecord i fun c => { c with refcnt := 0, alloc := 0 }).modPool c.pool.toNat fun p =>
      { p with st.held := p.st.held - 1 }
  else s.modRecord i fun c => { c with refcnt := c.refcnt - 1 }

/-- Add one reference, unless the count is at 255 (R155). -/
def State.addRef (s : State) (i : Nat) : State :=
  let c := s.cell i
  if c.refcnt = 255 then s.modPool c.pool.toNat fun p => { p with st.refOverflow := satInc p.st.refOverflow }
  else s.modRecord i fun c => { c with refcnt := c.refcnt + 1 }

/-- The record that follows in a chain, by NEXT (R152). -/
def State.nextRec (s : State) (i : Nat) : Nat := (s.cell i).next.toNat + (if i ≥ 2 ^ 22 then 2 ^ 22 else 0)

/-- The records of a chain from its head, by NEXT until LAST, as far as they are good (R156); `fuel` bounds a broken
chain. -/
def State.chain (s : State) : Nat → Nat → List Nat
  | 0, _ => []
  | fuel + 1, i =>
    if s.badRec i then [] else if (s.cell i).last = 1 then [i] else i :: State.chain s fuel (s.nextRec i)

/-- The bad record that a chain reaches (R156). -/
def State.chainBad (s : State) : Nat → Nat → Option Nat
  | 0, _ => none
  | fuel + 1, i =>
    if s.badRec i then some i else if (s.cell i).last = 1 then none else State.chainBad s fuel (s.nextRec i)

/-- The longest chain: 9,600 B in cells, with an edited head. -/
def chainFuel : Nat := 64

/-- The chain of a buffer handle. -/
def State.cellsOf (s : State) (h : BitVec 24) : List Nat := if h = nullHandle then [] else s.chain chainFuel (recOf h)
/-- Drop one reference on every cell of a frame (R153). -/
def State.dropFrame (s : State) (h : BitVec 24) : State := (s.cellsOf h).foldl State.dropRef s
/-- A queue entry or delivery ends: its references drop, and what it kept of its packet (R153, R185). -/
def State.entryGone (s : State) (h : BitVec 24) (pkt : Option Nat) : State := (s.dropFrame h).legGone pkt
/-- The bad record that a frame's chain reaches (R156). -/
def State.frameBad (s : State) (h : BitVec 24) : Option Nat := if h = nullHandle then none else s.chainBad chainFuel (recOf h)
/-- A stage finds the frame's bad record (R156). -/
def State.foundBad (s : State) (h : BitVec 24) : State :=
  match s.frameBad h with | some i => s.quarantineRec (s.cell i).pool.toNat i | none => s
/-- A reference can be taken on every cell of a frame: no count stands at 255 (R155). -/
def State.canHold (s : State) (h : BitVec 24) : Bool := (s.cellsOf h).all fun i => (s.cell i).refcnt != 255
/-- Take one reference on every cell of a frame (R153): none is taken when one cell's count is at 255 (R155). -/
def State.holdFrame (s : State) (h : BitVec 24) : State :=
  (if s.canHold h then s.cellsOf h else (s.cellsOf h).filter fun i => (s.cell i).refcnt = 255).foldl State.addRef s

/-- Byte address of a record's data: cell memory, or DRAM from the buffer base (R148). -/
def State.dataAddr (s : State) (i : Nat) : Nat := if i < 2 ^ 22 then i * 256 else s.bufBase + (i - 2 ^ 22) * 2048

/-- Bytes of a cell's or buffer's data. -/
def State.dataRead (s : State) (i o k : Nat) : List Byte :=
  Mem.read (if i < 2 ^ 22 then s.buf.cells else s.dramMem) (s.dataAddr i + o) k
/-- Write a cell's or buffer's data. -/
def State.dataWrite (s : State) (i o : Nat) (bs : List Byte) : State :=
  if i < 2 ^ 22 then { s with buf.cells := Mem.write s.buf.cells (s.dataAddr i + o) bs }
  else s.dramWrite (s.dataAddr i + o) bs

/-- The metadata tile of a frame (R22). -/
def State.metaOf (s : State) (h : BitVec 24) : Tile := leBits 512 (s.dataRead (recOf h) 0 64)

/-- Where the frame bytes of a cell begin, and where they end (R152: FILL counts after a metadata tile). -/
def State.cellStart (s : State) (i : Nat) : Nat := if Tab.get false s.buf.metas i then 64 else 0

/-- The frame bytes of a chain: of each cell from an offset, at the least from its first, to its FILL; the next one's
offset is NEXT_OFF (R22, R152). -/
def State.tailFrom (s : State) (off : Nat) : List Nat → List Byte
  | [] => []
  | i :: r =>
    let o := max off (s.cellStart i)
    s.dataRead i o (s.cellStart i + (s.cell i).fill.toNat - o) ++ State.tailFrom s (s.cell i).nextOff.toNat r
/-- The frame bytes that a chain holds. -/
def State.frameFrom (s : State) (is : List Nat) : List Byte := s.tailFrom 0 is

/-- A frame's bytes at a length: an origin frame shorter than its LENGTH is padded with zeros (R330). -/
def State.frameOf (s : State) (h : BitVec 24) (len : Nat) : List Byte :=
  let bs := s.frameFrom (s.cellsOf h)
  bs.take len ++ List.replicate (len - bs.length) 0

/-- Link a list of records into a chain and write a frame into it: the metadata tile and the frame's bytes. The first
record takes `cap − 64` bytes, the others `cap` (256 for cells, 2,048 − 64 for each buffer, R22, R23). -/
def State.fillChain (s : State) (cap : Nat) : List Nat → Nat → List Byte → State
  | [], _, _ => s
  | i :: r, off, bs =>
    let here := bs.take (cap - off)
    let s1 := (s.dataWrite i off here).modRecord i fun c =>
      { c with fill := BitVec.ofNat 12 here.length, last := bit r.isEmpty
               next := BitVec.ofNat 22 (r.headD 0), nextOff := 0 }
    State.fillChain s1 cap r 0 (bs.drop (cap - off))

/-- A cell begins with a metadata tile. -/
def State.markMeta (s : State) (i : Nat) : State := { s with buf.metas := Tab.set false s.buf.metas i true }

/-- Store a frame with its metadata tile in new cells of a pool; `none` when the pool has too few (R102 check 8). -/
def State.storeFrame (s : State) (b : Nat) (tile : Tile) (bs : List Byte) : Option (State × BitVec 24) :=
  let cap := if (s.pool b).cfg.kind = 1 then 2048 else 256
  match s.allocMany b ((bs.length + 64 + cap - 1) / cap) with
  | none => none
  | some (_, []) => none
  | some (s1, i :: r) =>
    some (((s1.dataWrite i 0 (bytesOf tile 64)).markMeta i).fillChain cap (i :: r) 64 bs, handleOf i)

/-! ## The helper operations of R154, with the checks of their order -/

/-- Checks 1 to 3 of R154 on a record: 0x11 BAD_HANDLE, 0x08 NOT_OWNER, 0 none. A record that fails belongs to no pool
(R156; DESIGN CHOICE, log entry 91). -/
def State.poolCheck (s : State) (b slice : Nat) (h : BitVec 24) : Nat :=
  let i := (h.extractLsb' 0 22).toNat
  let inRange := if h.getLsbD 23 then i < 4194304 else i < cellCount
  if h.getLsbD 22 ∨ !inRange then 0x11
  else if s.badRec (recOf h) then 0x11
  else if (s.cell (recOf h)).pool.toNat ≠ b then 0x11
  else if slice ≠ (s.pool b).cfg.owner.toNat then 0x08 else 0

/-- The reports of a failed pool operation (R155). -/
def State.poolError (s : State) (b slice st : Nat) (h : BitVec 24) : State :=
  let owner := (s.pool b).cfg.owner.toNat
  let pay := put 64 0 (BitVec.ofNat 8 st) ||| put 64 32 h
  let s1 := s.modPool b fun p =>
    if st = 0x12 then { p with st.doubleFree := satInc p.st.doubleFree }
    else if st = 0x08 then { p with st.notOwner := satInc p.st.notOwner }
    else if st = 0x11 then { p with st.badHandle := satInc p.st.badHandle }
    else if st = 0x13 then { p with st.refOverflow := satInc p.st.refOverflow } else p
  if st = 0x13 then s1
  else
    let s2 := s1.notice owner 0x0003 b pay
    if st = 0x08 ∧ slice ≠ owner then s2.notice slice 0x0003 b pay else s2

/-- POOL_ALLOC (R151, R154). -/
def poolAlloc (s : State) (b slice : Nat) : State × BitVec 24 × Nat :=
  if slice ≠ (s.pool b).cfg.owner.toNat then (s.poolError b slice 0x08 nullHandle, nullHandle, 0x08)
  else match s.allocOne b with
    | none => (s.allocFail b, nullHandle, 0x10)
    | some (s1, i) => (s1, handleOf i, 0x00)

/-- REF_ADD (R154). -/
def poolRefAdd (s : State) (b slice : Nat) (h : BitVec 24) : State × Nat :=
  let c := s.cell (recOf h)
  let e := s.poolCheck b slice h
  let e := if e ≠ 0 then e else if c.alloc = 0 then 0x11 else if c.refcnt = 255 then 0x13 else 0
  if e ≠ 0 then ((s.foundBad h).poolError b slice e h, e)
  else (s.modRecord (recOf h) fun c => { c with refcnt := c.refcnt + 1 }, 0)

/-- FREE of one cell or of a chain, checked in full before any count changes (R154). -/
def poolFree (s : State) (b slice : Nat) (h : BitVec 24) (whole : Bool) : State × Nat :=
  let is := if whole then s.chain chainFuel (recOf h) else [recOf h]
  let bad (i : Nat) : Nat :=
    let e := s.poolCheck b slice (handleOf i)
    if e ≠ 0 then e else if (s.cell i).alloc = 0 then 0x12 else 0
  let e0 := s.poolCheck b slice h
  let e := if e0 ≠ 0 then e0 else if whole ∧ (s.frameBad h).isSome then 0x11 else ((is.map bad).find? (· ≠ 0)).getD 0
  if e ≠ 0 then ((if whole then s.foundBad h else s).poolError b slice e h, e) else (is.foldl State.dropRef s, 0)

end Sys2Proof.Machine
end

