-- ==== Sys2Proof/Machine/FabRoute.lean ====
section
/-!
DEFINITION. Frames on the Kubridex links: their header (R514), the choice of a link (R528, R529), the retry buffer of a
sender (R516, R517) and the numbers of a stream at its source (R519 to R521).
-/
namespace Sys2Proof.Machine

/-- A link. -/
def State.link (s : State) (k : Nat) : FabLink := Tab.get {} s.fab.links k
/-- Change a link. -/
def State.modLink (s : State) (k : Nat) (f : FabLink → FabLink) : State :=
  { s with fab.links := Tab.upd {} s.fab.links k f }

/-! ## Frames -/

/-- The fabric header in network byte order (R514). -/
def FabFrame.header (f : FabFrame) : List Byte :=
  [put 8 4 (BitVec.ofNat 4 f.kind) ||| put 8 1 f.cls, put 8 2 f.dest ||| put 8 0 f.fpath, put 8 2 f.port, put 8 2 f.src]
    ++ beBytes f.seq 2 ++ beBytes f.hash 2 ++ beBytes (BitVec.ofNat 16 f.payload.length) 2
    ++ [put 8 4 (BitVec.ofNat 4 f.hops) ||| put 8 3 (bit f.rerouted) ||| put 8 2 (bit f.first)] ++ beBytes f.extra 5

/-- A frame as a link carries it: header, payload and LINK_CRC (R513). -/
def FabFrame.bytes (f : FabFrame) : List Byte :=
  f.header ++ f.payload ++ bytesOf (crc32c (f.header ++ f.payload)) 4

/-- The bits of bytes 11 to 15 of the header that a kind gives a use: the slice of a COMMAND or REPLY (R533), a HELLO's link,
mode and ID state (R522), a HEARTBEAT's path (R538), a TIME frame's wall bits (R536). -/
def extraUsed (kind : Nat) : BitVec 40 :=
  if kind = 1 ∨ kind = 2 then 0xFF00000000
  else if kind = 3 then 0x031F000000
  else if kind = 7 then 0xFFFFFFFFFF
  else if kind = 8 then 0x0F00000000 else 0

/-- The header fields of 16 bytes and a payload (R514); reserved bits are ignored, and zero where the frame goes on (R8). -/
def FabFrame.ofBytes (h payload : List Byte) : FabFrame :=
  let b (i : Nat) : Byte := nthByte h i
  { kind := ((b 0).extractLsb' 4 4).toNat, cls := (b 0).extractLsb' 1 3, dest := (b 1).extractLsb' 2 6
    fpath := (b 1).extractLsb' 0 2, port := (b 2).extractLsb' 2 6, src := (b 3).extractLsb' 2 6
    seq := beBits 16 (slice h 4 2), hash := beBits 16 (slice h 6 2), hops := ((b 10).extractLsb' 4 4).toNat
    rerouted := (b 10).getLsbD 3, first := (b 10).getLsbD 2, payload := payload
    extra := beBits 40 (slice h 11 5) &&& extraUsed ((b 0).extractLsb' 4 4).toNat }

/-- HEARTBEAT frames and TC7 DATA frames are express (R515). -/
def FabFrame.express (f : FabFrame) : Bool := f.kind = 7 || (f.kind = 0 && f.cls = 7)

/-! ## Routes (R527 to R529) -/

/-- The route of DATA frames to a destination. -/
def State.route (s : State) (d : Nat) : FabRoute := Tab.get {} s.fab.routes d
/-- The route of COMMAND and REPLY frames; a pinned destination's masks serve them too. -/
def State.cmdRoute (s : State) (d : Nat) : FabRoute :=
  if (s.route d).pinned then s.route d else Tab.get {} s.fab.cmdRoutes d

/-- The UP links of a mask, in link-number order. -/
def State.upIn (s : State) (m : BitVec 4) : List Nat :=
  (List.range 4).filter fun k => m.getLsbD k && decide ((s.link k).st.state = 3)

/-- The link that a route gives to an FPATH (R528). -/
def State.choose (s : State) (r : FabRoute) (fpath : Nat) : Option Nat :=
  match s.upIn r.prim with
  | [] => match s.upIn r.alt with
    | [] => none
    | l => l[fpath % l.length]?
  | l => l[fpath % l.length]?

/-- The device sends and accepts DATA, COMMAND and REPLY frames (R532, R525). -/
def State.fabOn (s : State) : Bool := s.fab.cfg.enable = 1 && decide (s.fab.st.idState ≠ 2)

/-- The link for a DATA frame (R528). -/
def State.pickLink (s : State) (d fpath : Nat) : Option Nat := if s.fabOn then s.choose (s.route d) fpath else none
/-- The link for a COMMAND or REPLY frame. -/
def State.cmdLink (s : State) (d : Nat) : Option Nat := if s.fabOn then s.choose (s.cmdRoute d) 0 else none

/-- A frame has no usable link (R34): counted on the lowest link of its route's primary mask, or K0 (R528), and reported
with its SRC_DEV, DEST_DEV and that link. -/
def State.unreachBy (s : State) (r : FabRoute) (src dest : Nat) : State :=
  let k := (firstIdx 4 fun k => r.prim.getLsbD k).getD 0
  (s.modLink k fun l => { l with st.fabricUnreach := satInc l.st.fabricUnreach }).reportDev 0x0C06 k
    (put 288 0 (BitVec.ofNat 8 src) ||| put 288 8 (BitVec.ofNat 8 dest) ||| put 288 16 (BitVec.ofNat 8 k))

/-- A DATA frame's. -/
def State.unreach (s : State) (src dest : Nat) : State := s.unreachBy (s.route dest) src dest
/-- A COMMAND or REPLY frame's. -/
def State.unreachCmd (s : State) (src dest : Nat) : State := s.unreachBy (s.cmdRoute dest) src dest

/-! ## Sending on a link -/

/-- Bytes of a frame in the retry buffer. -/
def FabFrame.size (f : FabFrame) : Nat := 16 + f.payload.length

/-- The retry buffer has room for a frame of `n` bytes: 2,048 frames and 256 KiB, of which 64 frames and 32 KiB are kept
for express frames (R517). -/
def FabLink.room (l : FabLink) (express : Bool) (n : Nat) : Bool :=
  let frames := l.retry.length + 1
  let bytes := (l.retry.map fun e => e.frame.size).sum + n
  if express then frames ≤ 2048 && bytes ≤ 262144 else frames ≤ 1984 && bytes ≤ 229376

/-- A frame takes the next LINK_SEQ and its place in the retry buffer (R516, R517). -/
def State.linkKeep (s : State) (k : Nat) (f : FabFrame) : State :=
  s.modLink k fun l =>
    { l with txSeq := (l.txSeq + 1) % 4096, retry := l.retry ++ [{ seq := l.txSeq, frame := f, sentAt := s.now }]
             ackAt := if l.retry.isEmpty then s.now else l.ackAt }

/-- A frame goes out on a link at once. HELLO frames, which a link sends before it is up, are not kept for resending. -/
def State.linkSend (s : State) (k : Nat) (f : FabFrame) : State :=
  (if f.kind = 3 then s else s.linkKeep k f).emit (.link k f.kind f.bytes)

/-! ## Streams at their source -/

/-- Where a stream's number lies: destination × 32 + class × 4 + FPATH (R519). -/
def streamKey (dev cls fpath : Nat) : Nat := dev * 32 + cls * 4 + fpath

/-- REROUTED for a frame to `d` sent now: its serving link has changed within FAB_HOLD_NS (R521). -/
def State.rerouted (s : State) (d : Nat) : Bool :=
  match (s.route d).changedAt with
  | some t => decide (s.now - t < s.fab.cfg.fabHoldNs.toNat)
  | none => false

/-- The DATA frame of a queue entry at its first sending: its stream's next SEQ, or for a frame in transit its own
header with HOPS as counted at its arrival (R519, R531). -/
def State.dataFrame (s : State) (x : QEnt) (bs : List Byte) : State × FabFrame :=
  match x.transit with
  | some h =>
    let f := FabFrame.ofBytes (bytesOf h 16) bs
    (s, { f with rerouted := f.rerouted || s.rerouted f.dest.toNat })
  | none =>
    let d := Desc.ofTile x.e.desc
    let i := streamKey d.destDev.toNat d.tc.toNat x.fpath.toNat
    let n := Tab.get none s.fab.txStreams i
    ({ s with fab.txStreams := Tab.set none s.fab.txStreams i (some (n.getD 0 + 1)) },
     { kind := 0, cls := d.tc, dest := d.destDev, fpath := x.fpath, port := d.outPort, src := s.devId
       seq := n.getD 0, hash := d.flowHash, first := n.isNone, rerouted := s.rerouted d.destDev.toNat, payload := bs })

end Sys2Proof.Machine
end

