-- ==== Sys2Proof/Machine/FabricSend.lean ====
section
/-!
DEFINITION. What the device itself sends over the fabric: link-state advertisements (R526), heartbeats (R538), commands
and replies (R533 to R535) with their tiles (R560, R561).
-/
namespace Sys2Proof.Machine

/-- UP links. -/
def State.upLinks (s : State) : List Nat := (List.range 4).filter fun k => (s.link k).st.state = 3

/-- A control frame on every UP link but one. -/
def State.flood (s : State) (f : FabFrame) (but : Option Nat) : State :=
  (s.upLinks.filter fun k => some k ≠ but).foldl (fun (s : State) k => s.linkSend k f) s

/-! ## Link-state advertisements -/

/-- The other device of a pair (R537). -/
def twinOf (d : BitVec 6) : BitVec 6 := d ^^^ 1

/-- The IDs for which the device accepts DATA: in RUN or COMMISSION its own, and both of its pair; else none (R541). -/
def State.accepts (s : State) : List (BitVec 6) :=
  if s.fab.st.idState = 2 ∨ ¬(s.sys.mode = .run ∨ s.sys.mode = .commission) then []
  else if s.fab.twin.twinEn = 1 ∨ s.fab.tookOver then [s.devId, twinOf s.devId] else [s.devId]

/-- The device's own LSA. -/
def State.ownLsa (s : State) : Lsa :=
  { id := s.devId, serial := Config.serial, mode := s.modeCode, seq := s.fab.ownLsaSeq
    links := s.upLinks.map fun k => (BitVec.ofNat 2 k, (s.link k).st.neighId), accepts := s.accepts }

/-- The payload of an LSA: the model's layout (the spec gives none). -/
def Lsa.payload (l : Lsa) : List Byte :=
  [l.id.setWidth 8] ++ beBytes l.serial 8 ++ [l.mode.setWidth 8] ++ beBytes l.seq 4 ++ [BitVec.ofNat 8 l.links.length]
    ++ l.links.flatMap (fun x => [x.1.setWidth 8, x.2.setWidth 8]) ++ [BitVec.ofNat 8 l.accepts.length]
    ++ l.accepts.map (·.setWidth 8)

/-- An LSA as a frame from its sender. -/
def Lsa.frame (l : Lsa) : FabFrame := { kind := 6, dest := 63, port := 63, src := l.id, payload := l.payload }

/-- An LSA is held by its serial. -/
def State.lsa (s : State) (serial : Word) : Option Lsa := Tab.get none s.fab.lsas serial.toNat

/-- The device floods its LSA (R526): not in CONFLICT, and in BOOT only from ST21 on (R35). -/
def State.floodLsa (s : State) : State :=
  if s.fab.st.idState = 2 ∨ (s.sys.mode = .boot ∧ !s.sys.hostReady) then s
  else
    let s1 := { s with fab.ownLsaSeq := s.fab.ownLsaSeq + 1, fab.lsaDue := s.now + 1000000 }
    let l := s1.ownLsa
    { s1 with fab.lsas := Tab.set none s1.fab.lsas Config.serial.toNat (some l) }.flood l.frame none

/-! ## Heartbeats (R538) -/

/-- HB_PATH of a path. -/
def TwinCfg.path (c : TwinCfg) (p : Nat) : BitVec 32 := c.hbPaths.extractLsb' (32 * p) 32
/-- The link out of the i-th device of a path. -/
def hbLink (path : BitVec 32) (i : Nat) : Nat := (path.extractLsb' (2 * i + 3) 2).toNat
/-- Hops of a path. -/
def hbHops (path : BitVec 32) : Nat := (path.extractLsb' 0 3).toNat + 1

/-- A heartbeat on one path: the path in bytes 11 to 14, its number in byte 15 (the model's choice). -/
def State.heartbeat (s : State) (p : Nat) (takeover : Bool) : FabFrame :=
  { kind := 7, dest := twinOf s.devId, port := 63, src := s.devId
    extra := (s.fab.twin.path p).setWidth 40 <<< 8 ||| BitVec.ofNat 40 p
    payload := [s.devId.setWidth 8, s.modeCode.setWidth 8] ++ beBytes s.fab.hbCount 4 ++ [(bit takeover).setWidth 8] }

/-- Heartbeats on every path; a device in CONFLICT sends none (R525). -/
def State.heartbeats (s : State) (takeover : Bool) : State :=
  if s.fab.twin.twinEn = 0 ∨ s.fab.st.idState = 2 then s
  else
    let s1 := { s with fab.hbCount := s.fab.hbCount + 1 }
    (List.range s.fab.twin.npaths.toNat).foldl (fun (s : State) p =>
      let k := hbLink (s.fab.twin.path p) 0
      if (s.link k).st.state = 3 then s.linkSend k (s.heartbeat p takeover) else s) s1

/-! ## Tiles of commands and replies -/

end Sys2Proof.Machine
namespace Sys2Proof
open Sys2Proof.Machine

/-- A command packet as its tiles (R560). -/
def Cmd.bytes (q : Cmd) (opcode : BitVec 12) : List Byte :=
  let t0 : Tile := put 512 0 opcode ||| put 512 16 q.flags ||| put 512 24 q.slice ||| put 512 32 q.device |||
    put 512 40 (BitVec.ofNat 8 (q.cont.length + 1)) ||| put 512 48 q.seq ||| put 512 64 q.expGen |||
    put 512 96 q.handle ||| put 512 128 q.params
  bytesOf (sealTile t0) 64 ++ q.cont.flatMap fun t => bytesOf (sealTile t) 64

end Sys2Proof
namespace Sys2Proof.Machine

/-- A command packet read from its tiles: bits 15:0 of tile 0 and the packet. -/
def cmdOf (path : Path) (t0 : Tile) (cont : List Tile) : BitVec 16 × Cmd :=
  (t0.extractLsb' 0 16,
   { path := path, flags := t0.extractLsb' 16 8, slice := t0.extractLsb' 24 8, device := t0.extractLsb' 32 8
     seq := t0.extractLsb' 48 16, expGen := t0.extractLsb' 64 32, handle := t0.extractLsb' 96 32
     params := t0.extractLsb' 128 352, cont := cont, check := t0.extractLsb' 480 32 })

/-- TILES of a command's tile 0. -/
def tilesOf (t0 : Tile) : Nat := (t0.extractLsb' 40 8).toNat

/-- Tile 0 of a reply (R561), with its REPLAY, PHASE and VALID bits. -/
def Reply.tile0 (r : Reply) (st : Status) (tiles : Nat) (replay phase valid : Bool) : Tile :=
  sealTile (put 512 0 r.opcode ||| put 512 13 (bit replay) ||| put 512 14 (bit phase) ||| put 512 15 (bit valid) |||
    put 512 16 st.code ||| put 512 32 r.device ||| put 512 40 (BitVec.ofNat 8 tiles) ||| put 512 48 r.seq |||
    put 512 64 r.gen ||| put 512 96 r.handle ||| put 512 128 r.data)

/-- A reply as its tiles. -/
def Reply.bytes (r : Reply) (k : Nat) : List Byte :=
  bytesOf (r.tile0 r.status k false false true) 64 ++
    (List.range (k - 1)).flatMap fun i => bytesOf (sealTile (r.tiles.getD i 0)) 64

/-- Put a reply into the deduplication window's entry of its SEQ (R570). -/
def recordReply (w : List WinEntry) (r : Reply) (k : Nat) : List WinEntry :=
  if r.status = .timeout ∨ r.status = .unreachable then w.filter fun e => e.seq ≠ r.seq
  else w.map fun e => if e.seq = r.seq ∧ e.reply.isNone then { e with reply := some r, tiles := k } else e

/-- Where the window of an originating device and slice lies (R534). -/
def windowKey (dev slice : Nat) : Nat := dev * 64 + slice

/-! ## Commands across the fabric -/

/-- The modes in which COMMAND and REPLY frames are sent and taken (R35). -/
def State.cmdMode (s : State) : Bool := s.sys.mode.live || decide (s.sys.mode = .safe)

/-- The LSA of an ID; none when the ID is claimed by two serials (R525). -/
def State.lsaOf (s : State) (d : BitVec 6) : Option Lsa :=
  match (s.fab.lsas.filterMap (·.2)).filter fun l => l.id = d with
  | [l] => some l
  | _ => none

/-- The link on which a command or reply for a device leaves (R533): none for one without a route, in BOOT or in
HOLD. -/
def State.cmdOut (s : State) (d : BitVec 6) : Option Nat :=
  let stopped := match s.lsaOf d with | some l => l.mode = 0 || l.mode = 4 | none => false
  if !s.cmdMode || stopped then none else s.cmdLink d.toNat

/-- The slice of a command in byte 11 of its reply's header (the model's choice: a reply tile names none). -/
def sliceByte (q : Cmd) : BitVec 40 := q.slice.setWidth 40 <<< 32

/-- A reply to a command that came over the fabric is sent under the routes (R533). -/
def State.fabricSend (s : State) (q : Cmd) (src k : Nat) (r : Reply) : State :=
  match s.cmdOut (BitVec.ofNat 6 src) with
  | some l => s.linkSend l { kind := 2, dest := BitVec.ofNat 6 src, port := 63, src := s.devId
                             extra := sliceByte q, payload := r.bytes k }
  | none => s

/-- A reply to a fabric command is kept in the window of its origin (R534) and sent. -/
def State.fabricReply (s : State) (q : Cmd) (src k : Nat) (r : Reply) : State :=
  let i := windowKey src q.slice.toNat
  { s with fab.windows := Tab.upd [] s.fab.windows i fun w => recordReply w r k }.fabricSend q src k r

/-- A COMMAND frame to a device. -/
def State.sendCommand (s : State) (l : Nat) (dest : BitVec 6) (payload : List Byte) : State :=
  s.linkSend l { kind := 1, dest := dest, port := 63, src := s.devId, payload := payload }

/-- A command that waits for a reply from another device. -/
def State.awaitReply (s : State) (q : Cmd) (opcode : BitVec 12) (keys : List ObjKey) (dest : BitVec 6) (k : Nat)
    (twin : Option Reply) : State :=
  { s with fab.remote := s.fab.remote ++
      [{ cmd := q, opcode := opcode, keys := keys, target := dest
         due := s.now + s.fab.cfg.cmdTimeoutUs.toNat * 1000, twin := twin, replyTiles := k }] }

/-- The opcodes that read only: GETs, statistics reads and SNAPSHOT (R535). -/
def readOps : List (BitVec 12) :=
  [0x002, 0x004, 0x102, 0x202, 0x302, 0x311, 0x322, 0x412, 0x413, 0x414, 0x422, 0x431, 0x502, 0x504, 0x513, 0x522, 0x532,
   0x602, 0x703, 0x711, 0x721, 0x734, 0x802, 0x804, 0x811, 0x821, 0x832, 0x902, 0x912, 0x921, 0x923, 0x936, 0x942, 0x951,
   0xA02, 0xA11, 0xB01, 0xB11, 0xE01, 0xE03, 0xE04]

end Sys2Proof.Machine
namespace Sys2Proof
open Sys2Proof.Machine

/-- A command of the kind that a twin pair applies to both devices (R535). -/
def Cmd.twinned (q : Cmd) (opcode : BitVec 12) : Bool :=
  opcode.extractLsb' 8 4 ≠ 0xC && !readOps.contains opcode && !q.flags.getLsbD 0 &&
    (match q.path with | .twin .. => false | _ => true)

end Sys2Proof
namespace Sys2Proof.Machine

/-- The two devices of the pair have come apart (R535). -/
def State.desync (s : State) : State :=
  if s.fab.st.twinDesync = 1 then s else { s with fab.st.twinDesync := 1 }.reportDev 0x0C04 0 0

end Sys2Proof.Machine
end

