-- ==== Sys2Proof/Machine/Cmds.lean ====
section
/-!
DEFINITION. The life of a command packet: its parameters, the checks of R565 in their order, holds (R568), the reply
in its slot, mailbox or frame (R559 to R564), the deduplication window (R570) and the generations (R567). Every host
command's meaning is one `Plan` run by `runCmd`.
-/
namespace Sys2Proof

/-! ## Parameters (R560) -/

/-- Byte `o` of tile 0, 16 to 59. -/
def Cmd.u8 (q : Cmd) (o : Nat) : Nat := (q.params.extractLsb' (8 * (o - 16)) 8).toNat
/-- Two bytes of tile 0. -/
def Cmd.u16 (q : Cmd) (o : Nat) : Nat := (q.params.extractLsb' (8 * (o - 16)) 16).toNat
/-- Four bytes of tile 0. -/
def Cmd.u32 (q : Cmd) (o : Nat) : Nat := (q.params.extractLsb' (8 * (o - 16)) 32).toNat
/-- Eight bytes of tile 0. -/
def Cmd.u64 (q : Cmd) (o : Nat) : Word := q.params.extractLsb' (8 * (o - 16)) 64
/-- Continuation tile `k`, from 1. -/
def Cmd.tile (q : Cmd) (k : Nat) : BitVec 512 := q.cont.getD (k - 1) 0
/-- The object number. -/
def Cmd.h (q : Cmd) : Nat := q.handle.toNat
/-- Bit `i` of the option byte at offset `o` (R594). -/
def Cmd.opt (q : Cmd) (o i : Nat) : Bool := q.params.getLsbD (8 * (o - 16) + i)
/-- OPTS CLEAR of a GET (R593). -/
def Cmd.clear (q : Cmd) : Bool := q.opt 16 0

end Sys2Proof

namespace Sys2Proof.Machine

/-- Bytes `o` to `o + k - 1` of tile 0 as a mask, for the reserved bits of a command. -/
def used (o k : Nat) : BitVec 352 := ((BitVec.allOnes 352) >>> (352 - 8 * k)) <<< (8 * (o - 16))

/-- A reply field of `k` bits at byte `o` of tile 0 (R561). -/
def dat (o : Nat) {k : Nat} (v : BitVec k) : BitVec 352 := put 352 (8 * (o - 16)) v

/-- The slice whose authority a command carries (R552, R580, R584, R634). -/
def State.requester (s : State) (q : Cmd) : Nat :=
  match q.path with
  | .mailbox => 0
  | .script => q.slice.toNat
  | .sq n => n.val
  | .m0 => if s.sys.recovery then 0 else s.host.devCfg.mgmtSlice.toNat
  | .fabric .. => q.slice.toNat
  | .twin .. => q.slice.toNat
  | .jtag => q.slice.toNat

/-- The first failing check of an ordered list. -/
def firstFail : List (Bool × Status) → Option Status
  | [] => none
  | (c, e) :: r => if c then some e else firstFail r

/-! ## Kinds of command -/

/-- The mode sets of R596. -/
inductive ModeSet where
  | all | live | comm | chs
deriving DecidableEq, Repr

/-- Whether a mode is in a set (R596). -/
def ModeSet.allows : ModeSet → Mode → Bool
  | .all, _ => true
  | .live, m => m != .boot
  | .comm, m => m == .commission
  | .chs, m => m == .commission || m == .hold || m == .safe

/-- What the group tables of chapter 19 fix for an opcode: its mode set, the least and most tiles it carries, and the
bits of bytes 16 to 59 that it uses. -/
structure OpInfo where
  opcode : BitVec 12
  modes : ModeSet
  minTiles : Nat := 1
  maxTiles : Nat := 1
  uses : BitVec 352 := 0
  /-- Bits of the last continuation tile, or of the SET tile, that are reserved. -/
  tileRsv : Tile := 0
deriving DecidableEq, Repr

/-- What a command would do in a state: its checks in the order of R565, and its effect. -/
structure Plan where
  /-- Checks 7 and 8 beyond those that `OpInfo` gives. -/
  bad : List (Bool × Status) := []
  /-- Check 10. -/
  owns : Bool := true
  /-- The objects: the first one's generation is compared (check 12) and returned; a change increments each. -/
  keys : List ObjKey := []
  /-- EXP_GEN must name a generation (R597). -/
  needGen : Bool := false
  /-- Check 13. -/
  own : List (Bool × Status) := []
  /-- DATA of the reply when a check 13 fails. -/
  failData : BitVec 352 := 0
  /-- The command changes an object. -/
  changes : Bool := true
  /-- The command must wait before it executes (R186, R568, R637). -/
  hold : Bool := false
  eff : State
  data : BitVec 352 := 0
  /-- The status of a command that has executed: OK but for a JTAG response that is wrong. -/
  status : Status := .ok
  tiles : List Tile := []
  /-- Tiles of the reply (R559). -/
  replyTiles : Nat := 1
  handle : Option Word32 := none
  /-- The reply follows when this ends. -/
  wait : Option Wait := none

/-! ## Replies -/

/-- The PENDING tile of a reserved slot (R562). -/
def pendingTile (seq : BitVec 16) (phase : Bool) : Tile :=
  sealTile (put 512 14 (bit phase) ||| put 512 16 Status.pending.code ||| put 512 48 seq)

/-- The STATUS a saved reply shows when it is repeated (R571). -/
def replayStatus (st : Status) : Status := if st = .ok then .replayed else st

/-- Slots of a slice's reply ring (R557). -/
def SliceHost.cqDepth (h : SliceHost) : Nat := 2 ^ h.cfg.cqLog2.toNat
/-- Slots of a slice's submission ring. -/
def SliceHost.sqDepth (h : SliceHost) : Nat := 2 ^ h.cfg.sqLog2.toNat
/-- Reply tiles reserved and not yet passed by CQ_HEAD (R558). -/
def SliceHost.cqUsed (h : SliceHost) : Nat :=
  (h.st.cqResv.toNat + 2 * h.cqDepth - h.cqHead.toNat) % (2 * h.cqDepth)

/-- The address and the lap of a reply slot's count (R557). -/
def SliceHost.cqSlot (h : SliceHost) (c : Nat) : Word × Bool :=
  (h.cfg.cqBase + BitVec.ofNat 64 (c % h.cqDepth * 64), (c / h.cqDepth) % 2 = 1)

/-- Reserve `k` reply tiles of a slice and write each PENDING (R559, R562). -/
def State.reserve (s : State) (n : Nat) (seq : BitVec 16) (k : Nat) (replay : Bool) : State :=
  let h := s.sl n
  let c := h.st.cqResv.toNat
  let s1 := (List.range k).foldl (fun (s : State) i =>
    let (a, ph) := h.cqSlot (c + i)
    s.emit (.hostTile n a (pendingTile seq ph))) s
  s1.modSl n fun h =>
    { h with st.cqResv := BitVec.ofNat 13 ((c + k) % (2 * h.cqDepth))
             resv := h.resv ++ [⟨seq, BitVec.ofNat 13 c, k, replay⟩] }

/-- A command of an attached SQ that has no reply tiles yet gets them, each PENDING (R559). -/
def State.reserveOnce (s : State) (q : Cmd) (k : Nat) : State :=
  match q.path with
  | .sq n =>
    if (s.sl n.val).st.state = 0 ∨ (s.sl n.val).resv.any (fun v => v.seq = q.seq && !v.replay) then s
    else s.reserve n.val q.seq k false
  | _ => s

/-- Whether a reserved slot has been passed by CQ_HEAD (R564). -/
def SliceHost.passed (h : SliceHost) (v : Resv) : Bool :=
  (h.st.cqResv.toNat + 2 * h.cqDepth - v.first.toNat) % (2 * h.cqDepth) > h.cqUsed

/-- Write a reply into its reserved slots: the continuation tiles, zero filler tiles, then tile 0 (R559, R562). -/
def State.writeSlots (s : State) (n : Nat) (v : Resv) (r : Reply) : State :=
  let h := s.sl n
  if h.passed v then s.modSl n fun h => { h with st.replyOrphan := satInc h.st.replyOrphan }
  else
    let body := (List.range (v.tiles - 1)).foldl (fun (s : State) i =>
      s.emit (.hostTile n (h.cqSlot (v.first.toNat + i + 1)).1 (sealTile (r.tiles.getD i 0)))) s
    let (a, ph) := h.cqSlot v.first.toNat
    body.emit (.hostTile n a
      (r.tile0 (if v.replay then replayStatus r.status else r.status) v.tiles v.replay ph true))

/-- The device's address on M0, byte 0 of the frame lowest: M0_MAC, or under the recovery firmware without a boot record
0x02 and five bytes of the serial (R579, R633). -/
def State.m0Addr (s : State) : BitVec 48 :=
  if s.sys.recovery && !s.sys.bootRead then leBits 48 (0x02 :: beBytes Config.serial 5) else s.sys.boot.m0Mac

/-- An Ethernet header of a management reply (R579) and its FCS. -/
def mgmtFrame (dst src : BitVec 48) (body : List Byte) : List Byte :=
  let f := bytesOf dst 6 ++ bytesOf src 6 ++ [0x88, 0xB5] ++ [1, 1, 0, 0] ++ body
  f ++ bytesOf (crc32 f) 4

/-- The reply goes out on the command's path. Slots of an SQ command that reserved none are reserved now. A slice that
is DETACHED keeps it in the window only (R545). `quiet` is FLAGS bit 1 (R560). -/
def State.deliver (s : State) (q : Cmd) (k : Nat) (r : Reply) : State :=
  match q.path with
  | .mailbox =>
    let s1 := s.modSl 0 fun h => { h with window := recordReply h.window r k }
    if s1.host.mboxGone.contains r.seq then { s1 with host.mboxGone := s1.host.mboxGone.erase r.seq }
    else { s1 with host.mboxOut := r.tile0 r.status 1 false false true, host.mboxPending := false }
  | .script =>
    { s.modSl 0 fun h => { h with window := recordReply h.window r k } with sys.scriptOk := s.sys.scriptOk && decide (r.status = .ok), sys.lastReply := some r }
  | .sq n =>
    let s1 := s.modSl n.val fun h => { h with window := recordReply h.window r k }
    if (s1.sl n.val).st.state = 0 then s1
    else
      let s2 := s1.reserveOnce q k
      let slots := (s2.sl n.val).resv.filter fun v => v.seq = r.seq
      let s3 := slots.foldl (fun (s : State) v => s.writeSlots n.val v r) s2
      let s4 := s3.modSl n.val fun h => { h with resv := h.resv.filter fun v => v.seq ≠ r.seq }
      if q.flags.getLsbD 1 then s4 else s4.signal n.val 0
  | .m0 =>
    let dst := ((s.host.m0Peers.find? fun p => p.1 = r.seq).map (·.2)).getD s.host.devCfg.mgmtPeer
    let s1 := { s with host.m0Window := recordReply s.host.m0Window r k
                       host.m0Peers := s.host.m0Peers.filter fun p => p.1 ≠ r.seq }
    s1.sendOwn 32 (mgmtFrame dst s.m0Addr (r.bytes k))
  | .fabric _ src => s.fabricReply q src k r
  | .twin _ src _ => s.fabricSend q src k r
  | .jtag => s.emit (.jtag (r.bytes k))

/-- The reply of a command is due. A command that a twin pair applies to both devices is copied to the other one first,
with the generation reached, and its reply waits for the report (R535); a survivor alone is out of step (R541). -/
def State.answer (s : State) (q : Cmd) (keys : List ObjKey) (k : Nat) (r : Reply) : State :=
  if r.status = .ok ∧ q.twinned r.opcode then
    if s.fab.st.twinState = 1 then
      let d := twinOf s.devId
      match s.cmdOut d with
      | some l => (s.sendCommand l d ({ q with expGen := r.gen }.bytes r.opcode)).awaitReply q r.opcode keys d k (some r)
      | none => s.desync.deliver q k r
    else if s.fab.st.twinState = 2 ∨ s.fab.st.twinState = 3 then s.desync.deliver q k r
    else s.deliver q k r
  else s.deliver q k r

/-- Count a completed command of a slice (R555) and answer it. -/
def State.complete (s : State) (q : Cmd) (keys : List ObjKey) (k : Nat) (r : Reply) : State :=
  let n := s.requester q
  let s1 := s.modSl n fun h =>
    if r.status.code.toNat ≥ 0x100 then { h with st.cmdRejected := satInc h.st.cmdRejected }
    else { h with st.cmdAccepted := satInc h.st.cmdAccepted }
  s1.answer q keys k r

/-- The reply of a command that fails a check: no object has changed. -/
def failReply (s : State) (info : OpInfo) (q : Cmd) (p : Plan) (st : Status) (data : BitVec 352 := 0) : Reply :=
  { opcode := info.opcode, status := st, device := s.devId.setWidth 8, seq := q.seq
    gen := (p.keys.head?.map s.gen).getD 0, handle := q.handle, data := data }

/-- The reply of a command that has executed; `s` is the state after it. -/
def okReply (s : State) (info : OpInfo) (q : Cmd) (p : Plan) : Reply :=
  { opcode := info.opcode, status := p.status, device := s.devId.setWidth 8, seq := q.seq
    gen := (p.keys.head?.map s.gen).getD 0, handle := p.handle.getD q.handle, data := p.data, tiles := p.tiles }

/-! ## Execution -/

/-- The debug commands that name a thread (R619). -/
def debugOps : List (BitVec 12) := [0xF01, 0xF02, 0xF03, 0xF04, 0xF05, 0xF06, 0xF07, 0xF08]

/-- What JTAG may not send: anything while it is locked, and any other command than those of a debugger (R280, R652; the
form, packets answered on the port, is a DESIGN CHOICE, log entry 90). -/
def State.jtagShut (s : State) (info : OpInfo) (q : Cmd) : Bool :=
  q.path = .jtag && (!s.sys.jtagOpen || !debugOps.contains info.opcode)

/-- Checks 5, 7 and 8 of R565 (check 6 is the constructor), and the mailbox's one tile (R552). -/
def wireChecks (s : State) (info : OpInfo) (q : Cmd) (p : Plan) : Option Status :=
  firstFail ([
    (s.jtagShut info q, .badOpcode),
    (match q.path with
      | .jtag => decide (q.slice.toNat ≥ 64)
      | .fabric .. => decide (q.slice.toNat ≥ 64) | .twin .. => decide (q.slice.toNat ≥ 64)
      | _ => decide (q.slice.toNat ≠ s.requester q),
      .badParam),
    (decide (q.flags.toNat ≥ 4), .badParam),
    (decide (q.device.toNat ≥ 64), .badParam),
    (decide (q.cont.length + 1 < info.minTiles ∨ info.maxTiles < q.cont.length + 1), .badLength),
    (decide (q.path = .mailbox ∧ (q.cont ≠ [] ∨ p.replyTiles ≠ 1)), .badLength),
    (decide (q.params &&& ~~~ info.uses ≠ 0), .badParam),
    (decide (q.cont ≠ [] ∧ q.cont.getLastD 0 &&& info.tileRsv ≠ 0), .badParam),
    (p.needGen && q.expGen = 0xFFFFFFFF && !(match q.path with | .twin .. => true | _ => false), .badParam)] ++ p.bad)

/-- The opcodes that the recovery firmware serves (R632). -/
def recoveryOps : List (BitVec 12) := [0x002, 0x005, 0xD01, 0xD20, 0xD21, 0xF10, 0xF11]

/-- Checks 10 and 11. -/
def rightChecks (s : State) (info : OpInfo) (p : Plan) : Option Status :=
  firstFail [(!p.owns, .notOwner),
    (!info.modes.allows s.sys.mode || (s.sys.recovery && !recoveryOps.contains info.opcode), .wrongMode)]

/-- Checks 12 and 13. -/
def lateChecks (s : State) (q : Cmd) (p : Plan) : Option Status :=
  firstFail ((decide (q.expGen ≠ 0xFFFFFFFF ∧ q.expGen ≠ (p.keys.head?.map s.gen).getD 0), .staleGeneration) :: p.own)

/-- Whether two commands name one object. -/
def sameObject (a b : List ObjKey) : Bool := a.any fun k => b.contains k

/-- Whether a command waits: its own condition, a SNAPSHOT's staging copy (R582), or an earlier held or twin-copied
command of its path that names its object (R568). Writes of the ruleset wait in arrival order whatever their paths
(R186). -/
def State.mustHold (s : State) (q : Cmd) (p : Plan) : Bool :=
  p.hold || (p.changes && (match s.host.snapshot with | some sn => sn.staging | none => false)) ||
    (s.host.held.any fun h => (h.cmd.path = q.path || (p.changes && p.keys.contains (.ruleset, 0))) &&
      sameObject h.keys p.keys) ||
    s.fab.remote.any fun r => r.twin.isSome && r.cmd.path = q.path && sameObject r.keys p.keys

/-- The generations and DEV_GEN after an executed command (R567). -/
def State.changed (s : State) (p : Plan) : State :=
  if p.changes then
    let s1 := s.bumpGens p.keys
    { s1 with host.devGen := nextGen s1.host.devGen }
  else s

/-- A command of SL0 voids the token of SELVEDGE_CLEAR_ARM (R616), but for the two commands that use it. -/
def State.voidArm (s : State) (info : OpInfo) (q : Cmd) : State :=
  if s.requester q = 0 ∧ info.opcode ≠ 0xD02 ∧ info.opcode ≠ 0xD03 then { s with host.clearArm := none } else s

/-- A twin's copy takes the generation that the other device has reached (R535). -/
def State.twinGen (s : State) (q : Cmd) (p : Plan) : State :=
  match q.path, p.keys with
  | .twin _ _ g, k :: _ => { s with host.gens := Tab.set 1 s.host.gens (genKey k) g }
  | _, _ => s

/-- A command for another device is forwarded (R533), or cannot be. -/
def State.forwardCmd (s : State) (info : OpInfo) (q : Cmd) (p : Plan) : State :=
  let d := BitVec.ofNat 6 q.device.toNat
  match s.cmdOut d with
  | none => s.complete q p.keys p.replyTiles (failReply s info q p .unreachable)
  | some l => (s.sendCommand l d (q.bytes info.opcode)).awaitReply q info.opcode [] d p.replyTiles none

/-- A command that has passed every check executes: its effect, the generations, and its reply, now or later. -/
def execPlan (info : OpInfo) (q : Cmd) (p : Plan) : State :=
  let s1 := (((p.eff.reserveOnce q p.replyTiles).changed p).voidArm info q).twinGen q p
  match p.wait with
  | none => s1.complete q p.keys p.replyTiles (okReply s1 info q p)
  | some w => { s1 with host.deferred := s1.host.deferred ++ [⟨w, info.opcode, q, p.keys, p.replyTiles⟩] }

/-- A command packet at its execution: its reply tiles are reserved once it has passed checks 1 to 8 (R559). The other
checks are made when it executes, after any hold (R186, R565). -/
def runPlan (info : OpInfo) (q : Cmd) (s0 : State) (p : Plan) : State :=
  match wireChecks s0 info q p with
  | some e => s0.complete q p.keys 1 (failReply s0 info q p e)
  | none =>
    let s := s0.reserveOnce q p.replyTiles
    if q.device ≠ s.devId.setWidth 8 then s.forwardCmd info q p
    else if s.mustHold q p then { s with host.held := s.host.held ++ [⟨info.opcode, q, p.keys⟩] }
    else match rightChecks s info p with
      | some e => s.complete q p.keys p.replyTiles (failReply s info q p e)
      | none =>
        match lateChecks s q p with
        | some e => (s.voidArm info q).complete q p.keys p.replyTiles
          (failReply s info q p e (if e = .staleGeneration then 0 else p.failData))
        | none => execPlan info q p

/-- A command packet comes to its last checks (R565): it passes checks 1 to 11 and nothing holds it back. -/
def State.reaches (s : State) (info : OpInfo) (q : Cmd) (p : Plan) : Bool :=
  (wireChecks s info q p).isNone && decide (q.device = s.devId.setWidth 8) && !s.mustHold q p && (rightChecks s info p).isNone

/-- The meaning of a command packet. -/
def runCmd (info : OpInfo) (q : Cmd) (s : State) (p : Plan) : Out := ok s (runPlan info q s p)

/-- A command whose first part has executed completes now (R562): `sel` finds it among the deferred ones. -/
def State.finish (s : State) (sel : Wait → Bool) (st : Status) (data : BitVec 352) (tiles : List Tile) : State :=
  match s.host.deferred.find? (fun d => sel d.wait) with
  | none => s
  | some d =>
    let s1 := { s with host.deferred := s.host.deferred.erase d }
    s1.complete d.cmd d.keys d.replyTiles
      { opcode := d.opcode, status := st, device := s1.devId.setWidth 8, seq := d.cmd.seq
        gen := (d.keys.head?.map s1.gen).getD 0, handle := d.cmd.handle, data := data, tiles := tiles }

end Sys2Proof.Machine
end

