-- ==== Sys2Proof/Machine/Clocks.lean ====
section
/-!
DEFINITION. Pick clocks and wall time, chapter 3: acquisition (R80), the tracking loop (R83 to R86), sources and their
loss (R75 to R79), holdover and switching (R87 to R89), the wall-time servo (R66 to R69) and their commands.
-/
namespace Sys2Proof.Machine

/-! ## Kinds of command packet, shared by every family -/

/-- A SET of one object (R591): two tiles, no option. -/
def setOp (opcode : BitVec 12) (m : ModeSet) (rsv : Tile) : OpInfo :=
  { opcode := opcode, modes := m, minTiles := 2, maxTiles := 2, tileRsv := rsv &&& ((1 <<< 480) - 1) }
/-- A GET of one object (R591): option CLEAR. -/
def getOp (opcode : BitVec 12) (m : ModeSet) : OpInfo := { opcode := opcode, modes := m, uses := dat 16 (1 : BitVec 1) }
/-- An ACT of one tile with its parameter bytes (R591). -/
def actOp (opcode : BitVec 12) (m : ModeSet) (uses : BitVec 352) : OpInfo :=
  { opcode := opcode, modes := m, uses := uses }
/-- A GET with CLEAR by a slice that may only read (R593). -/
def clearOk (s : State) (q : Cmd) (owner : Nat) : Bool := !q.clear || s.requester q = 0 || s.requester q = owner
/-- Whether a command acts as SL0. -/
def isSl0 (s : State) (q : Cmd) : Bool := s.requester q = 0
/-- Who may SET an object whose OWNER field SL0 alone writes: the owner with OWNER unchanged, or SL0 when it changes
OWNER only or owns the object (R592, R581). `same` says that every field but OWNER keeps its value. -/
def ownerSet (me old new : Nat) (same : Bool) : Bool :=
  if me = 0 then old = 0 || same else me = old && new = old
/-- Whether a value lies in a range. -/
def inR (v lo hi : Nat) : Bool := lo ≤ v && v ≤ hi

/-! ## The loop -/

/-- One cycle in pk (R10). -/
def cyc : Nat := 2 ^ 20

/-- The phase error of R83, from −0x8_0000 to 0x7_FFFF. -/
def phaseErr (target pick : Nat) : Int :=
  let d := ((target : Int) - pick) % cyc
  if d ≥ 2 ^ 19 then d - cyc else d

/-- Length of one cycle at a frequency, in ns. -/
def cycleNs (freq : Nat) : Nat := cyc * pickDiv / (max freq 1)

/-- A new segment at the present instant, with the clock's value and remainder under the old one (R72). -/
def PickState.anchor (p : PickState) (now : Nat) (wall : Word) (freq : Nat) : PickState :=
  match p.segs with
  | [] => p
  | g :: _ =>
    let (v, r) := g.run (now - g.localA)
    { p with segs := (⟨wall, now, BitVec.ofNat 64 v, r, BitVec.ofNat 64 freq⟩ :: p.segs).take 64
             st.freqNow := BitVec.ofNat 64 freq }

/-- Clamp an integer to ±m. -/
def clampI (x : Int) (m : Nat) : Int := if x > m then m else if x < -(m : Int) then -(m : Int) else x

/-- Update interval of a source in ns (R84). -/
def updateNs (c : PickCfg) (src : Nat) : Nat :=
  let nomNs := 1000000000 * 65536 / max c.nomFreq.toNat 1
  if src = 1 ∨ src = 2 then (if c.phaseEdges = 1 then nomNs / 2 else nomNs)
  else if src = 5 then nomNs / max c.steerRate.toNat 1 else 100000

/-- Ten times B of a BW code, in tenths of Hz (R84). -/
def bwDeci (bw : Nat) : Nat := [1, 2, 5, 10, 20, 50, 100, 200].getD bw 0

/-- Division by a positive number, rounded to the nearest integer. -/
def roundDiv (x : Int) (d : Nat) : Int := (2 * x + d) / (2 * d : Nat)

/-- The proportional correction of a phase error, in 2^-32 Hz (R84): 2 ωn for damping 1.0, with ωn = 1.6 B, and 2^12 of
these units for a pick per second. -/
def loopProp (bw : Nat) (e : Int) : Int := roundDiv (e * (131072 * bwDeci bw : Nat)) 100

/-- What the integrator adds for a phase error over an update interval of `ns` (R84): ωn² times the interval. -/
def loopInteg (bw ns : Nat) (e : Int) : Int := roundDiv (e * (1048576 * bwDeci bw ^ 2 * ns : Nat)) 10000000000000

/-- FREQ_EST after an error: always positive (R73). -/
def estAfter (est bw ns : Nat) (e : Int) : Nat := max 1 ((est : Int) + loopInteg bw ns e).toNat

/-- FREQ_EST after an update, and whether the limit of R86 is in force there: while it is, the integrator takes the error
limited to LOCK_THRESH. -/
def loopEst (est bw ns lock : Nat) (e : Int) : Nat × Bool :=
  let p := (loopProp bw e).natAbs
  let lim := estAfter est bw ns (clampI e lock)
  let full := estAfter est bw ns e
  if p > lim / 256 then (lim, true) else if p ≤ full / 256 then (full, false) else (lim, false)

/-- One loop update on a phase error (R83 to R86), at the gains of R84 for the nominal update interval. -/
def PickState.loop (p : PickState) (now : Nat) (wall : Word) (e : Int) : PickState :=
  let (est', slew) := loopEst p.st.freqEst.toNat p.cfg.bw.toNat (updateNs p.cfg p.st.activeSrc.toNat)
    p.cfg.lockThresh.toNat e
  let freq := max 1 ((est' : Int) + clampI (loopProp p.cfg.bw.toNat e) (est' / 256)).toNat
  let p1 := p.anchor now wall freq
  let v := p1.at now
  let small := e.natAbs ≤ p.cfg.lockThresh.toNat
  let big := e.natAbs > p.cfg.unlockThresh.toNat
  let from0 := if small then some (p.lockFrom.getD v) else none
  let unl := if big then p.unlockRun + 1 else 0
  let st' : BitVec 3 :=
    if p.st.state = 2 then (match from0 with | some f => if v - f ≥ 16 * cyc then 3 else 2 | none => 2)
    else if p.st.state = 3 ∧ unl ≥ 4 then 2 else p.st.state
  { p1 with st.freqEst := BitVec.ofNat 64 est', st.phaseErr := BitVec.ofInt 32 e, st.slewing := bit slew
            st.state := st', lockFrom := from0, unlockRun := unl }

/-- The source state of a role: the primary or the fallback. -/
def PickState.src (p : PickState) (pri : Bool) : SrcState := if pri then p.pri else p.fb
/-- Change the source state of a role. -/
def PickState.modSrc (p : PickState) (pri : Bool) (f : SrcState → SrcState) : PickState :=
  if pri then { p with pri := f p.pri } else { p with fb := f p.fb }
/-- The source code of a role (R75). -/
def PickState.code (p : PickState) (pri : Bool) : Nat :=
  if pri then p.cfg.primary.toNat else p.cfg.fallback.toNat
/-- The pick that a role's reference event marks. -/
def PickState.offset (p : PickState) (pri : Bool) : Nat :=
  if pri then p.cfg.priOffset.toNat else p.cfg.fbOffset.toNat
/-- Whether a role is the active source now. -/
def PickState.active (p : PickState) (pri : Bool) : Bool :=
  (p.st.state == 2 || p.st.state == 3) && (p.st.onFallback == bit (!pri))

/-- A source is valid: not lost, and QUAL_CYCLES cycles of accepted events (R75). -/
def PickState.valid (p : PickState) (pri : Bool) (v : Nat) : Bool :=
  let x := p.src pri
  p.code pri ≠ 0 && !x.lost && (match x.runFrom with | some f => v - f ≥ p.cfg.qualCycles.toNat * cyc | none => false)

/-- The clock goes to TRACKING on a role (R87), counted in SOURCE_SWITCHES. -/
def PickState.switchTo (p : PickState) (pri : Bool) : PickState :=
  { p with st.state := 2, st.activeSrc := BitVec.ofNat 3 (p.code pri), st.onFallback := bit (!pri)
           st.sourceSwitches := satInc p.st.sourceSwitches, st.holdover := 0, st.holdCycles := 0
           lockFrom := none, unlockRun := 0, fbHoldover := false }

/-- The clock's switch reported by its code of R93. -/
def State.switchPick (s : State) (k : Nat) (pri : Bool) : State :=
  (s.modPick k fun p => p.switchTo pri).reportDev (if pri then 0x0804 else 0x0802) k 0

/-- What a clock knows of a source, in whichever role it has it; a source that had no role begins unqualified. -/
def PickState.stateOf (p : PickState) (code : BitVec 3) : SrcState :=
  if code = 0 then {} else if code = p.cfg.primary then p.pri else if code = p.cfg.fallback then p.fb else {}

/-- New fields come into force: each source keeps what the clock knows of it; another primary acquires anew. -/
def PickState.adopt (p : PickState) (c : PickCfg) : PickState :=
  { p with cfg := c, next := none, pri := p.stateOf c.primary, fb := p.stateOf c.fallback
           acqFirst := if c.primary = p.cfg.primary then p.acqFirst else none }

/-- The configuration that the host has set: the one in force, or the one that waits for the next loop update (R91). -/
def PickState.set (p : PickState) : PickCfg := p.next.getD p.cfg

/-- The active source is lost: HOLDOVER at FREQ_EST (R88 steps 1 and 6). No loop update comes then, so fields that wait
for one come into force (R91; log entry 19). -/
def State.holdover (s : State) (k : Nat) : State :=
  let onFb := (s.pick k).st.onFallback = 1
  let s1 := s.modPick k fun p =>
    let p1 := (p.anchor s.now s.wall p.st.freqEst.toNat).adopt p.set
    { p1 with st.state := 4, st.holdover := 1, st.holdCycles := 0, st.slewing := 0, st.onFallback := 0
              st.sourceSwitches := satInc p.st.sourceSwitches
              holdFrom := p1.at s.now, fbHoldover := onFb, lockFrom := none, unlockRun := 0 }
  s1.reportDev 0x0801 k 0

/-- After new fields of a running clock, when the active role has another source: the clock follows it if it is valid,
and is in HOLDOVER if it is not (R87, R91). -/
def State.retune (s : State) (k : Nat) : State :=
  let p := s.pick k
  let pri := p.st.onFallback = 0
  if p.cfg.enable = 1 ∧ (p.st.state = 2 ∨ p.st.state = 3) ∧ p.code pri ≠ p.st.activeSrc.toNat then
    (if p.valid pri (p.at s.now) then s.modPick k fun p => p.switchTo pri else s.holdover k)
  else s

/-- A source is lost (R75). -/
def State.loseSource (s : State) (k : Nat) (pri : Bool) : State :=
  let was := (s.pick k).active pri
  let s1 := s.modPick k fun p => p.modSrc pri fun x => { x with lost := true, everLost := true, runFrom := none }
  if was then s1.holdover k else s1

/-- What a source's becoming valid does to the clock (R88 steps 2, 4, 5); the primary is asked first. Step 5 acts on the
primary being valid, so REVERT 1 undoes a PICK_SELECT of the fallback at the next reference event (log entry 83). -/
def State.returnSource (s : State) (k : Nat) : State :=
  let p := s.pick k
  let v := p.at s.now
  let priOk := p.valid true v
  let fbOk := p.valid false v
  if p.st.state = 4 then (if priOk then s.switchPick k true else s)
  else if p.st.state = 5 then (if priOk then s.switchPick k true else if fbOk then s.switchPick k false else s)
  else if (p.st.state = 2 ∨ p.st.state = 3) ∧ p.st.onFallback = 1 ∧ priOk ∧ p.cfg.revert = 1 then s.switchPick k true
  else s

/-- The frequency measured between two events (R80): `dp` pk and whole cycles in `dt` ns, in 2^-32 Hz. The number of whole
cycles between them is the one nearest to what NOM_FREQ gives (log entry 84). -/
def measured (nom dp dt : Nat) : Nat :=
  let n := roundDiv ((dt * nom : Nat) * 2 ^ 20 - (dp * 65536000000000 : Nat)) (2 ^ 20 * 65536000000000)
  max 1 (((dp : Int) + n * cyc).toNat * pickDiv / max dt 1)

/-- A scale jumps: the lists that run on it have to follow (R460). -/
def State.scaleJump (s : State) (scale : Nat) : State :=
  { s with tm.treadles := s.tm.treadles.map fun (e : Nat × Treadle) =>
      if e.2.st.active = 1 ∧ e.2.begun ∧ e.2.st.activeScale.toNat = scale then (e.1, { e.2 with jumps := e.2.jumps + 1 }) else e }

/-- An event of the primary while ACQUIRING (R80): the second one steps the pick value forward. The same A/B edge seen by
two updates is one event. -/
def State.acquire (s : State) (k t target : Nat) : State :=
  let p := s.pick k
  match p.acqFirst with
  | none => s.modPick k fun p => { p with acqFirst := some (t, target) }
  | some (t0, tg0) =>
    if t ≤ t0 then s
    else
      let f := measured p.cfg.nomFreq.toNat ((target + cyc - tg0 % cyc) % cyc) (t - t0)
      let here := p.at t
      let jump := (target + cyc - here % cyc) % cyc
      (if jump = 0 then s else s.scaleJump (k + 1)).modPick k fun p =>
        let p1 := p.anchor s.now s.wall f
        let segs := match p1.segs with
          | g :: r => { g with pickA := g.pickA + BitVec.ofNat 64 jump } :: r
          | [] => []
        { p1 with segs := segs, st.freqEst := BitVec.ofNat 64 f, st.state := 2
                  st.activeSrc := BitVec.ofNat 3 (p.code true), st.onFallback := 0, acqFirst := none
                  lockFrom := none, unlockRun := 0 }

/-- The role that a source has; `none` when it has none. -/
def PickState.roleOf (p : PickState) (code : Nat) : Option Bool :=
  if p.code true = code then some true else if p.code false = code then some false else none

/-- An accepted reference event of a role: local time `t`, target pick `target`, the clock's pick `at'` at the event, and
the local time `seen` from which the next is expected (R75, R80, R83). -/
def State.eventOf (s : State) (k : Nat) (pri : Bool) (t target at' seen : Nat) : State :=
  let p := s.pick k
  let v := p.at s.now
  let s1 := s.modPick k fun p => p.modSrc pri fun x =>
    { x with lost := false, misses := 0, lastEdge := some seen, runFrom := some (x.runFrom.getD v) }
  if p.st.state = 1 then (if pri then s1.acquire k t target else s1)
  else
    let s2 := if p.active pri then s1.modPick k fun p => p.loop s.now s.wall (phaseErr target at') else s1
    s2.returnSource k

/-- Fields that wait for the next loop update come into force with it (R91). -/
def State.adoptNext (s : State) (k : Nat) (pri : Bool) : State :=
  let p := s.pick k
  if p.active pri ∧ p.next.isSome then (s.modPick k fun p => p.adopt p.set).retune k else s

/-- An accepted event of a running clock's source. `target` gives the pick that it marks from the offset of its role, which
the fields of a PICK_CONFIG that waited for this update may have changed. -/
def State.refEventAt (s : State) (k : Nat) (pri : Bool) (t : Nat) (target : Nat → Nat) (at' seen : Nat) : State :=
  if !(s.pick k).on then s
  else
    let s1 := s.adoptNext k pri
    match (s1.pick k).roleOf ((s.pick k).code pri) with
    | none => s1
    | some r => s1.eventOf k r t (target ((s1.pick k).offset r)) at' seen

/-- An accepted reference event at a local time, `phase` above the pick that the role's offset marks. -/
def State.refEvent (s : State) (k : Nat) (pri : Bool) (t phase : Nat) : State :=
  s.refEventAt k pri t (fun off => (phase + off) % cyc) ((s.pick k).at t) t

/-! ## Reference events -/

/-- The interval expected between the edges in use of a phase input (R76). -/
def PickState.edgeNs (p : PickState) : Nat :=
  let c := cycleNs p.st.freqEst.toNat
  if p.cfg.phaseEdges = 1 then c / 2 else c

/-- The glitch filter of a phase input: a level held for less than GLITCH_NS is ignored, with the edge that ends it
(R76). The Boolean says that the edge is seen. -/
def SrcState.filter (x : SrcState) (rising : Bool) (held glitch : Nat) : SrcState × Bool :=
  if held < glitch then ({ x with level := some (x.level.getD (!rising)) }, false)
  else if x.level = some rising then (x, false)
  else ({ x with level := some rising }, true)

/-- One clock and role sees an edge of a phase input (R76). An edge that is rejected, or missed below MISS_LIMIT, is no
accepted event; only a miss breaks the run of QUAL_CYCLES, a rejected edge does not (log entry 83). -/
def State.phaseEdgeOf (s : State) (k : Nat) (pri rising : Bool) (held src : Nat) : State :=
  let p0 := s.pick k
  if !p0.on || p0.code pri ≠ src then s
  else
    let (x, seen) := (p0.src pri).filter rising held p0.cfg.glitchNs.toNat
    let s1 := s.modPick k fun p => p.modSrc pri fun _ => x
    let p := s1.pick k
    if !seen || (!rising && p.cfg.phaseEdges = 0) then s1
    else
      let early := !x.lost && (match x.lastEdge with | some t => 2 * (s.now - t) < p.edgeNs | none => false)
      if early then s1.modPick k fun p => { p with st.pulseReject := satInc p.st.pulseReject }
      else s1.refEvent k pri s.now (if rising then 0 else 2 ^ 19)

/-- Do something for each pick clock and role. -/
def State.eachRole (s : State) (f : State → Nat → Bool → State) : State :=
  (List.range 4).foldl (fun s k => f (f s k true) k false) s

/-- PHASE_EDGE: an edge of PHASE_IN0 or PHASE_IN1, whose level is held for `held` ns, goes through the glitch filter of
each clock that uses the input (R76). -/
def execPhaseEdge (input : Fin 2) (rising : Bool) (held : Nat) (s : State) : Out :=
  ok s (s.eachRole fun s k pri => s.phaseEdgeOf k pri rising held (1 + input))

/-- One missed event of a source, lost after MISS_LIMIT in a row (R76). -/
def State.missOne (s : State) (k : Nat) (pri : Bool) : State :=
  let s1 := s.modPick k fun p =>
    { (p.modSrc pri fun x => { x with misses := x.misses + 1, runFrom := none }) with
      st.missedRef := satInc p.st.missedRef }
  if ((s1.pick k).src pri).misses ≥ (s1.pick k).cfg.missLimit.toNat then s1.loseSource k pri else s1

/-- PHASE_MISSED: no edge by 1.5 expected intervals after the last, and each whole interval more (R76). -/
def execPhaseMissed (k : Fin 4) (pri : Bool) (s : State) : Out :=
  let p := s.pick k
  let x := p.src pri
  ok s (match x.lastEdge with
    | some t =>
      if p.on && !x.lost && (p.code pri = 1 || p.code pri = 2) && decide (2 * (s.now - t) ≥ p.edgeNs * (3 + 2 * x.misses))
      then s.missOne k pri else s
    | none => s)

/-- A revolution has gone by without its Z pulse (R77): a count of ENC_CPR + 3, and each ENC_CPR more, is a miss. -/
def State.encRev (s : State) (k : Nat) (pri : Bool) : State :=
  let p := s.pick k
  let x := p.src pri
  if x.zSeen ∧ (x.encCount - 3) / (max p.cfg.encCpr.toNat 1 : Nat) > x.revMiss then
    let s1 := s.modPick k fun p =>
      { (p.modSrc pri fun x => { x with revMiss := x.revMiss + 1, badZ := x.badZ + 1 }) with
        st.missedRef := satInc p.st.missedRef }
    if x.badZ + 1 ≥ p.cfg.missLimit.toNat then s1.loseSource k pri else s1
  else s

/-- One clock and role sees a count of an encoder (R77): `up` when the count rises for ENC_DIR 0. -/
def State.encEdgeOf (s : State) (k : Nat) (pri up : Bool) (src : Nat) : State :=
  let p := s.pick k
  if !p.on || p.code pri ≠ src then s
  else
    let rises := up ^^ (p.cfg.encDir = 1)
    let fast : Bool := match (p.src pri).encEdge with | some t => decide (s.now - t < 500) | none => false
    let s1 := s.modPick k fun p => p.modSrc pri fun x =>
      { x with encCount := x.encCount + (if rises then 1 else -1), encEdge := some s.now
               encBack := if rises then 0 else x.encBack + 1 }
    let s2 := if ((s1.pick k).src pri).encBack = 8 then
        (s1.modPick k fun p => { p with st.reverse := satInc p.st.reverse }).loseSource k pri else s1.encRev k pri
    if fast then s2.loseSource k pri else s2

/-- ENC_COUNT_EDGE: an A or B edge of ENC0 or ENC1 (R77). -/
def execEncCountEdge (enc : Fin 2) (up : Bool) (s : State) : Out :=
  ok s (s.eachRole fun s k pri => s.encEdgeOf k pri up (3 + enc))

/-- One clock and role sees a Z pulse (R77): a forward revolution off by more than 2 counts is a miss, unless its passing
without a Z pulse has been counted already; a bad Z pulse below MISS_LIMIT does not break the run of QUAL_CYCLES (log
entry 83). -/
def State.encZOf (s : State) (k : Nat) (pri : Bool) (src : Nat) : State :=
  let p := s.pick k
  if !p.on || p.code pri ≠ src then s
  else
    let x := p.src pri
    let cpr : Int := p.cfg.encCpr.toNat
    let bad := x.zSeen && !(decide (cpr - 2 ≤ x.encCount) && decide (x.encCount ≤ cpr + 2))
    let miss := bad && x.revMiss = 0
    let s1 := s.modPick k fun p => p.modSrc pri fun x =>
      { x with encCount := 0, zSeen := true, lastZ := some s.now, revMiss := 0
               badZ := if !bad then 0 else if miss then x.badZ + 1 else x.badZ
               lost := x.lost && bad }
    let s2 := if bad then s1.modPick k fun p =>
        { p with st.missedRef := if miss then satInc p.st.missedRef else p.st.missedRef
                 st.pulseReject := satInc p.st.pulseReject } else s1
    if miss ∧ ((s2.pick k).src pri).badZ ≥ p.cfg.missLimit.toNat then s2.loseSource k pri else s2

/-- ENC_Z_PULSE (R77). -/
def execEncZPulse (enc : Fin 2) (s : State) : Out :=
  ok s (s.eachRole fun s k pri => s.encZOf k pri (3 + enc))

/-- The 100 µs of an encoder's or SYNTH's updates have passed (R75). -/
def SrcState.upDue (x : SrcState) (now : Nat) : Bool :=
  match x.upAt with
  | none => true
  | some u => decide (u + 100000 ≤ now)

/-- The update of a role is noted. -/
def State.upNoted (s : State) (k : Nat) (pri : Bool) : State :=
  s.modPick k fun p => p.modSrc pri fun x => { x with upAt := some s.now }

/-- ENCODER_UPDATE: every 100 µs the latest A/B edge is the reference event (R75, R77). -/
def execEncoderUpdate (k : Fin 4) (pri : Bool) (s : State) : Out :=
  let p := s.pick k
  let x := p.src pri
  ok s (match x.encEdge with
    | some t =>
      if p.on && (p.code pri = 3 || p.code pri = 4) && x.zSeen && !(x.lost && x.everLost) && x.upDue s.now then
        let n := (x.encCount % (max p.cfg.encCpr.toNat 1 : Int)).toNat
        (s.upNoted k pri).refEvent k pri t (n * cyc / max p.cfg.encCpr.toNat 1)
      else s
    | none => s)

/-- ENC_Z_TIMEOUT: no Z pulse for 3 s (R77). -/
def execEncZTimeout (k : Fin 4) (pri : Bool) (s : State) : Out :=
  let p := s.pick k
  ok s (if p.on && (p.code pri = 3 || p.code pri = 4) &&
      (match (p.src pri).lastZ with | some t => decide (s.now - t ≥ 3000000000) | none => false)
    then s.loseSource k pri else s)

/-- The pick time of SYNTH at a wall time (R79). -/
def synthPick (c : PickCfg) (off t : Nat) : Nat :=
  t * cyc * (if c.synthFreq = 1 then 60 else 50) / 1000000000 + off

/-- SYNTH_UPDATE: the ideal phase of R79 as a reference event, every 100 µs. -/
def execSynthUpdate (k : Fin 4) (pri : Bool) (s : State) : Out :=
  let p := s.pick k
  ok s (if p.on && p.code pri = 6 && (p.src pri).upDue s.now then
    (s.upNoted k pri).refEvent k pri s.now (synthPick p.cfg 0 s.wall.toNat % cyc) else s)

/-- The nominal interval of PICK_STEER posts in ns (R78). -/
def steerNs (c : PickCfg) : Nat := 1000000000 * 65536 / max c.nomFreq.toNat 1 / max c.steerRate.toNat 1

/-- STEER_MISS: no accepted post for MISS_LIMIT nominal intervals (R75). The intervals themselves are not counted in
MISSED_REF, which R76 and R77 count for edges and revolutions (log entry 83). -/
def execSteerMiss (k : Fin 4) (pri : Bool) (s : State) : Out :=
  let p := s.pick k
  ok s (if p.on && p.code pri = 5 && !(p.src pri).lost &&
      (match (p.src pri).lastEdge with
       | some t => decide (s.now - t ≥ p.cfg.missLimit.toNat * steerNs p.cfg) | none => false)
    then s.loseSource k pri else s)

/-- HOLD_CYCLES: the clock's own cycles since HOLDOVER began (R88). In FREE it keeps its value at entering FREE, which the
spec leaves open (log entry 83). -/
def PickState.holdCyclesNow (p : PickState) (now : Nat) : Nat :=
  if p.st.state = 4 then (p.at now - p.holdFrom) / cyc else p.st.holdCycles.toNat

/-- HOLD_LIMIT_EXPIRY: HOLD_LIMIT cycles have passed in HOLDOVER (R88 steps 3 and 6). -/
def execHoldLimitExpiry (k : Fin 4) (s : State) : Out :=
  let p := s.pick k
  ok s (if p.st.state = 4 && p.cfg.holdLimit ≠ 0 && decide (p.holdCyclesNow s.now ≥ p.cfg.holdLimit.toNat) then
    if !p.fbHoldover && p.valid false (p.at s.now) then s.switchPick k false
    else (s.modPick k fun p => { p with st.state := 5, st.holdCycles := satNat 32 (p.holdCyclesNow s.now) }).reportDev
      0x0803 k 0 |>.returnSource k
    else s)

/-! ## Configuration and commands of pick clocks -/

/-- Range of NOM_FREQ for a source, in 2^-16 Hz (R75). R75 gives SYNTH "50 Hz or 60 Hz"; the model takes the one that
SYNTH_FREQ names (log entry 83). -/
def nomOk (src nom : Nat) (synth : Nat) : Bool :=
  match src with
  | 1 | 2 | 5 => inR nom (40 * 65536) (70 * 65536)
  | 3 | 4 => inR nom (65536 / 2) (500 * 65536)
  | 6 => nom == (if synth = 1 then 60 else 50) * 65536
  | _ => true

/-- B may not exceed a tenth of the update rate (R84); the update rate in 2^-16 Hz. -/
def bwOk (c : PickCfg) (src : Nat) : Bool :=
  let nom := c.nomFreq.toNat
  let rate := match src with
    | 1 | 2 => nom * (if c.phaseEdges = 1 then 2 else 1)
    | 3 | 4 | 6 => 10000 * 65536
    | 5 => nom * c.steerRate.toNat
    | _ => 10000 * 65536
  bwDeci c.bw.toNat * 65536 ≤ rate

/-- The BAD_PARAM cases of R91 and the ranges of R90. -/
def PickCfg.bad (c : PickCfg) : Bool :=
  let pri := c.primary.toNat
  let fb := c.fallback.toNat
  pri = 0 || pri = 7 || fb = 7 || pri = fb || c.missLimit = 0 || c.qualCycles = 0
  || !inR c.encCpr.toNat 4 1048576 || !inR c.glitchNs.toNat 0 10000 || !inR c.steerRate.toNat 1 64
  || c.lockThresh.toNat ≥ c.unlockThresh.toNat || c.unlockThresh.toNat > 0x80000
  || !bwOk c pri || (fb ≠ 0 && !bwOk c fb) || !nomOk pri c.nomFreq.toNat c.synthFreq.toNat
  || (fb ≠ 0 && !nomOk fb c.nomFreq.toNat c.synthFreq.toNat)
  || ((pri = 3 || pri = 4 || fb = 3 || fb = 4) && c.nomFreq.toNat * c.encCpr.toNat > 2000000 * 65536)

/-- A clock is enabled (R80). -/
def PickState.start (c : PickCfg) (now : Nat) (wall : Word) : PickState :=
  let t := wall.toNat
  let nom := c.nomFreq.toNat
  let derive := c.initTime = BitVec.allOnes 64
  let p0 := if derive then t * nom * 16 / 1000000000 else c.initTime.toNat
  let r0 := if derive then t * nom * 65536 % pickDiv else 0
  let f := BitVec.ofNat 64 (nom * 65536)
  let atOnce := c.primary = 6 && c.priOffset = 0 && derive
  { cfg := c, segs := [⟨wall, now, BitVec.ofNat 64 p0, r0, f⟩]
    st := { freqEst := f, freqNow := f, state := if atOnce then 2 else 1
            activeSrc := if atOnce then 6 else 0 } }

/-- The counters of R92 kept across a change of configuration, and the segments of the last run. -/
def PickState.keepCounters (p q : PickState) : PickState :=
  { q with old := p.old, st.missedRef := p.st.missedRef, st.pulseReject := p.st.pulseReject, st.steerStale := p.st.steerStale
           st.reverse := p.st.reverse, st.sourceSwitches := p.st.sourceSwitches }

/-- The effect of PICK_CONFIG (R91): a start, a stop, or new fields, which wait for the next loop update while the loop is
closed and come into force at once while it is not (log entry 19). INIT_TIME is ignored while ENABLE is 1. -/
def PickState.configure (p : PickState) (c : PickCfg) (now : Nat) (wall : Word) : PickState :=
  let c' := { c with initTime := p.set.initTime }
  if c.enable = 1 ∧ p.cfg.enable = 0 then p.keepCounters (PickState.start c now wall)
  else if c.enable = 0 then
    { p with cfg := if p.cfg.enable = 1 then c' else c
             next := none, segs := [], old := p.segs, pri := {}, fb := {}, acqFirst := none
             lockFrom := none, unlockRun := 0
             st.state := 0, st.slewing := 0, st.onFallback := 0, st.holdover := 0, st.activeSrc := 0 }
  else if p.st.state = 2 ∨ p.st.state = 3 then { p with next := some c' }
  else p.adopt c'

/-- Whether a treadle list, launch-time queue, delay entry or PPS_OUT names a clock (R91). -/
def State.pickNamed (s : State) (k : Nat) : Bool :=
  (s.time.cfg.ppsOutEn = 1 && s.time.cfg.ppsOutSrc = 1 && s.time.cfg.ppsPk.toNat = k) || s.scaleInUse (k + 1)

/-- PICK_CONFIG (R90, R91). -/
def execPickConfig (q : Cmd) (s : State) : Out :=
  let c := PickCfg.ofTile (q.tile 1)
  let o := (s.pick q.h).set
  runCmd (setOp 0x301 .live PickCfg.rsv) q s
    { bad := [(q.h ≥ 4, .badParam), (c.bad, .badParam)], owns := isSl0 s q, keys := [(.pick, q.h)]
      own := [(o.enable = 1 &&
                (c.nomFreq ≠ o.nomFreq || c.synthFreq ≠ o.synthFreq || c.encCpr ≠ o.encCpr), .busy),
              (o.enable = 1 && c.enable = 0 && s.pickNamed q.h, .busy)]
      eff := s.modPick q.h fun p => p.configure c s.now s.wall }

/-- The status tile of PICK_GET (R92). -/
def State.pickStatus (s : State) (k : Nat) : PickSt :=
  let p := s.pick k
  { p.st with pickNow := s.pickStamp k s.now, wallNow := s.wall, holdCycles := satNat 32 (p.holdCyclesNow s.now)
              holdover := bit (p.st.state == 4 || p.st.state == 5) }

/-- PICK_GET (R92). -/
def execPickGet (q : Cmd) (s : State) : Out :=
  runCmd (getOp 0x302 .live) q s
    { bad := [(q.h ≥ 4, .badParam)], owns := clearOk s q 0, keys := [(.pick, q.h)], changes := false, replyTiles := 3
      tiles := [(s.pick q.h).set.toTile, (s.pickStatus q.h).toTile]
      eff := if q.clear then s.modPick q.h fun p =>
          { p with st := { p.st with missedRef := 0, pulseReject := 0, steerStale := 0, reverse := 0
                                     sourceSwitches := 0 } } else s }

/-- PICK_SELECT (R89). -/
def execPickSelect (q : Cmd) (s : State) : Out :=
  let p := s.pick q.h
  let pri := q.u8 16 = 0
  runCmd (actOp 0x303 .live (used 16 1)) q s
    { bad := [(q.h ≥ 4, .badParam), (q.u8 16 ≥ 2, .badParam)], owns := isSl0 s q, keys := [(.pick, q.h)]
      own := [(p.st.state = 0 || p.st.state = 1 || !p.valid pri (p.at s.now), .busy)]
      eff := if p.active pri then s else s.switchPick q.h pri }

/-- PICK_CONVERT (R602): a conversion that cannot be made still completes with OK, and OUT is then 0. -/
def execPickConvert (q : Cmd) (s : State) : Out :=
  let c := s.convert (q.u8 16) (q.u8 17) (q.u64 24).toNat
  runCmd (actOp 0x304 .live (used 16 2 ||| used 24 8)) q s
    { bad := [(q.h ≠ 0, .badParam), (q.u8 16 ≥ 5 || q.u8 17 ≥ 5, .badParam)], changes := false, eff := s
      data := dat 16 (BitVec.ofNat 64 (if c.status < 2 then c.value else 0)) ||| dat 24 (BitVec.ofNat 8 c.status) }

/-! ## Wall time -/

/-- A step of the counter (R67, R68): the pick clocks go on without a step (R71), their segments anchored anew at the new
reading, from which conversions start (R74). -/
def State.stepWall (s : State) (w : Word) : State :=
  let s1 := { s with time.wall := w, time.frac := 0, time.lastStep := w, time.stepAt := s.now
                     time.st.wallSteps := satInc s.time.st.wallSteps
                     time.picks := s.time.picks.map fun (e : Nat × PickState) =>
                       (e.1, e.2.anchor s.now w e.2.st.freqNow.toNat) }
  (s1.scaleJump 0).reportDev 0x0806 0 0

/-- WALL_UNSYNC becomes 1 (R66, R93). -/
def State.setUnsync (s : State) : State :=
  let s1 := { s with time.st.wallUnsync := 1, time.goodRun := 0, time.badRun := 0 }
  if s.time.st.wallUnsync = 0 then s1.reportDev 0x0805 0 0 else s1

/-- Whether a PTP port is enabled and in SLAVE state. -/
def State.ptpSlave (s : State) (p : Nat) : Bool :=
  (Tab.get {} s.time.ptpPorts p).enable = 1 && (s.ptpSt p).portState = 9

/-- The first condition of R66 for WALL_UNSYNC 0, but for the neighbour's own report: PTP with a port in SLAVE state, PPS,
or FABRIC with its link UP. -/
def State.wallSource (s : State) : Bool :=
  match s.time.cfg.source.toNat with
  | 1 => (List.range 33).any s.ptpSlave
  | 2 => true
  | 3 => (Tab.get {} s.fab.links s.fab.cfg.wallLink.toNat).st.state = 3
  | _ => false

/-- WALL_UNSYNC is 0 only with its source (R66). -/
def State.checkSync (s : State) : State := if s.wallSource then s else s.setUnsync

/-- The same after a change of the fabric, which concerns wall time only under SOURCE FABRIC. -/
def State.wallFollows (s : State) : State := if s.time.cfg.source = 3 then s.checkSync else s

/-- FADJ within ±500 ppm (R63). -/
def clampFadj (v : Int) : Word := BitVec.ofInt 64 (clampI v 2147483)

/-- One offset measurement: WALL_UNSYNC's counts (R66), then a step or a slew (R67). `src` says that the source
conditions of R66 hold. The servo's new FADJ is a free value within its limits. -/
def State.wallOffset (s : State) (off : Int) (src : Bool) : State :=
  let lock := s.time.cfg.lockNs.toNat
  let good := if off.natAbs ≤ lock then s.time.goodRun + 1 else 0
  let bad := if off.natAbs > 4 * lock then s.time.badRun + 1 else 0
  let s1 := { s with time.st.lastOffsetNs := satInt 32 off, time.goodRun := good, time.badRun := bad }
  let s2 := if bad ≥ 4 then s1.setUnsync else s1
  if s.time.st.wallUnsync = 1 ∧ (s.sys.mode = .commission ∨ s.sys.mode = .hold ∨ s.sys.mode = .safe)
      ∧ off.natAbs > 1000 then s2.stepWall (BitVec.ofInt 64 (s.wall.toNat - off))
  else
    let lim := s.time.cfg.slewLimit.toNat * 2 ^ 32 / 1000000000
    let raw := (Config.servoFadj s.time.free).toInt
    let f := clampFadj (s.fadj + clampI (raw - s.fadj) lim)
    let s3 := { s2 with time.st.fadj := f }.drawn
    if src ∧ good ≥ 8 then { s3 with time.st.wallUnsync := 0 } else s3

/-- WALL_SET (R67, R602). -/
def execWallSet (q : Cmd) (s : State) : Out :=
  runCmd (actOp 0x312 .chs (used 16 8)) q s
    { bad := [(q.h ≠ 0, .badParam)], owns := isSl0 s q, keys := [(.wall, 0)]
      eff := { s with time.todSet := true }.stepWall (q.u64 16) }

/-- Ranges of the wall-time configuration (R71). -/
def WallCfg.bad (c : WallCfg) : Bool :=
  c.source.toNat ≥ 4 || c.profile = 3 || c.ppsPk.toNat ≥ 4 || !inR c.lockNs.toNat 1 10000
  || !inR c.ppsWidth.toNat 1000 500000000 || !inR c.slewLimit.toNat 1 500000

/-- Whether PPS_OUT may pulse (R70). -/
def State.ppsOn (s : State) : Bool :=
  s.time.cfg.ppsOutEn = 1 && (s.time.cfg.ppsOutSrc = 0 || (s.pick s.time.cfg.ppsPk.toNat).on)

/-- PPS_OUT goes low where it may not be high (R70). -/
def State.ppsLower (s : State) : State :=
  if s.time.ppsHigh && !s.ppsOn then { s with time.ppsHigh := false }.emit (.ppsOut false) else s

/-- New wall-time fields (R71): another source is not yet locked (R66), and PPS_OUT follows (R70). -/
def State.setWallCfg (s : State) (c : WallCfg) : State :=
  let s1 := { s with time.cfg := c }
  (if c.source ≠ s.time.cfg.source then s1.setUnsync else s1.checkSync).ppsLower

/-- WALL_CONFIG (R71). -/
def execWallConfig (q : Cmd) (s : State) : Out :=
  let c := WallCfg.ofTile (q.tile 1)
  runCmd (setOp 0x310 .live WallCfg.rsv) q s
    { bad := [(q.h ≠ 0, .badParam), (c.bad, .badParam)], owns := isSl0 s q, keys := [(.wall, 0)]
      eff := s.setWallCfg c }

/-- The device may be grandmaster (R65). -/
def State.mayGm (s : State) : Bool :=
  (s.time.cfg.source = 0 || s.time.cfg.source = 2) && s.time.todSet &&
  (s.time.ptpClock.clockType = 1 || s.time.ptpClock.clockType = 2)

/-- The device is grandmaster: the source is NONE or PPS and WALL_SET has set the time of day (R65), the clock is a
master-capable ordinary clock or a boundary clock, a PTP port is in MASTER state and none is in SLAVE state. -/
def State.isGrandmaster (s : State) : Bool :=
  s.mayGm &&
  ((List.range 33).any fun p => (Tab.get {} s.time.ptpPorts p).enable = 1 && (s.ptpSt p).portState = 6) &&
  !((List.range 33).any fun p => (s.ptpSt p).portState = 9)

/-- WALL_GET (R603). -/
def execWallGet (q : Cmd) (s : State) : Out :=
  runCmd (getOp 0x311 .live) q s
    { bad := [(q.h ≠ 0, .badParam)], owns := clearOk s q 0, keys := [(.wall, 0)], changes := false, replyTiles := 3
      tiles := [s.time.cfg.toTile, { s.time.st with wallNow := s.wall, grandmaster := bit s.isGrandmaster }.toTile]
      eff := if q.clear then
          { s with time.st := { s.time.st with ppsReject := 0, ptpMgmtDrop := 0, wallSteps := 0 } } else s }

/-! ## PPS -/

/-- PPS_IN_EDGE: a rising edge, compensated, is the start of a TAI second (R69). -/
def execPpsInEdge (s : State) : Out :=
  let t := (s.wall.toNat : Int) - s.time.cfg.ppsInComp.toInt
  let m := t % 1000000000
  let off := if m ≥ 500000000 then m - 1000000000 else m
  let s1 := { s with time.lastPps := some s.now }
  ok s (if s.time.cfg.source ≠ 2 then s1
    else if off.natAbs > 100000000 ∧ s.time.st.wallUnsync = 0 then
      { s1 with time.st.ppsReject := satInc s.time.st.ppsReject }
    else s1.wallOffset off true)

/-- PPS_IN_TIMEOUT: no edge for 3 s (R66). -/
def execPpsInTimeout (s : State) : Out :=
  ok s (if s.time.cfg.source = 2 && (match s.time.lastPps with | some t => decide (s.now - t ≥ 3000000000) | none => true)
    then s.setUnsync else s)

/-- A wall-time second, or the start of a cycle of PPS_PK, lies within ±5 ns of the present instant, advanced by
PPS_OUT_COMP (R70). -/
def State.ppsDue (s : State) : Bool :=
  let c := s.time.cfg.ppsOutComp.toInt
  if s.time.cfg.ppsOutSrc = 0 then
    let w := (s.wall.toNat + c).toNat
    (w + 5) / 1000000000 ≠ (w - 6) / 1000000000
  else
    let p := s.pick s.time.cfg.ppsPk.toNat
    let t := (s.now + c).toNat
    p.at (t + 5) / cyc ≠ p.at (t - 6) / cyc

/-- PPS_OUT_PULSE: a wall-time second or a cycle start drives PPS_OUT high (R70). -/
def execPpsOutPulse (s : State) : Out :=
  ok s (if s.ppsOn && !s.time.ppsHigh && s.ppsDue then
    { s with time.ppsHigh := true, time.ppsAt := s.now }.emit (.ppsOut true) else s)

/-- The high time of PPS_OUT: PPS_WIDTH, or half the present cycle of PPS_PK if that is shorter (R70). -/
def State.ppsWidth (s : State) : Nat :=
  let w := s.time.cfg.ppsWidth.toNat
  if s.time.cfg.ppsOutSrc = 0 then w
  else min w (cycleNs (s.pick s.time.cfg.ppsPk.toNat).st.freqNow.toNat / 2)

/-- PPS_OUT_FALL: the high time has ended (R70). -/
def execPpsOutFall (s : State) : Out :=
  ok s (if s.time.ppsHigh && decide (s.time.ppsAt + s.ppsWidth ≤ s.now) then
    { s with time.ppsHigh := false }.emit (.ppsOut false) else s)

end Sys2Proof.Machine
end

