-- ==== Sys2Proof/Machine/Aes.lean ====
section
/-!
DEFINITION. AES (FIPS 197) and the two halves of GCM (NIST SP 800-38D) that CP1 computes (R334): a block is 128 bits,
byte 0 in the most significant place.
-/
namespace Sys2Proof.Machine

/-- Multiplication by x in GF(2^8) with 0x11B. -/
def gfDouble (b : Byte) : Byte := if b.getLsbD 7 then (b <<< 1) ^^^ 0x1B else b <<< 1
/-- Product in GF(2^8). -/
def gfMul (a b : Byte) : Byte :=
  ((List.range 8).foldl (fun (p : Byte × Byte) i => (if b.getLsbD i then p.1 ^^^ p.2 else p.1, gfDouble p.2)) (0, a)).1
/-- Square and multiply to the power 254: the inverse, 0 for 0. -/
def gfInv (a : Byte) : Byte :=
  (List.range 6).foldl (fun (r : Byte) _ => gfMul (gfMul r r) a) a |> fun r => gfMul r r
/-- The S-box. -/
def sbox (b : Byte) : Byte :=
  let i := gfInv b
  i ^^^ i.rotateLeft 1 ^^^ i.rotateLeft 2 ^^^ i.rotateLeft 3 ^^^ i.rotateLeft 4 ^^^ 0x63

/-- Four bytes of a key schedule word, exclusive-ored. -/
def xorBytes (a b : List Byte) : List Byte := List.zipWith (· ^^^ ·) a b
/-- Round constant `i`, from 1. -/
def rcon (i : Nat) : Byte := (List.range (i - 1)).foldl (fun b _ => gfDouble b) 1

/-- The key schedule: words so far, newest first; `nk` words of key. -/
def keyWords (nk : Nat) : Nat → List (List Byte) → List (List Byte)
  | 0, ws => ws
  | n + 1, ws =>
    let i := ws.length
    let prev := ws.headD []
    let t := if i % nk = 0 then
        xorBytes ((prev.drop 1 ++ prev.take 1).map sbox) [rcon (i / nk), 0, 0, 0]
      else if nk > 6 ∧ i % nk = 4 then prev.map sbox else prev
    keyWords nk n (xorBytes (ws.getD (nk - 1) []) t :: ws)

/-- Round keys of 16 bytes each, in order. -/
def roundKeys (key : List Byte) : List (List Byte) :=
  let nk := key.length / 4
  let ws := (keyWords nk (4 * (nk + 7) - nk) ((List.range nk).map fun i => slice key (4 * i) 4).reverse).reverse
  (List.range (nk + 7)).map fun r => (slice' ws (4 * r)).flatten
where
  /-- Four words from a place. -/
  slice' (ws : List (List Byte)) (o : Nat) : List (List Byte) := (ws.drop o).take 4

/-- ShiftRows of a block held column by column. -/
def shiftRows (b : List Byte) : List Byte :=
  (List.range 16).map fun i => nthByte b ((i + 4 * (i % 4)) % 16)
/-- MixColumns. -/
def mixColumns (b : List Byte) : List Byte :=
  (List.range 16).map fun i =>
    let at' := fun k => nthByte b (i / 4 * 4 + (i + k) % 4)
    gfMul 2 (at' 0) ^^^ gfMul 3 (at' 1) ^^^ at' 2 ^^^ at' 3

/-- The rounds after the first key addition. -/
def aesRounds : List (List Byte) → List Byte → List Byte
  | [], b => b
  | [k], b => xorBytes (shiftRows (b.map sbox)) k
  | k :: r, b => aesRounds r (xorBytes (mixColumns (shiftRows (b.map sbox))) k)

/-- One block encrypted under a key of 16 or 32 bytes. -/
def aesBlock (key b : List Byte) : List Byte :=
  match roundKeys key with
  | [] => b
  | k :: r => aesRounds r (xorBytes b k)

/-- A block of 16 bytes as a number, byte 0 most significant. -/
def blockBits (b : List Byte) : BitVec 128 := beBits 128 (slice b 0 16)

/-- Product in GHASH's field: bit 0 of a block is its most significant bit. -/
def ghashMul (x y : BitVec 128) : BitVec 128 :=
  ((List.range 128).foldl (fun (p : BitVec 128 × BitVec 128) i =>
    (if x.getLsbD (127 - i) then p.1 ^^^ p.2 else p.1,
     if p.2.getLsbD 0 then (p.2 >>> 1) ^^^ (0xE1 <<< 120) else p.2 >>> 1)) (0, y)).1

/-- GHASH over data in blocks of 16, the last padded with zeros; `n` blocks. -/
def ghash (h : BitVec 128) : Nat → BitVec 128 → List Byte → BitVec 128
  | 0, acc, _ => acc
  | n + 1, acc, bs => ghash h n (ghashMul (acc ^^^ blockBits (bs.take 16)) h) (bs.drop 16)

/-- Blocks of 16 that hold a number of bytes. -/
def blocksOf (n : Nat) : Nat := (n + 15) / 16

/-- GCTR over `n` blocks: the counter's low 32 bits rise by one for each block, from one after `j0` and `first` more. -/
def gctr (key : List Byte) (j0 : BitVec 128) : Nat → Nat → List Byte → List Byte
  | 0, _, _ => []
  | n + 1, i, bs =>
    let c : BitVec 128 := (j0 &&& ~~~ 0xFFFFFFFF) ||| (j0.setWidth 32 + BitVec.ofNat 32 (i + 1)).setWidth 128
    List.zipWith (· ^^^ ·) (bs.take 16) (aesBlock key (beBytes c 16)) ++ gctr key j0 n (i + 1) (bs.drop 16)

end Sys2Proof.Machine
end

