-- ==== Sys2Proof/Machine/Phasor.lean ====
section
/-!
DEFINITION. The arithmetic of CP2 (R336 to R338): the coefficients round(32,767 × cos) and round(32,767 × sin) in
exact integer arithmetic, the magnitude's square root, and the angle.
-/
namespace Sys2Proof.Machine

/-- The unit of the fixed-point series below. -/
def fxOne : Int := 2 ^ 96
/-- π in that unit (Machin: 16 arctan 1/5 − 4 arctan 1/239). -/
def fxPi : Int :=
  let at' := fun (k : Int) =>
    ((List.range 60).foldl (fun (p : Int × Int) (i : Nat) =>
      (if i % 2 = 0 then p.1 + p.2 / (2 * i + 1) else p.1 - p.2 / (2 * i + 1), p.2 / (k * k))) (0, fxOne / k)).1
  16 * at' 5 - 4 * at' 239

/-- cos x by its series, `x` from 0 to 2π in the unit. -/
def fxCos (x : Int) : Int :=
  ((List.range 48).foldl (fun (p : Int × Int) (i : Nat) =>
    (p.1 + p.2, -(p.2 * x / fxOne * x / fxOne) / ((2 * i + 1) * (2 * i + 2)))) (0, fxOne)).1

/-- round(32,767 × cos(2πi / n)); the exact ties, at a cosine of ±1/2, round away from zero. -/
def coefCos (n i : Nat) : Int :=
  if 6 * i = n ∨ 6 * i = 5 * n then 16384
  else if 6 * i = 2 * n ∨ 6 * i = 4 * n then -16384
  else (2 * 32767 * fxCos (2 * fxPi * i / n) + fxOne) / (2 * fxOne)

/-- round(32,767 × sin(2πi / n)): the cosine a quarter turn earlier, as a fraction of 4n. -/
def coefSin (n i : Nat) : Int := coefCos (4 * n) ((4 * i + 3 * n) % (4 * n))

/-- The largest integer whose square does not exceed `v`, found from bit 63 down. -/
def isqrt (v : Nat) : Nat :=
  (List.range 65).foldl (fun r i => let b := r + 2 ^ (64 - i); if b * b ≤ v then b else r) 0

/-- arctan of `a / b` for 0 ≤ a ≤ b, b > 0, in the unit: three halvings of the angle's tangent by
tan(x/2) = t / (1 + sqrt(1 + t²)), then the series. -/
def fxAtan01 (a b : Nat) : Int :=
  let half := fun (t : Nat) => t * 2 ^ 96 / (2 ^ 96 + isqrtWide (2 ^ 192 + t * t))
  let t : Int := half (half (half (a * 2 ^ 96 / b)))
  let s := ((List.range 40).foldl (fun (p : Int × Int) (i : Nat) =>
    (if i % 2 = 0 then p.1 + p.2 / (2 * i + 1) else p.1 - p.2 / (2 * i + 1), p.2 * t / fxOne * t / fxOne)) (0, t)).1
  8 * s
where
  /-- Integer square root of a number below 2^196. -/
  isqrtWide (v : Nat) : Nat :=
    (List.range 98).foldl (fun r i => let b := r + 2 ^ (97 - i); if b * b ≤ v then b else r) 0

/-- atan2 in the unit, for a point that is not the origin. -/
def fxAtan2 (y x : Int) : Int :=
  let ay := y.natAbs
  let ax := x.natAbs
  let a := if ay ≤ ax then fxAtan01 ay ax else fxPi / 2 - fxAtan01 ax ay
  let b := if x < 0 then fxPi - a else a
  if y < 0 then -b else b

/-- The floor of the exact angle of R338 in pk, before the reduction to one cycle. -/
def pangFloor (re im : Int) (m n : Nat) : Int :=
  let idx : Int := ((m : Int) - 1) % n
  (fxAtan2 im re * 2 ^ 20 * n + 2 * fxPi * (idx * 2 ^ 20 + 0x40000 * n)) / (2 * fxPi * n)

end Sys2Proof.Machine
end

