-- ==== Sys2Proof/Machine/Weft.lean ====
section
/-!
DEFINITION. The Weft cores: issue and fetch (R250 to R269), local memory and the DRAM window (R257, R258), core-shared
registers (R259), and the instructions of chapter 10 but for requests, task end and coprocessors.
-/
namespace Sys2Proof.Machine

/-! ## Fetch -/

/-- A slice's program configuration (R265). -/
def State.progCfg (s : State) (n : Nat) : ProgCfg := Tab.get {} s.weft.progs n
/-- Change it. -/
def State.modProg (s : State) (n : Nat) (f : ProgCfg → ProgCfg) : State :=
  { s with weft.progs := Tab.upd {} s.weft.progs n f }

/-- The slice of a thread's task. -/
def State.sliceOf (s : State) (c t : Nat) : Nat := ((s.th c t).inst.map (·.slice)).getD 0

/-- A tile lies in the slice's express range (R265). -/
def ProgCfg.inExp (p : ProgCfg) (tile : Nat) : Bool :=
  p.expBase.toNat ≤ tile && tile < p.expBase.toNat + p.expTiles.toNat
/-- A tile lies in the slice's program region (R265). -/
def ProgCfg.inProg (p : ProgCfg) (tile : Nat) : Bool :=
  p.progBase.toNat ≤ tile && tile < p.progBase.toNat + p.progTiles.toNat

/-- Where a thread may fetch: the express thread in the express range only (R267). -/
def State.mayFetch (s : State) (c t pc : Nat) : Bool :=
  let p := s.progCfg (s.sliceOf c t)
  p.inExp (pc / 64) || (t ≠ 0 && p.inProg (pc / 64))

/-- Whether an address may be fetched or branched to: R264, R267, R292. -/
def State.goodTarget (s : State) (c t : Nat) (a : Word) : Bool :=
  a.toNat ≤ 0x7FFFFF && a.toNat % 4 = 0 && a.toNat % 64 ≠ 60 && s.mayFetch c t a.toNat

/-- The word of the program store at an address (R264). -/
def State.progWord (s : State) (pc : Nat) : Word32 :=
  (Tab.get 0 s.weft.prog (pc / 64)).extractLsb' (8 * (pc % 64)) 32

/-- The address that follows in sequence (R283). -/
def nextPc (pc : Nat) : Nat := if pc % 64 = 56 then pc + 8 else pc + 4

/-- A tile is held by a core's instruction cache: the express region always (R269). -/
def Core.cached (k : Core) (tile : Nat) : Bool := tile < 128 || (Tab.get [] k.icache (tile % 64)).contains tile
/-- A fetch of a cached tile makes it the most recently used of its set. -/
def Core.useTile (k : Core) (tile : Nat) : Core :=
  if tile < 128 then k
  else { k with icache := Tab.upd [] k.icache (tile % 64) fun l => tile :: l.filter (· ≠ tile) }

/-! ## Loops and sequence -/

/-- The innermost loop level that ends at the present address and is detected at the present level (R294, R297). -/
def Thread.atLe (h : Thread) : Option LoopLevel :=
  match h.loops.getLast? with
  | some l => if l.le = h.pc ∧ l.priv = h.priv then some l else none
  | none => none

/-- ICOUNT at U and S (R308). -/
def Thread.count (h : Thread) : Thread := if h.priv = .m then h else { h with icount := satInc h.icount }

/-- An instruction that does not redirect its thread retires: loop ends, then the next address (R283, R294). -/
def Thread.advance (h : Thread) : Thread :=
  match h.atLe with
  | some l =>
    if l.lc > 1 then { h.count with pc := l.ls, loops := h.loops.dropLast ++ [{ l with lc := l.lc - 1 }] }
    else { h.count with pc := nextPc l.le, loops := h.loops.dropLast }
  | none => { h.count with pc := nextPc h.pc }

/-- Levels that a taken branch from `pc` to `tgt` ends, from the innermost (R296); the list is innermost first. -/
def leaveLoops (priv : Priv) (pc tgt : Nat) : List LoopLevel → List LoopLevel
  | [] => []
  | l :: r =>
    if l.priv = priv ∧ l.ls ≤ pc ∧ pc ≤ l.le ∧ ¬ (l.ls ≤ tgt ∧ tgt ≤ l.le) then leaveLoops priv pc tgt r else l :: r

/-- A level is active whose end address is the present one. -/
def Thread.onEnd (h : Thread) : Bool := h.loops.any fun l => l.le == h.pc && l.priv == h.priv

/-- The instructions that are ILLEGAL at the end address of an active level (R296). -/
def noLoopEnd : WeftOp → Bool
  | .cbeq .. | .cbne .. | .cblt .. | .cbge .. | .cbltu .. | .cbgeu .. => true
  | .cbeqi .. | .cbnei .. | .cblti .. | .cbgei .. | .cbltui .. | .cbgeui .. => true
  | .j .. | .jr .. | .loop .. | .loopi .. | .scall .. | .sret => true
  | .mtcr _ cr => cr.toNat = 0x18 || cr.toNat = 0x19 || cr.toNat = 0x1A
  | _ => false

/-! ## Issue -/

/-- 16,384 helper operations are in flight (R210). -/
def State.opsFull (s : State) : Bool := s.weft.ops.length ≥ 16384
/-- A counted request would raise the counter above 255 and is held at issue (R209). -/
def State.counterFull (s : State) (c t : Nat) : Bool := (s.th c t).depcnt ≥ 255

/-- The instruction at a thread's address. -/
def State.atPc (s : State) (c t : Nat) : Option WeftOp := decodeWeft (s.progWord (s.th c t).pc)

/-- It is held at issue: a `req`, or a coprocessor operation on memory, which counts as one (R209, R210, R305). -/
def State.heldReq (s : State) (c t : Nat) : Bool :=
  match s.atPc c t with
  | some (.reqC ..) => s.counterFull c t || s.opsFull
  | some (.reqP ..) => s.opsFull
  | some (.gkey _) | some (.giv _) | some (.gaad _) | some (.genc _) | some (.gdec _) | some (.gtag _) | some (.gver _)
  | some (.pcfg _) | some (.pfeedm ..) | some (.pgetm _) | some (.cpsave ..) | some (.cpload ..) => s.counterFull c t
  | _ => false

/-- A thread can be selected (R252). -/
def State.canIssue (s : State) (c t : Nat) : Bool :=
  let h := s.th c t
  (s.core c).active && h.st == .running && h.attach.isNone && h.miss.isNone && !h.atEnd

/-- The thread obeys its debugger: it runs a task of the debugging slice (R281). -/
def Thread.debugged (h : Thread) : Bool :=
  match h.dbg, h.inst with
  | some d, some i => decide (d = i.slice)
  | _, _ => false

/-- A breakpoint stands at the present address and has not yet halted the thread there (R281). -/
def Thread.atBreak (h : Thread) : Bool := h.debugged && !h.skipBp && h.bps.any fun (_, a) => a == h.pc

/-- A thread is selectable, but for the cycles of `bar`. -/
def State.selectable (s : State) (c t : Nat) : Bool := s.canIssue c t && !(s.th c t).atBreak && !s.heldReq c t

/-- The threads of a core in the order of its choice: the express one, then those behind the last of 1 to 7 (R251). -/
def Core.order (k : Core) : List Nat := 0 :: (List.range 7).map fun i => (k.lastIssue + i) % 7 + 1

/-- The thread that a core issues next (R251): a barred thread is passed over, unless only barred ones are left and their
cycles go by without an issue (R252). -/
def State.selected (s : State) (c : Nat) : Option Nat :=
  (List.range 4).findSome? fun d =>
    (s.core c).order.find? fun t => s.selectable c t && decide ((s.th c t).bar ≤ d)

/-- Cycles for which an instruction bars its thread (R252). -/
def opBar : WeftOp → Nat
  | .wait | .evwait .. => 3
  | .ldb .. | .ldh .. | .ldw .. | .ldd .. | .ldbs .. | .ldhs .. | .ldws .. | .ldhn .. | .ldwn .. => 1
  | .csrd .. | .csswp .. | .csadd .. | .csand .. | .csor .. | .cscas .. => 1
  | _ => 0

/-- A cycle in which a thread issues: the bars of its core run down, and its own begins. -/
def Core.cycle (k : Core) (t bar : Nat) : Core :=
  { k with lastIssue := if t = 0 then k.lastIssue else t
           threads := (List.range 8).foldl (fun (m : Tab Thread) i =>
             Tab.upd {} m i fun h => { h with bar := if i = t then bar else h.bar - 1 }) k.threads }

/-! ## Parity (R257, R259, R273, R678) -/

/-- The first word of a run of local memory whose parity fails, by its place in the run. -/
def Core.badIn (k : Core) (p n : Nat) : Option Nat :=
  (List.range ((p % 8 + n + 7) / 8)).find? fun i => k.badWords.contains (p / 8 + i)

/-- The general registers that an instruction reads. -/
def opSources : WeftOp → List (BitVec 5)
  | .add _ b d | .sub _ b d | .and _ b d | .or _ b d | .xor _ b d | .andn _ b d | .sll _ b d | .srl _ b d | .sra _ b d
  | .rol _ b d | .slt _ b d | .sltu _ b d | .seq _ b d | .min _ b d | .max _ b d | .minu _ b d | .maxu _ b d
  | .mul _ b d | .mulh _ b d | .mulhu _ b d | .cscas _ b d _ | .crcc _ b d _ | .crce _ b d _ | .crcz _ b d
  | .hmix _ b d | .pfeed b d | .pfeedm b d => [b, d]
  | .addi _ b _ | .andi _ b _ | .ori _ b _ | .xori _ b _ | .slli _ b _ | .srli _ b _ | .srai _ b _ | .roli _ b _
  | .ext _ b _ _ | .exts _ b _ _ | .bsw16 _ b | .bsw32 _ b | .bsw64 _ b | .clz _ b | .ctz _ b | .popc _ b
  | .ldb _ b _ | .ldh _ b _ | .ldw _ b _ | .ldd _ b _ | .ldbs _ b _ | .ldhs _ b _ | .ldws _ b _ | .ldhn _ b _
  | .ldwn _ b _ | .csswp _ b _ | .csadd _ b _ | .csand _ b _ | .csor _ b _ | .jr _ b _ | .loop b _ | .mtcr b _
  | .gkey b | .giv b | .gaad b | .genc b | .gdec b | .gtag b | .gver b | .pcfg b | .pgetm b | .cpsave _ b
  | .cpload _ b | .pre _ b | .pim _ b | .pmag _ b | .pang _ b => [b]
  | .ins a b _ _ | .stb a b _ | .sth a b _ | .stw a b _ | .std a b _ | .sthn a b _ | .stwn a b _
  | .cbeq a b _ | .cbne a b _ | .cblt a b _ | .cbge a b _ | .cbltu a b _ | .cbgeu a b _ | .reqC a b _ | .reqP a b _ => [a, b]
  | .lik a _ _ | .cbeqi a _ _ | .cbnei a _ _ | .cblti a _ _ | .cbgei a _ _ | .cbltui a _ _ | .cbgeui a _ _ => [a]
  | .li .. | .csrd .. | .j .. | .loopi .. | .wait | .evwait .. | .evsend .. | .endTask | .fault _ | .scall _ | .sret
  | .mfcr .. | .cpacq .. | .cprel _ => []

/-- The core-shared register that an instruction reads (R290). -/
def opShared : WeftOp → Option (BitVec 4)
  | .csrd _ n | .csswp _ _ n | .csadd _ _ n | .csand _ _ n | .csor _ _ n | .cscas _ _ _ n => some n
  | _ => none

/-- The register, the offset and the width of a load's address (R289). -/
def opLoads : WeftOp → Option (BitVec 5 × BitVec 15 × Nat)
  | .ldb _ b i | .ldbs _ b i => some (b, i, 1)
  | .ldh _ b i | .ldhs _ b i | .ldhn _ b i => some (b, i, 2)
  | .ldw _ b i | .ldws _ b i | .ldwn _ b i => some (b, i, 4)
  | .ldd _ b i => some (b, i, 8)
  | _ => none

/-- The debugger's part after an instruction: a STEP or a waiting HALT holds the thread in the state it has reached,
and its command replies (R281, R619). -/
def State.afterStep (s : State) (c t : Nat) : State :=
  let h := s.th c t
  if h.debugged ∧ (h.stepping ∨ h.haltReq) ∧ h.st ≠ .stopped ∧ h.st ≠ .idle then
    let s1 := s.modTh c t fun h =>
      { h with st := .halted, from' := h.st, stepping := false, haltReq := false, haltAt := s.now }
    s1.finish (fun w => w == .debugHalt c t || w == .debugStep c t) .ok 0 []
  else s

/-! ## Operands -/

/-- A general register of a thread. -/
def State.rg (s : State) (c t : Nat) (r : BitVec 5) : Word := (s.th c t).reg r
/-- The address of the present instruction as a word. -/
def State.pcOf (s : State) (c t : Nat) : Word := BitVec.ofNat 64 (s.th c t).pc
/-- A result is written and the instruction retires. -/
def State.putReg (s : State) (c t : Nat) (a : BitVec 5) (v : Word) : State :=
  s.modTh c t fun h => (h.setReg a v).advance

/-- A shift amount: bits 5:0 (R286). -/
def shamt (v : Word) : Nat := v.toNat % 64
/-- A truth value as a result. -/
def flag (b : Bool) : Word := if b then 1 else 0
/-- `len` bits of a word from `pos`, zero-extended. -/
def fieldOf (v : Word) (pos len : Nat) : Word := (v >>> pos) &&& BitVec.ofNat 64 (2 ^ len - 1)
/-- `len` bits of a word from `pos`, sign-extended. -/
def fieldSext (v : Word) (pos len : Nat) : Word := ((v >>> pos) <<< (64 - len)).sshiftRight (64 - len)
/-- `v` with bits `pos` to `pos + len − 1` replaced by the low bits of `x`. -/
def fieldIns (v x : Word) (pos len : Nat) : Word :=
  let m := BitVec.ofNat 64 (2 ^ len - 1) <<< pos
  (v &&& ~~~ m) ||| ((x <<< pos) &&& m)
/-- The low `k` bytes of a word, reversed, zero-extended. -/
def byteSwap (v : Word) (k : Nat) : Word := leBits 64 (bytesOf v k).reverse
/-- Zero bits from bit 0 upward. -/
def zerosFrom (v : Word) : Nat := ((List.range 64).takeWhile fun i => !v.getLsbD i).length
/-- Bits set. -/
def onesOf (v : Word) : Nat := ((List.range 64).filter fun i => v.getLsbD i).length

/-! ## Data addresses (R257) -/

/-- What a data address reaches: local memory, or a byte of DRAM through the slice's window. -/
inductive Loc where
  | lm (a : Nat)
  | dram (a : Nat)
deriving DecidableEq, Repr

/-- A task of a slice may use a shared window at a level (R257). -/
def Core.windowOk (k : Core) (slice : Nat) (priv : Priv) (w : Nat) : Bool :=
  priv = .m || (k.cfg.lmEn.getLsbD w && (k.cfg.lmOwner.extractLsb' (6 * w) 6).toNat = slice &&
    (priv = .s || !k.cfg.lmSupv.getLsbD w))

/-- Base and size of a slice's DRAM window (R257, R553); none without DRAM (R492). -/
def State.window (s : State) (n : Nat) : Nat × Nat :=
  let g := (s.sl n).cfg
  (g.winBase.toNat, if s.dramOn then g.winMib.toNat * 2 ^ 20 else 0)

/-- Local memory that a data address of the map reaches, by thread, slice and level; `none` where it allows nothing
local. -/
def Core.localAt (k : Core) (t slice : Nat) (priv : Priv) (x : Nat) : Option Nat :=
  if x < 0x1000 then some (0x10000 + t * 0x1000 + x)
  else if 0x8000 ≤ x ∧ x < 0x10000 then (if k.windowOk slice priv ((x - 0x8000) / 0x1000) then some x else none)
  else if 0x10000 ≤ x ∧ x < 0x18000 then (if priv = .m then some x else none)
  else none

/-- The data address map of a thread (R257). -/
def State.locate (s : State) (c t : Nat) (a : Word) : Option Loc :=
  let x := a.toNat
  match (s.core c).localAt t (s.sliceOf c t) (s.th c t).priv x with
  | some p => some (.lm p)
  | none =>
    let w := s.window (s.sliceOf c t)
    if 2 ^ 32 ≤ x ∧ x - 2 ^ 32 < w.2 ∧ (s.th c t).priv ≠ .m then some (.dram (w.1 + (x - 2 ^ 32))) else none

/-- A run of bytes of a request block or a coprocessor's data: wholly in the thread's own slice or in one shared window
that the task may write (R299, R306, R309). -/
def Core.blockAt (k : Core) (t slice : Nat) (priv : Priv) (x n : Nat) : Option Nat :=
  if x % 0x1000 + n ≤ 0x1000 ∧ (x < 0x1000 ∨ (0x8000 ≤ x ∧ x < 0x10000)) then k.localAt t slice priv x else none

/-- Bytes of a core's local memory. -/
def Core.lmRead (k : Core) (a n : Nat) : List Byte := Mem.read k.lmem a n
/-- A byte of local memory lies in a result field that holds unspecified bytes (R314). -/
def Core.unsettledAt (k : Core) (x : Nat) : Bool :=
  k.threads.any fun (_, h) => h.unsettled.any fun r => decide (r.1 ≤ x) && decide (x < r.1 + r.2)
/-- What a program, a helper or a coprocessor reads from local memory: free values where R314 leaves the bytes
unspecified. -/
def State.lmSee (s : State) (c a n : Nat) : List Byte :=
  let k := s.core c
  (List.range n).map fun i =>
    if k.unsettledAt (a + i) then Config.unsettledByte s.time.free (a + i) else Mem.byte k.lmem (a + i)
/-- Write bytes of a core's local memory. -/
def State.lmWrite (s : State) (c a : Nat) (bs : List Byte) : State := s.modCore c fun k => k.lmPut a bs

/-! ## Issue: the whole -/

/-- The run of local memory that an instruction reads in its MA or EX stage: its first byte, its length and the data
address: of a load, or of the block that a `req` copies (R678). -/
def State.lmRun (s : State) (c t : Nat) (op : WeftOp) : Option (Nat × Nat × Word) :=
  match op, opLoads op with
  | .reqC a b _, _ | .reqP a b _, _ =>
    let n := (HelperWord.ofTile (s.rg c t b)).blen.toNat * 8
    ((s.core c).blockAt t (s.sliceOf c t) (s.th c t).priv (s.rg c t a).toNat (max 8 n)).map fun p => (p, n, s.rg c t a)
  | _, some (b, i, n) =>
    let a := s.rg c t b + i.signExtend 64
    match s.locate c t a with
    | some (.lm p) => some (p, n, a)
    | _ => none
  | _, none => none

/-- The address of the k-th word of a run (R275: 0 where the fault is of no data access). -/
def wordAddr (a : Word) (k : Nat) : Word := a - BitVec.ofNat 64 (a.toNat % 8) + BitVec.ofNat 64 (8 * k)

/-- STOP_ADDR of the parity fault that an instruction meets: in a register, a core-shared register, or local memory. -/
def State.parityFault (s : State) (c t : Nat) (op : WeftOp) : Option Word :=
  if (opSources op).any (fun r => (s.th c t).badRegs.contains r.toNat) ||
    (opShared op).any (fun n => (s.core c).badCs.contains n.toNat) then some 0
  else match s.lmRun c t op with
    | some (p, n, a) => ((s.core c).badIn p n).map (wordAddr a)
    | none => none

/-- LM_PARITY comes after every other cause, and cancels what the instruction would do (R274, R307). -/
def State.checked (s : State) (c t : Nat) (op : WeftOp) (u : State) : State :=
  match s.parityFault c t op with
  | some a => if (u.core c).active then s.fault c t .lmParity a else u
  | none => u

/-- An instruction issues on its thread. It is the one at the thread's PC, or it cannot be, and its thread is the one that
its core selects (R251, R252); the checks of a fetch come first (R267, R269), then ILLEGAL (R285, R287, R296), then what
the instruction does, and LM_PARITY. -/
def State.issue (s : State) (c t : Nat) (op : WeftOp) (run : State → State) : State :=
  let h := s.th c t
  if s.selected c ≠ some t then s
  else if !s.goodTarget c t (BitVec.ofNat 64 h.pc) then s.fault c t .fetch 0
  else if !(s.core c).cached (h.pc / 64) then
    (s.modTh c t fun h => { h with miss := some (h.pc / 64) }).bump .icacheMiss c
  else
    match decodeWeft (s.progWord h.pc) with
    | none => (s.bump .issued c).fault c t .illegal 0
    | some o =>
      if o ≠ op then s
      else
        let s1 := (s.modCore c fun k => { (k.useTile (h.pc / 64)).cycle t (opBar op) with progress := true }).bump .issued c
        let s2 := s1.modTh c t fun h => { h with skipBp := false }
        if h.onEnd && noLoopEnd op then s2.fault c t .illegal 0
        else (s2.checked c t op (run s2)).afterStep c t

/-- The register value of loaded bytes (R289). -/
def loaded (bs : List Byte) (signed : Bool) : Word :=
  if signed then fieldSext (leBits 64 bs) 0 (8 * bs.length) else leBits 64 bs

/-- The line of an access to the DRAM window has to be filled: the thread waits for the table cache (R252). -/
def State.attachTo (s : State) (c t : Nat) (x : Attach) : State := s.modTh c t fun h => { h with attach := some x }

/-- A load (R289): ALIGN before ACCESS (R307). A miss of the DRAM window waits for its fill. -/
def State.load (s : State) (c t : Nat) (a : BitVec 5) (addr : Word) (n : Nat) (signed net : Bool) : State :=
  if addr.toNat % n ≠ 0 then s.fault c t .align addr
  else match s.locate c t addr with
    | none => s.fault c t .access addr
    | some (.lm p) =>
      let bs := s.lmSee c p n
      s.drawn.putReg c t a (loaded (if net then bs.reverse else bs) signed)
    | some (.dram p) =>
      match s.cacheTouch ((s.sl (s.sliceOf c t)).cfg.winCid.toNat) (p / 64) false with
      | (s1, true) => s1.attachTo c t ⟨p / 64, addr.toNat, p, n, true, a, signed, net, [], s.now⟩
      | (s1, false) =>
        let bs := Mem.read s1.dram.mem p n
        s1.putReg c t a (loaded (if net then bs.reverse else bs) signed)

/-- A store (R289). -/
def State.store (s : State) (c t : Nat) (addr : Word) (bs : List Byte) : State :=
  if addr.toNat % bs.length ≠ 0 then s.fault c t .align addr
  else match s.locate c t addr with
    | none => s.fault c t .access addr
    | some (.lm p) => (s.lmWrite c p bs).modTh c t Thread.advance
    | some (.dram p) =>
      match s.cacheTouch ((s.sl (s.sliceOf c t)).cfg.winCid.toNat) (p / 64) true with
      | (s1, true) => s1.attachTo c t ⟨p / 64, addr.toNat, p, bs.length, false, 0, false, false, bs, s.now⟩
      | (s1, false) => ({ s1 with dram.mem := Mem.write s1.dram.mem p bs }).modTh c t Thread.advance

/-- The table cache has answered: the access of a waiting thread takes place and retires (R252, R276, R500). -/
def State.attachDone (s : State) (c t : Nat) : State :=
  match (s.th c t).attach with
  | none => s
  | some x =>
    let s1 := (s.modTh c t fun h => { h with attach := none }).modCore c fun k => { k with progress := true }
    if x.load then
      let bs := Mem.read s1.dram.mem x.phys x.bytes
      (s1.putReg c t x.reg (loaded (if x.net then bs.reverse else bs) x.signed)).afterStep c t
    else (({ s1 with dram.mem := Mem.write s1.dram.mem x.phys x.data }).modTh c t Thread.advance).afterStep c t

/-! ## Core-shared registers (R259, R290) -/

/-- An operation on a core-shared register: the old value is returned. -/
def State.shared (s : State) (c t : Nat) (a : BitVec 5) (n : BitVec 4) (f : Word → Word) : State :=
  let k := s.core c
  let r := n.toNat
  let h := s.th c t
  let ok' := h.priv = .m || (k.cfg.csEn.getLsbD r && (k.cfg.csOwner.extractLsb' (6 * r) 6).toNat = s.sliceOf c t &&
    (h.priv = .s || !k.cfg.csSupv.getLsbD r))
  if !ok' then s.fault c t .access 0
  else
    let old := Tab.get 0 k.cs r
    (s.modCore c fun k => { k with cs := Tab.set 0 k.cs r (f old) }).putReg c t a old

/-! ## Branches, jumps, loops (R291 to R297) -/

/-- A thread goes on at a target: levels that a branch leaves end. -/
def Thread.goto (h : Thread) (tgt : Nat) (exits : Bool) : Thread :=
  { h.count with
    pc := tgt, loops := if exits then (leaveLoops h.priv h.pc tgt h.loops.reverse).reverse else h.loops }

/-- A taken branch to a target; it squashes what the thread has issued behind it (R253). -/
def State.goto (s : State) (c t : Nat) (tgt : Word) : State :=
  if !s.goodTarget c t tgt then s.fault c t .fetch tgt else (s.squashYounger c 3).modTh c t fun h => h.goto tgt.toNat true

/-- A compare-and-branch (R291, R292). -/
def State.branch (s : State) (c t : Nat) (taken : Bool) (off : Word) : State :=
  if taken then s.goto c t (s.pcOf c t + 4 * off) else s.modTh c t Thread.advance

/-- `j` and `jr` (R291, R292): the link is written when the jump is taken; at most `n` younger instructions are squashed. -/
def State.jump (s : State) (c t n : Nat) (a : BitVec 5) (tgt : Word) : State :=
  if !s.goodTarget c t tgt then s.fault c t .fetch tgt
  else (s.squashYounger c n).modTh c t fun h => (h.setReg a (BitVec.ofNat 64 (nextPc h.pc))).goto tgt.toNat (a = 0)

/-- `loop` and `loopi` (R293 to R295). A level encloses the set-up where its body holds it, the innermost or not. -/
def State.loopSetup (s : State) (c t count endOff : Nat) : State :=
  let h := s.th c t
  let le := h.pc + 4 * endOff
  let inside : Bool := h.loops.any fun l => l.ls ≤ h.pc && h.pc ≤ l.le && l.le ≤ le
  if endOff = 0 ∨ inside then s.fault c t .illegal 0
  else if h.loops.length ≥ 3 then s.fault c t .loopDepth 0
  else if !s.goodTarget c t (BitVec.ofNat 64 le) then s.fault c t .fetch (BitVec.ofNat 64 le)
  else if count = 0 then (s.squashYounger c 3).modTh c t fun h => { h.count with pc := nextPc le }
  else (s.squashYounger c 3).modTh c t fun h =>
    { h.count with pc := nextPc h.pc, loops := h.loops ++ [⟨nextPc h.pc, le, count, h.priv⟩] }

/-! ## Events and supervisor (R263, R301) -/

/-- `evwait` (R263): pending masked lines are taken, or the thread waits for one. -/
def Thread.evStart (h : Thread) (a : BitVec 5) (mask : BitVec 8) : Thread :=
  let h1 := { h.advance with evMask := mask, evDest := a }
  if h.evPend &&& mask ≠ 0 then h1.evTake else { h1 with st := .evwait }

/-- `scall` (R301), allowed at U with SUPV_EN 1 (R256). -/
def State.supervisor (s : State) (c t : Nat) (n : BitVec 10) : State :=
  let h := s.th c t
  let p := s.progCfg (s.sliceOf c t)
  let tgt : Word := p.supvEntry.setWidth 64
  if h.priv ≠ .u ∨ p.supvEn = 0 then s.fault c t .privilege 0
  else if !s.goodTarget c t tgt then s.fault c t .fetch tgt
  else (s.squashYounger c 3).modTh c t fun h =>
    { h.count with
      sepc := BitVec.ofNat 64 (nextPc h.pc)
      scause := n.setWidth 64 ||| BitVec.ofNat 64 (h.loops.length * 65536), priv := .s, pc := tgt.toNat }

/-- `sret` (R301). -/
def State.supReturn (s : State) (c t : Nat) : State :=
  let h := s.th c t
  if h.loops.length ≠ (h.scause.toNat / 65536) % 4 ∧ h.priv = .s then s.fault c t .illegal 0
  else if h.priv ≠ .s then s.fault c t .privilege 0
  else if !s.goodTarget c t h.sepc then s.fault c t .fetch h.sepc
  else (s.squashYounger c 3).modTh c t fun h => { h.count with priv := .u, pc := h.sepc.toNat }

/-! ## Control registers (R302 to R304) -/

/-- Codes of PRIV. -/
def Priv.code : Priv → Word
  | .u => 0 | .s => 1 | .m => 2

/-- A loop register: 0 start, 1 end, 2 count of level `n`; 0 for a level that is not active (R297). -/
def Thread.loopReg (h : Thread) (kind n : Nat) : Word :=
  match h.loops[n]? with
  | none => 0
  | some l => BitVec.ofNat 64 (if kind = 0 then l.ls else if kind = 1 then l.le else l.lc)

/-- Numbers that R302 lists. -/
def crListed (n : Nat) : Bool :=
  n ≤ 5 || n = 8 || n = 9 || (0x10 ≤ n && n ≤ 0x1A && n % 4 ≠ 3) || n = 0x20 || n = 0x21

/-- The value of a control register. -/
def State.crValue (s : State) (c t n : Nat) : Word :=
  let h := s.th c t
  if n = 0 then BitVec.ofNat 64 (c + 256 * t)
  else if n = 1 then h.priv.code
  else if n = 2 then BitVec.ofNat 64 h.depcnt
  else if n = 3 then h.evPend.setWidth 64
  else if n = 4 then h.cpen
  else if n = 5 then BitVec.ofNat 64 h.loops.length
  else if n = 8 then h.sepc
  else if n = 9 then h.scause
  else if n = 0x20 then s.wall
  else if n = 0x21 then h.icount.setWidth 64
  else h.loopReg ((n - 0x10) / 4) ((n - 0x10) % 4)

/-- `mfcr` (R303). At M the firmware's registers hold what the spec does not give: a free value. -/
def State.readCr (s : State) (c t : Nat) (a : BitVec 5) (n : Nat) : State :=
  let h := s.th c t
  if 0x200 ≤ n then
    (if h.priv = .m then s.drawn.putReg c t a (Config.freeWord s.time.free) else s.fault c t .privilege 0)
  else if !crListed n then s.fault c t .illegal 0
  else if (n = 8 ∨ n = 9) ∧ h.priv = .u then s.fault c t .privilege 0
  else s.putReg c t a (s.crValue c t n)

/-- `mtcr` (R303, R304). -/
def State.writeCr (s : State) (c t : Nat) (v : Word) (n : Nat) : State :=
  let h := s.th c t
  let set (f : Thread → Thread) : State := s.modTh c t fun h => (f h).advance
  if 0x200 ≤ n then (if h.priv = .m then set id else s.fault c t .privilege 0)
  else if n = 4 then
    if v &&& ~~~ 0x777 ≠ 0 then s.fault c t .illegal 0
    else if h.priv = .u ∨ (h.priv = .s ∧ (v ^^^ h.cpen) &&& ~~~ 0x7 ≠ 0) then s.fault c t .privilege 0
    else set fun h => { h with cpen := v }
  else if n = 8 then (if h.priv = .u then s.fault c t .privilege 0 else set fun h => { h with sepc := v })
  else if n = 9 then (if h.priv = .m then set fun h => { h with scause := v } else s.fault c t .privilege 0)
  else if 0x18 ≤ n ∧ n ≤ 0x1A then
    (s.squashYounger c 3).modTh c t fun h =>
      ({ h with loops := h.loops.modify (n - 0x18) fun l => { l with lc := v.toNat % 2 ^ 32 } } : Thread).advance
  else s.fault c t .illegal 0

/-! ## The instructions -/

/-- `add` (R288). -/
def execWAdd (c : Fin 68) (t : Fin 8) (a : BitVec 5) (b : BitVec 5) (d : BitVec 5) (s : State) : Out :=
  ok s (s.issue c t (.add a b d) fun s =>
    s.putReg c t a (s.rg c t b + s.rg c t d))

/-- `sub` (R288). -/
def execWSub (c : Fin 68) (t : Fin 8) (a : BitVec 5) (b : BitVec 5) (d : BitVec 5) (s : State) : Out :=
  ok s (s.issue c t (.sub a b d) fun s =>
    s.putReg c t a (s.rg c t b - s.rg c t d))

/-- `and` (R288). -/
def execWAnd (c : Fin 68) (t : Fin 8) (a : BitVec 5) (b : BitVec 5) (d : BitVec 5) (s : State) : Out :=
  ok s (s.issue c t (.and a b d) fun s =>
    s.putReg c t a (s.rg c t b &&& s.rg c t d))

/-- `or` (R288). -/
def execWOr (c : Fin 68) (t : Fin 8) (a : BitVec 5) (b : BitVec 5) (d : BitVec 5) (s : State) : Out :=
  ok s (s.issue c t (.or a b d) fun s =>
    s.putReg c t a (s.rg c t b ||| s.rg c t d))

/-- `xor` (R288). -/
def execWXor (c : Fin 68) (t : Fin 8) (a : BitVec 5) (b : BitVec 5) (d : BitVec 5) (s : State) : Out :=
  ok s (s.issue c t (.xor a b d) fun s =>
    s.putReg c t a (s.rg c t b ^^^ s.rg c t d))

/-- `andn` (R288). -/
def execWAndn (c : Fin 68) (t : Fin 8) (a : BitVec 5) (b : BitVec 5) (d : BitVec 5) (s : State) : Out :=
  ok s (s.issue c t (.andn a b d) fun s =>
    s.putReg c t a (s.rg c t b &&& ~~~ (s.rg c t d)))

/-- `sll` (R286, R288). -/
def execWSll (c : Fin 68) (t : Fin 8) (a : BitVec 5) (b : BitVec 5) (d : BitVec 5) (s : State) : Out :=
  ok s (s.issue c t (.sll a b d) fun s =>
    s.putReg c t a (s.rg c t b <<< (shamt (s.rg c t d))))

/-- `srl` (R286, R288). -/
def execWSrl (c : Fin 68) (t : Fin 8) (a : BitVec 5) (b : BitVec 5) (d : BitVec 5) (s : State) : Out :=
  ok s (s.issue c t (.srl a b d) fun s =>
    s.putReg c t a (s.rg c t b >>> (shamt (s.rg c t d))))

/-- `sra` (R286, R288). -/
def execWSra (c : Fin 68) (t : Fin 8) (a : BitVec 5) (b : BitVec 5) (d : BitVec 5) (s : State) : Out :=
  ok s (s.issue c t (.sra a b d) fun s =>
    s.putReg c t a ((s.rg c t b).sshiftRight (shamt (s.rg c t d))))

/-- `rol` (R286, R288). -/
def execWRol (c : Fin 68) (t : Fin 8) (a : BitVec 5) (b : BitVec 5) (d : BitVec 5) (s : State) : Out :=
  ok s (s.issue c t (.rol a b d) fun s =>
    s.putReg c t a ((s.rg c t b).rotateLeft (shamt (s.rg c t d))))

/-- `slt` (R288). -/
def execWSlt (c : Fin 68) (t : Fin 8) (a : BitVec 5) (b : BitVec 5) (d : BitVec 5) (s : State) : Out :=
  ok s (s.issue c t (.slt a b d) fun s =>
    s.putReg c t a (flag ((s.rg c t b).slt (s.rg c t d))))

/-- `sltu` (R288). -/
def execWSltu (c : Fin 68) (t : Fin 8) (a : BitVec 5) (b : BitVec 5) (d : BitVec 5) (s : State) : Out :=
  ok s (s.issue c t (.sltu a b d) fun s =>
    s.putReg c t a (flag ((s.rg c t b).ult (s.rg c t d))))

/-- `seq` (R288). -/
def execWSeq (c : Fin 68) (t : Fin 8) (a : BitVec 5) (b : BitVec 5) (d : BitVec 5) (s : State) : Out :=
  ok s (s.issue c t (.seq a b d) fun s =>
    s.putReg c t a (flag (s.rg c t b == s.rg c t d)))

/-- `min` (R288). -/
def execWMin (c : Fin 68) (t : Fin 8) (a : BitVec 5) (b : BitVec 5) (d : BitVec 5) (s : State) : Out :=
  ok s (s.issue c t (.min a b d) fun s =>
    s.putReg c t a (if (s.rg c t b).slt (s.rg c t d) then s.rg c t b else s.rg c t d))

/-- `max` (R288). -/
def execWMax (c : Fin 68) (t : Fin 8) (a : BitVec 5) (b : BitVec 5) (d : BitVec 5) (s : State) : Out :=
  ok s (s.issue c t (.max a b d) fun s =>
    s.putReg c t a (if (s.rg c t b).slt (s.rg c t d) then s.rg c t d else s.rg c t b))

/-- `minu` (R288). -/
def execWMinu (c : Fin 68) (t : Fin 8) (a : BitVec 5) (b : BitVec 5) (d : BitVec 5) (s : State) : Out :=
  ok s (s.issue c t (.minu a b d) fun s =>
    s.putReg c t a (if (s.rg c t b).ult (s.rg c t d) then s.rg c t b else s.rg c t d))

/-- `maxu` (R288). -/
def execWMaxu (c : Fin 68) (t : Fin 8) (a : BitVec 5) (b : BitVec 5) (d : BitVec 5) (s : State) : Out :=
  ok s (s.issue c t (.maxu a b d) fun s =>
    s.putReg c t a (if (s.rg c t b).ult (s.rg c t d) then s.rg c t d else s.rg c t b))

/-- `mul`: bits 63:0 of the product (R288). -/
def execWMul (c : Fin 68) (t : Fin 8) (a : BitVec 5) (b : BitVec 5) (d : BitVec 5) (s : State) : Out :=
  ok s (s.issue c t (.mul a b d) fun s =>
    s.putReg c t a (s.rg c t b * s.rg c t d))

/-- `mulh`: bits 127:64 of the signed product (R288). -/
def execWMulh (c : Fin 68) (t : Fin 8) (a : BitVec 5) (b : BitVec 5) (d : BitVec 5) (s : State) : Out :=
  ok s (s.issue c t (.mulh a b d) fun s =>
    s.putReg c t a (BitVec.ofInt 64 ((s.rg c t b).toInt * (s.rg c t d).toInt / 2 ^ 64)))

/-- `mulhu`: bits 127:64 of the unsigned product (R288). -/
def execWMulhu (c : Fin 68) (t : Fin 8) (a : BitVec 5) (b : BitVec 5) (d : BitVec 5) (s : State) : Out :=
  ok s (s.issue c t (.mulhu a b d) fun s =>
    s.putReg c t a (BitVec.ofNat 64 ((s.rg c t b).toNat * (s.rg c t d).toNat / 2 ^ 64)))

/-- `addi` (R288). -/
def execWAddi (c : Fin 68) (t : Fin 8) (a : BitVec 5) (b : BitVec 5) (imm : BitVec 15) (s : State) : Out :=
  ok s (s.issue c t (.addi a b imm) fun s =>
    s.putReg c t a (s.rg c t b + imm.signExtend 64))

/-- `andi` (R288). -/
def execWAndi (c : Fin 68) (t : Fin 8) (a : BitVec 5) (b : BitVec 5) (imm : BitVec 15) (s : State) : Out :=
  ok s (s.issue c t (.andi a b imm) fun s =>
    s.putReg c t a (s.rg c t b &&& imm.setWidth 64))

/-- `ori` (R288). -/
def execWOri (c : Fin 68) (t : Fin 8) (a : BitVec 5) (b : BitVec 5) (imm : BitVec 15) (s : State) : Out :=
  ok s (s.issue c t (.ori a b imm) fun s =>
    s.putReg c t a (s.rg c t b ||| imm.setWidth 64))

/-- `xori` (R288). -/
def execWXori (c : Fin 68) (t : Fin 8) (a : BitVec 5) (b : BitVec 5) (imm : BitVec 15) (s : State) : Out :=
  ok s (s.issue c t (.xori a b imm) fun s =>
    s.putReg c t a (s.rg c t b ^^^ imm.setWidth 64))

/-- `slli` (R288). -/
def execWSlli (c : Fin 68) (t : Fin 8) (a : BitVec 5) (b : BitVec 5) (n : BitVec 6) (s : State) : Out :=
  ok s (s.issue c t (.slli a b n) fun s =>
    s.putReg c t a (s.rg c t b <<< n.toNat))

/-- `srli` (R288). -/
def execWSrli (c : Fin 68) (t : Fin 8) (a : BitVec 5) (b : BitVec 5) (n : BitVec 6) (s : State) : Out :=
  ok s (s.issue c t (.srli a b n) fun s =>
    s.putReg c t a (s.rg c t b >>> n.toNat))

/-- `srai` (R288). -/
def execWSrai (c : Fin 68) (t : Fin 8) (a : BitVec 5) (b : BitVec 5) (n : BitVec 6) (s : State) : Out :=
  ok s (s.issue c t (.srai a b n) fun s =>
    s.putReg c t a ((s.rg c t b).sshiftRight n.toNat))

/-- `roli` (R288). -/
def execWRoli (c : Fin 68) (t : Fin 8) (a : BitVec 5) (b : BitVec 5) (n : BitVec 6) (s : State) : Out :=
  ok s (s.issue c t (.roli a b n) fun s =>
    s.putReg c t a ((s.rg c t b).rotateLeft n.toNat))

/-- `ext` (R288). -/
def execWExt (c : Fin 68) (t : Fin 8) (a : BitVec 5) (b : BitVec 5) (pos : BitVec 6) (lenM1 : BitVec 6) (s : State) : Out :=
  ok s (s.issue c t (.ext a b pos lenM1) fun s =>
    s.putReg c t a (fieldOf (s.rg c t b) pos.toNat (lenM1.toNat + 1)))

/-- `exts` (R288). -/
def execWExts (c : Fin 68) (t : Fin 8) (a : BitVec 5) (b : BitVec 5) (pos : BitVec 6) (lenM1 : BitVec 6) (s : State) : Out :=
  ok s (s.issue c t (.exts a b pos lenM1) fun s =>
    s.putReg c t a (fieldSext (s.rg c t b) pos.toNat (lenM1.toNat + 1)))

/-- `ins` (R288). -/
def execWIns (c : Fin 68) (t : Fin 8) (a : BitVec 5) (b : BitVec 5) (pos : BitVec 6) (lenM1 : BitVec 6) (s : State) : Out :=
  ok s (s.issue c t (.ins a b pos lenM1) fun s =>
    s.putReg c t a (fieldIns (s.rg c t a) (s.rg c t b) pos.toNat (lenM1.toNat + 1)))

/-- `li` (R288). -/
def execWLi (c : Fin 68) (t : Fin 8) (a : BitVec 5) (hw : BitVec 2) (imm : BitVec 16) (s : State) : Out :=
  ok s (s.issue c t (.li a hw imm) fun s =>
    s.putReg c t a (imm.setWidth 64 <<< (16 * hw.toNat)))

/-- `lik` (R288). -/
def execWLik (c : Fin 68) (t : Fin 8) (a : BitVec 5) (hw : BitVec 2) (imm : BitVec 16) (s : State) : Out :=
  ok s (s.issue c t (.lik a hw imm) fun s =>
    s.putReg c t a (fieldIns (s.rg c t a) (imm.setWidth 64) (16 * hw.toNat) 16))

/-- `bsw16` (R288). -/
def execWBsw16 (c : Fin 68) (t : Fin 8) (a : BitVec 5) (b : BitVec 5) (s : State) : Out :=
  ok s (s.issue c t (.bsw16 a b) fun s =>
    s.putReg c t a (byteSwap (s.rg c t b) 2))

/-- `bsw32` (R288). -/
def execWBsw32 (c : Fin 68) (t : Fin 8) (a : BitVec 5) (b : BitVec 5) (s : State) : Out :=
  ok s (s.issue c t (.bsw32 a b) fun s =>
    s.putReg c t a (byteSwap (s.rg c t b) 4))

/-- `bsw64` (R288). -/
def execWBsw64 (c : Fin 68) (t : Fin 8) (a : BitVec 5) (b : BitVec 5) (s : State) : Out :=
  ok s (s.issue c t (.bsw64 a b) fun s =>
    s.putReg c t a (byteSwap (s.rg c t b) 8))

/-- `clz`; 64 for 0 (R288). -/
def execWClz (c : Fin 68) (t : Fin 8) (a : BitVec 5) (b : BitVec 5) (s : State) : Out :=
  ok s (s.issue c t (.clz a b) fun s =>
    s.putReg c t a (BitVec.ofNat 64 (zerosFrom (s.rg c t b).reverse)))

/-- `ctz`; 64 for 0 (R288). -/
def execWCtz (c : Fin 68) (t : Fin 8) (a : BitVec 5) (b : BitVec 5) (s : State) : Out :=
  ok s (s.issue c t (.ctz a b) fun s =>
    s.putReg c t a (BitVec.ofNat 64 (zerosFrom (s.rg c t b))))

/-- `popc` (R288). -/
def execWPopc (c : Fin 68) (t : Fin 8) (a : BitVec 5) (b : BitVec 5) (s : State) : Out :=
  ok s (s.issue c t (.popc a b) fun s =>
    s.putReg c t a (BitVec.ofNat 64 (onesOf (s.rg c t b))))

/-- `ldb` (R289). -/
def execWLdb (c : Fin 68) (t : Fin 8) (a : BitVec 5) (b : BitVec 5) (imm : BitVec 15) (s : State) : Out :=
  ok s (s.issue c t (.ldb a b imm) fun s =>
    s.load c t a (s.rg c t b + imm.signExtend 64) 1 false false)

/-- `ldh` (R289). -/
def execWLdh (c : Fin 68) (t : Fin 8) (a : BitVec 5) (b : BitVec 5) (imm : BitVec 15) (s : State) : Out :=
  ok s (s.issue c t (.ldh a b imm) fun s =>
    s.load c t a (s.rg c t b + imm.signExtend 64) 2 false false)

/-- `ldw` (R289). -/
def execWLdw (c : Fin 68) (t : Fin 8) (a : BitVec 5) (b : BitVec 5) (imm : BitVec 15) (s : State) : Out :=
  ok s (s.issue c t (.ldw a b imm) fun s =>
    s.load c t a (s.rg c t b + imm.signExtend 64) 4 false false)

/-- `ldd` (R289). -/
def execWLdd (c : Fin 68) (t : Fin 8) (a : BitVec 5) (b : BitVec 5) (imm : BitVec 15) (s : State) : Out :=
  ok s (s.issue c t (.ldd a b imm) fun s =>
    s.load c t a (s.rg c t b + imm.signExtend 64) 8 false false)

/-- `ldbs` (R289). -/
def execWLdbs (c : Fin 68) (t : Fin 8) (a : BitVec 5) (b : BitVec 5) (imm : BitVec 15) (s : State) : Out :=
  ok s (s.issue c t (.ldbs a b imm) fun s =>
    s.load c t a (s.rg c t b + imm.signExtend 64) 1 true false)

/-- `ldhs` (R289). -/
def execWLdhs (c : Fin 68) (t : Fin 8) (a : BitVec 5) (b : BitVec 5) (imm : BitVec 15) (s : State) : Out :=
  ok s (s.issue c t (.ldhs a b imm) fun s =>
    s.load c t a (s.rg c t b + imm.signExtend 64) 2 true false)

/-- `ldws` (R289). -/
def execWLdws (c : Fin 68) (t : Fin 8) (a : BitVec 5) (b : BitVec 5) (imm : BitVec 15) (s : State) : Out :=
  ok s (s.issue c t (.ldws a b imm) fun s =>
    s.load c t a (s.rg c t b + imm.signExtend 64) 4 true false)

/-- `ldhn` (R289). -/
def execWLdhn (c : Fin 68) (t : Fin 8) (a : BitVec 5) (b : BitVec 5) (imm : BitVec 15) (s : State) : Out :=
  ok s (s.issue c t (.ldhn a b imm) fun s =>
    s.load c t a (s.rg c t b + imm.signExtend 64) 2 false true)

/-- `ldwn` (R289). -/
def execWLdwn (c : Fin 68) (t : Fin 8) (a : BitVec 5) (b : BitVec 5) (imm : BitVec 15) (s : State) : Out :=
  ok s (s.issue c t (.ldwn a b imm) fun s =>
    s.load c t a (s.rg c t b + imm.signExtend 64) 4 false true)

/-- `stb` (R289). -/
def execWStb (c : Fin 68) (t : Fin 8) (a : BitVec 5) (b : BitVec 5) (imm : BitVec 15) (s : State) : Out :=
  ok s (s.issue c t (.stb a b imm) fun s =>
    s.store c t (s.rg c t b + imm.signExtend 64) (bytesOf (s.rg c t a) 1))

/-- `sth` (R289). -/
def execWSth (c : Fin 68) (t : Fin 8) (a : BitVec 5) (b : BitVec 5) (imm : BitVec 15) (s : State) : Out :=
  ok s (s.issue c t (.sth a b imm) fun s =>
    s.store c t (s.rg c t b + imm.signExtend 64) (bytesOf (s.rg c t a) 2))

/-- `stw` (R289). -/
def execWStw (c : Fin 68) (t : Fin 8) (a : BitVec 5) (b : BitVec 5) (imm : BitVec 15) (s : State) : Out :=
  ok s (s.issue c t (.stw a b imm) fun s =>
    s.store c t (s.rg c t b + imm.signExtend 64) (bytesOf (s.rg c t a) 4))

/-- `std` (R289). -/
def execWStd (c : Fin 68) (t : Fin 8) (a : BitVec 5) (b : BitVec 5) (imm : BitVec 15) (s : State) : Out :=
  ok s (s.issue c t (.std a b imm) fun s =>
    s.store c t (s.rg c t b + imm.signExtend 64) (bytesOf (s.rg c t a) 8))

/-- `sthn` (R289). -/
def execWSthn (c : Fin 68) (t : Fin 8) (a : BitVec 5) (b : BitVec 5) (imm : BitVec 15) (s : State) : Out :=
  ok s (s.issue c t (.sthn a b imm) fun s =>
    s.store c t (s.rg c t b + imm.signExtend 64) ((bytesOf (s.rg c t a) 2).reverse))

/-- `stwn` (R289). -/
def execWStwn (c : Fin 68) (t : Fin 8) (a : BitVec 5) (b : BitVec 5) (imm : BitVec 15) (s : State) : Out :=
  ok s (s.issue c t (.stwn a b imm) fun s =>
    s.store c t (s.rg c t b + imm.signExtend 64) ((bytesOf (s.rg c t a) 4).reverse))

/-- `csrd` (R290). -/
def execWCsrd (c : Fin 68) (t : Fin 8) (a : BitVec 5) (n : BitVec 4) (s : State) : Out :=
  ok s (s.issue c t (.csrd a n) fun s =>
    s.shared c t a n fun old => old)

/-- `csswp` (R290). -/
def execWCsswp (c : Fin 68) (t : Fin 8) (a : BitVec 5) (b : BitVec 5) (n : BitVec 4) (s : State) : Out :=
  ok s (s.issue c t (.csswp a b n) fun s =>
    s.shared c t a n fun _ => s.rg c t b)

/-- `csadd` (R290). -/
def execWCsadd (c : Fin 68) (t : Fin 8) (a : BitVec 5) (b : BitVec 5) (n : BitVec 4) (s : State) : Out :=
  ok s (s.issue c t (.csadd a b n) fun s =>
    s.shared c t a n fun old => old + s.rg c t b)

/-- `csand` (R290). -/
def execWCsand (c : Fin 68) (t : Fin 8) (a : BitVec 5) (b : BitVec 5) (n : BitVec 4) (s : State) : Out :=
  ok s (s.issue c t (.csand a b n) fun s =>
    s.shared c t a n fun old => old &&& s.rg c t b)

/-- `csor` (R290). -/
def execWCsor (c : Fin 68) (t : Fin 8) (a : BitVec 5) (b : BitVec 5) (n : BitVec 4) (s : State) : Out :=
  ok s (s.issue c t (.csor a b n) fun s =>
    s.shared c t a n fun old => old ||| s.rg c t b)

/-- `cscas` (R290). -/
def execWCscas (c : Fin 68) (t : Fin 8) (a : BitVec 5) (b : BitVec 5) (d : BitVec 5) (n : BitVec 4) (s : State) : Out :=
  ok s (s.issue c t (.cscas a b d n) fun s =>
    s.shared c t a n fun old => if old = s.rg c t b then s.rg c t d else old)

/-- `cbeq` (R291). -/
def execWCbeq (c : Fin 68) (t : Fin 8) (a : BitVec 5) (b : BitVec 5) (off : BitVec 12) (s : State) : Out :=
  ok s (s.issue c t (.cbeq a b off) fun s =>
    s.branch c t (s.rg c t a == s.rg c t b) (off.signExtend 64))

/-- `cbne` (R291). -/
def execWCbne (c : Fin 68) (t : Fin 8) (a : BitVec 5) (b : BitVec 5) (off : BitVec 12) (s : State) : Out :=
  ok s (s.issue c t (.cbne a b off) fun s =>
    s.branch c t (s.rg c t a != s.rg c t b) (off.signExtend 64))

/-- `cblt` (R291). -/
def execWCblt (c : Fin 68) (t : Fin 8) (a : BitVec 5) (b : BitVec 5) (off : BitVec 12) (s : State) : Out :=
  ok s (s.issue c t (.cblt a b off) fun s =>
    s.branch c t ((s.rg c t a).slt (s.rg c t b)) (off.signExtend 64))

/-- `cbge` (R291). -/
def execWCbge (c : Fin 68) (t : Fin 8) (a : BitVec 5) (b : BitVec 5) (off : BitVec 12) (s : State) : Out :=
  ok s (s.issue c t (.cbge a b off) fun s =>
    s.branch c t (!(s.rg c t a).slt (s.rg c t b)) (off.signExtend 64))

/-- `cbltu` (R291). -/
def execWCbltu (c : Fin 68) (t : Fin 8) (a : BitVec 5) (b : BitVec 5) (off : BitVec 12) (s : State) : Out :=
  ok s (s.issue c t (.cbltu a b off) fun s =>
    s.branch c t ((s.rg c t a).ult (s.rg c t b)) (off.signExtend 64))

/-- `cbgeu` (R291). -/
def execWCbgeu (c : Fin 68) (t : Fin 8) (a : BitVec 5) (b : BitVec 5) (off : BitVec 12) (s : State) : Out :=
  ok s (s.issue c t (.cbgeu a b off) fun s =>
    s.branch c t (!(s.rg c t a).ult (s.rg c t b)) (off.signExtend 64))

/-- `cbeqi` (R291). -/
def execWCbeqi (c : Fin 68) (t : Fin 8) (a : BitVec 5) (imm : BitVec 8) (off : BitVec 12) (s : State) : Out :=
  ok s (s.issue c t (.cbeqi a imm off) fun s =>
    s.branch c t (s.rg c t a == imm.signExtend 64) (off.signExtend 64))

/-- `cbnei` (R291). -/
def execWCbnei (c : Fin 68) (t : Fin 8) (a : BitVec 5) (imm : BitVec 8) (off : BitVec 12) (s : State) : Out :=
  ok s (s.issue c t (.cbnei a imm off) fun s =>
    s.branch c t (s.rg c t a != imm.signExtend 64) (off.signExtend 64))

/-- `cblti` (R291). -/
def execWCblti (c : Fin 68) (t : Fin 8) (a : BitVec 5) (imm : BitVec 8) (off : BitVec 12) (s : State) : Out :=
  ok s (s.issue c t (.cblti a imm off) fun s =>
    s.branch c t ((s.rg c t a).slt (imm.signExtend 64)) (off.signExtend 64))

/-- `cbgei` (R291). -/
def execWCbgei (c : Fin 68) (t : Fin 8) (a : BitVec 5) (imm : BitVec 8) (off : BitVec 12) (s : State) : Out :=
  ok s (s.issue c t (.cbgei a imm off) fun s =>
    s.branch c t (!(s.rg c t a).slt (imm.signExtend 64)) (off.signExtend 64))

/-- `cbltui` (R291). -/
def execWCbltui (c : Fin 68) (t : Fin 8) (a : BitVec 5) (imm : BitVec 8) (off : BitVec 12) (s : State) : Out :=
  ok s (s.issue c t (.cbltui a imm off) fun s =>
    s.branch c t ((s.rg c t a).ult (imm.setWidth 64)) (off.signExtend 64))

/-- `cbgeui` (R291). -/
def execWCbgeui (c : Fin 68) (t : Fin 8) (a : BitVec 5) (imm : BitVec 8) (off : BitVec 12) (s : State) : Out :=
  ok s (s.issue c t (.cbgeui a imm off) fun s =>
    s.branch c t (!(s.rg c t a).ult (imm.setWidth 64)) (off.signExtend 64))

/-- `j` (R291, R292). -/
def execWJ (c : Fin 68) (t : Fin 8) (a : BitVec 5) (off : BitVec 20) (s : State) : Out :=
  ok s (s.issue c t (.j a off) fun s =>
    s.jump c t 1 a (s.pcOf c t + 4 * off.signExtend 64))

/-- `jr`: the target is computed before the link is written (R291). -/
def execWJr (c : Fin 68) (t : Fin 8) (a : BitVec 5) (b : BitVec 5) (imm : BitVec 15) (s : State) : Out :=
  ok s (s.issue c t (.jr a b imm) fun s =>
    s.jump c t 3 a (s.rg c t b + imm.signExtend 64))

/-- `loop` (R293 to R295). -/
def execWLoop (c : Fin 68) (t : Fin 8) (b : BitVec 5) (endOff : BitVec 12) (s : State) : Out :=
  ok s (s.issue c t (.loop b endOff) fun s =>
    s.loopSetup c t ((s.rg c t b).setWidth 32).toNat endOff.toNat)

/-- `loopi` (R293 to R295). -/
def execWLoopi (c : Fin 68) (t : Fin 8) (n : BitVec 13) (endOff : BitVec 12) (s : State) : Out :=
  ok s (s.issue c t (.loopi n endOff) fun s =>
    s.loopSetup c t n.toNat endOff.toNat)

/-- `wait` (R209, R298). -/
def execWWait (c : Fin 68) (t : Fin 8) (s : State) : Out :=
  ok s (s.issue c t (.wait) fun s =>
    s.modTh c t fun h => if h.depcnt = 0 then h.advance else { h.advance with st := .waiting })

/-- `evwait` (R263). -/
def execWEvwait (c : Fin 68) (t : Fin 8) (a : BitVec 5) (mask : BitVec 8) (s : State) : Out :=
  ok s (s.issue c t (.evwait a mask) fun s =>
    s.modTh c t fun h => h.evStart a mask)

/-- `evsend`: a raise as the slice of the sender (R261, R298). -/
def execWEvsend (c : Fin 68) (t : Fin 8) (line : BitVec 3) (dst : BitVec 3) (s : State) : Out :=
  ok s (s.issue c t (.evsend line dst) fun s =>
    ((s.raiseLine (s.sliceOf c t) c dst.toNat line.toNat).1).modTh c t Thread.advance)

/-- `fault`: ASSERT, with STOP_ADDR the code (R298). -/
def execWFault (c : Fin 68) (t : Fin 8) (code : BitVec 16) (s : State) : Out :=
  ok s (s.issue c t (.fault code) fun s =>
    s.fault c t .assertV (code.setWidth 64))

/-- `scall` (R301). -/
def execWScall (c : Fin 68) (t : Fin 8) (n : BitVec 10) (s : State) : Out :=
  ok s (s.issue c t (.scall n) fun s =>
    s.supervisor c t n)

/-- `sret` (R301). -/
def execWSret (c : Fin 68) (t : Fin 8) (s : State) : Out :=
  ok s (s.issue c t (.sret) fun s =>
    s.supReturn c t)

/-- `mfcr` (R302, R303). -/
def execWMfcr (c : Fin 68) (t : Fin 8) (a : BitVec 5) (cr : BitVec 10) (s : State) : Out :=
  ok s (s.issue c t (.mfcr a cr) fun s =>
    s.readCr c t a cr.toNat)

/-- `mtcr` (R302 to R304). -/
def execWMtcr (c : Fin 68) (t : Fin 8) (b : BitVec 5) (cr : BitVec 10) (s : State) : Out :=
  ok s (s.issue c t (.mtcr b cr) fun s =>
    s.writeCr c t (s.rg c t b) cr.toNat)

end Sys2Proof.Machine
end

