-- ==== Sys2Proof/Machine/Coproc.lean ====
section
/-!
DEFINITION. The coprocessors CP0 to CP2 (R305, R306, R331 to R342).
-/
namespace Sys2Proof.Machine

/-! ## Instances and counters (R208, R209) -/

/-- A thread still carries the instance (R208). -/
def Thread.isInst (h : Thread) (i : Inst) : Bool :=
  match h.inst with
  | some j => decide (j.task = i.task) && decide (j.idx = i.idx) && decide (j.epoch = i.epoch) && h.st != .stopped
  | none => false

/-- A completion lowers the dependence counter; at zero a waiting thread goes on (R209) and every result stands (R314). -/
def Thread.countDown (h : Thread) : Thread :=
  let h1 := { h with depcnt := h.depcnt - 1, unsettled := if h.depcnt ≤ 1 then [] else h.unsettled }
  if h1.depcnt = 0 ∧ h.st = .waiting then { h1 with st := .running } else h1

/-! ## Access to a coprocessor (R306, R331) -/

/-- CP1 or CP2. -/
def cpNo (cp : Bool) : Nat := if cp then 2 else 1

/-- CPEN enables a coprocessor at the thread's level (R304). -/
def Thread.cpOn (h : Thread) (n : Nat) : Bool :=
  h.cpen.getLsbD (n + match h.priv with | .u => 0 | .s => 4 | .m => 8)

/-- The owner of CP1 or CP2. -/
def Core.owner (k : Core) (n : Nat) : Option Nat := Tab.get none k.cpOwner n

/-- A memory operation of the coprocessor from the thread is outstanding. -/
def Core.cpBusy (k : Core) (n t : Nat) : Bool := k.cpOps.any fun x => x.cp = n && x.thread = t

/-- CP_DENIED of R306 for an instruction of coprocessor `n`, but for `cpacq`. -/
def State.cpDenied (s : State) (c t n : Nat) : Bool :=
  let k := s.core c
  !(s.th c t).cpOn n || (n ≠ 0 && (k.owner n ≠ some t || k.cpBusy n t))

/-- A register instruction of a coprocessor. -/
def State.cpReg (s : State) (c t n : Nat) (run : State → State) : State :=
  if s.cpDenied c t n then s.fault c t .cpDenied 0 else run s

/-- A CP2 register instruction: OPMODE must select register operands (R306). -/
def State.cp2Reg (s : State) (c t : Nat) (run : State → State) : State :=
  if s.cpDenied c t 2 ∨ (s.core c).cp2.opmode ≠ 0 then s.fault c t .cpDenied 0 else run s

/-- A memory operation is sent: CP_DENIED, ALIGN, ACCESS (R307), then it counts as a counted request (R305). -/
def State.cpMem (s : State) (c t n name : Nat) (addr : Word) (len arg : Nat) : State :=
  let h := s.th c t
  if s.cpDenied c t n then s.fault c t .cpDenied 0
  else if addr.toNat % 8 ≠ 0 then s.fault c t .align addr
  else match (s.core c).blockAt t (s.sliceOf c t) h.priv addr.toNat len, h.inst with
    | some _, some i =>
      (s.modCore c fun k => { k with cpOps := k.cpOps ++ [⟨n, t, i, h.priv, name, addr.toNat, arg, h.pc⟩] }).modTh c t fun h =>
        { h.advance with depcnt := h.depcnt + 1 }
    | _, _ => s.fault c t .access addr

/-- A CP2 pointer operation: OPMODE must select pointer operands (R306). -/
def State.cp2Mem (s : State) (c t name : Nat) (addr : Word) (len arg : Nat) : State :=
  if (s.core c).cp2.opmode ≠ 1 then s.fault c t .cpDenied 0 else s.cpMem c t 2 name addr len arg

/-- The coprocessor as after a core restart (R331). -/
def Core.cpReset (k : Core) (n : Nat) : Core := if n = 1 then { k with cp1 := {} } else { k with cp2 := {} }

/-- `cpacq` (R331): 0 when the thread now owns the coprocessor, 1 when another thread does. -/
def State.cpAcquire (s : State) (c t n : Nat) (a : BitVec 5) : State :=
  let k := s.core c
  if !(s.th c t).cpOn n || k.cpBusy n t then s.fault c t .cpDenied 0
  else match k.owner n with
    | some o => s.putReg c t a (if o = t then 0 else 1)
    | none =>
      let me := s.sliceOf c t
      let other : Bool := match Tab.get none k.cpSlice n with | some p => p ≠ me | none => false
      ((s.modCore c fun k =>
        let k1 := if other then k.cpReset n else k
        { k1 with cpOwner := Tab.set none k1.cpOwner n (some t), cpSlice := Tab.set none k1.cpSlice n (some me) })).putReg
        c t a 0

/-- `cprel` (R331). -/
def State.cpRelease (s : State) (c t n : Nat) : State :=
  s.cpReg c t n fun s =>
    (s.modCore c fun k => { k with cpOwner := Tab.set none k.cpOwner n none }).modTh c t Thread.advance

/-- A thread's coprocessors are free again: at its task's end, and when it is killed (R331). -/
def Core.cpDrop (k : Core) (t : Nat) : Core :=
  { k with cpOwner := k.cpOwner.filter fun p => p.2 ≠ some t }

/-! ## CP0 -/

/-- The mixing function of R332. -/
def hmix (b d : Word) : Word :=
  let x := (b ^^^ d.rotateLeft 32) * 0x9E3779B97F4A7C15
  let y := (x ^^^ (x >>> 31)) * 0xD1B54A32D192ED03
  y ^^^ (y >>> 29)

/-! ## CP2 (R336 to R339) -/

/-- A channel number: bits 2:0. -/
def chanOf (v : Word) : Nat := v.toNat % 8
/-- A channel; one that is not enabled reads zero. -/
def Cp2.chan (p : Cp2) (ch : Nat) : Cp2Chan := if p.chEn.getLsbD ch then Tab.get {} p.chans ch else {}

/-- A feed of one sample (R337). -/
def Cp2.feed (p : Cp2) (ch : Nat) (x : Word32) : Cp2 :=
  if p.chEn.getLsbD ch then
    { p with chans := Tab.upd {} p.chans ch fun h =>
        let i := h.m % p.n
        let dif := x.toInt - (Tab.get 0 h.hist i).toInt
        { re := h.re + BitVec.ofInt 64 (dif * coefCos p.n i), im := h.im - BitVec.ofInt 64 (dif * coefSin p.n i)
          m := h.m + 1, hist := Tab.set 0 h.hist i x } }
  else p

/-- `pmag` (R338). -/
def Cp2.mag (p : Cp2) (ch : Nat) : Word :=
  let h := p.chan ch
  BitVec.ofNat 64 (isqrt (h.re.toInt.natAbs ^ 2 + h.im.toInt.natAbs ^ 2))

/-- `pang` (R338): one of the four integers within ±2 pk of the exact value that the floor gives, by a free value; the
angle of a zero phasor is free; a channel that is not enabled gives 0. -/
def Cp2.ang (p : Cp2) (ch : Nat) (free : Word) : Word :=
  let h := p.chan ch
  if !p.chEn.getLsbD ch then 0
  else if h.re = 0 ∧ h.im = 0 then free &&& 0xFFFFF
  else BitVec.ofInt 64 ((pangFloor h.re.toInt h.im.toInt h.m p.n - 1 + (free.toNat % 4 : Nat)) % 2 ^ 20)

/-- The configuration of a `pcfg` block, when it is in range (R336). -/
def cp2Config (bs : List Byte) : Option Cp2 :=
  let n := leNat (slice bs 2 2)
  let en := nthByte bs 4
  let chs := ((List.range 8).filter fun i => en.getLsbD i).length
  if (nthByte bs 1).toNat > 1 ∨ n < 8 ∨ 256 < n ∨ en = 0 ∨ 768 < n * chs then none
  else some { opmode := (nthByte bs 1).toNat, n := n, chEn := en }

/-! ## Completions -/

/-- What an operation does when it completes: the state with the coprocessor changed, and what it writes into local
memory. -/
structure CpResult where
  state : State
  writes : List (Nat × List Byte) := []

/-- The thread of an operation sees a run of local memory (R334). -/
def State.cpAt (s : State) (c : Nat) (x : CpOp) (a n : Nat) : Option Nat :=
  (s.core c).blockAt x.thread x.inst.slice x.priv a n

/-- Bytes at a data address that the block's check has allowed. -/
def State.cpBytes (s : State) (c : Nat) (x : CpOp) (a n : Nat) : List Byte :=
  match s.cpAt c x a n with
  | some p => s.lmSee c p n
  | none => []

/-- The input of a CP1 operation: local memory, or the task's frame as received (R334). -/
def State.cpSource (s : State) (c : Nat) (x : CpOp) (src : Word32) (n : Nat) : Option (List Byte) :=
  if src.getLsbD 31 then
    let k := Tab.get {} s.task.ctxs x.inst.idx
    let len := k.desc.length.toNat
    let o := (src.setWidth 16).toNat
    if x.inst.task ∨ len < o + n + 4 then none else some (slice (s.frameOf k.desc.buf len) o n)
  else
    let a := (src.extractLsb' 0 23).toNat
    (s.cpAt c x a n).map fun p => s.lmSee c p n

/-- The key's bytes. -/
def Cp1.keyBytes (p : Cp1) : List Byte := bytesOf p.key p.keyLen
/-- H (R334). -/
def Cp1.h (p : Cp1) : BitVec 128 := blockBits (aesBlock p.keyBytes (List.replicate 16 0))
/-- The tag of the message so far. -/
def Cp1.tag (p : Cp1) : List Byte :=
  let lens : BitVec 128 := BitVec.ofNat 128 (8 * p.aadLen * 2 ^ 64 + 8 * p.dataLen)
  beBytes (ghashMul (p.ghash ^^^ lens) p.h ^^^ blockBits (aesBlock p.keyBytes (beBytes p.j0 16))) 16

/-- Whether CP1's state allows an operation (R334): 0 `gkey` to 6 `gver`. -/
def Cp1.allows (p : Cp1) (name : Nat) : Bool :=
  if name = 0 then true
  else if name = 1 then 1 ≤ p.st
  else if name = 2 then (p.st = 2 || p.st = 3) && !p.aadEnd
  else if name = 3 ∨ name = 4 then 2 ≤ p.st && !p.dataEnd && (p.st ≠ 4 || p.dec = decide (name = 4))
  else 2 ≤ p.st

/-- Whether a length is one that an operation takes (R334). -/
def cp1Len (name n : Nat) : Bool :=
  if name = 0 then n = 16 || n = 32
  else if name = 1 then n = 12
  else if name = 5 ∨ name = 6 then 4 ≤ n && n ≤ 16
  else 1 ≤ n && n ≤ 2048

/-- CP1 after an operation on its input, and its output for DST. -/
def Cp1.run (p : Cp1) (name n : Nat) (bs : List Byte) : Cp1 × List Byte :=
  match name with
  | 0 => ({ p with key := leBits 256 bs, keyLen := n, st := 1 }, [])
  | 1 => ({ p with j0 := blockBits (bs ++ [0, 0, 0, 1]), ghash := 0, aadLen := 0, dataLen := 0, ctr := 0
                   aadEnd := false, dataEnd := false, st := 2 }, [])
  | 2 => ({ p with ghash := Machine.ghash p.h (blocksOf n) p.ghash bs, aadLen := p.aadLen + n
                   aadEnd := decide (n % 16 ≠ 0), st := 3 }, [])
  | 3 | 4 =>
    let out := gctr p.keyBytes p.j0 (blocksOf n) p.ctr bs
    ({ p with ghash := Machine.ghash p.h (blocksOf n) p.ghash (if name = 3 then out else bs)
              dataLen := p.dataLen + n, ctr := p.ctr + blocksOf n, dataEnd := decide (n % 16 ≠ 0)
              dec := decide (name = 4), st := 4 }, out)
  | 5 => ({ p with st := 1 }, p.tag.take n)
  | _ => ({ p with st := 1 }, [])

/-- A CP1 operation at its completion (R333, R334). Where two errors apply, the one of the lower status code stands. -/
def State.cp1Run (s : State) (c : Nat) (x : CpOp) : CpResult :=
  let p := (s.core c).cp1
  let b := s.cpBytes c x x.addr 16
  let n := leNat (slice b 2 2)
  let src : Word32 := leBits 32 (slice b 4 4)
  let dst := leNat (slice b 8 4)
  let blk := (s.cpAt c x x.addr 16).getD 0
  let done (p' : Cp1) (st : Byte) (w : List (Nat × List Byte)) : CpResult :=
    ⟨s.modCore c fun k => { k with cp1 := p' },
      (blk, [st]) :: (if st = 0 then (blk + 1, [BitVec.ofNat 8 p'.st]) :: w else [])⟩
  let input := if x.name = 5 then some [] else s.cpSource c x src n
  let output := if x.name = 3 ∨ x.name = 4 ∨ x.name = 5 then s.cpAt c x dst n else some 0
  let inPlace := (x.name = 3 ∨ x.name = 4) ∧ !src.getLsbD 31 ∧ dst ≠ src.toNat % 2 ^ 23 ∧
    dst < src.toNat % 2 ^ 23 + n ∧ src.toNat % 2 ^ 23 < dst + n
  if !p.allows x.name then done p 2 []
  else if !cp1Len x.name n then done p (if x.name = 0 then 5 else 3) []
  else match input, output with
    | some bs, some o =>
      if inPlace then done p 4 []
      else if x.name = 6 then
        if p.tag.take n = bs then done (p.run 6 n bs).1 0 [] else done (p.run 6 n bs).1 1 []
      else
        let r := p.run x.name n bs
        done r.1 0 (if r.2 = [] then [] else [(o, r.2)])
    | _, _ => done p 4 []

/-- A CP2 content that the spec does not define: an area with a right CRC that no `cpsave` wrote. -/
def freeCp2 (n : Nat) : Cp2 :=
  let w := fun i => Config.freeWord (n + i)
  { opmode := (w 0).toNat % 2, n := 8 + (w 1).toNat % 249, chEn := (w 2).setWidth 8
    chans := (List.range 8).foldl (fun (m : Tab Cp2Chan) i =>
      Tab.set {} m i { re := w (4 * i + 3), im := w (4 * i + 4), m := (w (4 * i + 5)).toNat }) [] }

/-- `cpsave` and `cpload` (R335, R340). -/
def State.cpMove (s : State) (c : Nat) (x : CpOp) : CpResult :=
  let at' := (s.cpAt c x x.addr (if x.cp = 1 then 192 else 3328)).getD 0
  if x.cp = 1 then
    if x.name = 0x10 then
      let a := Config.sealedArea s.time.free
      ⟨{ s.drawn with weft.sealed := s.weft.sealed ++ [(a, (s.core c).cp1)] }, [(at', bytesOf a 192)]⟩
    else
      let a : BitVec 1536 := leBits 1536 (s.lmSee c at' 192)
      match s.weft.sealed.find? (fun p => p.1 = a) with
      | some p => ⟨s.modCore c fun k => { k with cp1 := p.2 }, []⟩
      | none => ⟨(s.modCore c fun k => { k with cp1 := {} }).bump .cpLoadBad c, []⟩
  else if x.name = 0x10 then
    let a := Config.cp2Area s.time.free
    let bs := bytesOf a 3324
    ⟨{ s.drawn with weft.saved := s.weft.saved ++ [(a, (s.core c).cp2)] }, [(at', bs ++ bytesOf (crc32c bs) 4)]⟩
  else
    let bs := s.lmSee c at' 3328
    let a : BitVec 26592 := leBits 26592 (bs.take 3324)
    if bs.drop 3324 ≠ bytesOf (crc32c (bs.take 3324)) 4 then
      ⟨(s.modCore c fun k => { k with cp2 := {} }).bump .cpLoadBad c, []⟩
    else match s.weft.saved.find? (fun p => p.1 = a) with
      | some p => ⟨s.modCore c fun k => { k with cp2 := p.2 }, []⟩
      | none => ⟨{ s with time.free := s.time.free + 40 }.modCore c fun k => { k with cp2 := freeCp2 s.time.free }, []⟩

/-- `pfeedm` (R339): a count outside 1 to 256, or a stride that is no multiple of 4 from 4, is BAD_LEN; samples outside
the allowed regions are BAD_PTR. -/
def State.feedMany (s : State) (c : Nat) (x : CpOp) : CpResult :=
  let b := s.cpBytes c x x.addr 8
  let blk := (s.cpAt c x x.addr 8).getD 0
  let n := x.arg
  let stride := (nthByte b 3).toNat
  let ptr := leNat (slice b 4 4)
  let net := (nthByte b 2).getLsbD 0
  if n = 0 ∨ 256 < n ∨ stride = 0 ∨ stride % 4 ≠ 0 then ⟨s, [(blk, [3])]⟩
  else match s.cpAt c x ptr ((n - 1) * stride + 4) with
    | none => ⟨s, [(blk, [4])]⟩
    | some p =>
      if ptr % 4 ≠ 0 then ⟨s, [(blk, [4])]⟩
      else
        let k := s.core c
        let sample := fun i =>
          let w := s.lmSee c (p + i * stride) 4
          if net then beBits 32 w else leBits 32 w
        let p2 := (List.range n).foldl (fun (q : Cp2) i => q.feed (nthByte b 1).toNat (sample i)) k.cp2
        ⟨s.modCore c fun k => { k with cp2 := p2 }, [(blk, [0])]⟩

/-- One channel's results as `pgetm` lays them out (R339). -/
def Cp2.result (p : Cp2) (ch : Nat) (free : Word) : List Byte :=
  let h := p.chan ch
  bytesOf h.re 8 ++ bytesOf h.im 8 ++ bytesOf (p.mag ch) 8 ++ bytesOf (p.ang ch free) 4 ++
    [if p.chEn.getLsbD ch && decide (p.n ≤ h.m) then 1 else 0, 0, 0, 0]

/-- An operation at its completion. -/
def State.cpRun (s : State) (c : Nat) (x : CpOp) : CpResult :=
  if x.name < 7 then s.cp1Run c x
  else if x.name = 0x20 then
    let blk := (s.cpAt c x x.addr 16).getD 0
    match cp2Config (s.cpBytes c x x.addr 16) with
    | some p => ⟨s.modCore c fun k => { k with cp2 := p }, [(blk, [0])]⟩
    | none => ⟨s, [(blk, [6])]⟩
  else if x.name = 0x21 then s.feedMany c x
  else if x.name = 0x22 then
    let blk := (s.cpAt c x x.addr 264).getD 0
    let p := (s.core c).cp2
    ⟨{ s with time.free := s.time.free + 8 },
      (blk, [0]) :: (List.range 8).map fun i => (blk + 8 + 32 * i, p.result i (Config.freeWord (s.time.free + i)))⟩
  else s.cpMove c x

/-- What an operation reads of local memory, as data address and length: its block, then its input (R678). -/
def State.cpReads (s : State) (c : Nat) (x : CpOp) : List (Nat × Nat) :=
  let b := s.cpBytes c x x.addr 16
  if x.name < 7 then
    let n := leNat (slice b 2 2)
    let src : Word32 := leBits 32 (slice b 4 4)
    let reads : Bool := (s.core c).cp1.allows x.name && cp1Len x.name n && x.name ≠ 5 && !src.getLsbD 31
    (x.addr, 16) :: (if reads then [(src.toNat % 2 ^ 23, n)] else [])
  else if x.name = 0x20 then [(x.addr, 16)]
  else if x.name = 0x21 then
    let stride := (nthByte b 3).toNat
    let ok' : Bool := decide (1 ≤ x.arg ∧ x.arg ≤ 256) && stride ≠ 0 && stride % 4 = 0
    (x.addr, 8) :: (if ok' then (List.range x.arg).map fun i => (leNat (slice b 4 4) + i * stride, 4) else [])
  else if x.name = 0x11 then [(x.addr, if x.cp = 1 then 192 else 3328)]
  else []

/-- The address of the first word that an operation reads with bad parity. -/
def State.cpParity (s : State) (c : Nat) (x : CpOp) : Option Word :=
  (s.cpReads c x).findSome? fun r => match s.cpAt c x r.1 r.2 with
    | some p => ((s.core c).badIn p r.2).map (wordAddr (BitVec.ofNat 64 r.1))
    | none => none

/-! ## The instructions -/

/-- `crcc` (R305). -/
def execWCrcc (c : Fin 68) (t : Fin 8) (a b d : BitVec 5) (sz : BitVec 2) (s : State) : Out :=
  ok s (s.issue c t (.crcc a b d sz) fun s =>
    s.cpReg c t 0 fun s => s.putReg c t a
      ((crcRun 0x82F63B78 ((s.rg c t b).setWidth 32) (bytesOf (s.rg c t d) (2 ^ sz.toNat))).setWidth 64))

/-- `crce` (R305). -/
def execWCrce (c : Fin 68) (t : Fin 8) (a b d : BitVec 5) (sz : BitVec 2) (s : State) : Out :=
  ok s (s.issue c t (.crce a b d sz) fun s =>
    s.cpReg c t 0 fun s => s.putReg c t a
      ((crcRun 0xEDB88320 ((s.rg c t b).setWidth 32) (bytesOf (s.rg c t d) (2 ^ sz.toNat))).setWidth 64))

/-- `crcz` (R105, R305). -/
def execWCrcz (c : Fin 68) (t : Fin 8) (a b d : BitVec 5) (s : State) : Out :=
  ok s (s.issue c t (.crcz a b d) fun s =>
    s.cpReg c t 0 fun s => s.putReg c t a
      ((crcRun 0xEDB88320 ((s.rg c t b).setWidth 32) (List.replicate ((s.rg c t d).toNat % 65536) 0)).setWidth 64))

/-- `hmix` (R332). -/
def execWHmix (c : Fin 68) (t : Fin 8) (a b d : BitVec 5) (s : State) : Out :=
  ok s (s.issue c t (.hmix a b d) fun s =>
    s.cpReg c t 0 fun s => s.putReg c t a (hmix (s.rg c t b) (s.rg c t d)))

/-- `gkey` (R334), sent; it takes effect at its completion. -/
def execWGkey (c : Fin 68) (t : Fin 8) (b : BitVec 5) (s : State) : Out :=
  ok s (if s.counterFull c t then s else s.issue c t (.gkey b) fun s =>
    s.cpMem c t 1 0 (s.rg c t b) 16 0)

/-- `giv` (R334), sent; it takes effect at its completion. -/
def execWGiv (c : Fin 68) (t : Fin 8) (b : BitVec 5) (s : State) : Out :=
  ok s (if s.counterFull c t then s else s.issue c t (.giv b) fun s =>
    s.cpMem c t 1 1 (s.rg c t b) 16 0)

/-- `gaad` (R334), sent; it takes effect at its completion. -/
def execWGaad (c : Fin 68) (t : Fin 8) (b : BitVec 5) (s : State) : Out :=
  ok s (if s.counterFull c t then s else s.issue c t (.gaad b) fun s =>
    s.cpMem c t 1 2 (s.rg c t b) 16 0)

/-- `genc` (R334), sent; it takes effect at its completion. -/
def execWGenc (c : Fin 68) (t : Fin 8) (b : BitVec 5) (s : State) : Out :=
  ok s (if s.counterFull c t then s else s.issue c t (.genc b) fun s =>
    s.cpMem c t 1 3 (s.rg c t b) 16 0)

/-- `gdec` (R334), sent; it takes effect at its completion. -/
def execWGdec (c : Fin 68) (t : Fin 8) (b : BitVec 5) (s : State) : Out :=
  ok s (if s.counterFull c t then s else s.issue c t (.gdec b) fun s =>
    s.cpMem c t 1 4 (s.rg c t b) 16 0)

/-- `gtag` (R334), sent; it takes effect at its completion. -/
def execWGtag (c : Fin 68) (t : Fin 8) (b : BitVec 5) (s : State) : Out :=
  ok s (if s.counterFull c t then s else s.issue c t (.gtag b) fun s =>
    s.cpMem c t 1 5 (s.rg c t b) 16 0)

/-- `gver` (R334), sent; it takes effect at its completion. -/
def execWGver (c : Fin 68) (t : Fin 8) (b : BitVec 5) (s : State) : Out :=
  ok s (if s.counterFull c t then s else s.issue c t (.gver b) fun s =>
    s.cpMem c t 1 6 (s.rg c t b) 16 0)

/-- `pfeed` (R337). -/
def execWPfeed (c : Fin 68) (t : Fin 8) (b d : BitVec 5) (s : State) : Out :=
  ok s (s.issue c t (.pfeed b d) fun s =>
    s.cp2Reg c t fun s =>
      (s.modCore c fun k => { k with cp2 := k.cp2.feed (chanOf (s.rg c t d)) ((s.rg c t b).setWidth 32) }).modTh c t Thread.advance)

/-- `pre` (R338). -/
def execWPre (c : Fin 68) (t : Fin 8) (a d : BitVec 5) (s : State) : Out :=
  ok s (s.issue c t (.pre a d) fun s =>
    s.cp2Reg c t fun s => s.putReg c t a ((s.core c).cp2.chan (chanOf (s.rg c t d))).re)

/-- `pim` (R338). -/
def execWPim (c : Fin 68) (t : Fin 8) (a d : BitVec 5) (s : State) : Out :=
  ok s (s.issue c t (.pim a d) fun s =>
    s.cp2Reg c t fun s => s.putReg c t a ((s.core c).cp2.chan (chanOf (s.rg c t d))).im)

/-- `pmag` (R338). -/
def execWPmag (c : Fin 68) (t : Fin 8) (a d : BitVec 5) (s : State) : Out :=
  ok s (s.issue c t (.pmag a d) fun s =>
    s.cp2Reg c t fun s => s.putReg c t a ((s.core c).cp2.mag (chanOf (s.rg c t d))))

/-- `pang` (R338); the value within ±2 pk of the exact one is free. -/
def execWPang (c : Fin 68) (t : Fin 8) (a d : BitVec 5) (s : State) : Out :=
  ok s (s.issue c t (.pang a d) fun s =>
    s.cp2Reg c t fun s => s.drawn.putReg c t a ((s.core c).cp2.ang (chanOf (s.rg c t d)) (Config.freeWord s.time.free)))

/-- `pcfg` (R336), sent. -/
def execWPcfg (c : Fin 68) (t : Fin 8) (b : BitVec 5) (s : State) : Out :=
  ok s (if s.counterFull c t then s else s.issue c t (.pcfg b) fun s =>
    s.cpMem c t 2 0x20 (s.rg c t b) 16 0)

/-- `pfeedm` (R339), sent. -/
def execWPfeedm (c : Fin 68) (t : Fin 8) (b d : BitVec 5) (s : State) : Out :=
  ok s (if s.counterFull c t then s else s.issue c t (.pfeedm b d) fun s =>
    s.cp2Mem c t 0x21 (s.rg c t b) 8 (s.rg c t d).toNat)

/-- `pgetm` (R339), sent. -/
def execWPgetm (c : Fin 68) (t : Fin 8) (b : BitVec 5) (s : State) : Out :=
  ok s (if s.counterFull c t then s else s.issue c t (.pgetm b) fun s =>
    s.cp2Mem c t 0x22 (s.rg c t b) 264 0)

/-- `cpacq` (R331). -/
def execWCpacq (c : Fin 68) (t : Fin 8) (cp : Bool) (a : BitVec 5) (s : State) : Out :=
  ok s (s.issue c t (.cpacq cp a) fun s =>
    s.cpAcquire c t (cpNo cp) a)

/-- `cprel` (R331). -/
def execWCprel (c : Fin 68) (t : Fin 8) (cp : Bool) (s : State) : Out :=
  ok s (s.issue c t (.cprel cp) fun s =>
    s.cpRelease c t (cpNo cp))

/-- `cpsave` (R335, R340), sent. -/
def execWCpsave (c : Fin 68) (t : Fin 8) (cp : Bool) (b : BitVec 5) (s : State) : Out :=
  ok s (if s.counterFull c t then s else s.issue c t (.cpsave cp b) fun s =>
    s.cpMem c t (cpNo cp) 0x10 (s.rg c t b) (if cp then 3328 else 192) 0)

/-- `cpload` (R335, R340), sent. -/
def execWCpload (c : Fin 68) (t : Fin 8) (cp : Bool) (b : BitVec 5) (s : State) : Out :=
  ok s (if s.counterFull c t then s else s.issue c t (.cpload cp b) fun s =>
    s.cpMem c t (cpNo cp) 0x11 (s.rg c t b) (if cp then 3328 else 192) 0)

/-- COPROCESSOR_COMPLETION: the oldest operation of a coprocessor completes (R342). An operation of an instance that is
gone completes inside the coprocessor; what it would write is discarded (R341, R208). A word that it reads with bad parity
stops the core at its instruction, and it writes nothing (R678). -/
def execCoprocessorCompletion (c : Fin 68) (cp : Bool) (s : State) : Out :=
  ok s (match (s.core c).cpOps.find? (fun x => x.cp = cpNo cp) with
    | none => s
    | some x =>
      let r := s.cpRun c x
      let s1 := r.state.drawn.modCore c fun k => { k with cpOps := k.cpOps.erase x }
      match s.cpParity c x with
      | some a =>
        if (s.core c).active then s1.stopCore c x.thread Cause.lmParity.code x.pc a else s1.bump .lateCompletion x.inst.tg
      | none =>
      if (s.th c x.thread).isInst x.inst then
        (r.writes.foldl (fun (s : State) w => s.lmWrite c w.1 w.2) s1).modTh c x.thread Thread.countDown
      else s1.bump .lateCompletion x.inst.tg)

end Sys2Proof.Machine
end

