-- ==== Sys2Proof/Machine/HostRings.lean ====
section
/-!
DEFINITION. Delivery into host DMA rings (R153, R576, R578): which frame takes an item, and which is dropped.
-/
namespace Sys2Proof.Machine

/-- Buffer size of an RX item (R578). -/
def itemLen (it : BitVec 128) : Nat := (it.extractLsb' 64 16).toNat

/-- A frame delivered to a host ring: it takes the next item that the device owns, and holds a reference on its cells
until the item's write-back. A ring that is disabled, of direction TX, of a slice that
quiesces (R585) or without an item drops it (HR_NO_ITEM), a buffer
too small keeps the item (HR_TOO_BIG), and one whose cells take no further reference is not delivered (R155, log entry 91). `bs` is what goes to the buffer, the metadata tile first where META_EN is 1. -/
def State.hostDeliver (s : State) (r : Nat) (h : BitVec 24) (port : Nat) (express : Bool) (frame : List Byte)
    (pkt : Option Nat) : State :=
  let g := s.hr r
  if g.cfg.enable = 0 ∨ g.cfg.dir = 0 ∨ (s.sl g.cfg.owner.toNat).st.state.toNat ≥ 2 then (s.bump .hrNoItem r).legGone pkt
  else match g.ready with
    | [] => (s.bump .hrNoItem r).legGone pkt
    | it :: rest =>
      let bs := (if g.cfg.metaEn = 1 then bytesOf (s.metaOf h) 64 else []) ++ frame
      if bs.length > itemLen it then (s.bump .hrTooBig r).legGone pkt
      else if !s.canHold h then ((s.holdFrame h).bump .hrNoItem r).legGone pkt
      else
        let it' : BitVec 128 := put 128 0 (it.extractLsb' 0 64) ||| put 128 64 (BitVec.ofNat 16 bs.length) |||
          put 128 80 (BitVec.ofNat 8 port) ||| put 128 88 g.cfg.metaEn ||| put 128 89 (bit express) |||
          put 128 96 (it.extractLsb' 96 16)
        (s.holdFrame h).modHr r fun g =>
          { g with ready := rest, inFlight := g.inFlight ++ [⟨it', h, bs, pkt⟩] }

end Sys2Proof.Machine
end

