-- ==== Sys2Proof/Machine/Parser.lean ====
section
/-!
DEFINITION. The heddle walk (R160 to R166): from a frame's bytes and a bank's nodes to the 128-byte key. A pure
function of the bank, the port's parse entry and the frame.
-/
namespace Sys2Proof.Machine

/-- A walk under way. -/
structure Walk where
  key : List Byte
  off : Nat := 0
  /-- The selector that led here; `none` at the start node. -/
  sel : Option Nat := none
  nvlan : Nat := 0
  nmpls : Nat := 0
  hsr : Bool := false
  /-- An inner Ethernet header has been seen (R164). -/
  inner : Bool := false
  ip : Bool := false
  udp : Bool := false
  tun : Bool := false
  iec : Bool := false
  ptp : Bool := false
  frag : Bool := false
  tunnel : Bool := false
deriving DecidableEq, Repr

/-- What the walk reads and its two limits: the frame to LENGTH − 4, and the parse depth (R161). -/
structure WalkEnv where
  frame : List Byte
  lim : Nat
  depth : Nat
  tpidB : Nat

/-- A byte of the frame, 0 past its end. -/
def WalkEnv.b (e : WalkEnv) (o : Nat) : Byte := nthByte e.frame o
/-- Two bytes of the frame in network order. -/
def WalkEnv.h (e : WalkEnv) (o : Nat) : Nat := beNat (slice e.frame o 2)

/-- Write bytes into the key. -/
def Walk.put (w : Walk) (o : Nat) (bs : List Byte) : Walk := { w with key := overlay w.key o bs }
/-- Set bits in a key byte. -/
def Walk.orByte (w : Walk) (o v : Nat) : Walk := w.put o [nthByte w.key o ||| BitVec.ofNat 8 v]
/-- An offset field. -/
def offByte (o : Nat) : List Byte := [BitVec.ofNat 8 o]

/-- The key before the walk: zero, but for the absent header offsets (R165). -/
def keyStart : List Byte :=
  List.replicate 8 0 ++ List.replicate 10 0xFF ++ List.replicate 110 0

/-- The extension headers of an IPV6 node (R163): what remains of the allowance of two, the next-header value and the
header's length so far, whether a fragment header was seen and whether its offset is not zero. The last component is true
for a third extension header. -/
def ipv6Ext (e : WalkEnv) (o : Nat) : Nat → Nat → Nat → Bool → Nat × Nat × Bool × Bool × Bool
  | n, nh, len, frag =>
    if nh ≠ 0 ∧ nh ≠ 43 ∧ nh ≠ 60 ∧ nh ≠ 44 then (nh, len, frag, false, false)
    else match n with
      | 0 => (nh, len, frag, false, true)
      | n + 1 =>
        let nx := (e.b (o + len)).toNat
        if nh = 44 then
          let fo := e.h (o + len + 2)
          if fo / 8 ≠ 0 then (nx, len + 8, true, true, false)
          else ipv6Ext e o n nx (len + 8) (frag || decide (fo % 2 = 1))
        else ipv6Ext e o n nx (len + ((e.b (o + len + 1)).toNat + 1) * 8) frag

/-- Step 2 of R161: a header's length by the rule of its node's TYPE. -/
def headerLen (e : WalkEnv) (d : Heddle) (o : Nat) : Nat :=
  match d.typeV.toNat with
  | 0 => 14 | 1 => 4 | 2 => 6 | 3 => 4
  | 4 => (e.b o).toNat % 16 * 4
  | 5 => (ipv6Ext e o 2 (e.b (o + 6)).toNat 40 false).2.1
  | 6 => 8
  | 7 => 4 + 4 * (((e.b o).getLsbD 7).toNat + ((e.b o).getLsbD 5).toNat + ((e.b o).getLsbD 4).toNat)
  | 8 => 8 | 9 => 8 | 10 => 8 | 11 => 34
  | _ => d.genLen.toNat +
      if d.lenMask = 0 then 0 else (e.b (o + d.lenOff.toNat) &&& d.lenMask).toNat * 2 ^ d.lenScale.toNat

/-- Step 5 of R161: the error checks of a TYPE (R163). -/
def headerBad (e : WalkEnv) (d : Heddle) (w : Walk) : Bool :=
  let o := w.off
  match d.typeV.toNat with
  | 1 => !w.inner && w.nvlan = 4
  | 2 => !w.inner && w.hsr
  | 3 => w.nmpls = 4
  | 4 => (e.b o).toNat / 16 ≠ 4 || (e.b o).toNat % 16 < 5
  | 5 => (e.b o).toNat / 16 ≠ 6 || (ipv6Ext e o 2 (e.b (o + 6)).toNat 40 false).2.2.2.2
  | 7 => (e.b (o + 1)).toNat % 8 ≠ 0
  | 8 => !(e.b o).getLsbD 3
  | 9 | 10 => e.h (o + 2) < 8 || o + e.h (o + 2) > e.lim
  | 11 => (e.b (o + 1)).toNat % 16 ≠ 2
  | 12 => d.selEn = 1 && decide (o + d.selOff.toNat + 2 > e.lim)
  | _ => false

/-- The selector of a header (R163). -/
def headerSel (e : WalkEnv) (d : Heddle) (o : Nat) : Nat :=
  match d.typeV.toNat with
  | 0 => e.h (o + 12) | 1 => e.h (o + 2) | 2 => e.h (o + 4)
  | 3 => if (e.b (o + 2)).getLsbD 0 then (e.b (o + 4)).toNat / 16 else 0x8847
  | 4 => (e.b (o + 9)).toNat
  | 5 => (ipv6Ext e o 2 (e.b (o + 6)).toNat 40 false).1
  | 6 => e.h (o + 2) | 7 => e.h (o + 2) | 8 => 0x6558 | 9 => 0 | 10 => 0
  | 11 => (e.b o).toNat % 16
  | _ => if d.selEn = 1 then e.h (o + d.selOff.toNat) else 0

/-- Whether a header ends the walk as a fragment of non-zero offset (R163). -/
def headerStop (e : WalkEnv) (d : Heddle) (o : Nat) : Bool :=
  match d.typeV.toNat with
  | 4 => e.h (o + 6) % 8192 ≠ 0
  | 5 => (ipv6Ext e o 2 (e.b (o + 6)).toNat 40 false).2.2.2.1
  | _ => false

/-- The TPID code of R164. -/
def tpidCode (e : WalkEnv) (sel : Option Nat) : Nat :=
  match sel with
  | none => 3
  | some v => if v = 0x8100 then 0 else if v = e.tpidB then 1 else 2

/-- A field group that only the first header of its kind writes (R164). -/
def once (seen : Bool) (f : Walk → Walk) (w : Walk) : Walk := if seen then w else f w

/-- The fields that a TYPE writes to the key (R164, R165); `first` at the walk's first node. -/
def headerFields (e : WalkEnv) (d : Heddle) (first : Bool) (w : Walk) : Walk :=
  let o := w.off
  match d.typeV.toNat with
  | 0 =>
    if first then ((w.put 24 (slice e.frame o 12)).put 36 (slice e.frame (o + 12) 2)).put 10 (offByte (o + 12))
    else { once w.inner (fun w => w.put 15 (offByte o)) w with inner := true, tunnel := true }
  | 1 =>
    if w.inner then w
    else
      let w1 := (w.put (38 + 2 * w.nvlan) (slice e.frame o 2)).orByte 46 (tpidCode e w.sel * 4 ^ w.nvlan)
      let w2 := once (w.nvlan ≠ 0) (fun w => w.put 8 (offByte o)) w1
      { (w2.put 36 (slice e.frame (o + 2) 2)).put 10 (offByte (o + 2)) with nvlan := w.nvlan + 1 }
  | 2 =>
    if w.inner then w
    else
      { ((w.put 9 (offByte o)).put 48 (slice e.frame o 4)).put 36 (slice e.frame (o + 4) 2) |>.put 10 (offByte (o + 4))
        with hsr := true }
  | 3 =>
    { once (w.nmpls ≠ 0) (fun w => w.put 11 (offByte o)) (w.put (56 + 4 * w.nmpls) (slice e.frame o 4))
      with nmpls := w.nmpls + 1 }
  | 4 =>
    let w1 := once w.ip (fun w =>
      ((((w.orByte 3 1).put 12 (offByte o)).put 72 (slice e.frame (o + 12) 8)).put 104 [e.b (o + 9)]).put 105
        [e.b (o + 1), e.b (o + 8)]) w
    { w1 with ip := true, frag := w.frag || decide (e.h (o + 6) % 8192 ≠ 0) || decide (e.h (o + 6) / 8192 % 2 = 1) }
  | 5 =>
    let x := ipv6Ext e o 2 (e.b (o + 6)).toNat 40 false
    let w1 := once w.ip (fun w =>
      ((((w.orByte 3 2).put 12 (offByte o)).put 72 (slice e.frame (o + 8) 32)).put 104 [BitVec.ofNat 8 x.1]).put 105
        [BitVec.ofNat 8 ((e.b o).toNat % 16 * 16 + (e.b (o + 1)).toNat / 16), e.b (o + 7)]) w
    { w1 with ip := true, frag := w.frag || x.2.2.1 }
  | 6 =>
    { once w.udp (fun w => (w.put 13 (offByte o)).put 108 (slice e.frame o 4)) (w.orByte 3 4) with udp := true }
  | 7 =>
    let key := if (e.b o).getLsbD 5 then slice e.frame (o + 4 + 4 * ((e.b o).getLsbD 7).toNat) 4 else [0, 0, 0, 0]
    { once w.tun (fun w => (w.put 14 (offByte o)).put 112 key) (w.orByte 3 8) with tun := true, tunnel := true }
  | 8 =>
    { once w.tun (fun w => (w.put 14 (offByte o)).put 112 (slice e.frame (o + 4) 3)) (w.orByte 3 16)
      with tun := true, tunnel := true }
  | 9 | 10 =>
    { once w.iec (fun w => ((w.put 16 (offByte o)).put 116 (slice e.frame o 2)).put 118 (slice e.frame (o + 4) 2))
        (w.orByte 3 (if d.typeV = 9 then 32 else 64)) with iec := true }
  | 11 =>
    { once w.ptp (fun w => (w.put 17 (offByte o)).put 20 [e.b o, e.b (o + 4), e.b (o + 5)]) (w.orByte 3 128)
      with ptp := true }
  | _ => w

/-- An extract of a node into the key's USER field: bytes past the frame or the depth are zero (R162). -/
def extract (e : WalkEnv) (o len dst : Nat) (w : Walk) : Walk :=
  w.put (120 + dst) ((List.range len).map fun i => if o + i < e.lim ∧ o + i < e.depth then e.b (o + i) else 0)

/-- Transition `n` of a node: value, mask, next, in use (R162). -/
def Heddle.tr (d : Heddle) (n : Nat) : Nat × Nat × Nat × Bool :=
  ((d.trs.extractLsb' (48 * n) 16).toNat, (d.trs.extractLsb' (48 * n + 16) 16).toNat,
    (d.trs.extractLsb' (48 * n + 32) 6).toNat, d.trs.getLsbD (48 * n + 38))

/-- Step 7 of R161: the next-node code for a selector. -/
def Heddle.next (d : Heddle) (sel : Nat) : Nat :=
  match (List.range 8).find? fun n => let (v, m, _, en) := d.tr n; en && sel &&& m == v with
  | some n => (d.tr n).2.2.1
  | none => d.defNext.toNat

/-- The walk (R161): visits left, the node, the walk so far; answers PSTAT. A 17th visit is a parse error. -/
def walk (e : WalkEnv) (nodes : Nat → Heddle) : Nat → Nat → Walk → Walk × Nat
  | 0, _, w => (w, 3)
  | k + 1, node, w =>
    let d := nodes node
    if d.valid = 0 then (w, 2)
    else
      let n := headerLen e d w.off
      if w.off + n > e.lim then (w, 3)
      else if w.off + n > e.depth then (w, 1)
      else if headerBad e d w then (w, 3)
      else
        let o := w.off
        let w1 := headerFields e d (k = 15) w
        let w2 := extract e (o + d.ext1Off.toNat) d.ext1Len.toNat d.ext1Dst.toNat
          (extract e (o + d.ext0Off.toNat) d.ext0Len.toNat d.ext0Dst.toNat w1)
        let sel := headerSel e d o
        let w3 := { w2 with off := o + n, sel := some sel }
        if headerStop e d o then (w3, 0)
        else
          let nx := d.next sel
          if nx = 62 then (w3, 0) else if nx ≥ 48 then (w3, 2) else walk e nodes k nx w3

/-- The PRP trailer of R166: the four bytes copied, when one is found. -/
def prpTrailer (f : List Byte) (nvlan : Nat) : Option (List Byte) :=
  let t := slice f (f.length - 10) 6
  if f.length ≥ 70 ∧ beNat (t.drop 4) = 0x88FB ∧ beNat (slice t 2 2) % 4096 + 16 + 4 * nvlan = f.length then some (t.take 4)
  else none

/-- The key of a frame (R165), with its PSTAT. -/
def parseKey (nodes : Nat → Heddle) (pe : ParsePort) (port tpidB tc : Nat) (express : Bool) (rsver : BitVec 8)
    (f : List Byte) : BitVec 1024 × Nat :=
  let e : WalkEnv := ⟨f, f.length - 4, 16 * pe.depth.toNat, tpidB⟩
  let (w, pstat) := walk e nodes 16 pe.startNode.toNat { key := keyStart }
  let prp := if pe.prpDetect = 1 then prpTrailer f w.nvlan else none
  let k := w.key
  let k := overlay k 0 [BitVec.ofNat 8 port,
    BitVec.ofNat 8 (tc + 8 * express.toNat + 16 * pstat + 64 * w.frag.toNat + 128 * w.tunnel.toNat),
    BitVec.ofNat 8 (w.nvlan + 8 * w.nmpls + 64 * w.hsr.toNat + 128 * prp.isSome.toNat)]
  let k := overlay k 4 [rsver]
  let k := overlay k 6 (bytesOf (BitVec.ofNat 16 f.length) 2)
  let k := overlay k 18 (bytesOf (BitVec.ofNat 16 w.off) 2)
  let k := match prp with | some t => overlay k 52 t | none => k
  (leBits 1024 k, pstat)

end Sys2Proof.Machine
end

