-- ==== Sys2Proof/Machine/Policers.lean ====
section
/-!
DEFINITION. Policers (R423 to R427): the token bucket that METER and mirrored copies charge, and the two commands.
-/
namespace Sys2Proof.Machine

/-- A policer. -/
def State.policer (s : State) (n : Nat) : Policer := Tab.get {} s.rules.policers n
/-- Change a policer. -/
def State.modPolicer (s : State) (n : Nat) (f : Policer → Policer) : State :=
  { s with rules.policers := Tab.upd {} s.rules.policers n f }

/-- The full bucket in millionths of a bit. -/
def Policer.full (p : Policer) : Nat := 8 * p.cfg.burst.toNat * 1000000
/-- Tokens refilled to local time `now` (R425). -/
def Policer.refill (p : Policer) (now : Nat) : Policer :=
  { p with tok := min p.full (p.tok + (now - p.last) * p.cfg.rate.toNat), last := now }
/-- The charge of a frame in millionths of a bit (R423). -/
def Policer.charge (p : Policer) (len : Nat) : Nat := (if p.cfg.unit = 1 then 1000 else 8 * len) * 1000000

/-- The metering of R425 on one policer: its new state, and DETAIL (0 is OK, 1 and 2 NONCONFORM). -/
def Policer.meter (p : Policer) (now len : Nat) : Policer × Nat :=
  if p.cfg.maxSdu ≠ 0 ∧ len > p.cfg.maxSdu.toNat then ({ p with st.oversize := satInc p.st.oversize }, 2)
  else
    let r := p.refill now
    if r.charge len ≤ r.tok then ({ r with tok := r.tok - r.charge len, st.conform := satInc r.st.conform }, 0)
    else ({ r with st.nonconform := satInc r.st.nonconform }, 1)

/-- Meter a frame by policer `n` (R425); the policer is enabled. -/
def State.meter (s : State) (n len : Nat) : State × Nat :=
  let (p, d) := (s.policer n).meter s.now len
  (s.modPolicer n fun _ => p, d)

/-- Ranges of a policer's configuration (R423). -/
def PolicerCfg.bad (c : PolicerCfg) : Bool :=
  (c.maxSdu ≠ 0 && !inR c.maxSdu.toNat 64 9600) || c.rate.toNat > 400000000 || c.burst.toNat > 16777216

/-- POLICER_CONFIG (R424): takes effect at once and sets the tokens under RESET_FILL. -/
def execPolicerConfig (q : Cmd) (s : State) : Out :=
  let c := PolicerCfg.ofTile (q.tile 1)
  let o := (s.policer q.h).cfg
  runCmd (setOp 0x601 .live PolicerCfg.rsv) q s
    { bad := [(q.h ≥ 16384, .badParam), (c.bad, .badParam)]
      owns := ownerSet (s.requester q) o.owner.toNat c.owner.toNat ({ c with owner := o.owner } = o)
      keys := [(.policer, q.h)]
      eff := s.modPolicer q.h fun p =>
        { p with cfg := c, last := s.now, tok := if c.resetFill = 1 then 8 * c.burst.toNat * 1000000 else 0 } }

/-- POLICER_GET (R427). -/
def execPolicerGet (q : Cmd) (s : State) : Out :=
  let p := (s.policer q.h).refill s.now
  runCmd (getOp 0x602 .live) q s
    { bad := [(q.h ≥ 16384, .badParam)], owns := isSl0 s q || s.requester q = p.cfg.owner.toNat
      keys := [(.policer, q.h)], changes := false, replyTiles := 3
      tiles := [p.cfg.toTile, { p.st with tokens := BitVec.ofNat 64 (p.tok / 1000000) }.toTile]
      eff := if q.clear then s.modPolicer q.h fun p => { p with st := {} } else s }

end Sys2Proof.Machine
end

