-- ==== Sys2Proof/Machine/RingCmds.lean ====
section
/-!
DEFINITION. The commands of general rings, warp rings and pools (group 0x08 of chapter 19, without channels).
-/
namespace Sys2Proof.Machine

/-- Bytes that an on-chip ring of a configuration takes (R124). -/
def ringBytes (c : RingCfg) : Nat :=
  (2 ^ c.depthLog2.toNat + if c.kind = 3 ∨ c.kind = 4 then 4 else 0) * (16 <<< c.itemSize.toNat)

/-- The ring store's use by every enabled ring of STORE 0 but one (R124). -/
def State.ringStore (s : State) (but : Nat) : Nat :=
  (s.buf.rings.map fun (k, g) => if k ≠ but ∧ g.cfg.enable = 1 ∧ g.cfg.store = 0 then ringBytes g.cfg else 0).sum

/-- The BAD_PARAM cases of R126. -/
def RingCfg.bad (c : RingCfg) : Bool :=
  !inR c.depthLog2.toNat 4 16 || c.itemSize = 3 || c.kind.toNat ≥ 5 || c.neCore.toNat ≥ 68
  || c.base.toNat % ringBytes c ≠ 0 || (c.markEn = 1 && c.kind ≠ 0)
  || (c.kind = 2 && c.itemSize ≠ 1) || (c.kind = 3 && c.itemSize ≠ 2) || (c.kind = 4 && c.itemSize ≠ 0)
  || (c.store = 0 && c.base.toNat ≥ 2097152)

/-- A channel's messages went with its ring's items. -/
def State.noMessages (s : State) (r : Nat) : State :=
  { s with lock.chans := Tab.upd {} s.lock.chans r fun k => { k with msgs := [] } }

/-- RING_CONFIG (R125, R126): SL0 alone writes OWNER. -/
def execRingConfig (q : Cmd) (s : State) : Out :=
  let c := RingCfg.ofTile (q.tile 1)
  let o := (s.ring q.h).cfg
  let me := s.requester q
  runCmd (setOp 0x801 .live RingCfg.rsv) q s
    { bad := [(q.h ≥ 4096, .badParam), (c.bad, .badParam),
              (c.store = 1 && s.dramOn && decide (c.base.toNat + ringBytes c > s.dramSize), .badParam)]
      owns := ownerSet me o.owner.toNat c.owner.toNat ({ c with owner := o.owner } = o), keys := [(.ring, q.h)]
      own := [(c.enable = 1 && c.store = 0 && decide (s.ringStore q.h + ringBytes c > 2097152), .noRoom),
              (c.enable = 1 && c.store = 1 && !s.dramOn, .noRoom),
              (o.enable = 1 &&
                ({ c with enable := o.enable, neEvEn := o.neEvEn, neCore := o.neCore, neThread := o.neThread, neLine := o.neLine } ≠ o), .busy)]
      eff :=
        let s1 := s.modRing q.h fun g =>
          if c.enable = 0 then { g.discard with cfg := c }
          else if o.enable = 0 then { g with cfg := c, items := [], w := 0, popped := 0, mark := none, markLost := false }
          else { g with cfg := c }
        if c.enable = 0 ∨ o.enable = 0 then s1.noMessages q.h else s1 }

/-- RING_GET (R127). -/
def execRingGet (q : Cmd) (s : State) : Out :=
  let g := s.ring q.h
  runCmd (getOp 0x802 .live) q s
    { bad := [(q.h ≥ 4096, .badParam)], owns := isSl0 s q || s.requester q = g.cfg.owner.toNat
      keys := [(.ring, q.h)], changes := false, replyTiles := 3, tiles := [g.cfg.toTile, g.status.toTile]
      eff := if q.clear then s.modRing q.h GenRing.clear else s }

/-- Warp slots of a configuration (R141). -/
def warpSlots (c : WarpCfg) : Nat := 2 ^ c.expDepthLog2.toNat + 2 ^ c.normDepthLog2.toNat + 8

/-- Warp slots of every port code 0 to 33 but one (R141). -/
def State.warpStore (s : State) (but : Nat) : Nat :=
  ((List.range 34).map fun p => if p = but then 0 else warpSlots (s.warp p).cfg).sum

/-- WARP_CONFIG (R140, R141). -/
def execWarpConfig (q : Cmd) (s : State) : Out :=
  let c := WarpCfg.ofTile (q.tile 1)
  let o := s.warp q.h
  let poolOk (b : BitVec 6) : Bool := (s.pool b.toNat).cfg.enable = 1 && (s.pool b.toNat).cfg.kind = 0
  runCmd (setOp 0x810 .all WarpCfg.rsv) q s
    { bad := [(q.h ≥ 34 || s.absorbed q.h, .badParam),
              (!inR c.expDepthLog2.toNat 4 14 || !inR c.normDepthLog2.toNat 4 14, .badParam)]
      owns := isSl0 s q, keys := [(.warp, q.h)]
      own := [(!poolOk c.rxPool || !poolOk c.rxPoolX, .badParam),
              (decide (s.warpStore q.h + warpSlots c > 131072), .noRoom),
              (q.h < 33 && (s.port q.h).cfg.enable = 1, .busy),
              (q.h = 33 && s.sys.mode ≠ .commission && s.sys.mode ≠ .boot, .wrongMode),
              (c.expDepthLog2 ≠ o.cfg.expDepthLog2 && o.exp.w ≠ o.exp.l, .busy),
              (c.normDepthLog2 ≠ o.cfg.normDepthLog2 && o.norm.w ≠ o.norm.l, .busy)]
      eff := s.modWarp q.h fun w =>
        { cfg := c
          exp := if c.expDepthLog2 = o.cfg.expDepthLog2 then w.exp else { w.exp with w := 0, p := 0, l := 0, slots := [] }
          norm := if c.normDepthLog2 = o.cfg.normDepthLog2 then w.norm
            else { w.norm with w := 0, p := 0, l := 0, slots := [] } } }

/-- The status of a warp ring of depth 2^n (R127). -/
def WarpRing.status (r : WarpRing) (n : Nat) : RingSt :=
  { fill := BitVec.ofNat 17 (r.w - r.l), dualClock := 1, resetting := bit r.resetting, highWater := r.high
    lostCount := r.lost, markLost := r.markLosts, ptrResets := r.ptrResets
    w := BitVec.ofNat 32 (r.w % (2 * (2 ^ n + 4))), p := BitVec.ofNat 32 (r.p % (2 * (2 ^ n + 4)))
    l := BitVec.ofNat 32 (r.l % (2 * (2 ^ n + 4))) }

/-- Counters of a warp ring cleared (R127). -/
def WarpRing.clear (r : WarpRing) : WarpRing :=
  { r with high := BitVec.ofNat 17 (r.w - r.l), lost := 0, markLosts := 0, ptrResets := 0 }

/-- WARP_GET: configuration, express status, normal status (R127). -/
def execWarpGet (q : Cmd) (s : State) : Out :=
  let w := s.warp q.h
  runCmd (getOp 0x811 .all) q s
    { bad := [(q.h ≥ 34 || s.absorbed q.h, .badParam)], owns := clearOk s q 0, keys := [(.warp, q.h)]
      changes := false, replyTiles := 4
      tiles := [w.cfg.toTile, (w.exp.status w.cfg.expDepthLog2.toNat).toTile,
        (w.norm.status w.cfg.normDepthLog2.toNat).toTile]
      eff := if q.clear then s.modWarp q.h fun w => { w with exp := w.exp.clear, norm := w.norm.clear } else s }

/-- The BAD_PARAM cases of R149 and R150 that the object alone shows. -/
def PoolCfg.bad (c : PoolCfg) : Bool :=
  if c.kind = 0 then c.reserve.toNat > cellCount || c.limit.toNat > cellCount || c.limit < c.reserve || c.first ≠ 0
  else c.reserve ≠ 0 || !inR c.limit.toNat 1 4194304 || c.first.toNat + c.limit.toNat > 4194304

/-- Whether a BUFFER pool's range meets another enabled one's (R150). -/
def State.bufOverlap (s : State) (b : Nat) (c : PoolCfg) : Bool :=
  s.buf.pools.any fun (k, p) => k ≠ b && p.cfg.enable = 1 && p.cfg.kind = 1 &&
    decide (c.first.toNat < p.cfg.first.toNat + p.cfg.limit.toNat ∧ p.cfg.first.toNat < c.first.toNat + c.limit.toNat)

/-- A pool is disabled: its lost buffers are freed (R150), and its quarantined cells may be allocated again, with records
written anew (R156). -/
def State.freePool (s : State) (b : Nat) : State :=
  let q := (s.pool b).quarantine
  let lost := (s.buf.recs.filter fun (_, c) => c.alloc = 1 && c.pool.toNat = b).map (·.1)
  let s1 := { s with buf.recs := s.buf.recs.filter fun (_, c) => !(c.alloc = 1 && c.pool.toNat = b)
                     buf.badRecs := s.buf.badRecs.filter fun i => !q.contains i }
  (lost.foldl State.writeRec s1).modPool b fun p =>
    { p with st.held := 0, st.lostBuf := 0, quarantine := [] }

/-- POOL_CONFIG (R149, R150). -/
def execPoolConfig (q : Cmd) (s : State) : Out :=
  let c := PoolCfg.ofTile (q.tile 1)
  let p := s.pool q.h
  let o := p.cfg
  runCmd (setOp 0x820 .live PoolCfg.rsv) q s
    { bad := [(q.h ≥ 64, .badParam), (c.bad, .badParam)], owns := isSl0 s q, keys := [(.pool, q.h)]
      own := [(c.kind = 1 && s.bufOverlap q.h c, .badParam),
              (c.enable = 1 && c.kind = 0 && decide (s.reserved
                - (if o.enable = 1 ∧ o.kind = 0 then o.reserve.toNat else 0) + c.reserve.toNat > cellCount), .noRoom),
              (c.kind = 1 && decide (c.first.toNat + c.limit.toNat > s.bufCount), .noRoom),
              (o.enable = 1 && (c.kind ≠ o.kind || c.first ≠ o.first || (o.kind = 1 && c.limit ≠ o.limit)), .busy),
              (o.enable = 1 && c.enable = 0 && p.st.held ≠ p.st.lostBuf, .busy)]
      eff := ((if o.enable = 1 ∧ c.enable = 0 then s.freePool q.h else s).modPool q.h fun p => { p with cfg := c }).noteFrees s }

/-- POOL_GET (R611). -/
def execPoolGet (q : Cmd) (s : State) : Out :=
  let p := s.pool q.h
  let free := BitVec.ofNat 32 (s.freeCount q.h)
  runCmd (getOp 0x821 .live) q s
    { bad := [(q.h ≥ 64, .badParam)], owns := isSl0 s q || s.requester q = p.cfg.owner.toNat, keys := [(.pool, q.h)]
      changes := false, replyTiles := 3, tiles := [p.cfg.toTile, { p.st with freeCount := free }.toTile]
      eff := if q.clear then s.modPool q.h fun p =>
          { p with st := { held := p.st.held, lostBuf := p.st.lostBuf, lowFree := free } } else s }

end Sys2Proof.Machine
end

