-- ==== Sys2Proof/Machine/Ruleset.lean ====
section
/-!
DEFINITION. The ruleset: classification (R170 to R174), spreading (R175 to R181), commit and drain (R182 to R189), and
the commands of group 0x04.
-/
namespace Sys2Proof.Machine

/-! ## Banks -/

/-- The staged bank. -/
def State.staged (s : State) : RuleBank := s.bank (!s.rules.cur)
/-- Change the staged bank. -/
def State.modStaged (s : State) (f : RuleBank → RuleBank) : State := s.modBank (!s.rules.cur) f
/-- A heddle node of a bank. -/
def RuleBank.heddle (b : RuleBank) (n : Nat) : Heddle := Tab.get {} b.heddles n
/-- A port parse entry of a bank. -/
def RuleBank.port (b : RuleBank) (p : Nat) : ParsePort := Tab.get {} b.ports p
/-- A rule of a bank. -/
def RuleBank.rule (b : RuleBank) (n : Nat) : Rule := Tab.get {} b.rules n
/-- A profile of a bank. -/
def RuleBank.profile (b : RuleBank) (n : Nat) : Profile := Tab.get {} b.profiles n
/-- The ranges of a slice. -/
def RuleBank.range (b : RuleBank) (n : Nat) : RuleRange := Tab.get {} b.ranges n
/-- Whether a slice's rule range holds a rule. -/
def RuleRange.hasRule (r : RuleRange) (n : Nat) : Bool := r.ruleFirst ≤ n && n < r.ruleFirst + r.ruleCount
/-- Whether a slice's profile range holds a profile. -/
def RuleRange.hasProfile (r : RuleRange) (n : Nat) : Bool := r.profFirst ≤ n && n < r.profFirst + r.profCount
/-- The slice whose range holds a rule. -/
def RuleBank.ruleOwner (b : RuleBank) (n : Nat) : Option Nat := (b.ranges.find? fun x => x.2.hasRule n).map (·.1)
/-- The slice whose range holds a profile. -/
def RuleBank.profileOwner (b : RuleBank) (n : Nat) : Option Nat :=
  (b.ranges.find? fun x => x.2.hasProfile n).map (·.1)

/-- An ordering domain. -/
def State.dom (s : State) (d : Nat) : Domain := Tab.get {} s.task.domains d
/-- Change an ordering domain. -/
def State.modDom (s : State) (d : Nat) (f : Domain → Domain) : State :=
  { s with task.domains := Tab.upd {} s.task.domains d f }
/-- Whether a domain serves a class (R229, R230). -/
def State.serves (s : State) (d tc : Nat) : Bool := (s.dom d).cfg.enable = 1 && (s.dom d).cfg.classV.toNat = tc

/-- An indirection table. -/
def State.it (s : State) (n : Nat) : ItTable := Tab.get {} s.rules.its n
/-- Change an indirection table. -/
def State.modIt (s : State) (n : Nat) (f : ItTable → ItTable) : State :=
  { s with rules.its := Tab.upd {} s.rules.its n f }

/-! ## Classification and spreading -/

/-- The classifier key of a bank (R170). -/
def RuleBank.classKey (b : RuleBank) (key : BitVec 1024) : BitVec 512 :=
  leBits 512 ((List.range 64).map fun i => byteAt key (b.keysel.extractLsb' (7 * i) 7).toNat)

/-- Whether a rule hits (R172). -/
def Rule.hits (r : Rule) (k : BitVec 512) : Bool := r.valid = 1 && k &&& r.mask == r.value

/-- The lowest-numbered rule that hits (R172); one whose parity fails misses what it should have hit (R174). -/
def RuleBank.classify (b : RuleBank) (key : BitVec 1024) : Option Nat :=
  (b.rules.find? fun x => !b.badRules.contains x.1 && x.2.hits (b.classKey key)).map (·.1)

/-- The bytes that a profile hashes (R175). -/
def Profile.hashInput (p : Profile) (key : BitVec 1024) : List Byte :=
  ((List.range 128).filter fun i => p.hashMask.getLsbD i).map fun i => byteAt key i

/-- The Toeplitz hash of R175; bit position 0 of the secret is its most significant bit. -/
def toeplitz (secret : BitVec 1056) (bs : List Byte) : Word32 :=
  (List.range (8 * bs.length)).foldl (fun h i =>
    if (nthByte bs (i / 8)).getLsbD (7 - i % 8) then h ^^^ secret.extractLsb' (1024 - i) 32 else h) 0

/-- The hash of a profile; an empty input hashes to 0 (R175). -/
def State.hashOf (s : State) (p : Profile) (key : BitVec 1024) : Word32 :=
  let bs := p.hashInput key
  if bs.isEmpty then 0 else if p.hashAlg = 1 then toeplitz s.rules.secret bs else crc32c bs

/-- What spreading sets (R180). -/
structure Spread where
  od : BitVec 12
  tg : BitVec 4
  fpath : BitVec 2
  queue : BitVec 13
  qvalid : BitVec 1
  flowHash : BitVec 16
deriving DecidableEq, Repr

/-- Spread a packet of final class `tc` by a profile; `none` in the cases of R184. -/
def State.spread (s : State) (p : Profile) (key : BitVec 1024) (tc : Nat) : Option Spread :=
  if p.spread = 0 then
    if s.serves p.fixOd.toNat tc then some ⟨p.fixOd, p.fixTg, p.fixFpath, p.fixQueue, p.fixQvalid, 0⟩ else none
  else
    let h := s.hashOf p key
    let t := s.it p.it.toNat
    let e := Tab.get {} t.entries (h.toNat % 256)
    if e.valid = 0 ∨ t.owner ≠ p.owner ∨ !s.serves e.od.toNat tc then none
    else some ⟨e.od, e.tg, e.fpath, e.queue, e.qvalid, h.setWidth 16⟩

/-! ## Writes to the staged bank -/

/-- A staged write waits until the ruleset is IDLE (R186). -/
def State.rulesBusy (s : State) : Bool := s.rules.state ≠ .idle

/-- A reserved next-node code (R161). -/
def badNext (v : Nat) : Bool := 48 ≤ v && v < 62

/-- The BAD_PARAM cases of HEDDLE_WRITE (R162). -/
def Heddle.bad (d : Heddle) : Bool :=
  d.typeV.toNat ≥ 13 || badNext d.defNext.toNat || d.ext0Len.toNat > 8 || d.ext1Len.toNat > 8
  || d.ext0Dst.toNat + d.ext0Len.toNat > 8 || d.ext1Dst.toNat + d.ext1Len.toNat > 8
  || (d.typeV ≠ 12 && (d.selOff ≠ 0 || d.selEn ≠ 0 || d.genLen ≠ 0 || d.lenOff ≠ 0 || d.lenMask ≠ 0 || d.lenScale ≠ 0))
  || (List.range 8).any fun n => let (v, m, nx, _) := d.tr n
      v ||| m != m || badNext nx || d.trs.extractLsb' (48 * n + 39) 9 ≠ 0

/-- HEDDLE_WRITE (R162). -/
def execHeddleWrite (q : Cmd) (s : State) : Out :=
  let d := Heddle.ofTile (q.tile 1)
  runCmd (setOp 0x401 .live Heddle.rsv) q s
    { bad := [(q.h ≥ 48, .badParam), (d.bad, .badParam)], owns := isSl0 s q, keys := [(.ruleset, 0)]
      hold := s.rulesBusy, eff := s.modStaged fun b => { b with heddles := Tab.set {} b.heddles q.h d } }

/-- KEYSEL_WRITE (R170). -/
def execKeyselWrite (q : Cmd) (s : State) : Out :=
  runCmd (setOp 0x402 .live (put 512 448 (BitVec.allOnes 32))) q s
    { bad := [(q.h ≠ 0, .badParam)], owns := isSl0 s q, keys := [(.ruleset, 0)], hold := s.rulesBusy
      eff := s.modStaged fun b => { b with keysel := (q.tile 1).extractLsb' 0 448 } }

/-- Ranges of a port parse entry (R167). -/
def ParsePort.bad (c : ParsePort) : Bool :=
  c.startNode.toNat ≥ 48 || !inR c.depth.toNat 2 16 || c.defAction.toNat ≥ 5 || c.defOdBase.toNat % 8 ≠ 0

/-- PARSE_PORT_WRITE (R167). -/
def execParsePortWrite (q : Cmd) (s : State) : Out :=
  let c := ParsePort.ofTile (q.tile 1)
  runCmd (setOp 0x403 .live ParsePort.rsv) q s
    { bad := [(q.h ≥ 34 || s.absorbed q.h, .badParam), (c.bad, .badParam)], owns := isSl0 s q
      keys := [(.ruleset, 0)], hold := s.rulesBusy
      eff := s.modStaged fun b => { b with ports := Tab.set {} b.ports q.h c } }

/-- Whether two ranges meet. -/
def meets (a n b m : Nat) : Bool := n ≠ 0 && m ≠ 0 && a < b + m && b < a + n

/-- RULE_RANGE_SET (R607). -/
def execRuleRangeSet (q : Cmd) (s : State) : Out :=
  let r : RuleRange := ⟨q.u16 16, q.u16 18, q.u16 20, q.u16 22⟩
  runCmd (actOp 0x404 .live (used 16 8)) q s
    { bad := [(q.h ≥ 64, .badParam), (r.ruleFirst + r.ruleCount > 8192 || r.profFirst + r.profCount > 1024, .badParam)]
      owns := isSl0 s q, keys := [(.ruleset, 0)], hold := s.rulesBusy
      own := [(s.staged.ranges.any (fun (k, o) => k ≠ q.h && (meets r.ruleFirst r.ruleCount o.ruleFirst o.ruleCount
                || meets r.profFirst r.profCount o.profFirst o.profCount)), .badParam)]
      eff := s.modStaged fun b => { b with ranges := Tab.set {} b.ranges q.h r } }

/-- The 136-byte record of RULE_WRITE's three tiles (R607). -/
def ruleRecord (q : Cmd) : BitVec 1088 :=
  put 1088 0 ((q.tile 1).extractLsb' 0 480) ||| put 1088 480 ((q.tile 2).extractLsb' 0 480) |||
    put 1088 960 ((q.tile 3).extractLsb' 0 128)

/-- A rule as RULE_GET and RULESET_READ return it (R607). -/
def ruleTiles (r : Rule) : List Tile :=
  let v : BitVec 1088 := put 1088 0 r.value ||| put 1088 512 r.mask ||| put 1088 1024 r.valid |||
    put 1088 1025 r.profile ||| put 1088 1035 r.countEn
  [(v.extractLsb' 0 480).setWidth 512, (v.extractLsb' 480 480).setWidth 512, (v.extractLsb' 960 128).setWidth 512]

/-- RULE_WRITE (R171). -/
def execRuleWrite (q : Cmd) (s : State) : Out :=
  let v := ruleRecord q
  let r : Rule := { value := v.extractLsb' 0 512, mask := v.extractLsb' 512 512, valid := v.extractLsb' 1024 1
                    profile := v.extractLsb' 1025 10, countEn := v.extractLsb' 1035 1 }
  let me := s.requester q
  runCmd { opcode := 0x405, modes := .live, minTiles := 4, maxTiles := 4, tileRsv := put 512 76 (BitVec.allOnes 404) } q s
    { bad := [(q.h ≥ 8192, .badParam), (r.value &&& ~~~ r.mask ≠ 0, .badParam)]
      owns := (s.staged.range me).hasRule q.h && (s.staged.range me).hasProfile r.profile.toNat
      keys := [(.ruleset, 0)], hold := s.rulesBusy
      eff := s.modStaged fun b => { b with rules := Tab.set {} b.rules q.h r, badRules := b.badRules.filter (· ≠ q.h) } }

/-- PROFILE_WRITE (R173). -/
def execProfileWrite (q : Cmd) (s : State) : Out :=
  let c := Profile.ofTile (q.tile 1)
  let me := s.requester q
  runCmd (setOp 0x406 .live Profile.rsv) q s
    { bad := [(q.h ≥ 1024, .badParam)], owns := (s.staged.range me).hasProfile q.h
      keys := [(.ruleset, 0)], hold := s.rulesBusy
      own := [(c.valid = 1 && c.owner.toNat ≠ me, .badParam)]
      eff := s.modStaged fun b => { b with profiles := Tab.set {} b.profiles q.h c } }

/-! ## Commit -/

/-- The check of R188: the first offending object by its kind (the codes of RULESET_READ) and index. -/
def RuleBank.offence (b : RuleBank) : Option (Nat × Nat) :=
  let off (n : Nat) : Bool := n < 48 && (b.heddle n).valid = 0
  let nodes := b.heddles.find? fun (_, d) => d.valid = 1 && (off d.defNext.toNat ||
    (List.range 8).any fun n => let (_, _, nx, en) := d.tr n; en && off nx)
  let fresh := b.heddles.all fun (_, d) => d.valid = 0
  let starts := if fresh then none else (List.range 34).find? fun p => off (b.port p).startNode.toNat
  let rules := b.rules.find? fun (n, r) => r.valid = 1 && ((b.profile r.profile.toNat).valid = 0 ||
    b.ruleOwner n ≠ b.profileOwner r.profile.toNat || b.ruleOwner n = none)
  let defs := b.ports.find? fun (_, c) => c.defAction = 3 && (b.profile c.defProfile.toNat).valid = 0
  let profs := b.profiles.find? fun (n, p) => p.valid = 1 && b.profileOwner n ≠ some p.owner.toNat
  match nodes, starts, rules, defs, profs with
  | some x, _, _, _, _ => some (0, x.1)
  | none, some p, _, _, _ => some (2, p)
  | none, none, some x, _, _ => some (4, x.1)
  | none, none, none, some x, _ => some (2, x.1)
  | none, none, none, none, some x => some (5, x.1)
  | none, none, none, none, none => none

/-- The staged bank becomes current with the next version; the old one drains (R183 step 2). -/
def State.commitRules (s : State) : State :=
  let v := s.curBank.version + 1
  let s1 := s.modStaged fun b => { b with version := v }
  { s1 with rules.cur := !s.rules.cur, rules.state := .draining }

/-- COMMIT_RULESET (R182, R183, R188). -/
def execCommitRuleset (q : Cmd) (s : State) : Out :=
  let x := s.staged.offence
  runCmd (actOp 0x410 .live 0) q s
    { bad := [(q.h ≠ 0, .badParam)], needGen := true, owns := isSl0 s q, keys := [(.ruleset, 0)], hold := s.rulesBusy
      own := [(x.isSome, .badParam)]
      failData := match x with
        | some (k, i) => dat 20 (BitVec.ofNat 8 k) ||| dat 22 (BitVec.ofNat 16 i)
        | none => 0
      eff := s.commitRules, data := dat 16 (s.curBank.version + 1) }

/-- RULESET_DISCARD: the copy of R189 begins; the reply follows its end. -/
def execRulesetDiscard (q : Cmd) (s : State) : Out :=
  runCmd (actOp 0x411 .live 0) q s
    { bad := [(q.h ≠ 0, .badParam)], owns := isSl0 s q, keys := [(.ruleset, 0)], hold := s.rulesBusy
      eff := { s with rules.state := .copying }, wait := some .rulesetCopy }

/-- RULESET_DRAIN_END: the old bank's count is zero (R183 step 5). -/
def execRulesetDrainEnd (s : State) : Out :=
  ok s (if s.rules.state = .draining ∧ s.staged.inflight = 0 then { s with rules.state := .copying } else s)

/-- RULESET_COPY_DONE: the staged bank now holds what the current one does (R183 step 6, R189). -/
def execRulesetCopyDone (s : State) : Out :=
  ok s (if s.rules.state = .copying then
    let c := s.curBank
    let s1 := s.modStaged fun b => { c with version := b.version, inflight := b.inflight }
    { s1 with rules.state := .idle }.finish (fun w => w == Wait.rulesetCopy) .ok 0 []
    else s)

/-- RULESET_GET (R186). -/
def execRulesetGet (q : Cmd) (s : State) : Out :=
  let st : BitVec 8 := match s.rules.state with | .idle => 0 | .draining => 1 | .copying => 2
  runCmd (getOp 0x412 .live) q s
    { bad := [(q.h ≠ 0, .badParam)], owns := clearOk s q 0, keys := [(.ruleset, 0)], changes := false, eff := s
      data := dat 16 st ||| dat 17 (BitVec.ofNat 8 s.rules.cur.toNat) ||| dat 18 s.curBank.version |||
        dat 20 (BitVec.ofNat 32 s.rules.bank0.inflight) ||| dat 24 (BitVec.ofNat 32 s.rules.bank1.inflight) |||
        dat 28 (BitVec.ofNat 32 (s.host.held.filter fun h => h.keys.contains (.ruleset, 0)).length) }

/-- RULESET_READ (R607). -/
def execRulesetRead (q : Cmd) (s : State) : Out :=
  let b := if q.u8 16 = 0 then s.curBank else s.staged
  let k := q.u8 17
  let me := s.requester q
  let r := b.range q.h
  let lim := match k with | 0 => 48 | 1 => 1 | 2 => 34 | 3 => 64 | 4 => 8192 | _ => 1024
  runCmd (actOp 0x413 .live (used 16 2)) q s
    { bad := [(q.u8 16 ≥ 2 || k ≥ 6, .badParam), (q.h ≥ lim || (k = 2 && s.absorbed q.h), .badParam)]
      owns := me = 0 || (k = 3 && me = q.h) || (k = 4 && (b.range me).hasRule q.h) || (k = 5 && (b.range me).hasProfile q.h)
      keys := [(.ruleset, 0)], changes := false, eff := s
      replyTiles := if k = 3 then 1 else if k = 4 then 4 else 2
      data := if k = 3 then dat 16 (BitVec.ofNat 16 r.ruleFirst) ||| dat 18 (BitVec.ofNat 16 r.ruleCount) |||
        dat 20 (BitVec.ofNat 16 r.profFirst) ||| dat 22 (BitVec.ofNat 16 r.profCount) else 0
      tiles := match k with
        | 0 => [(b.heddle q.h).toTile] | 1 => [b.keysel.setWidth 512] | 2 => [(b.port q.h).toTile]
        | 4 => ruleTiles (b.rule q.h) | 5 => [(b.profile q.h).toTile] | _ => [] }

/-- RULE_GET (R172). -/
def execRuleGet (q : Cmd) (s : State) : Out :=
  runCmd (getOp 0x414 .live) q s
    { bad := [(q.h ≥ 8192, .badParam)], owns := isSl0 s q || (s.curBank.range (s.requester q)).hasRule q.h
      keys := [(.ruleset, 0)], changes := false, replyTiles := 4, tiles := ruleTiles (s.curBank.rule q.h)
      data := dat 16 (Tab.get 0 s.rules.hits q.h)
      eff := if q.clear then { s with rules.hits := Tab.set 0 s.rules.hits q.h 0 } else s }

/-! ## Indirection tables and the Toeplitz secret -/

/-- IT_CONFIG (R177). -/
def execItConfig (q : Cmd) (s : State) : Out :=
  runCmd (actOp 0x420 .live (used 16 1)) q s
    { bad := [(q.h ≥ 64, .badParam), (q.u8 16 ≥ 64, .badParam)], owns := isSl0 s q, keys := [(.it, q.h)]
      eff := s.modIt q.h fun t => { t with owner := BitVec.ofNat 6 (q.u8 16) } }

/-- Entry `i` of a LOAD of 8-byte entries, seven to a tile (R607). -/
def cmdEntry8 (q : Cmd) (i : Nat) : Word := (q.tile (i / 7 + 1)).extractLsb' (64 * (i % 7)) 64

/-- FIRST and COUNT of IT_WRITE and IT_GET (R607). -/
def itRange (q : Cmd) : List (Bool × Status) :=
  [(q.h ≥ 64, .badParam), (q.u16 18 = 0 || q.u8 16 + q.u16 18 > 256, .badParam)]

/-- IT_WRITE: all entries take effect at one instant (R177). -/
def execItWrite (q : Cmd) (s : State) : Out :=
  let n := q.u16 18
  let f := q.u8 16
  runCmd { opcode := 0x421, modes := .live, minTiles := 2, maxTiles := 38, uses := used 16 1 ||| used 18 2 } q s
    { bad := (decide (n ≤ 256 ∧ q.cont.length ≠ (n + 6) / 7), .badLength) :: itRange q ++
        [((List.range n).any fun i => cmdEntry8 q i >>> 33 ≠ 0, .badParam),
         ((List.range (7 * q.cont.length)).any fun i => i ≥ n && cmdEntry8 q i ≠ 0, .badParam),
         (q.cont.any fun t => t.extractLsb' 448 32 ≠ 0, .badParam)]
      owns := s.requester q = (s.it q.h).owner.toNat, keys := [(.it, q.h)]
      eff := s.modIt q.h fun t => { t with entries := (List.range n).foldl (fun m i =>
        Tab.set {} m (f + i) (ItEntry.ofTile (cmdEntry8 q i))) t.entries } }

/-- Lay 8-byte entries into tiles, seven to a tile (R607). -/
def tiles8 (n : Nat) (f : Nat → Word) : List Tile :=
  (List.range ((n + 6) / 7)).map fun k => (List.range 7).foldl (fun t i =>
    if 7 * k + i < n then t ||| put 512 (64 * i) (f (7 * k + i)) else t) 0

/-- IT_GET (R607). -/
def execItGet (q : Cmd) (s : State) : Out :=
  let n := q.u16 18
  let t := s.it q.h
  runCmd (actOp 0x422 .live (used 16 1 ||| used 18 2)) q s
    { bad := itRange q, owns := isSl0 s q || s.requester q = t.owner.toNat, keys := [(.it, q.h)], changes := false
      eff := s, replyTiles := 1 + (n + 6) / 7
      tiles := tiles8 n fun i => (Tab.get {} t.entries (q.u8 16 + i)).toTile }

/-- HASH_KEY_SET (R181): effective at once. -/
def execHashKeySet (q : Cmd) (s : State) : Out :=
  let bs := bytesOf (q.tile 1) 60 ++ bytesOf (q.tile 2) 60 ++ bytesOf (q.tile 3) 12
  runCmd { opcode := 0x430, modes := .live, minTiles := 4, maxTiles := 4, tileRsv := put 512 96 (BitVec.allOnes 384) } q s
    { bad := [(q.h ≠ 0, .badParam)], owns := isSl0 s q, keys := [(.hashKey, 0)]
      eff := { s with rules.secret := beBits 1056 bs } }

/-- HASH_KEY_GET: the CRC-32C of the secret (R181). -/
def execHashKeyGet (q : Cmd) (s : State) : Out :=
  runCmd (getOp 0x431 .live) q s
    { bad := [(q.h ≠ 0, .badParam)], owns := isSl0 s q, keys := [(.hashKey, 0)], changes := false, eff := s
      data := dat 16 (crc32c (beBytes s.rules.secret 132)) }

/-! ## Scrubbing (R174) -/

/-- A rule or tile whose parity or CHECK was wrong is rewritten from the command processor's verified copy, which is what
the bank holds; both reports of R174 follow. -/
def State.rewriteTile (s : State) (kind idx : Nat) (payload : BitVec 288) (owner : Nat) : State :=
  let h := BitVec.ofNat 32 (kind * 2 ^ 24 + idx)
  (s.report 0x0201 h payload owner).report 0x0203 h payload owner

/-- The owner of an object of a bank, by the kinds of RULESET_READ; 6 is an indirection table. -/
def State.ruleObjOwner (s : State) (b : Bool) (kind idx : Nat) : Nat :=
  match kind with
  | 4 => ((s.bank b).ruleOwner idx).getD 0
  | 5 => ((s.bank b).profileOwner idx).getD 0
  | 6 => (s.it (idx / 256)).owner.toNat
  | _ => 0

/-- A rewritten rule is good again. -/
def State.mendRule (s : State) (b : Bool) (r : Nat) : State :=
  s.modBank b fun k => { k with badRules := k.badRules.filter (· ≠ r) }

/-- A rule found bad is rewritten and reported. -/
def State.rewriteRule (s : State) (b : Bool) (r : Nat) : State :=
  (s.mendRule b r).rewriteTile 4 r (put 288 0 (bit b)) (s.ruleObjOwner b 4 r)

/-- RULE_SCRUB: one pass over the rules of both banks; those of bad parity, `found` among them, are rewritten. -/
def execRuleScrub (found : List (Bool × Fin 8192)) (s : State) : Out :=
  let l := found.map fun (b, r) => (b, r.val)
  let rest := (s.rules.bank0.badRules.map fun r => (false, r)) ++ s.rules.bank1.badRules.map fun r => (true, r)
  ok s ((l ++ rest.filter fun x => !l.contains x).foldl (fun (s : State) x => s.rewriteRule x.1 x.2) s)

/-- RULESET_TILE_REWRITE: a rule, tile or indirection entry found bad at its use is rewritten before it is used. -/
def execRulesetTileRewrite (b : Bool) (kind : Fin 7) (idx : Fin 16384) (s : State) : Out :=
  ok s (if kind = 4 then s.rewriteRule b idx.val
    else s.rewriteTile kind.val idx.val (put 288 0 (bit b)) (s.ruleObjOwner b kind.val idx.val))

end Sys2Proof.Machine
end

