-- ==== Sys2Proof/Machine/Warp.lean ====
section
/-!
DEFINITION. Warp rings (R140 to R147): writing, release, overwrite, rewind, and the slots' states. A warp ring is
named by its port code and whether it is the express one.
-/
namespace Sys2Proof.Machine

/-- A context. -/
def State.ctx (s : State) (c : Nat) : Ctx := Tab.get {} s.task.ctxs c
/-- Change a context. -/
def State.modCtx (s : State) (c : Nat) (f : Ctx → Ctx) : State :=
  { s with task.ctxs := Tab.upd {} s.task.ctxs c f }

/-- One of a port's warp rings. -/
def WarpPair.ring (w : WarpPair) (x : Bool) : WarpRing := if x then w.exp else w.norm
/-- log2 of its depth (R140). -/
def WarpPair.log2 (w : WarpPair) (x : Bool) : Nat := if x then w.cfg.expDepthLog2.toNat else w.cfg.normDepthLog2.toNat
/-- Its physical slots: D + 4 (R123). -/
def WarpPair.n (w : WarpPair) (x : Bool) : Nat := 2 ^ w.log2 x + 4
/-- Change a warp ring. -/
def State.modWarpRing (s : State) (p : Nat) (x : Bool) (f : WarpRing → WarpRing) : State :=
  s.modWarp p fun w => if x then { w with exp := f w.exp } else { w with norm := f w.norm }
/-- A slot of a warp ring. -/
def State.warpSlot (s : State) (p : Nat) (x : Bool) (i : Nat) : WarpSlot := Tab.get {} ((s.warp p).ring x).slots i
/-- Change a slot. -/
def State.modSlot (s : State) (p : Nat) (x : Bool) (i : Nat) (f : WarpSlot → WarpSlot) : State :=
  s.modWarpRing p x fun r => { r with slots := Tab.upd {} r.slots i f }

/-- An IDLE descriptor: a consumer knows it by its TYPE, before it verifies CHECK (R19). -/
def idleDesc (d : BitVec 256) : Bool := d.extractLsb' 0 4 == 15

/-- The descriptor of a slot, when its CHECK is right (R21). -/
def goodDesc (d : BitVec 256) : Option Desc :=
  if d.extractLsb' 224 32 = crc32c (bytesOf d 28) then some (Desc.ofTile d) else none

/-- A bad descriptor is discarded: its buffer returned, counted and reported (R21). -/
def State.badDesc (s : State) (d : BitVec 256) : State :=
  ((s.dropFrame (Desc.ofTile d).buf).bump .descCheckErr 0).reportDev 0x0302 0 (d.setWidth 288)

/-- L moves over the IDLE slots at its head (R143). -/
def WarpRing.advance (n : Nat) : Nat → WarpRing → WarpRing
  | 0, r => r
  | fuel + 1, r =>
    if r.l < r.w ∧ (Tab.get {} r.slots (r.l % n)).state = .idle then
      WarpRing.advance n fuel { r with l := r.l + 1, p := max r.p (r.l + 1) }
    else r

/-- Advance L of a ring (R143). -/
def State.warpAdvance (s : State) (p : Nat) (x : Bool) : State :=
  let n := (s.warp p).n x
  s.modWarpRing p x fun r => WarpRing.advance n (r.w - r.l) r

/-- The context whose mark is a slot. -/
def State.ctxOfSlot (s : State) (p : Nat) (x : Bool) (i : Nat) : Option Nat :=
  (s.task.ctxs.find? fun (_, c) => c.markValid && c.port = p && c.slot = i && decide (c.desc.express = bit x)).map (·.1)

/-- MARK_VALID of every instance of a slot's packet cleared (R144). -/
def State.unmark (s : State) (p : Nat) (x : Bool) (i : Nat) : State :=
  { s with task.ctxs := s.task.ctxs.map fun (k, c) =>
      (k, if c.markValid && c.port = p && c.slot = i && decide (c.desc.express = bit x)
        then { c with markValid := false } else c) }

/-- The slot at L of a full ring is overwritten (R144): a packet not yet parsed is lost; another loses its mark. A packet
that has been parsed and not yet dispatched takes the slot's reference over, since its own comes only at dispatch
(R153). -/
def State.warpOverwrite (s : State) (p : Nat) (x : Bool) : State :=
  let r := (s.warp p).ring x
  let i := r.l % (s.warp p).n x
  let sl := s.warpSlot p x i
  let drop := s.dropFrame (Desc.ofTile sl.desc).buf
  let s2 :=
    if sl.state = .written ∧ !sl.parsing then drop
    else match s.ctxOfSlot p x i with
      | some c => if (s.ctx c).holdsRef then drop.unmark p x i
          else (s.modCtx c fun k => { k with holdsRef := true }).unmark p x i
      | none => drop
  let s3 := (s2.modSlot p x i fun _ => {}).modWarpRing p x fun r => { r with lost := satInc r.lost }
  s3.warpAdvance p x

/-- The oldest items of a ring are discarded until it holds at most `d` (R135, R144); `fuel` bounds the number. -/
def State.warpTrim (s : State) (p : Nat) (x : Bool) (d : Nat) : Nat → State
  | 0 => s
  | fuel + 1 =>
    if d < ((s.warp p).ring x).w - ((s.warp p).ring x).l then (s.warpOverwrite p x).warpTrim p x d fuel else s

/-- A descriptor enters a warp ring with its mark (R142); a ring under reset leaves it in the staging (R147). -/
def State.warpWrite (s : State) (p : Nat) (x : Bool) (d : BitVec 256) : State :=
  if ((s.warp p).ring x).resetting then s.modPort p fun t => { t with staging := t.staging ++ [⟨d⟩] }
  else
    let s1 := s.warpTrim p x (2 ^ (s.warp p).log2 x - 1) ((s.warp p).n x)
    let i := ((s1.warp p).ring x).w % (s1.warp p).n x
    let slotD := put 256 112 (BitVec.ofNat 16 i) ||| (d &&& ~~~ put 256 112 (BitVec.allOnes 16))
    let s2 := s1.modSlot p x i fun _ => { state := .written, desc := sealDesc slotD }
    s2.modWarpRing p x fun r =>
      { r with w := r.w + 1, high := if r.high.toNat < r.w + 1 - r.l then BitVec.ofNat 17 (r.w + 1 - r.l) else r.high }

/-- The Reed releases a slot: its reference drops and L advances (R143, R26). A release during a reset waits (R248). -/
def State.warpRelease (s : State) (p : Nat) (x : Bool) (i : Nat) : State :=
  if ((s.warp p).ring x).resetting then s.modSlot p x i fun t => { t with released := true }
  else
    let s1 := s.dropFrame (Desc.ofTile (s.warpSlot p x i).desc).buf
    (s1.modSlot p x i fun _ => {}).warpAdvance p x

/-- Release the slot of a context whose mark still holds. -/
def State.releaseCtx (s : State) (c : Nat) : State :=
  let k := s.ctx c
  if k.markValid then
    (s.unmark k.port (k.desc.express = 1) k.slot).warpRelease k.port (k.desc.express = 1) k.slot
  else s

/-- Dispatch writes the completed descriptor back into the slot, which becomes HELD (R142), unless the mark is lost. -/
def State.warpHold (s : State) (c : Nat) : State :=
  let k := s.ctx c
  if k.markValid then
    s.modSlot k.port (k.desc.express = 1) k.slot fun t => { t with state := .held, desc := k.desc.toTile, parsing := false, split := false }
  else s

/-- A rewind of a context's packet (R145): its descriptor, or `none` when the mark is lost or the CHECK is wrong. -/
def State.warpRewind (s : State) (c : Nat) : State × Option Desc :=
  let k := s.ctx c
  let x : Bool := k.desc.express = 1
  let lose (s : State) := s.modWarpRing k.port x fun r => { r with markLosts := satInc r.markLosts }
  if !k.markValid then (lose s, none)
  else
    let d := (s.warpSlot k.port x k.slot).desc
    if idleDesc d then (lose s, none)
    else match goodDesc d with
    | some e => (s, some e)
    | none => (lose ((s.bump .descCheckErr 0).reportDev 0x0302 0 (d.setWidth 288)), none)

end Sys2Proof.Machine
end

