-- ==== Sys2Proof/Machine/Intake.lean ====
section
/-!
DEFINITION. Intake: packet contexts (R192, R195), ready lists (R198), sequence numbers (R233), the parse of a descriptor
with classification and spreading (R160, R168 to R173, R180), default actions (R169), denied groups (R197) and
hand-backs (R211).
-/
namespace Sys2Proof.Machine

/-! ## Contexts -/

/-- Contexts of R192. -/
def ctxCount : Nat := 8192
/-- Free contexts. -/
def State.freeCtxs (s : State) : Nat := ctxCount - (s.task.ctxs.filter fun (_, c) => c.state ≠ .free).length
/-- Contexts held by express packets. -/
def State.expHeld (s : State) : Nat := (s.task.ctxs.filter fun (_, c) => c.state ≠ .free && c.desc.express = 1).length
/-- A context can be taken (R195): any free one by an express packet; by another while EXP_RESERVE stays. -/
def State.canTake (s : State) (express : Bool) : Bool :=
  let n := s.freeCtxs
  0 < n && (express || decide (s.task.cfg.expReserve.toNat - s.expHeld ≤ n - 1))
/-- The context that is taken: the lowest free one (the spec names none). -/
def State.nextCtx (s : State) : Nat := Tab.leastFree (fun _ (c : Ctx) => decide (c.state ≠ .free)) s.task.ctxs 0

/-- A thread group. -/
def State.group (s : State) (g : Nat) : TgCfg := Tab.get {} s.task.groups g
/-- A background task. -/
def State.bg (s : State) (n : Nat) : BgTask := Tab.get {} s.task.tasks n
/-- Change a background task. -/
def State.modBg (s : State) (n : Nat) (f : BgTask → BgTask) : State :=
  { s with task.tasks := Tab.upd {} s.task.tasks n f }

/-! ## Ready lists (R198) -/

/-- The ready list of a group: priorities 0 to 7, 8 the express list. -/
def listKey (g pr : Nat) : Nat := g * 9 + pr
/-- Where a context waits. -/
def Ctx.list (k : Ctx) : Nat := listKey k.desc.tg.toNat (if k.desc.express = 1 then 8 else k.desc.tc.toNat)
/-- Put an item on a ready list: at its head for a replay, a hand-back or a restart, else at its end. -/
def State.pushReady (s : State) (l : Nat) (task : Bool) (idx : Nat) (front : Bool) : State :=
  let it : ReadyItem := { task := task, idx := idx, order := s.task.order }
  { s with task.lists := Tab.upd [] s.task.lists l fun is => if front then it :: is else is ++ [it]
           task.order := s.task.order + 1 }
/-- Take an item off every ready list. -/
def State.unready (s : State) (task : Bool) (idx : Nat) : State :=
  { s with task.lists := s.task.lists.foldl (fun m (l, is) =>
      Tab.set [] m l (is.filter fun i => !(i.task == task && i.idx == idx))) [] }

/-! ## Numbers and records (R233, R234) -/

/-- A domain assigns its next number to a context, whose record opens. -/
def State.openRec (s : State) (od c : Nat) : State :=
  let n := (s.dom od).st.nextSeq
  let s1 := s.modDom od fun d =>
    { d with st.nextSeq := n + 1, recs := d.recs ++ [c], headSince := if d.recs.isEmpty then s.now else d.headSince }
  s1.modCtx c fun k => { k with desc.seq := n, desc.od := BitVec.ofNat 12 od, recCtx := c, record := { st := .opened } }

/-- A context of an ended packet, before its own end record. -/
def Ctx.endRec (k : Ctx) (c : Nat) (action : Nat) (queue : BitVec 13) (qvalid : BitVec 1) (ring : Option Nat) : EndRec :=
  { head := none, action := BitVec.ofNat 4 action, queue := queue, qvalid := qvalid, destDev := k.desc.destDev
    outPort := k.desc.outPort, tc := k.desc.tc, length := k.desc.length, recd := { hostRing := ring }, winner := c }

/-- A context becomes free; its EPOCH goes on (R208). -/
def State.freeCtx (s : State) (c : Nat) : State := s.modCtx c fun k => { epoch := k.epoch }

/-- The instances of a packet, by the context of its record. -/
def State.packetOf (s : State) (r : Nat) : List Nat :=
  (s.task.ctxs.filter fun (_, k) => k.state ≠ .free && k.recCtx = r).map (·.1)

/-- The contexts of a packet become free when its record is DONE, HEAD_SEQ has passed it and no instance is live
(R234); only then has the packet no instance left (R185). -/
def State.tryFree (s : State) (r : Nat) : State :=
  let k := s.ctx r
  if k.record.st = .done ∧ !(s.dom k.desc.od.toNat).recs.contains r ∧ !(s.packetOf r).any (fun c => (s.ctx c).live) then
    ((s.packetOf r).foldl State.freeCtx s).legGone k.pkt
  else s

/-- An instance's reference drops (R153). -/
def State.dropInstance (s : State) (c : Nat) : State :=
  let k := s.ctx c
  if k.holdsRef then (s.dropFrame k.desc.buf).modCtx c fun k => { k with holdsRef := false } else s

/-- An instance takes its reference (R153); where a count stands at 255 it takes none (R155, log entry 91). -/
def State.takeRef (s : State) (c : Nat) : State :=
  let k := s.ctx c
  if k.holdsRef then s
  else
    let s1 := s.holdFrame k.desc.buf
    if s.canHold k.desc.buf then s1.modCtx c fun k => { k with holdsRef := true } else s1

/-- What an instance recorded goes with it: allocated handles (R319), and origin frames that are not committed (R240). -/
def State.dropRecorded (s : State) (d : Recorded) (origins : Bool) : State :=
  let s1 := d.handles.foldl (fun (s : State) h => s.dropRef (recOf h)) s
  if origins then d.origins.foldl (fun (s : State) o => s.dropFrame o.desc.buf) s1 else s1

/-- The Reed takes an end while the record is OPEN: it becomes READY with the ending instance as its winner. Another
end is discarded (R235, R54, R243). -/
def State.acceptEnd (s : State) (c : Nat) (e : EndRec) : State :=
  let k := s.ctx c
  let r := s.ctx k.recCtx
  let s1 := s.modCtx c fun k => { k with state := .ended, live := false }
  if r.record.st = .opened then
    s1.modCtx k.recCtx fun k => { k with record := { k.record with st := .ready, endRec := some e } }
  else
    (((s1.dropInstance c).dropRecorded e.recd true).modDom r.desc.od.toNat fun d =>
      { d with st.reedDup := satInc d.st.reedDup
               st.reedLate := if r.record.skipped then satInc d.st.reedLate else d.st.reedLate }).tryFree k.recCtx

/-- A context ends at intake (R196, R197), or because its ENTRY does not resolve (R266): an empty head window. -/
def State.endIntake (s : State) (c action : Nat) (queue : BitVec 13) (qvalid : BitVec 1) (ring : Option Nat) : State :=
  (s.takeRef c).acceptEnd c ((s.ctx c).endRec c action queue qvalid ring)

/-! ## Default actions and profiles -/

/-- A packet leaves at intake without a number: slot released, bank count lowered (R169, R185). -/
def State.dropIntake (s : State) (c : Nat) : State :=
  let k := s.ctx c
  ((s.releaseCtx c).legGone k.pkt).freeCtx c

/-- A context goes to its ready list, or is ended as DROP where its group denies it (R197). -/
def State.place (s : State) (c : Nat) : State :=
  let k := s.ctx c
  let g := s.group k.desc.tg.toNat
  if g.enable = 0 ∨ g.owner.toNat ≠ k.slice then (s.bump .tgDeny k.desc.tg.toNat).endIntake c 2 0 0 none
  else (s.modCtx c fun k => { k with state := .ready, live := true }).pushReady k.list false c false

/-- A profile is applied to a context (R173, R180); `none` when its spreading fails (R184). -/
def State.applyProfile (s : State) (c : Nat) (p : Profile) : Option State :=
  let k := s.ctx c
  let tc := if p.tcEn = 1 then p.tcSet else k.desc.tc
  match s.spread p k.key tc.toNat with
  | none => none
  | some x =>
    let s1 := s.modCtx c fun k =>
      { k with
        desc := { k.desc with tc := tc, tg := x.tg, flowHash := x.flowHash
                              queue := if x.qvalid = 1 then x.queue else k.desc.queue, qvalid := x.qvalid }
        slice := p.owner.toNat, entry := p.entry, byProgram := true, fpath := x.fpath }
    some ((s1.openRec x.od.toNat c).place c)

/-- Copy of a mirrored frame (R169): only while its policer lets it. -/
def State.mirror (s : State) (c : Nat) (pe : ParsePort) : State :=
  let d := (s.ctx c).desc
  let n := pe.mirrorPl.toNat
  if (s.policer n).cfg.enable = 0 then s.bump .mirrorPoliced d.inPort.toNat
  else
    match s.meter n d.length.toNat with
    | (s1, 0) => s1.hostDeliver pe.mirrorRing.toNat d.buf d.inPort.toNat (d.express = 1)
        (s1.frameOf d.buf d.length.toNat) none
    | (s1, _) => s1.bump .mirrorPoliced d.inPort.toNat

/-- The default actions but for PROFILE, in domain DEF_OD_BASE + TC (R169): 0 DROP, 1 TO_HOST, 2 FORWARD, 4
MIRROR_DROP. -/
def State.defaultPlain (s : State) (c act : Nat) (pe : ParsePort) : State :=
  let d := (s.ctx c).desc
  let p := d.inPort.toNat
  let od := pe.defOdBase.toNat + d.tc.toNat
  if !s.serves od d.tc.toNat then (s.bump .defOdOff p).dropIntake c
  else
    let s1 := (s.modCtx c fun k => { k with desc.tg := 0, desc.ruleHit := 0 }).openRec od c
    match act with
    | 1 => (s1.bump .defToHost p).endIntake c 3 0 0 (some pe.defHostRing.toNat)
    | 2 => (s1.bump .defForward p).endIntake c 1 pe.defQueue 1 none
    | 4 => ((s1.bump .defMirror p).mirror c pe).endIntake c 2 0 0 none
    | _ => (s1.bump .defDrop p).endIntake c 2 0 0 none

/-- The port's default action (R169); `spreadErr` says that SPREAD_ERR has already counted this packet. -/
def State.defaultAct (s : State) (c : Nat) (b : RuleBank) (spreadErr : Bool) : State :=
  let p := (s.ctx c).desc.inPort.toNat
  let pe := b.port p
  if pe.defAction = 3 then
    match s.applyProfile c (b.profile pe.defProfile.toNat) with
    | some s1 => s1.bump .defProfile p
    | none => (if spreadErr then s else s.bump .spreadErr p).defaultPlain c 0 pe
  else s.defaultPlain c pe.defAction.toNat pe

/-- Classification of a parsed packet (R168, R172). -/
def State.classifyCtx (s : State) (c : Nat) (bk : Bool) : State :=
  let b := s.bank bk
  let k := s.ctx c
  let p := k.desc.inPort.toNat
  if k.desc.pstat = 2 then (s.bump .parseNomatch p).defaultAct c b false
  else if k.desc.pstat = 3 then (s.bump .parseErr p).defaultAct c b false
  else
    let s1 := if k.desc.pstat = 1 then s.bump .parseDepthStop p else s
    match b.classify k.key with
    | none => (s1.bump .classMiss p).defaultAct c b false
    | some r =>
      let u := b.rule r
      let s2 := if u.countEn = 1 then { s1 with rules.hits := Tab.upd 0 s1.rules.hits r satInc } else s1
      let s3 := s2.modCtx c fun k =>
        { k with desc.rule := BitVec.ofNat 14 (r + (if bk then 8192 else 0)), desc.ruleHit := 1 }
      match s3.applyProfile c (b.profile u.profile.toNat) with
      | some s4 => s4
      | none => ((s2.bump .spreadErr p).defaultAct c b true)

/-- The key of a descriptor's frame on a bank (R160, R165), with its PSTAT. -/
def State.keyOf (s : State) (bk : Bool) (d : Desc) : BitVec 1024 × Nat :=
  let p := d.inPort.toNat
  parseKey (s.bank bk).heddle ((s.bank bk).port p) p (s.port p).cfg.tpidB.toNat d.tc.toNat (d.express = 1) d.rsver
    (s.frameOf d.buf d.length.toNat)

/-- The parser meets a bad cell record in the frame of a slot (R156): the frame is dropped and counted in DEF_DROP of its port
(DESIGN CHOICE, log entry 91). -/
def State.badFrame (s : State) (p : Nat) (x : Bool) (i : Nat) (d : Desc) : State :=
  ((((s.foundBad d.buf).dropFrame d.buf).bump .defDrop d.inPort.toNat).modSlot p x i fun _ => {}).warpAdvance p x

/-- A parse of the slot at P of a warp ring (R160): from descriptor to ready list. An IDLE descriptor names no packet
(R19). -/
def State.parseSlot (s : State) (p : Nat) (x : Bool) : State :=
  let i := ((s.warp p).ring x).p % (s.warp p).n x
  let sl := s.warpSlot p x i
  let s0 := s.modWarpRing p x fun r => { r with p := r.p + 1 }
  if idleDesc sl.desc then (s0.modSlot p x i fun _ => {}).warpAdvance p x
  else match goodDesc sl.desc with
  | none => ((s0.badDesc sl.desc).modSlot p x i fun _ => {}).warpAdvance p x
  | some d0 =>
    if (s.frameBad d0.buf).isSome then s0.badFrame p x i d0
    else
    let bk := s.rules.cur
    let c := s.nextCtx
    let n := (s.rules.packets + 1) * 256 + (s.bank bk).version.toNat
    let s1 := (({ s0 with rules.packets := s.rules.packets + 1 }.legAdd (some n)).modBank bk fun b =>
      { b with inflight := b.inflight + 1 }).modSlot p x i fun t => { t with parsing := true }
    let d := { d0 with rsver := (s.bank bk).version, warpSlot := BitVec.ofNat 16 i }
    let (key, pstat) := s1.keyOf bk d
    let s2 := s1.modCtx c fun k =>
      { epoch := k.epoch, state := .intake, desc := { d with pstat := BitVec.ofNat 2 pstat }, port := p, slot := i
        markValid := true, key := key, recCtx := c, pkt := some n }
    s2.classifyCtx c bk

/-! ## Hand-backs (R211) -/

/-- A hand-back takes a context and goes to the head of its list: a second instance of its packet, with the reference it
was given. -/
def State.placeHandback (s : State) (h : Handback) : State :=
  let c := s.nextCtx
  let r := s.ctx h.recCtx
  let d := (goodDesc (s.warpSlot h.port h.express h.slot).desc).getD r.desc
  let s1 := s.modCtx c fun k =>
    { r with
      epoch := k.epoch, state := .ready, desc := d, handback := true, recCtx := h.recCtx, record := {}, live := true
      holdsRef := true, origin := none, blocked := none }
  ((s1.pushReady (s1.ctx c).list false c true).bump .handedBack d.tg.toNat)

/-- A hand-back whose packet's record is DONE is withdrawn with its reference. -/
def State.withdraw (s : State) (h : Handback) : State :=
  { s with task.handbacks := s.task.handbacks.erase h }.dropFrame (s.ctx h.recCtx).desc.buf

/-! ## PARSE_START -/

/-- A ring whose next descriptor can be taken. -/
def State.parseable (s : State) (p : Nat) (x : Bool) : Bool :=
  let r := (s.warp p).ring x
  !r.resetting && decide (r.p < r.w) && decide ((s.warpSlot p x (r.p % (s.warp p).n x)).state = .written)

/-- Port codes in round-robin order behind one (R160). -/
def portsAfter (last : Nat) : List Nat := (List.range 34).map fun i => (last + 1 + i) % 34

/-- PARSE_START: the parser takes its next work (R160, R195, R211): a hand-back that waits for a context, else a
descriptor of an express ring, else one of a normal ring. -/
def execParseStart (s : State) : Out :=
  ok s (if !s.sys.mode.live then s
    else match s.task.handbacks.find? fun h => s.canTake h.express with
    | some h => { s with task.handbacks := s.task.handbacks.erase h }.placeHandback h
    | none =>
      let exp := if s.canTake true then (portsAfter s.rules.lastExp).find? fun p => s.parseable p true else none
      match exp with
      | some p => { s with rules.lastExp := p }.parseSlot p true
      | none =>
        match if s.canTake false then (portsAfter s.rules.lastNorm).find? fun p => s.parseable p false else none with
        | some p => { s with rules.lastNorm := p }.parseSlot p false
        | none => s)

end Sys2Proof.Machine
end

