-- ==== Sys2Proof/Machine/Locks.lean ====
section
/-!
DEFINITION. The lock unit (R343 to R364) and the channels (R365 to R374): what their helpers do, what the end of a task
does to them, and their commands.
-/
namespace Sys2Proof.Machine

/-! ## Locks -/

/-- A lock. -/
def State.lk (s : State) (n : Nat) : Lock := Tab.get {} s.lock.locks n
/-- Change a lock. -/
def State.modLk (s : State) (n : Nat) (f : Lock → Lock) : State :=
  { s with lock.locks := Tab.upd {} s.lock.locks n f }

/-- The priority of R351. -/
def Inst.lockPrio (i : Inst) : Nat := if i.express then 8 else i.prio
/-- The master identity of an instance on its thread (R343), with its priority. -/
def Inst.holder (i : Inst) (c t : Nat) : LockHolder := ⟨c, t, i.slice, i.lockPrio⟩
/-- One identity: slice, core and thread. -/
def LockHolder.same (a b : LockHolder) : Bool := a.core == b.core && a.thread == b.thread && a.slice == b.slice
/-- A thread of the device. -/
def LockHolder.on (a : LockHolder) (c t : Nat) : Bool := a.core == c && a.thread == t
/-- HOLDER of R348. -/
def LockHolder.word (a : LockHolder) : Word32 :=
  put 32 0 (BitVec.ofNat 7 a.core) ||| put 32 8 (BitVec.ofNat 3 a.thread) ||| put 32 16 (BitVec.ofNat 6 a.slice) |||
    put 32 24 (BitVec.ofNat 4 a.prio)

/-- Highest waiter priority; 0 with no waiter. -/
def Lock.top (k : Lock) : Nat := k.queue.foldl (fun m w => max m w.who.prio) 0
/-- The waiter to which the lock goes next (R351): highest priority, then first joined. -/
def Lock.nextWaiter (k : Lock) : Option LockWaiter := k.queue.find? fun w => w.who.prio = k.top
/-- A thread's identity waits in the queue. -/
def Lock.waits (k : Lock) (h : LockHolder) : Bool := k.queue.any fun w => w.who.same h
/-- A thread's identity holds the lock. -/
def Lock.heldBy (k : Lock) (h : LockHolder) : Bool := k.holder.any fun x => x.same h

/-- A lease starts at the present LEASE_US (R356). -/
def Lock.lease (k : Lock) (now : Nat) : Lock := { k with leaseEnd := now + k.cfg.leaseUs.toNat * 1000 }
/-- A grant: the lease starts, and the thread's expired-holder record is cleared (R356). -/
def Lock.grant (k : Lock) (h : LockHolder) (kind : BitVec 1) (now : Nat) : Lock :=
  { k.lease now with
    holder := some h, st.grantKind := kind, st.abandonPend := 0, st.acquires := satInc k.st.acquires
    expired := if k.expired.any (fun x => x.same h) then none else k.expired }

/-- A lock passes to its next waiter, whose line is raised as its slice (R350), or becomes FREE (R352, R359). -/
def State.passLock (s : State) (n : Nat) (abandoned : Bool) : State :=
  match (s.lk n).nextWaiter with
  | some w =>
    ((s.modLk n fun k => { k.grant w.who (bit abandoned) s.now with queue := k.queue.erase w }).raiseLine
      w.who.slice w.who.core w.who.thread w.line).1
  | none => s.modLk n fun k =>
    { k with holder := none, leaseEnd := 0, st.grantKind := 0, st.abandonPend := bit abandoned }

/-- An abandonment (R358). -/
def State.abandon (s : State) (n : Nat) : State :=
  (s.modLk n fun k => { k with st.abandons := satInc k.st.abandons }).passLock n true

/-- ACQUIRE (R349): 0x40 QUEUED, 0x41 ABANDONED, 0x44 WAIT_LIMIT, 0x46 LOCK_BUSY. -/
def lockAcquire (s : State) (h : LockHolder) (n : Nat) (try' : Bool) (line : Nat) : State × Nat :=
  let k := s.lk n
  if k.heldBy h then (s, if k.st.grantKind = 1 then 0x41 else 0x00)
  else if k.holder.isNone then
    (s.modLk n fun k => k.grant h k.st.abandonPend s.now, if k.st.abandonPend = 1 then 0x41 else 0x00)
  else if k.waits h then (s, 0x40)
  else if try' then (s, 0x46)
  else if s.lock.locks.any (fun (_, x) => x.waits h) then (s, 0x44)
  else (s.modLk n fun k =>
    { k with queue := k.queue ++ [⟨h, line⟩], st.contended := satInc k.st.contended }, 0x40)

/-- The status of a RELEASE or RENEW that the holder did not send: 0x43 LEASE_LOST, 0x42 NOT_HELD (R352). -/
def lockNotHeld (s : State) (h : LockHolder) (n : Nat) : State × Nat :=
  (s.modLk n fun k => { k with st.notHeldErr := satInc k.st.notHeldErr },
    if (s.lk n).expired.any (fun x => x.same h) then 0x43 else 0x42)

/-- RELEASE (R352). -/
def lockRelease (s : State) (h : LockHolder) (n : Nat) : State × Nat :=
  if (s.lk n).heldBy h then (s.passLock n false, 0x00) else lockNotHeld s h n

/-- RENEW (R353). -/
def lockRenew (s : State) (h : LockHolder) (n : Nat) : State × Nat :=
  if (s.lk n).heldBy h then (s.modLk n fun k => k.lease s.now, 0x00) else lockNotHeld s h n

/-- CANCEL (R353): 0x45 NOT_WAITING. -/
def lockCancel (s : State) (h : LockHolder) (n : Nat) : State × Nat :=
  if (s.lk n).waits h then (s.modLk n fun k => { k with queue := k.queue.filter fun w => !w.who.same h }, 0x00)
  else (s, 0x45)

/-- Nanoseconds left on a lease; 0 when FREE. -/
def Lock.left (k : Lock) (now : Nat) : Word32 := if k.holder.isSome then satNat 32 (k.leaseEnd - now) else 0

/-- QUERY (R353): the result bytes 16 to 27 of R348. -/
def lockQuery (s : State) (n : Nat) : List Byte :=
  let k := s.lk n
  [if k.holder.isSome then 1 else 0, (if k.holder.isSome then k.st.grantKind else k.st.abandonPend).setWidth 8]
    ++ bytesOf (BitVec.ofNat 16 k.queue.length) 2
    ++ bytesOf ((k.holder.map LockHolder.word).getD 0xFFFFFFFF) 4 ++ bytesOf (k.left s.now) 4

/-- The highest priority that the holders on a core inherit (R224, R355); 0 when none does. -/
def State.inherited (s : State) (c : Nat) : Nat :=
  s.lock.locks.foldl (fun m (_, k) =>
    match k.holder with
    | some h => if h.core = c ∧ h.prio < k.top then max m k.top else m
    | none => m) 0

/-! ## A thread leaves (R207, R358, R371) -/

/-- The thread's entry leaves a lock's queue, its expired-holder record is cleared, and a lock it holds passes on. -/
def State.leaveLock (s : State) (c t n : Nat) : State :=
  let s1 := s.modLk n fun k =>
    { k with queue := k.queue.filter fun w => !w.who.on c t
             expired := if k.expired.any (fun x => x.on c t) then none else k.expired }
  if (s.lk n).holder.any (fun x => x.on c t) then s1.abandon n else s1

/-- A thread's task holds a lock. -/
def State.holdsLock (s : State) (c t : Nat) : Bool := s.lock.locks.any fun (_, k) => k.holder.any fun x => x.on c t

/-! ## Channels -/

/-- A channel's binding and counters. -/
def State.chan (s : State) (r : Nat) : Chan := Tab.get {} s.lock.chans r
/-- Change a channel. -/
def State.modChan (s : State) (r : Nat) (f : Chan → Chan) : State :=
  { s with lock.chans := Tab.upd {} s.lock.chans r f }
/-- A thread's staging area (R367). -/
def State.stage (s : State) (c t : Nat) : Stage := Tab.get {} s.lock.stages (c * 8 + t)
/-- Set it. -/
def State.setStage (s : State) (c t : Nat) (x : Stage) : State :=
  { s with lock.stages := Tab.set {} s.lock.stages (c * 8 + t) x }

/-- The bound producer or consumer. -/
def ChanCfg.bound (k : ChanCfg) (prod : Bool) (c t : Nat) : Bool :=
  if prod then k.prodCore.toNat = c && k.prodThread.toNat = t else k.consCore.toNat = c && k.consThread.toNat = t

/-- Staged items are discarded and counted on their channel. -/
def State.dropStage (s : State) (c t : Nat) : State :=
  let g := s.stage c t
  if g.items.isEmpty then s
  else (s.modChan g.chan fun k => { k with stageLost := satAdd k.stageLost g.items.length }).setStage c t {}

/-- CH_STAGE (R368): 0x48 STAGE_FULL, 0x49 NOT_BOUND, 0x4A STAGE_BUSY. -/
def chStage (s : State) (c t r : Nat) (x : BitVec 512) : State × Nat :=
  let k := s.chan r
  let g := s.stage c t
  if !k.cfg.bound true c t then (s, 0x49)
  else if !g.items.isEmpty ∧ g.chan ≠ r then (s, 0x4A)
  else if g.items.length ≥ k.cfg.msgMax.toNat then (s, 0x48)
  else (s.setStage c t ⟨r, g.items ++ [x]⟩, 0x00)

/-- CH_ABORT (R368): 0x4B NOTHING_STAGED. -/
def chAbort (s : State) (c t r : Nat) : State × Nat :=
  let g := s.stage c t
  if !(s.chan r).cfg.bound true c t then (s, 0x49)
  else if g.items.isEmpty then (s, 0x4B)
  else if g.chan ≠ r then (s, 0x4A)
  else (s.dropStage c t, 0x00)

/-- The oldest whole messages leave until `k` items fit (R369): messages kept, messages and items lost. -/
def makeFit (depth k : Nat) : List Nat → Nat → List Nat × Nat × Nat
  | [], _ => ([], 0, 0)
  | m :: r, occ =>
    if occ + k ≤ depth then (m :: r, 0, 0)
    else
      let (x, a, b) := makeFit depth k r (occ - m)
      (x, a + 1, b + m)

/-- CH_COMMIT (R369). -/
def chCommit (s : State) (c t r : Nat) : State × Nat :=
  let g := s.stage c t
  let ring := s.ring r
  if !(s.chan r).cfg.bound true c t then (s, 0x49)
  else if ring.resetting then (s, 0x07)
  else if g.items.isEmpty then (s, 0x4B)
  else if g.chan ≠ r then (s, 0x4A)
  else
    let k := g.items.length
    let (msgs, ml, il) := makeFit ring.depth k (s.chan r).msgs ring.items.length
    let items := ring.items.drop il ++ g.items
    let s0 := (List.range k).foldl (fun (s : State) i => s.ringStoreItem { ring with w := ring.w + i } (g.items.getD i 0)) s
    let s1 := s0.modRing r fun x =>
      { x with items := items, w := x.w + k, lost := satAdd x.lost il
               high := if x.high.toNat < items.length then BitVec.ofNat 17 items.length else x.high }
    let s2 := (s1.modChan r fun x =>
      { x with msgs := msgs ++ [k], commits := satInc x.commits, msgLost := satAdd x.msgLost ml }).setStage c t {}
    (if ring.items.isEmpty ∧ ring.cfg.neEvEn = 1 then
        (s2.raiseLine ring.cfg.owner.toNat ring.cfg.neCore.toNat ring.cfg.neThread.toNat ring.cfg.neLine.toNat).1
      else s2, if ml = 0 then 0x00 else 0x02)

/-- The items of the oldest `m` slots as the ring's store holds them, oldest first. -/
def State.ringReadMany (s : State) (ring : GenRing) (m : Nat) : State × List (BitVec 512) :=
  (List.range m).foldl (fun (a : State × List (BitVec 512)) i =>
    let x := a.1.ringReadItem { ring with popped := ring.popped + i } (ring.items.getD i 0)
    (x.1, a.2 ++ [x.2])) (s, [])

/-- CH_POP (R370): the items of the oldest message, oldest first. -/
def chPop (s : State) (c t r : Nat) : State × Nat × List (BitVec 512) :=
  let k := s.chan r
  let ring := s.ring r
  if !k.cfg.bound false c t then (s, 0x49, [])
  else if ring.resetting then (s, 0x07, [])
  else match k.msgs with
    | [] => (s, 0x01, [])
    | m :: rest =>
      let y := s.ringReadMany ring m
      ((y.1.modRing r fun x => { x with items := x.items.drop m }).modChan r fun x => { x with msgs := rest }, 0x00, y.2)

/-! ## The end, the kill or the stop of a task -/

/-- What a thread's task held goes: its locks and queue entries (R358), its staged items (R371), its coprocessors
(R331). -/
def State.leaveThread (s : State) (c t : Nat) : State :=
  let s1 := (s.lock.locks.map (·.1)).foldl (fun (s : State) n => s.leaveLock c t n) s
  (s1.dropStage c t).modCore c fun k => k.cpDrop t

/-- A task has ended or has been killed (R207): END_WITH_LOCK of its group counts a task that still held a lock. -/
def State.taskLeaves (s : State) (c t g : Nat) : State :=
  (if s.holdsLock c t then s.bump .endWithLock g else s).leaveThread c t

/-- The device enters HOLD or SAFE (R360). -/
def State.freeLocks (s : State) : State :=
  { s with lock.locks := (s.lock.locks.map (·.1)).foldl (fun (m : Tab Lock) n => Tab.upd {} m n fun k =>
      { k with queue := [], holder := none, leaseEnd := 0, st.grantKind := 0
               st.abandonPend := if k.holder.isSome then 1 else k.st.abandonPend }) s.lock.locks }

/-- LEASE_EXPIRY (R356): the lease of a lock that is held has run out. -/
def execLeaseExpiry (n : Fin 4096) (s : State) : Out :=
  ok s (match (s.lk n).holder with
    | none => s
    | some h =>
      let k := s.lk n
      if s.now < k.leaseEnd then s
      else
        let s1 := (s.modLk n fun k => { k with expired := some h, st.expiries := satInc k.st.expiries }).abandon n
        if k.cfg.expEvEn = 1 then s1.notice k.cfg.owner.toNat 0x0004 n (h.word.setWidth 64) else s1)

/-! ## Commands -/

/-- LOCK_CONFIG (R345). -/
def execLockConfig (q : Cmd) (s : State) : Out :=
  let c := LockCfg.ofTile (q.tile 1)
  let k := s.lk q.h
  runCmd (setOp 0xA01 .live LockCfg.rsv) q s
    { bad := [(q.h ≥ 4096, .badParam), (c.leaseUs = 0, .badParam)]
      owns := ownerSet (s.requester q) k.cfg.owner.toNat c.owner.toNat ({ c with owner := k.cfg.owner } = k.cfg)
      keys := [(.lock, q.h)]
      own := [(decide (c.enable ≠ k.cfg.enable ∨ c.owner ≠ k.cfg.owner) && (k.holder.isSome || !k.queue.isEmpty), .busy)]
      eff := s.modLk q.h fun k => { k with cfg := c } }

/-- The status of R364. -/
def Lock.status (k : Lock) (now : Nat) : LockSt :=
  let h := k.holder.getD ⟨0, 0, 0, 0⟩
  { k.st with
    lstate := bit k.holder.isSome, holderCore := BitVec.ofNat 7 h.core, holderThread := BitVec.ofNat 3 h.thread
    holderSlice := BitVec.ofNat 6 h.slice, holderPrio := BitVec.ofNat 4 h.prio
    waiters := BitVec.ofNat 10 k.queue.length, topPrio := BitVec.ofNat 4 k.top, leaseLeftNs := k.left now }

/-- LOCK_GET (R364). -/
def execLockGet (q : Cmd) (s : State) : Out :=
  let k := s.lk q.h
  runCmd (getOp 0xA02 .live) q s
    { bad := [(q.h ≥ 4096, .badParam)], owns := clearOk s q k.cfg.owner.toNat, keys := [(.lock, q.h)], changes := false
      replyTiles := 3, tiles := [k.cfg.toTile, (k.status s.now).toTile]
      eff := if q.clear then s.modLk q.h fun k =>
          { k with st := { abandonPend := k.st.abandonPend, grantKind := k.st.grantKind } } else s }

/-- LOCK_BREAK (R361): OK without effect on a FREE lock. -/
def execLockBreak (q : Cmd) (s : State) : Out :=
  let k := s.lk q.h
  runCmd (actOp 0xA03 .live 0) q s
    { bad := [(q.h ≥ 4096, .badParam)], owns := s.requester q = k.cfg.owner.toNat, keys := [(.lock, q.h)]
      changes := k.holder.isSome, eff := if k.holder.isSome then s.abandon q.h else s }

/-- LOCK_UNIT_CONFIG (R346). -/
def execLockUnitConfig (q : Cmd) (s : State) : Out :=
  let b : BitVec 1 := (q.tile 1).extractLsb' 0 1
  runCmd (setOp 0xA10 .live (~~~ put 512 0 (1 : BitVec 1))) q s
    { bad := [(q.h ≠ 0, .badParam)], owns := isSl0 s q, keys := [(.lockUnit, 0)]
      own := [(b = 1 && decide (s.sys.mode ≠ .commission), .wrongMode)], eff := { s with lock.freeze := b } }

/-- LOCK_UNIT_GET (R346, R613). -/
def execLockUnitGet (q : Cmd) (s : State) : Out :=
  runCmd (getOp 0xA11 .live) q s
    { bad := [(q.h ≠ 0, .badParam)], owns := clearOk s q 0, keys := [(.lockUnit, 0)], changes := false, eff := s
      replyTiles := 2, tiles := [sealTile (put 512 0 s.lock.freeze)] }

/-- CHAN_CONFIG (R365, R366): the ring is one of KIND CHANNEL. -/
def execChanConfig (q : Cmd) (s : State) : Out :=
  let c := ChanCfg.ofTile (q.tile 1)
  let g := s.ring q.h
  runCmd (setOp 0x803 .live ChanCfg.rsv) q s
    { bad := [(q.h ≥ 4096 || c.prodCore.toNat > 67 || c.consCore.toNat > 67 || !inR c.msgMax.toNat 1 8, .badParam),
              (g.cfg.kind ≠ 1 || c.msgMax.toNat > g.depth, .badParam)]
      owns := s.requester q = g.cfg.owner.toNat, keys := [(.chan, q.h)], own := [(g.cfg.enable = 1, .busy)]
      eff := s.modChan q.h fun k => { k with cfg := c } }

/-- CHAN_GET (R374). -/
def execChanGet (q : Cmd) (s : State) : Out :=
  let g := s.ring q.h
  let k := s.chan q.h
  runCmd (getOp 0x804 .live) q s
    { bad := [(q.h ≥ 4096 || g.cfg.kind ≠ 1, .badParam)], owns := isSl0 s q || s.requester q = g.cfg.owner.toNat
      keys := [(.chan, q.h)], changes := false, replyTiles := 3, tiles := [k.cfg.toTile, g.status.toTile]
      data := dat 16 k.commits ||| dat 20 k.msgLost ||| dat 24 k.stageLost
      eff := if q.clear then (s.modChan q.h fun k => { k with commits := 0, msgLost := 0, stageLost := 0 }).modRing q.h
          GenRing.clear else s }

end Sys2Proof.Machine
end

