-- ==== Sys2Proof/Machine/Tasks.lean ====
section
/-!
DEFINITION. The task sequencer, chapter 7: dispatch and its image (R198 to R200, R266), run limits (R202), background
tasks (R203 to R205, R221 to R223), delay lists (R213 to R220), and the commands of these objects.
-/
namespace Sys2Proof.Machine

/-! ## Entries (R266) -/

/-- What the resolution of an ENTRY finds: nothing, a table tile that waits for its rewrite, or a program address. -/
inductive Entry where
  | bad
  | wait
  | good (pc : Nat)
deriving DecidableEq, Repr

/-- First tile and count of a slice's entry table. -/
def ProgCfg.entryTab (p : ProgCfg) (table : BitVec 1) : Nat × Nat :=
  if table = 1 then (p.entryTab1.toNat, p.entryCount1.toNat) else (p.entryTab0.toNat, p.entryCount0.toNat)

/-- The table tile that holds an entry. -/
def State.entryTile (s : State) (n : Nat) (table : BitVec 1) (entry : Nat) : Nat :=
  ((s.progCfg n).entryTab table).1 + entry / 15

/-- Resolution of an ENTRY in a table (R266). -/
def State.resolve (s : State) (n : Nat) (table : BitVec 1) (entry : Nat) (express : Bool) : Entry :=
  let p := s.progCfg n
  let tile := s.entryTile n table entry
  if p.enable = 0 ∨ entry ≥ (p.entryTab table).2 then .bad
  else if s.weft.badTiles.contains tile then .wait
  else
    let w := EntryWord.ofTile ((Tab.get 0 s.weft.prog tile).extractLsb' (32 * (entry % 15)) 32)
    let a := w.addr.toNat * 4
    let inside := p.inExp (a / 64) || p.inProg (a / 64)
    if w.valid = 1 ∧ a % 64 ≠ 60 ∧ inside ∧ (!express ∨ (w.express = 1 ∧ p.inExp (a / 64))) then .good a else .bad

/-! ## Starting a thread (R200) -/

/-- Bytes of TASK_INFO (R200). -/
def taskInfo (i : DispImage) : List Byte := bytesOf i.toTile 32

/-- A thread starts a task: its image, its registers, and the values at dispatch of R256, R262 and R302. -/
def State.startThread (s : State) (c t : Nat) (i : Inst) (pc : Nat) (image : List Byte) (arg : Word) : State :=
  let base := 0x10000 + t * 0x1000
  let other : Bool := match (s.th c t).lastSlice with | some p => p ≠ i.slice | none => false
  let s1 := s.modCore c fun k =>
    (if other then k.lmPut base (List.replicate 4096 0) else k).lmPut base image
  s1.modTh c t fun h =>
    let h0 : Thread := { bps := h.bps, dbg := h.dbg, stepping := h.stepping, haltReq := h.haltReq }
    ((({ h0 with st := .running, pc := pc, inst := some i, lastSlice := some i.slice } : Thread).setReg 1
      0).setReg 2 (leBits 64 (slice image 0xE0 8))).setReg 3 arg

/-- The head window of a frame at dispatch (R25): its first 256 bytes without the FCS, and room. -/
def State.headWindow (s : State) (d : Desc) : List Byte :=
  let h := (s.frameOf d.buf d.length.toNat).take (min 256 (d.length.toNat - 4))
  h ++ List.replicate (320 - h.length) 0

/-! ## Dispatch (R199) -/

/-- A member core of a group (R193, R194). -/
def TgCfg.member (g : TgCfg) (c : Nat) : Bool := g.coreMask.getLsbD c
/-- A thread that can take a task. -/
def State.freeThread (s : State) (c t : Nat) : Bool :=
  (s.core c).active && decide ((s.th c t).st = .idle) && (s.th c t).inst.isNone
/-- Tasks that a core runs. -/
def State.running (s : State) (c : Nat) : Nat := ((List.range 8).filter fun t => (s.th c t).inst.isSome).length
/-- Activations of a group that a core runs. -/
def State.bgRunning (s : State) (c g : Nat) : Nat :=
  ((List.range 8).filter fun t => (s.th c t).inst.any fun i => i.task && i.tg == g).length

/-- Whether an item can start now: not blocked (R245), its entry's tile not waiting (R266). -/
def State.startable (s : State) (it : ReadyItem) : Bool :=
  if it.task then
    let b := s.bg it.idx
    let o := b.obj.owner.toNat
    b.blocked.isNone && s.resolve o (s.progCfg o).activeTable b.obj.entry.toNat false != .wait
  else
    let k := s.ctx it.idx
    k.blocked.isNone &&
      s.resolve k.slice (k.table.getD (s.progCfg k.slice).activeTable) k.entry.toNat (k.desc.express = 1) != .wait

/-- The thread of R199 for an item of a normal list of group `g`: the core running the fewest tasks, then the lowest
core, then the lowest thread; in an enabled group, within BG_MAX (R193) and the inherited priorities (R224). -/
def State.threadFor (s : State) (g pr : Nat) (it : ReadyItem) : Option (Nat × Nat) :=
  let f := s.group g
  let ok (c : Nat) : Bool := f.enable = 1 && f.member c && decide (s.inherited c ≤ pr) && (!it.task || decide (s.bgRunning c g < f.bgMax.toNat))
  let first (c : Nat) : Option Nat := firstIdx 8 fun t => 0 < t && f.threadMask.getLsbD (t - 1) && s.freeThread c t
  (List.range 68).foldl (fun best c =>
    if ok c then
      match first c, best with
      | none, _ => best
      | some t, none => some (c, t)
      | some t, some (b, u) => if s.running c < s.running b then some (c, t) else some (b, u)
    else best) none

/-- A task found for a thread: its priority, its order, its group, the item, the core and the thread. -/
structure Placing where
  pr : Nat
  order : Nat
  g : Nat
  it : ReadyItem
  core : Nat
  thread : Nat
deriving DecidableEq, Repr

/-- The head of a list, where some thread can take it: a list is first in, first out (R198). -/
def State.placing (s : State) (g pr : Nat) : List ReadyItem → Option Placing
  | [] => none
  | it :: _ =>
    match if s.startable it then s.threadFor g pr it else none with
    | some (c, t) => some ⟨pr, it.order, g, it, c, t⟩
    | none => none

/-- The better of two by R199: priority, then ready first, then the lower group. -/
def Placing.before (a b : Placing) : Bool :=
  a.pr > b.pr || (a.pr == b.pr && (a.order < b.order || (a.order == b.order && a.g < b.g)))

/-- The next normal dispatch. -/
def State.nextNormal (s : State) : Option Placing :=
  (List.range 16).foldl (fun best g => (List.range 8).foldl (fun best pr =>
    match s.placing g pr (Tab.get [] s.task.lists (listKey g pr)), best with
    | none, _ => best
    | some x, none => some x
    | some x, some b => if x.before b then some x else some b) best) none

/-- The lowest-numbered member core of an enabled group with a free express thread. -/
def State.expressCore (s : State) (g : Nat) : Option Nat :=
  firstIdx 68 fun c => (s.group g).enable = 1 && (s.group g).member c && s.freeThread c 0

/-- The express heads, by group. -/
def State.expressHeads (s : State) : List (Nat × ReadyItem) :=
  (List.range 16).filterMap fun g => ((Tab.get [] s.task.lists (listKey g 8)).head?).map fun it => (g, it)

/-- The next express dispatch: of the heads that can be placed, the one ready first. -/
def State.nextExpress (s : State) : Option Placing :=
  s.expressHeads.foldl (fun best (g, it) =>
    match if s.startable it then s.expressCore g else none with
    | none => best
    | some c => match best with
      | none => some ⟨8, it.order, g, it, c, 0⟩
      | some b => if it.order < b.order then some ⟨8, it.order, g, it, c, 0⟩ else some b) none

/-- EXP_WAIT counts each express head that finds no free express thread, once (R199). -/
def State.expWaits (s : State) : State :=
  s.expressHeads.foldl (fun (s : State) (g, it) =>
    if !it.waited ∧ (s.expressCore g).isNone then
      { s.bump .expWait g with
        task.lists := Tab.upd [] s.task.lists (listKey g 8) fun l =>
          match l with | x :: r => { x with waited := true } :: r | [] => [] }
    else s) s

/-- A packet's instance starts (R199 to R201, R208, R266, R268). -/
def State.dispatchCtx (s : State) (x : Nat) (p : Placing) : State :=
  let k := s.ctx x
  let ex : Bool := k.desc.express = 1
  let tab := k.table.getD (s.progCfg k.slice).activeTable
  match s.resolve k.slice tab k.entry.toNat ex with
  | .wait => s
  | .bad => ((s.unready false x).bump .entryBad p.g).endIntake x 2 0 0 none
  | .good pc =>
    let s1 := s.takeRef x
    let s2 := (s1.unready false x).modCtx x fun k =>
      { k with state := .running, epoch := k.epoch + 1, table := some tab }
    let i : Inst := { task := false, idx := x, epoch := k.epoch + 1, slice := k.slice, tg := p.g
                      prio := if ex then 0 else p.pr, express := ex, table := tab
                      later := k.desc.attempt == 1 || k.handback, since := s.now }
    let info : DispImage :=
      { ctx := BitVec.ofNat 13 x, kind := 0, epoch := k.epoch + 1, retry := bit (k.desc.attempt == 1)
        handback := bit k.handback, slice := BitVec.ofNat 6 k.slice, tg := BitVec.ofNat 4 p.g
        prio := BitVec.ofNat 3 i.prio, express := bit ex, entry := k.entry, arg := 0
        headLen := BitVec.ofNat 16 (min 256 (k.desc.length.toNat - 4)) }
    let image := bytesOf k.desc.toTile 32 ++ bytesOf (s.metaOf k.desc.buf) 64 ++ bytesOf k.key 128 ++ taskInfo info
      ++ s.headWindow k.desc
    ((s2.warpHold x).startThread p.core p.thread i pc image 0).bump .dispatched p.g

/-- An activation ends: RUNS and BG_RUNS count it, and an owed one makes the task READY (R204). -/
def State.bgEnd (s : State) (n : Nat) : State :=
  let o := (s.bg n).obj
  let s1 := (s.modBg n fun b =>
    { b with obj := { b.obj with state := if b.obj.pending = 1 then 1 else 0, pending := 0, restart := 0
                                 runs := satInc b.obj.runs } }).bump .bgRuns o.tg.toNat
  if o.pending = 1 then s1.pushReady (listKey o.tg.toNat o.prio.toNat) true n false else s1

/-- An activation starts (R199, R200, R205, R266). -/
def State.dispatchBg (s : State) (n : Nat) (p : Placing) : State :=
  let b := s.bg n
  let o := b.obj.owner.toNat
  let tab := (s.progCfg o).activeTable
  match s.resolve o tab b.obj.entry.toNat false with
  | .wait => s
  | .bad => ((s.unready true n).bump .entryBad p.g).bgEnd n
  | .good pc =>
    let s1 := (s.unready true n).modBg n fun b =>
      { b with epoch := b.epoch + 1, obj := { b.obj with state := 2, restart := 0 } }
    let i : Inst := { task := true, idx := n, epoch := b.epoch + 1, slice := o, tg := p.g, prio := p.pr, express := false
                      table := tab, later := b.obj.restart == 1, since := s.now }
    let info : DispImage :=
      { ctx := BitVec.ofNat 13 n, kind := 1, epoch := b.epoch + 1, retry := b.obj.restart, slice := b.obj.owner
        tg := b.obj.tg, prio := b.obj.prio, entry := b.obj.entry, arg := b.obj.arg }
    let image := List.replicate 224 0 ++ taskInfo info ++ List.replicate 320 0
    (s1.startThread p.core p.thread i pc image b.obj.arg).bump .dispatched p.g

/-- The tile of an item's entry. -/
def State.itemTile (s : State) (it : ReadyItem) : Nat :=
  if it.task then
    let o := (s.bg it.idx).obj.owner.toNat
    s.entryTile o (s.progCfg o).activeTable (s.bg it.idx).obj.entry.toNat
  else
    let k := s.ctx it.idx
    s.entryTile k.slice (k.table.getD (s.progCfg k.slice).activeTable) k.entry.toNat

/-- A task is placed on its thread; `bad` says that the CHECK of its entry's tile is wrong, and the dispatch waits
(R266). -/
def State.place' (s : State) (p : Placing) (bad : Bool) : State :=
  if bad then { s with weft.badTiles := s.weft.badTiles ++ [s.itemTile p.it] }
  else if p.it.task then s.dispatchBg p.it.idx p else s.dispatchCtx p.it.idx p

/-- DISPATCH: the next express or the next normal dispatch of the sequencer (R199). -/
def execDispatch (express bad : Bool) (s : State) : Out :=
  ok s (if !s.sys.mode.live then s
    else
      let s1 := if express then s.expWaits else s
      match if express then s.nextExpress else s.nextNormal with
      | some p => s1.place' p bad
      | none => s1)

/-- The slice whose program or express region holds a tile; 0 where none does. -/
def State.tileOwner (s : State) (tile : Nat) : Nat :=
  ((List.range 64).find? fun n => (s.progCfg n).enable = 1 && ((s.progCfg n).inProg tile || (s.progCfg n).inExp tile)).getD 0

/-- A program tile is rewritten from the verified copy and reported as PROGRAM_TILE, to its slice too (R50, R62, R266):
what waited for it may go on. -/
def State.rewriteProg (s : State) (tile : Nat) : State :=
  let free (b : Option Nat) : Option Nat := if b = some tile then none else b
  let s1 : State :=
    { s with
      weft.badTiles := s.weft.badTiles.filter (· ≠ tile)
      task.ctxs := s.task.ctxs.map fun (n, k) => (n, { k with blocked := free k.blocked })
      task.tasks := s.task.tasks.map fun (n, b) => (n, { b with blocked := free b.blocked }) }
  s1.report 0x0105 (BitVec.ofNat 32 tile) 0 (s.tileOwner tile)

/-- ENTRY_TILE_REWRITE. -/
def execEntryTileRewrite (tile : Fin 131072) (s : State) : Out :=
  ok s (if s.weft.badTiles.contains tile.val then s.rewriteProg tile else s)

/-! ## Run limits (R202) -/

/-- RUN_LIMIT_EXPIRY: a task's life on its thread exceeds its group's limit. The time stops while the thread is
halted. -/
def execRunLimitExpiry (c : Fin 68) (t : Fin 8) (s : State) : Out :=
  ok s (match (s.th c t).inst with
    | none => s
    | some i =>
      let g := s.group i.tg
      let lim := if i.task then g.runLimitBg.toNat else g.runLimitPkt.toNat
      let h := s.th c t
      if !(s.core c).active ∨ h.st = .halted ∨ lim = 0 ∨ s.now - i.since ≤ lim * 1000 then s
      else (s.bump .runLimitHit i.tg).fault c t .runLimit 0)

/-! ## Kicks and cancels -/

/-- A kick (R204): 0x21 TASK_FAULTED. -/
def State.kick (s : State) (n : Nat) : State × Nat :=
  let o := (s.bg n).obj
  let merged := s.bump .kickMerged o.tg.toNat
  if o.state = 0 then
    ((s.modBg n fun b => { b with kickAt := some s.now, obj := { b.obj with state := 1 } }).pushReady (listKey o.tg.toNat o.prio.toNat) true n
      false, 0)
  else if o.state = 1 then (merged, 0)
  else if o.state = 4 then (s, 0x21)
  else if o.pending = 0 then (s.modBg n fun b => { b with kickAt := some s.now, obj := { b.obj with pending := 1 } }, 0)
  else (merged, 0)

/-- The thread that carries an instance, on a core that runs or has stopped. -/
def State.threadOf (s : State) (task : Bool) (idx : Nat) : Option (Nat × Nat) :=
  (firstIdx (68 * 8) fun i => (s.th (i / 8) (i % 8)).inst.any fun x => x.task == task && x.idx == idx).map
    fun i => (i / 8, i % 8)

/-- Change a delay entry. -/
def State.modDelay (s : State) (n : Nat) (f : DelayObj → DelayObj) : State :=
  { s with task.delays := Tab.upd {} s.task.delays n f }
/-- A delay entry. -/
def State.delay (s : State) (n : Nat) : DelayObj := Tab.get {} s.task.delays n
/-- Free every delay entry that a test names; a request that waits for one never completes. -/
def State.freeDelays (s : State) (p : DelayObj → Bool) : State :=
  let gone := s.task.delays.filter fun (_, d) => d.e.valid = 1 && p d
  { s with task.delays := s.task.delays.filter fun (_, d) => !(d.e.valid = 1 && p d)
           weft.ops := s.weft.ops.filter fun o => !gone.any fun (_, d) => d.op == some o.id }

/-- Free one delay entry, in the same way. -/
def State.freeDelayAt (s : State) (i : Nat) : State :=
  let d := s.delay i
  { s.modDelay i fun _ => {} with weft.ops := s.weft.ops.filter fun o => d.op ≠ some o.id }

/-- The COMPLETE entries of an instance go when it is rewound, restarted or killed (R217). -/
def State.freeComplete (s : State) (i : Inst) : State :=
  s.freeDelays fun d => d.e.kind == 1 && decide ((d.e.target.extractLsb' 0 13).toNat = i.idx) &&
    d.e.target.getLsbD 15 == i.task && decide (d.e.target.extractLsb' 16 8 = i.epoch)

/-- An instance's end without an end: what it recorded goes, and its COMPLETE entries (R208, R217, R319). -/
def State.discardInst (s : State) (i : Inst) : State := (s.freeComplete i).dropRecorded i.recd true

/-- A thread's activation is killed at once (R221). -/
def State.killThread (s : State) (c t : Nat) : State :=
  match (s.th c t).inst with
  | none => s
  | some i =>
    ((s.discardInst i).taskLeaves c t i.tg).modTh c t fun h =>
      { h with inst := none, st := if h.st = .stopped then .stopped else .idle, atEnd := false, attach := none, miss := none }

/-- TASK_CANCEL (R221). A kick of the same instant counts in KICK_MERGED (R222; that a kick and the cancel behind it at one
local time fall in one cycle is a DESIGN CHOICE, log entry 92). -/
def State.cancel (s : State) (n : Nat) (disarm : Bool) : State :=
  let s1 := s.unready true n
  let s2 := match s1.threadOf true n with | some (c, t) => s1.killThread c t | none => s1
  let s3 := (if (s.bg n).kickAt = some s.now then s2.bump .kickMerged (s.bg n).obj.tg.toNat else s2).modBg n fun b =>
    { b with blocked := none, kickAt := none, obj := { b.obj with state := 0, pending := 0, restart := 0 } }
  if disarm then s3.freeDelays fun d => d.e.kind == 0 && decide ((d.e.target.extractLsb' 0 11).toNat = n) else s3

/-- TASK_DESTROY (R223): the task's number is free; its EPOCH goes on. -/
def State.destroy (s : State) (n : Nat) : State := (s.cancel n true).modBg n fun b => { epoch := b.epoch }

/-! ## Delay lists (R213 to R219) -/

/-- Tick of a scale's list: 64 ns, or 2^k pk. -/
def DispatchCfg.tick (c : DispatchCfg) (scale : Nat) : Nat :=
  match scale with
  | 0 => 64 | 1 => 2 ^ c.pkTickLog20.toNat | 2 => 2 ^ c.pkTickLog21.toNat | 3 => 2 ^ c.pkTickLog22.toNat
  | _ => 2 ^ c.pkTickLog23.toNat

/-- What DELAY_ARM asks for. -/
structure DelayReq where
  scale : Nat
  kind : Nat
  target : Word32
  due : Word
  period : Word
deriving DecidableEq, Repr

/-- The bits of TARGET that a KIND uses (R215); that of COMPLETE is ignored. -/
def targetUsed (kind : Nat) : Word32 := if kind = 0 then 0x7FF else if kind = 2 then 0x777F else 0xFFFFFFFF

/-- Reserved bits of TARGET, which a command may not set (R7) and which a helper ignores (R8). -/
def DelayReq.reserved (r : DelayReq) : Bool := r.target &&& ~~~ targetUsed r.kind ≠ 0

/-- Enumerated fields and ranges (R215, R326). -/
def DelayReq.badField (r : DelayReq) : Bool :=
  r.scale > 4 || r.kind > 2 || (r.kind = 2 && (r.target.extractLsb' 0 7).toNat ≥ 68) || (r.kind = 1 && r.period ≠ 0)

/-- A slice owns a group of which a core is a member. -/
def State.ownsCore (s : State) (n c : Nat) : Bool :=
  (List.range 16).any fun g => (s.group g).owner.toNat = n && (s.group g).member c

/-- The target belongs to the arming slice (R216). -/
def State.delayOwns (s : State) (n : Nat) (r : DelayReq) : Bool :=
  if r.kind = 0 then (s.bg r.target.toNat).live && (s.bg r.target.toNat).obj.owner.toNat = n
  else if r.kind = 2 then s.ownsCore n (r.target.extractLsb' 0 7).toNat
  else true

/-- BAD_TIME of R227. -/
def State.badTime (s : State) (r : DelayReq) : Bool :=
  decide (r.period.toNat % s.task.cfg.tick r.scale ≠ 0) || (r.scale ≠ 0 && !(s.pick (r.scale - 1)).on)

/-- The entry that the next arm takes: the lowest free one (the spec names none); none when all 4,096 are armed. -/
def State.freeDelay (s : State) : Option Nat := firstIdx 4096 fun i => (s.delay i).e.valid = 0

/-- Arm an entry (R216): the due time is rounded up to the next whole tick. -/
def State.armDelay (s : State) (n i : Nat) (r : DelayReq) (tag : BitVec 12) (op : Option Nat) : State :=
  let k := s.task.cfg.tick r.scale
  let e : DelayEntry :=
    { valid := 1, scale := BitVec.ofNat 3 r.scale, kind := BitVec.ofNat 2 r.kind, owner := BitVec.ofNat 6 n, tag := tag
      target := r.target, due := satNat 64 ((r.due.toNat + k - 1) / k * k), period := r.period }
  { s.modDelay i fun _ => ⟨e, s.task.order, op⟩ with task.order := s.task.order + 1 }

/-- The scale of an entry reads its DUE or more (R94, R213). -/
def State.delayDue (s : State) (d : DelayObj) : Bool := s.due d.e.scale.toNat d.e.due.toNat

/-- No armed entry of the list comes before it (R217). -/
def State.firstOfList (s : State) (d : DelayObj) : Bool :=
  !s.task.delays.any fun (_, x) => x.e.valid = 1 && x.e.scale == d.e.scale &&
    (x.e.due.toNat < d.e.due.toNat || (x.e.due == d.e.due && x.order < d.order))

/-- After a firing: a one-shot entry is freed, a periodic one re-armed in the future of its scale (R218). -/
def State.rearm (s : State) (i : Nat) : State :=
  let e := (s.delay i).e
  if e.period = 0 then s.modDelay i fun _ => {}
  else
    let n := (s.scaleNow e.scale.toNat - e.due.toNat) / e.period.toNat + 1
    ({ s with task.order := s.task.order + 1 }.modDelay i fun d =>
      { d with e := { d.e with due := satNat 64 (e.due.toNat + n * e.period.toNat), fires := satInc d.e.fires
                               skips := satAdd d.e.skips (n - 1) }
               order := s.task.order }).bumpBy .delaySkip 0 (n - 1)

/-- The parked request of a COMPLETE entry is served (R216, R217): it completes with OK. -/
def State.serveOp (s : State) (id : Nat) (out : List (Nat × List Byte)) : State :=
  { s with weft.ops := s.weft.ops.map fun o =>
      if o.id = id then { o with done := some ((0, [0, 0] ++ bytesOf (o.tag.setWidth 16) 2) :: out), parked := false } else o }

/-- The action of a due entry (R217). -/
def State.fire (s : State) (i : Nat) : State :=
  let d := s.delay i
  let o := d.e.owner.toNat
  if d.e.kind = 0 then (s.kick (d.e.target.extractLsb' 0 11).toNat).1.rearm i
  else if d.e.kind = 1 then
    (match d.op with | some id => s.serveOp id [] | none => s).rearm i
  else
    let c := (d.e.target.extractLsb' 0 7).toNat
    let t := (d.e.target.extractLsb' 8 3).toNat
    match s.raiseLine o c t (d.e.target.extractLsb' 12 3).toNat with
    | (s1, true) => s1.rearm i
    | (s1, false) => (s1.bump .delayMisfire 0).rearm i

/-- The list has a due entry. -/
def State.listDue (s : State) (k : Nat) : Bool :=
  s.task.delays.any fun (_, d) => d.e.valid = 1 && d.e.scale.toNat = k && s.delayDue d

/-- The list whose turn it is: the first with a due entry behind the one served last (R217). -/
def State.delayTurn (s : State) : Option Nat :=
  ((List.range 5).map fun i => (s.task.lastList + 1 + i) % 5).find? s.listDue

/-- The present comparison can take one more entry: it takes four, and comparisons are 10 ns apart (R217). -/
def State.delayRoom (s : State) : Bool := s.task.cmpAt ≠ s.now / 10 || decide (s.task.cmpTaken < 4)

/-- An entry of a list is taken. -/
def State.delayTaken (s : State) (k : Nat) : State :=
  { s with task.lastList := k, task.cmpAt := s.now / 10
           task.cmpTaken := if s.task.cmpAt = s.now / 10 then s.task.cmpTaken + 1 else 1 }

/-- An entry whose parity fails is freed and reported (R219). -/
def State.delayBad (s : State) (i : Nat) : State :=
  let o := (s.delay i).e.owner
  let pay : Word := put 64 0 o
  let s1 := ((s.freeDelayAt i).bump .delayParity 0).notice 0 0x0005 i pay
  if o = 0 then s1 else s1.notice o.toNat 0x0005 i pay

/-- DELAY_FIRE: the next due entry of the list whose turn it is is acted on; `bad` says that its parity fails (R217,
R219). -/
def execDelayFire (i : Fin 4096) (bad : Bool) (s : State) : Out :=
  let d := s.delay i
  let k := d.e.scale.toNat
  ok s (if d.e.valid = 0 ∨ !s.delayDue d ∨ !s.firstOfList d ∨ s.delayTurn ≠ some k ∨ !s.delayRoom then s
    else if bad then (s.delayTaken k).delayBad i
    else (s.delayTaken k).fire i)

/-! ## Commands: thread groups and dispatch configuration -/

/-- A task of a group is ready or holds a thread. -/
def State.groupBusy (s : State) (g : Nat) : Bool :=
  ((List.range 9).any fun p => !(Tab.get [] s.task.lists (listKey g p)).isEmpty) ||
  (List.range (68 * 8)).any fun i => (s.th (i / 8) (i % 8)).inst.any fun x => x.tg == g

/-- TG_CONFIG (R193, R194). -/
def execTgConfig (q : Cmd) (s : State) : Out :=
  let c := TgCfg.ofTile (q.tile 1)
  runCmd (setOp 0x920 .live TgCfg.rsv) q s
    { bad := [(q.h ≥ 16, .badParam), (!inR c.runLimitPkt.toNat 1 1000 || c.runLimitBg.toNat > 1000000, .badParam)]
      owns := isSl0 s q, keys := [(.tg, q.h)]
      own := [(decide ((s.group q.h).enable = 1 ∧ c.enable = 0) && s.groupBusy q.h, .busy)]
      eff := { s with task.groups := Tab.set {} s.task.groups q.h c } }

/-- TG_GET. -/
def execTgGet (q : Cmd) (s : State) : Out :=
  runCmd (getOp 0x921 .live) q s
    { bad := [(q.h ≥ 16, .badParam)], owns := isSl0 s q || s.requester q = (s.group q.h).owner.toNat
      keys := [(.tg, q.h)], changes := false, eff := s, replyTiles := 2, tiles := [(s.group q.h).toTile] }

/-- DISPATCH_CONFIG (R214). -/
def execDispatchConfig (q : Cmd) (s : State) : Out :=
  let c := DispatchCfg.ofTile (q.tile 1)
  let used (k : Nat) : Bool := s.task.delays.any fun (_, d) => d.e.valid = 1 && d.e.scale.toNat = k
  runCmd (setOp 0x922 .live DispatchCfg.rsv) q s
    { bad := [(q.h ≠ 0 || !inR c.expReserve.toNat 64 2048 || c.pkTickLog20.toNat > 20 || c.pkTickLog21.toNat > 20
                || c.pkTickLog22.toNat > 20 || c.pkTickLog23.toNat > 20, .badParam)]
      owns := isSl0 s q, keys := [(.dispatch, 0)]
      own := [((List.range 4).any (fun k => used (k + 1) && decide (c.tick (k + 1) ≠ s.task.cfg.tick (k + 1))), .busy)]
      eff := { s with task.cfg := c } }

/-- DISPATCH_GET. -/
def execDispatchGet (q : Cmd) (s : State) : Out :=
  runCmd (getOp 0x923 .live) q s
    { bad := [(q.h ≠ 0, .badParam)], owns := clearOk s q 0, keys := [(.dispatch, 0)], changes := false, eff := s
      replyTiles := 2, tiles := [s.task.cfg.toTile] }

/-! ## Commands: background tasks (R203 to R205, R221, R223) -/

/-- The number that TASK_CREATE gives: the lowest free one (the spec names none). -/
def State.freeTask (s : State) : Option Nat := firstIdx 2048 fun n => !(s.bg n).live

/-- TASK_CREATE (R203). -/
def execTaskCreate (q : Cmd) (s : State) : Out :=
  let me := s.requester q
  let n := s.freeTask
  let o : TaskObj := { owner := BitVec.ofNat 6 me, tg := BitVec.ofNat 4 (q.u8 16), prio := BitVec.ofNat 3 (q.u8 17)
                       entry := BitVec.ofNat 16 (q.u16 18), originOd := BitVec.ofNat 12 (q.u16 20), arg := q.u64 24 }
  runCmd (actOp 0x930 .live (used 16 6 ||| used 24 8)) q s
    { bad := [(q.h ≠ 0 || q.u8 16 ≥ 16 || q.u8 17 ≥ 8 || q.u16 20 ≥ 4096, .badParam)]
      owns := me = (s.group (q.u8 16)).owner.toNat, keys := [(.task, n.getD 0)], own := [(n.isNone, .noRoom)]
      handle := n.map (BitVec.ofNat 32 ·)
      eff := s.modBg (n.getD 0) fun b => { b with live := true, obj := o } }

/-- A task command names a task that exists; only its owner acts on it. -/
def State.taskBad (s : State) (q : Cmd) : Bool := q.h ≥ 2048 || !(s.bg q.h).live
/-- Its owner asks. -/
def State.taskMine (s : State) (q : Cmd) : Bool := s.requester q = (s.bg q.h).obj.owner.toNat

/-- The object as it reads: WAITING while its thread waits (R212). -/
def State.taskView (s : State) (n : Nat) : TaskObj :=
  let o := (s.bg n).obj
  match s.threadOf true n with
  | some (c, t) => if (s.th c t).st = .waiting then { o with state := 3 } else o
  | none => o

/-- TASK_CONFIG (R203): while the task is IDLE. -/
def execTaskConfig (q : Cmd) (s : State) : Out :=
  let c := TaskObj.ofTile (q.tile 1)
  let o := (s.bg q.h).obj
  runCmd (setOp 0x931 .live TaskObj.rsv) q s
    { bad := [(s.taskBad q, .badParam)], owns := s.taskMine q && c.owner == o.owner && (s.group c.tg.toNat).owner == o.owner
      keys := [(.task, q.h)], own := [(decide (o.state ≠ 0), .busy)]
      eff := s.modBg q.h fun b =>
        { b with obj := { c with state := o.state, pending := o.pending, restart := o.restart, runs := o.runs } } }

/-- TASK_KICK (R204): TASK_FAULTED is BUSY. -/
def execTaskKick (q : Cmd) (s : State) : Out :=
  runCmd (actOp 0x932 .live 0) q s
    { bad := [(s.taskBad q, .badParam)], owns := s.taskMine q, keys := [(.task, q.h)]
      own := [(decide ((s.bg q.h).obj.state = 4), .busy)], eff := (s.kick q.h).1 }

/-- TASK_CANCEL (R221), with option DISARM. -/
def execTaskCancel (q : Cmd) (s : State) : Out :=
  runCmd (actOp 0x933 .live (put 352 4 (1 : BitVec 1))) q s
    { bad := [(s.taskBad q, .badParam)], owns := s.taskMine q, keys := [(.task, q.h)], eff := s.cancel q.h (q.opt 16 4) }

/-- TASK_RESET (R205). -/
def execTaskReset (q : Cmd) (s : State) : Out :=
  runCmd (actOp 0x934 .live 0) q s
    { bad := [(s.taskBad q, .badParam)], owns := s.taskMine q, keys := [(.task, q.h)]
      own := [(decide ((s.bg q.h).obj.state ≠ 4), .badParam)]
      eff := s.modBg q.h fun b => { b with obj := { b.obj with state := 0, pending := 0, restart := 0 } } }

/-- TASK_DESTROY (R223). -/
def execTaskDestroy (q : Cmd) (s : State) : Out :=
  runCmd (actOp 0x935 .live 0) q s
    { bad := [(s.taskBad q, .badParam)], owns := s.taskMine q, keys := [(.task, q.h)], eff := s.destroy q.h }

/-- TASK_GET (R612). -/
def execTaskGet (q : Cmd) (s : State) : Out :=
  runCmd (getOp 0x936 .live) q s
    { bad := [(s.taskBad q, .badParam)], owns := isSl0 s q || s.taskMine q, keys := [(.task, q.h)], changes := false
      eff := s, replyTiles := 2, tiles := [(s.taskView q.h).toTile] }

/-! ## Commands: delay entries -/

/-- DELAY_ARM (R216, R612): KIND COMPLETE is for the helper only. -/
def execDelayArm (q : Cmd) (s : State) : Out :=
  let r : DelayReq := ⟨q.u8 16, q.u8 17, BitVec.ofNat 32 (q.u32 20), q.u64 24, q.u64 32⟩
  let n := s.freeDelay
  runCmd (actOp 0x940 .live (used 16 2 ||| used 20 20)) q s
    { bad := [(q.h ≠ 0 || r.reserved || r.badField || r.kind = 1, .badParam)], owns := s.delayOwns (s.requester q) r
      keys := [(.delay, n.getD 0)], own := [(s.badTime r, .badParam), (n.isNone, .noRoom)]
      handle := n.map (BitVec.ofNat 32 ·), eff := s.armDelay (s.requester q) (n.getD 0) r 0 none }

/-- DELAY_DISARM (R220). -/
def execDelayDisarm (q : Cmd) (s : State) : Out :=
  let d := s.delay q.h
  runCmd (actOp 0x941 .live 0) q s
    { bad := [(q.h ≥ 4096 || d.e.valid = 0, .badParam)], owns := s.requester q = d.e.owner.toNat, keys := [(.delay, q.h)]
      eff := s.freeDelayAt q.h }

/-- DELAY_GET (R215). -/
def execDelayGet (q : Cmd) (s : State) : Out :=
  let d := s.delay q.h
  runCmd (getOp 0x942 .live) q s
    { bad := [(q.h ≥ 4096 || d.e.valid = 0, .badParam)], owns := isSl0 s q || s.requester q = d.e.owner.toNat
      keys := [(.delay, q.h)], changes := false, eff := s, data := dat 16 d.e.toTile }

end Sys2Proof.Machine
end

