-- ==== Sys2Proof/Machine/Ptp.lean ====
section
/-!
DEFINITION. The PTP engine (R65, R66, R114): port states, the messages that it sends and receives, its commands. The
layout of the messages is that of IEEE 1588-2019; what that standard computes and the spec does not is free (log entries
15, 85).
-/
namespace Sys2Proof.Machine

/-! ## Timestamp points on transmit (R113) -/

/-- Rate of an egress port in Mbit/s by its MODE (R96); links carry 100 Gbit/s (R510). -/
def State.rate (s : State) (p : Nat) : Nat :=
  if p ≥ 48 then 100000
  else match (s.port p).cfg.mode.toNat with
    | 3 => 2500 | 4 => 10000 | 5 => 25000 | 6 => 40000 | 7 => 100000 | _ => 1000

/-- Local time in ps of the egress timestamp point of a frame whose preamble starts now on a port: the 8 bytes before the
frame's first bit, TX_LAT_NS and the signed TX_CAL_PS are added. -/
def State.txPoint (s : State) (p : Nat) : Int :=
  let c := (s.port p).cfg
  s.now * 1000 + (64000000 / s.rate p : Nat) + (Config.txLatNs c.mode.toNat c.fec.toNat).toNat * 1000 + c.txCalPs.toInt

/-- The egress timestamp of a frame that starts now (R113). -/
def State.txStamp (s : State) (p : Nat) : Word := s.wallAt (s.txPoint p)

/-! ## Ports of the engine -/

/-- A port's PTP configuration. -/
def State.ptpPort (s : State) (p : Nat) : PtpPort := Tab.get {} s.time.ptpPorts p
/-- What the engine keeps of a port. -/
def State.ptpRun (s : State) (p : Nat) : PtpRun := Tab.get {} s.time.ptpRun p
/-- Change it. -/
def State.modPtpRun (s : State) (p : Nat) (f : PtpRun → PtpRun) : State :=
  { s with time.ptpRun := Tab.upd {} s.time.ptpRun p f }

/-- Set a port's portState. -/
def State.setPtpState (s : State) (p n : Nat) : State :=
  s.modPtpSt p fun t => { t with portState := BitVec.ofNat 4 n }

/-- portStates of IEEE 1588-2019 that the best-master choice may give a port (R65): LISTENING 4, UNCALIBRATED 8, SLAVE 9,
PASSIVE 7 and, on a port that may be master, PRE_MASTER 5 and MASTER 6. A slave-only clock has none but the first three. -/
def State.ptpChoices (s : State) (p : Nat) : List Nat :=
  if s.time.ptpClock.clockType = 0 then [4, 8, 9]
  else if s.mayGm || (List.range 33).any (fun q => q ≠ p && s.ptpSlave q) then [4, 8, 9, 7, 5, 6] else [4, 8, 9, 7]

/-- A port that is master without a right to be goes to LISTENING: without a port in SLAVE state only a grandmaster is
master (R65). -/
def State.ptpDemote (s : State) : State :=
  (List.range 33).foldl (fun (s : State) p =>
    let st := (s.ptpSt p).portState.toNat
    if (s.ptpPort p).enable = 1 ∧ (st = 5 ∨ st = 6) ∧ !(s.ptpChoices p).contains 6 then s.setPtpState p 4 else s) s

/-- The selected port is the one in SLAVE state, else one that is UNCALIBRATED; wall time from PTP loses its source with
the last port in SLAVE state (R66). -/
def State.ptpSelect (s : State) : State :=
  let sel := ((List.range 33).find? s.ptpSlave).orElse fun _ =>
    (List.range 33).find? fun p => (s.ptpPort p).enable = 1 && (s.ptpSt p).portState = 8
  let s1 := { s with time.st.ptpPort := BitVec.ofNat 6 (sel.getD 63) }
  if s.time.cfg.source = 1 then s1.checkSync else s1

/-- The best-master choice gives a port its state (IEEE 1588-2019, free among those that R65 admits); there is one port in
SLAVE state at most. -/
def State.bestMaster (s : State) (p : Nat) : State :=
  let cs := s.ptpChoices p
  let st := cs.getD ((Config.ptpState s.time.free).toNat % cs.length) 4
  let s1 := s.drawn.setPtpState p st
  let s2 := if st = 9 then (List.range 33).foldl (fun (s : State) q =>
      if q ≠ p ∧ (s.ptpSt q).portState = 9 then s.setPtpState q (if s.time.ptpClock.clockType = 0 then 4 else 7)
      else s) s1 else s1
  s2.ptpDemote.ptpSelect

/-! ## Messages on the wire (IEEE 1588-2019) -/

/-- clockClass that the device advertises (R66): a grandmaster locked to PPS_IN advertises 6, which IEEE 1588-2019 gives a
clock synchronised to a primary reference; otherwise CLOCK_CLASS. -/
def State.ptpClass (s : State) : BitVec 8 :=
  if s.time.cfg.source = 2 ∧ s.isGrandmaster ∧ s.time.st.wallUnsync = 0 then 6 else s.time.ptpClock.clockClass

/-- A timestamp: 48 bits of seconds, 32 of nanoseconds. -/
def ptpTime (w : Word) : List Byte :=
  beBytes (BitVec.ofNat 48 (w.toNat / 1000000000)) 6 ++ beBytes (BitVec.ofNat 32 (w.toNat % 1000000000)) 4

/-- sourcePortIdentity of a port. -/
def ptpIdentity (p : Nat) : List Byte := beBytes Config.clockIdentity 8 ++ beBytes (BitVec.ofNat 16 (p + 1)) 2

/-- controlField of a message type. -/
def ptpControl (type : Nat) : Nat := match type with | 0 => 0 | 1 => 1 | 8 => 2 | 9 => 3 | 13 => 4 | _ => 5

/-- A PTP message of a port: header and body. -/
def State.ptpMsg (s : State) (p type : Nat) (twoStep : Bool) (seq : BitVec 16) (log : BitVec 8) (body : List Byte) :
    List Byte :=
  ([BitVec.ofNat 8 type, 0x12] : List Byte) ++ beBytes (BitVec.ofNat 16 (34 + body.length)) 2 ++ ([s.time.ptpClock.domain, 0] : List Byte) ++
    ([if twoStep then 2 else 0, 0] : List Byte) ++ List.replicate 12 0 ++ ptpIdentity p ++ beBytes seq 2 ++
    ([BitVec.ofNat 8 (ptpControl type), log] : List Byte) ++ body

/-- The body of an Announce. What the spec does not hold of the grandmaster is free; PROFILE 2 appends the TLV of IEEE
C37.238-2017, its content free. -/
def State.announceBody (s : State) (p : Nat) : List Byte :=
  let n := s.time.free
  let c := s.time.ptpClock
  let st := s.ptpSt p
  let gm := s.isGrandmaster
  List.replicate 10 (0 : Byte) ++ beBytes (Config.announceRest n) 2 ++ [0, c.priority1, s.ptpClass] ++
    beBytes ((Config.announceRest n) >>> 24) 3 ++ [c.priority2] ++
    (if gm then beBytes Config.clockIdentity 8 else beBytes (Config.freeWord n) 8) ++
    beBytes (if gm then 0 else st.stepsRemoved + 1) 2 ++ [((Config.announceRest n) >>> 48).setWidth 8] ++
    (if s.time.cfg.profile = 2 then [0, 3, 0, 12] ++ beBytes (Config.c37Tlv n) 12 else [])

/-- The frame of a message by its port's transport (R65): IEEE 802.3, or UDP with the heads that Annexes C and D give. A
peer-delay message goes to the address that bridges do not forward. FCS last. -/
def State.ptpFrame (s : State) (p : Nat) (m : List Byte) : List Byte :=
  let t := (s.ptpPort p).transport.toNat
  let ty := ((nthByte m 0).extractLsb' 0 4).toNat
  let head := if t = 0 then
      beBytes (if ty = 2 ∨ ty = 3 ∨ ty = 10 then 0x0180C200000E else 0x011B19000000 : BitVec 48) 6 ++
        beBytes (Config.portMac p) 6 ++ [0x88, 0xF7]
    else Config.udpHead p t m
  let b := head ++ m ++ (if t = 2 then [0, 0] else [])
  let b := b ++ List.replicate (60 - b.length) 0
  b ++ bytesOf (crc32 b) 4

/-- A message leaves a port. -/
def State.ptpSend (s : State) (p : Nat) (m : List Byte) : State := s.sendOwn p (s.ptpFrame p m)

/-- The egress timestamp of an event message returns to the engine (R114). -/
def State.ptpStamped (s : State) (p : Nat) (seq : BitVec 16) : State :=
  s.modPtpRun p fun r => { r with txStamp := some (seq, s.txStamp p) }

/-- Sync (R114): one-step with its origin timestamp, or two-step with a Follow_Up that carries the egress timestamp. -/
def State.ptpSync (s : State) (p : Nat) : State :=
  let c := s.ptpPort p
  let seq := (s.ptpRun p).syncSeq
  let w := s.txStamp p
  let s1 := s.modPtpRun p fun r => { r with syncAt := some s.now, syncSeq := seq + 1 }
  if c.oneStep = 1 then s1.ptpSend p (s.ptpMsg p 0 false seq c.logSync (ptpTime w))
  else ((s1.ptpSend p (s.ptpMsg p 0 true seq c.logSync (ptpTime 0))).ptpStamped p seq).ptpSend p
    (s.ptpMsg p 8 false seq c.logSync (ptpTime w))

/-- 2^n seconds in ns, for an interval of R65. -/
def logNs (v : BitVec 8) : Nat := 7812500 * 2 ^ (v.toInt + 7).toNat

/-- An interval has passed since a send. -/
def State.ptpDue (s : State) (last : Option Nat) (v : BitVec 8) : Bool := last.all fun t => decide (t + logNs v ≤ s.now)

/-- Whether the engine sends a message on a port now (R65): Sync and Announce as master at their intervals, Delay_Req and
Pdelay_Req by the delay mechanism; a transparent clock sends none but Pdelay_Req, and that only peer-to-peer. -/
def State.ptpSends (s : State) (p : Nat) (k : PtpTx) : Bool :=
  let c := s.ptpPort p
  let r := s.ptpRun p
  let st := (s.ptpSt p).portState
  let ty := s.time.ptpClock.clockType.toNat
  c.enable = 1 && (s.port p).st.linkUp = 1 && (match k with
    | .sync => (ty = 1 || ty = 2) && st = 6 && s.ptpDue r.syncAt c.logSync
    | .announce => (ty = 1 || ty = 2) && st = 6 && s.ptpDue r.announceAt c.logAnnounce
    | .delayReq => ty ≤ 2 && (st = 8 || st = 9) && c.delayMech = 0
    | .pdelayReq => ty ≠ 3 && c.delayMech = 1 && s.ptpDue r.pdelayAt c.logPdelay)

/-- The message of an interval. -/
def State.ptpSendKind (s : State) (p : Nat) : PtpTx → State
  | .sync => s.ptpSync p
  | .announce =>
    let seq := (s.ptpRun p).announceSeq
    ((s.modPtpRun p fun r => { r with announceAt := some s.now, announceSeq := seq + 1 }).ptpSend p
      (s.ptpMsg p 11 false seq (s.ptpPort p).logAnnounce (s.announceBody p))).drawn
  | .delayReq =>
    let seq := (s.ptpRun p).delaySeq
    ((s.modPtpRun p fun r => { r with delaySeq := seq + 1, delayOpen := true }).ptpSend p
      (s.ptpMsg p 1 false seq 0x7F (ptpTime 0))).ptpStamped p seq
  | .pdelayReq =>
    let seq := (s.ptpRun p).pdelaySeq
    ((s.modPtpRun p fun r => { r with pdelayAt := some s.now, pdelaySeq := seq + 1, pdelayOpen := true }).ptpSend p
      (s.ptpMsg p 2 false seq 0x7F (ptpTime 0 ++ List.replicate 10 0))).ptpStamped p seq

/-- PTP_MESSAGE_SEND: a message interval expires and the engine sends (R65). -/
def execPtpMessageSend (p : Fin 33) (k : PtpTx) (s : State) : Out :=
  ok s (if s.ptpSends p k then s.ptpSendKind p k else s)

/-! ## Messages received -/

/-- Whether a message is the engine's (R65): its transport is the port's and, unless the device is a transparent clock,
its domain is the device's. -/
def State.ptpMine (s : State) (p : Nat) (m : PtpMsg) : Bool :=
  (s.ptpPort p).enable = 1 && (s.port p).st.linkUp = 1 && !s.absorbed p && m.transport = (s.ptpPort p).transport &&
    (s.time.ptpClock.clockType.toNat ≥ 3 || m.domain = s.time.ptpClock.domain)

/-- An offset measurement on the selected port, while the source is PTP (R66). -/
def State.ptpOffset (s : State) (p : Nat) : State :=
  if s.time.cfg.source = 1 ∧ s.time.st.ptpPort.toNat = p then
    s.drawn.wallOffset (Config.ptpOffset s.time.free) (s.ptpSlave p)
  else s

/-- The answer to a Delay_Req or Pdelay_Req, with the requester's identity and number; a two-step Pdelay_Resp has its
Follow_Up. -/
def State.ptpAnswer (s : State) (p : Nat) (m : PtpMsg) : State :=
  let id := beBytes m.source 10
  let w := s.txStamp p
  match m.kind with
  | .delayReq => s.ptpSend p (s.ptpMsg p 9 false m.seq (s.ptpPort p).logSync (ptpTime s.wall ++ id))
  | _ =>
    if (s.ptpPort p).oneStep = 1 then s.ptpSend p (s.ptpMsg p 3 false m.seq 0x7F (ptpTime 0 ++ id))
    else ((s.ptpSend p (s.ptpMsg p 3 true m.seq 0x7F (ptpTime s.wall ++ id))).ptpStamped p m.seq).ptpSend p
      (s.ptpMsg p 10 false m.seq 0x7F (ptpTime w ++ id))

/-- A mean delay that an answer to the port's own request gives. -/
def State.ptpDelayOf (s : State) (p : Nat) : State :=
  (s.modPtpSt p fun t => { t with meanDelayNs := Config.ptpDelay s.time.free }).drawn

/-- What an ordinary or boundary clock does with a message of its domain. -/
def State.ptpTake (s : State) (p : Nat) (m : PtpMsg) : State :=
  let c := s.ptpPort p
  let st := (s.ptpSt p).portState
  let slave := st = 8 ∨ st = 9
  match m.kind with
  | .sync =>
    let s1 := s.modPtpSt p fun t => { t with syncRx := satInc t.syncRx }
    if ¬slave then s1
    else if m.twoStep then s1.modPtpRun p fun r => { r with followUp := some (m.source, m.seq) }
    else s1.ptpOffset p
  | .followUp =>
    if slave ∧ (s.ptpRun p).followUp = some (m.source, m.seq) then
      (s.modPtpRun p fun r => { r with followUp := none }).ptpOffset p
    else s
  | .announce =>
    ((s.modPtpSt p fun t => { t with announceRx := satInc t.announceRx, parentId := m.parent, stepsRemoved := m.steps }
      ).modPtpRun p fun r => { r with heardAt := s.now }).bestMaster p
  | .delayResp =>
    let s1 := s.modPtpSt p fun t => { t with delayRx := satInc t.delayRx }
    if c.delayMech = 0 ∧ slave ∧ (s.ptpRun p).delayOpen then
      (s1.modPtpRun p fun r => { r with delayOpen := false }).ptpDelayOf p
    else s1
  | .pdelayResp =>
    let s1 := s.modPtpSt p fun t => { t with delayRx := satInc t.delayRx }
    if c.delayMech = 1 ∧ (s.ptpRun p).pdelayOpen then
      (s1.modPtpRun p fun r => { r with pdelayOpen := false }).ptpDelayOf p
    else s1
  | .delayReq => if c.delayMech = 0 ∧ st = 6 then s.ptpAnswer p m else s
  | .pdelayReq => if c.delayMech = 1 then s.ptpAnswer p m else s
  | .management => { s with time.st.ptpMgmtDrop := satInc s.time.st.ptpMgmtDrop }
  | .pdelayFollowUp | .signaling => s

/-- What a transparent clock does with a message: it forwards all as frames of the data path; peer-to-peer, its ports
answer and measure by peer delay. -/
def State.ptpPass (s : State) (p : Nat) (m : PtpMsg) : State :=
  if s.time.ptpClock.clockType = 4 ∧ (m.kind = .pdelayReq ∨ m.kind = .pdelayResp) then s.ptpTake p m else s

/-- PTP_MESSAGE_RECEIVE (R65): a message that the engine takes; any other is discarded. -/
def execPtpMessageReceive (p : Fin 33) (m : PtpMsg) (s : State) : Out :=
  ok s (if !s.ptpMine p m then s
    else if s.time.ptpClock.clockType.toNat ≥ 3 then s.ptpPass p m else s.ptpTake p m)

/-- The announce receipt timeout of a port that is not master has passed (R66, IEEE 1588-2019). -/
def State.announceOver (s : State) (p : Nat) : Bool :=
  let c := s.ptpPort p
  c.enable = 1 && s.time.ptpClock.clockType.toNat ≤ 2 && (s.ptpSt p).portState ≠ 6 &&
    decide ((s.ptpRun p).heardAt + s.time.ptpClock.announceTimeout.toNat * logNs c.logAnnounce ≤ s.now)

/-- PTP_ANNOUNCE_TIMEOUT: the engine decides the port's state anew; on the selected port wall time is not synchronised any
more (R66). -/
def execPtpAnnounceTimeout (p : Fin 33) (s : State) : Out :=
  ok s (if !s.announceOver p then s
    else
      let s1 := ((s.modPtpSt p fun t => { t with timeouts := satInc t.timeouts }).modPtpRun p fun r =>
        { r with heardAt := s.now }).bestMaster p
      if s.time.cfg.source = 1 ∧ s.time.st.ptpPort.toNat = p.val then s1.setUnsync else s1)

/-! ## Commands -/

/-- A port as the engine starts it: LISTENING when it is enabled on an ordinary or boundary clock, DISABLED otherwise. -/
def State.ptpRestart (s : State) (p : Nat) : State :=
  let up := (s.ptpPort p).enable = 1 ∧ s.time.ptpClock.clockType.toNat ≤ 2
  ((s.setPtpState p (if up then 4 else 3)).modPtpRun p fun r =>
    { r with heardAt := s.now, followUp := none, delayOpen := false, pdelayOpen := false })

/-- A new PTP clock configuration: another clock type or domain starts every port anew. -/
def State.setPtpClock (s : State) (c : PtpClock) : State :=
  let o := s.time.ptpClock
  let s1 := { s with time.ptpClock := c }
  if c.clockType = o.clockType ∧ c.domain = o.domain then s1 else ((List.range 33).foldl State.ptpRestart s1).ptpSelect

/-- A new PTP port configuration: a change of ENABLE starts or ends the port. -/
def State.setPtpPort (s : State) (p : Nat) (c : PtpPort) : State :=
  let s1 := { s with time.ptpPorts := Tab.set {} s.time.ptpPorts p c }
  if c.enable = (s.ptpPort p).enable then s1 else (s1.ptpRestart p).ptpDemote.ptpSelect

/-- PTP_CLOCK_CONFIG (R604). -/
def execPtpClockConfig (q : Cmd) (s : State) : Out :=
  let c := PtpClock.ofTile (q.tile 1)
  runCmd (setOp 0x320 .live PtpClock.rsv) q s
    { bad := [(q.h ≠ 0, .badParam), (c.clockType.toNat ≥ 5 || !inR c.announceTimeout.toNat 2 10, .badParam)]
      owns := isSl0 s q, keys := [(.ptpClock, 0)], eff := s.setPtpClock c }

/-- A signed byte within a range. -/
def sByteIn (v : BitVec 8) (lo hi : Int) : Bool := lo ≤ v.toInt && v.toInt ≤ hi

/-- PTP_PORT_CONFIG (R605), with the ranges of R65. -/
def execPtpPortConfig (q : Cmd) (s : State) : Out :=
  let c := PtpPort.ofTile (q.tile 1)
  runCmd (setOp 0x321 .live PtpPort.rsv) q s
    { bad := [(q.h > 32 || s.absorbed q.h, .badParam),
              (c.transport = 3 || !sByteIn c.logSync (-7) 4 || !sByteIn c.logPdelay (-7) 4
                || !sByteIn c.logAnnounce (-3) 4, .badParam)]
      owns := isSl0 s q, keys := [(.ptpPort, q.h)]
      eff := s.setPtpPort q.h c }

/-- PTP_GET (R606). -/
def execPtpGet (q : Cmd) (s : State) : Out :=
  runCmd (getOp 0x322 .live) q s
    { bad := [(q.h > 32 || s.absorbed q.h, .badParam)], owns := clearOk s q 0, keys := [(.ptpPort, q.h)]
      changes := false, replyTiles := 4
      tiles := [s.time.ptpClock.toTile, (s.ptpPort q.h).toTile, (s.ptpSt q.h).toTile]
      eff := if q.clear then s.modPtpSt q.h fun t =>
          { t with syncRx := 0, announceRx := 0, delayRx := 0, timeouts := 0 } else s }

end Sys2Proof.Machine
end

