-- ==== Sys2Proof/Machine/Tm.lean ====
section
/-!
DEFINITION. The traffic manager, chapter 15: queue entries, the checks of an offered entry (R437), head drops, spill,
shapers, and the bytes and FCS that leave (R105 to R109, R420, R421).
-/
namespace Sys2Proof.Machine

/-! ## Access -/

/-- A queue. -/
def State.queue (s : State) (n : Nat) : Queue := Tab.get {} s.tm.queues n
/-- Change a queue. -/
def State.modQueue (s : State) (n : Nat) (f : Queue → Queue) : State :=
  { s with tm.queues := Tab.upd {} s.tm.queues n f }
/-- A shaper: SHn at n, PSn at 8,192 + n. -/
def State.shaper (s : State) (n : Nat) : Shaper := Tab.get {} s.tm.shapers n
/-- Change a shaper. -/
def State.modShaper (s : State) (n : Nat) (f : Shaper → Shaper) : State :=
  { s with tm.shapers := Tab.upd {} s.tm.shapers n f }
/-- Selection state of an egress port. -/
def State.portTm (s : State) (p : Nat) : PortTm := Tab.get {} s.tm.ports p
/-- Change it. -/
def State.modPortTm (s : State) (p : Nat) (f : PortTm → PortTm) : State :=
  { s with tm.ports := Tab.upd {} s.tm.ports p f }
/-- A port's treadle list. -/
def State.treadle (s : State) (p : Nat) : Treadle := Tab.get {} s.tm.treadles p
/-- Change it. -/
def State.modTreadle (s : State) (p : Nat) (f : Treadle → Treadle) : State :=
  { s with tm.treadles := Tab.upd {} s.tm.treadles p f }

/-- The descriptor of an entry. -/
def QEnt.d (x : QEnt) : Desc := Desc.ofTile x.e.desc
/-- Charged length (R436). -/
def QEnt.charged (x : QEnt) : Nat := x.d.length.toNat + 6 * x.e.trailerEn.toNat - 6 * x.e.strip.toNat
/-- All entries of a queue, oldest first (R466). -/
def Queue.ents (u : Queue) : List QEnt := u.onchip ++ u.dram
/-- Bytes of a list of entries. -/
def entBytes (l : List QEnt) : Nat := (l.map QEnt.charged).sum
/-- Bytes held. -/
def Queue.bytes (u : Queue) : Nat := entBytes u.ents

/-- The class of a queue: fixed for fabric queues (R434). -/
def Queue.tc (u : Queue) (n : Nat) : Nat := if n ≥ 7680 then n % 8 else u.cfg.tc.toNat

/-- Bytes that a frame takes on the wire (R436, R513). -/
def wireBytes (p n : Nat) : Nat := n + (if p ≥ 48 then 36 else 20)
/-- Wire time in ns of a number of bytes. -/
def State.wireNs (s : State) (p n : Nat) : Nat := wireBytes p n * 8000 / s.rate p

/-! ## Entries offered -/

/-- Entries in the on-chip store, and those of TC7 queues (R439). -/
def State.storeUsed (s : State) : Nat × Nat :=
  s.tm.queues.foldl (fun (a, b) (n, u) =>
    (a + u.onchip.length, if u.tc n = 7 then b + u.onchip.length else b)) (0, 0)
/-- The entry store has a free entry for a class: 4,096 entries are kept for TC7 queues (R439). -/
def State.storeRoom (s : State) (tc : Nat) : Bool :=
  let (a, b) := s.storeUsed
  if tc = 7 then a < 262144 else a < 262144 && a - b < 258048

/-- The launch-time rules of R118 for a launch-time queue. R118 does not name a clock that is DISABLED at commit: its launch
time cannot be converted and the frame is dropped as TX_LAUNCH_BAD (log entry 83). -/
def State.launchBad (s : State) (u : Queue) (e : QEntry) : Bool :=
  u.cfg.launch = 1 &&
    (e.launchEn = 0 ||
      (let c := s.convert e.lscale.toNat 0 e.launchTime.toNat
       c.status = 3 ||
        (c.status ≤ 1 && decide (c.value > s.wall.toNat + (s.port u.cfg.port.toNat).cfg.launchHorizon.toNat * 1000))))

/-- The oldest entry of a queue is dropped (R440, R466). -/
def State.headDrop (s : State) (n : Nat) : State :=
  let f (x : QEnt) (g : Queue → Queue) :=
    (s.modQueue n fun u =>
      { g u with st.headDrop := satInc u.st.headDrop, dropSince := u.dropSince + 1 }).entryGone x.d.buf x.pkt
  match (s.queue n).onchip, (s.queue n).dram with
  | x :: r, _ => f x fun u => { u with onchip := r }
  | [], x :: r => f x fun u => { u with dram := r }
  | [], [] => s

/-- Head drops until an entry of `len` bytes fits (R440). -/
def State.makeRoom (s : State) (n len : Nat) : Nat → State
  | 0 => s
  | k + 1 =>
    let u := s.queue n
    if u.ents ≠ [] ∧ (u.ents.length + 1 > u.cfg.maxFrames.toNat ∨ u.bytes + len > u.cfg.maxBytes.toNat) then
      (s.headDrop n).makeRoom n len k
    else s

/-- The frame of an entry. -/
def State.entFrame (s : State) (x : QEnt) : List Byte :=
  match x.arrived with
  | some f => f
  | none => s.frameOf x.d.buf x.d.length.toNat

/-- A frame moves to DRAM with its metadata tile (R464): new buffers of SPILL_POOL, the cells given back, and its entry
written to the ring at SPILL_BASE through the cache. -/
def State.spill (s : State) (n : Nat) (x : QEnt) : State :=
  let u := s.queue n
  let d := x.d
  match s.storeFrame u.cfg.spillPool.toNat (s.metaOf d.buf) (s.entFrame x) with
  | none =>
    (((s.allocFail u.cfg.spillPool.toNat).modQueue n fun u =>
      { u with st.spillNoBuf := satInc u.st.spillNoBuf, dropSince := u.dropSince + 1 })).entryGone d.buf x.pkt
  | some (s1, h) =>
    let x' : QEnt := { x with e.desc := { d with buf := h }.toTile, e.dram := 1, arrived := none }
    let a := u.cfg.spillBase.toNat + u.dramW % 2 ^ u.cfg.spillLog2.toNat * 64
    ((s1.dropFrame d.buf).cachedWrite 2 a (bytesOf x'.e.toTile 64)).modQueue n fun u =>
      { u with dram := u.dram ++ [x'], dramW := u.dramW + 1
               st.spilled := satInc u.st.spilled, st.enqFrames := satInc u.st.enqFrames }

/-- The egress port code that an entry's frame leaves by: its queue's port, or the link of its destination. -/
def State.leavesBy (s : State) (n : Nat) (x : QEnt) : Option Nat :=
  if n ≥ 7680 then (s.pickLink ((n - 7680) / 8) x.fpath.toNat).map (48 + ·) else some (s.queue n).cfg.port.toNat

/-- The terms of R41: bits on the wire of the TC7 frames queued for a TC7 frame's egress port, in whichever queue, and not
started. -/
def State.tc7Ahead (s : State) (n : Nat) (x : QEnt) : Nat :=
  if (s.queue n).tc n ≠ 7 then 0
  else match s.leavesBy n x with
    | none => 0
    | some p => (s.tm.queues.map fun (m, u) =>
        if u.tc m = 7 then ((u.onchip.filter fun y => s.leavesBy m y = some p).map fun y => 8 * wireBytes p y.charged).sum
        else 0).sum

/-- Whether a queue's next frame goes to its DRAM part (R464). -/
def Queue.spills (u : Queue) (len : Nat) : Bool :=
  u.cfg.spill = 1 && (!u.dram.isEmpty || decide (entBytes u.onchip + len > u.cfg.spillBytes.toNat))

/-- A frame for another device, by its DEST_DEV (R433); a fabric arrival that is not in transit is for this one, also
under the other ID of its pair (R541). -/
def State.away (s : State) (x : QEnt) : Bool :=
  x.transit.isSome || (x.arrived.isNone && decide (x.d.destDev ≠ s.devId))
/-- Its destination: of a frame in transit, its header's. -/
def QEnt.dest (x : QEnt) : Nat :=
  match x.transit with
  | some h => (FabFrame.ofBytes (bytesOf h 16) []).dest.toNat
  | none => x.d.destDev.toNat
/-- The queue of an entry (R433). -/
def State.queueOf (s : State) (x : QEnt) : Nat :=
  if s.away x then 7680 + 8 * x.dest + x.d.tc.toNat else x.d.queue.toNat

/-- SRC_DEV of an entry: of a frame in transit, its header's. -/
def QEnt.source (x : QEnt) (own : BitVec 6) : Nat :=
  match x.transit with
  | some h => (FabFrame.ofBytes (bytesOf h 16) []).src.toNat
  | none => own.toNat

/-- An entry is offered to the traffic manager (R437); its references are taken. `by'` is the slice whose program
committed it, if row 4 applies to it. -/
def State.offer (s : State) (x : QEnt) (by' : Option Nat) : State :=
  let d := x.d
  let n := s.queueOf x
  let u := s.queue n
  let drop := s.entryGone d.buf x.pkt
  if s.sys.mode = .shadow then drop.bump .egressMuted 0
  else if !s.sys.mode.live then drop.bump .modeDrop 0
  else if s.away x ∧ (s.pickLink x.dest x.fpath.toNat).isNone then drop.unreach (x.source s.devId) x.dest
  else if !s.away x ∧ n ≥ 7680 then drop.bump .tmFabqLocal 0
  else if u.cfg.enable = 0 then drop.bump .tmQDisabled 0
  else if !s.away x ∧ by'.any (fun o => o ≠ u.cfg.owner.toNat) then drop.bump .tmNotOwner 0
  else if d.tc.toNat ≠ u.tc n then drop.bump .tmClassErr 0
  else if s.launchBad u x.e then drop.bump .txLaunchBad u.cfg.port.toNat
  else if !u.spills x.charged ∧ !s.storeRoom (u.tc n) then drop.bump .tmEntryFull 0
  else
    let s1 := s.makeRoom n x.charged u.ents.length
    let x' : QEnt := { x with e.enqLocal := BitVec.ofNat 64 s.now, ahead := s.tc7Ahead n x }
    if (s1.queue n).spills x.charged then s1.spill n x'
    else s1.modQueue n fun u => { u with onchip := u.onchip ++ [x'], st.enqFrames := satInc u.st.enqFrames }

/-! ## Shapers (R444 to R447) -/

/-- A shaper's tokens at a local time, in units of a byte / 8,000,000 (R446). -/
def Shaper.at (h : Shaper) (now : Nat) : Int :=
  min ((h.cfg.burst.toNat * 8000000 : Nat) : Int) (h.tok + ((now - h.last) * h.cfg.rate.toNat : Nat))
/-- eligible of R446. -/
def Shaper.eligible (h : Shaper) (now : Nat) : Bool := h.cfg.enable = 0 || decide (h.at now > 0)
/-- A frame is charged; TOKENS never fall below −9,733 B. -/
def Shaper.charge (h : Shaper) (now len : Nat) : Shaper :=
  { h with tok := max (-(9733 * 8000000)) (h.at now - (len + h.cfg.overhead.toInt) * 8000000), last := now }

/-- The shapers of a queue's frames on a port (R444): SHn, PS(8p + c) for classes 0 to 6, PS(512 + p). -/
def shapersOf (n p tc : Nat) : List Nat :=
  if tc = 7 then [8192 + 512 + p] else [n, 8192 + 8 * p + tc, 8192 + 512 + p]

/-- Every shaper that applies is eligible; TC7 ignores them (R441). -/
def State.shaped (s : State) (n p tc : Nat) : Bool :=
  tc = 7 || (shapersOf n p tc).all fun i => (s.shaper i).eligible s.now

/-- Charge the shapers of a frame at its first bit. -/
def State.chargeAll (s : State) (n p tc len : Nat) : State :=
  (shapersOf n p tc).foldl (fun (s : State) i => s.modShaper i fun h => h.charge s.now len) s

/-! ## The bytes and the FCS that leave -/

/-- Z_n of R105. -/
def crcZeros (n : Nat) (x : Word32) : Word32 := crcRun 0xEDB88320 x (List.replicate n 0)
/-- One bit of the inverse of the CRC register's step. -/
def crcUnbit (c : Word32) : Word32 := if c.getLsbD 31 then ((c ^^^ 0xEDB88320) <<< 1) ||| 1 else c <<< 1
/-- Z_6 inverted (R421). -/
def crcUnzero6 (x : Word32) : Word32 := (List.range 48).foldl (fun c _ => crcUnbit c) x
/-- reg0 of R105. -/
def crcReg0 (bs : List Byte) : Word32 := crcRun 0xEDB88320 0 bs

/-- The FCS by FCS_MODE (R106, R107). -/
def egressFcs (mode : BitVec 2) (fcsIn d : Word32) (t : Nat) (body : List Byte) : Word32 :=
  if mode = 0 then fcsIn else if mode = 1 then fcsIn ^^^ crcZeros t d else crc32 body

/-- The primary without its last 6 committed bytes (R421). -/
def stripTail (body : List Byte) (fcs : Word32) : List Byte × Word32 :=
  let x := body.drop (body.length - 6)
  (body.take (body.length - 6), ~~~ crcUnzero6 (~~~ fcs ^^^ crcReg0 x))
/-- The redundancy control trailer appended (R420). -/
def addTrailer (body : List Byte) (fcs : Word32) (x : List Byte) : List Byte × Word32 :=
  (body ++ x, ~~~ (crcZeros 6 (~~~ fcs) ^^^ crcReg0 x))

/-! ## Timestamp insertion (R114) -/

/-- Offset behind the VLAN tags of a frame. -/
def afterTags (f : List Byte) (tpidB : Nat) : Nat → Nat → Nat
  | 0, o => o
  | k + 1, o => if beNat (slice f o 2) = 0x8100 ∨ beNat (slice f o 2) = tpidB then afterTags f tpidB k (o + 4) else o

/-- Where a PTP event message begins, and its transport: 0 IEEE 802.3, 1 UDP over IPv4, 2 UDP over IPv6. -/
def ptpAt (f : List Byte) (tpidB : Nat) : Option (Nat × Nat) :=
  let o := afterTags f tpidB 4 12
  let et := beNat (slice f o 2)
  let ihl := ((nthByte f (o + 2)).extractLsb' 0 4).toNat * 4
  let event (q : Nat) (k : Nat) := if ((nthByte f q).extractLsb' 0 4).toNat ≤ 3 then some (q, k) else none
  if et = 0x88F7 then event (o + 2) 0
  else if et = 0x0800 ∧ (nthByte f (o + 11)).toNat = 17 ∧ beNat (slice f (o + 2 + ihl + 2) 2) = 319 then
    event (o + 2 + ihl + 8) 1
  else if et = 0x86DD ∧ (nthByte f (o + 8)).toNat = 17 ∧ beNat (slice f (o + 42 + 2) 2) = 319 then event (o + 50) 2
  else none

/-- Ones' complement sum of 16-bit words in network order. -/
def sum16 (bs : List Byte) : Nat :=
  (List.range ((bs.length + 1) / 2)).foldl (fun a i =>
    let t := a + beNat (slice bs (2 * i) 2)
    t % 65536 + t / 65536) 0

/-- Bytes of a PTP message replaced, `at'` bytes from its beginning at `o`, and the UDP checksum's repair (R114): zero under
IPv4; under IPv6 the two bytes after the message take up the change. -/
def ptpPatch (f : List Byte) (o k at' : Nat) (new : List Byte) : List Byte :=
  let old := slice f (o + at') new.length
  let g := overlay f (o + at') new
  if k = 1 then overlay g (o - 2) [0, 0]
  else if k = 2 then
    let e := o - 8 + beNat (slice f (o - 4) 2) - 2
    let v := (beNat (slice f e 2) + sum16 old + (65535 - sum16 new)) % 65535
    overlay g e (beBytes (BitVec.ofNat 16 v) 2)
  else g

/-- Add to the correctionField of the message at `o`. -/
def ptpCorrect (f : List Byte) (o k : Nat) (ns : Int) : List Byte :=
  ptpPatch f o k 8 (beBytes (beBits 64 (slice f (o + 8) 8) + BitVec.ofInt 64 (ns * 65536)) 8)

/-- What the egress MAC does to a PTP event message at a PTP port (R114). A transparent clock adds the residence time, and
peer-to-peer the delay of the link on which a Sync came; an ordinary or boundary clock in one-step operation writes the
origin timestamp, or for a Pdelay_Resp the turnaround time. -/
def State.ptpEgress (s : State) (p : Nat) (d : Desc) (tsWall : Word) (body : List Byte) : List Byte :=
  match ptpAt body (s.port p).cfg.tpidB.toNat with
  | none => body
  | some (o, k) =>
    let ty := ((nthByte body o).extractLsb' 0 4).toNat
    let w := s.txStamp p
    let stay : Int := (w.toNat : Int) - tsWall.toNat
    let i := d.inPort.toNat
    if s.time.ptpClock.clockType.toNat ≥ 3 then
      if d.typeV = 2 then body
      else ptpCorrect body o k (stay + if s.time.ptpClock.clockType = 4 ∧ ty = 0 then
        ((s.ptpSt i).meanDelayNs.toNat : Int) + (s.ptpPort i).asymNs.toInt else 0)
    else if (s.ptpPort p).oneStep = 0 then body
    else if ty = 3 then (if d.typeV = 2 then body else ptpCorrect body o k stay)
    else ptpPatch body o k 34 (ptpTime w)

/-- In two-step operation the egress timestamp of an event message returns to the PTP engine (R114). -/
def State.ptpReturn (s : State) (p : Nat) (body : List Byte) : State :=
  if (s.ptpPort p).enable = 1 ∧ (s.ptpPort p).oneStep = 0 ∧ s.time.ptpClock.clockType.toNat ≤ 2 then
    match ptpAt body (s.port p).cfg.tpidB.toNat with
    | some (o, _) => s.ptpStamped p (beBits 16 (slice body (o + 30) 2))
    | none => s
  else s

/-- The frame that an entry sends on port code `p`; a fabric arrival goes as it came (R106). Content, PTP timestamp
insertion with its change of the FCS (R109), strip, trailer and FCS. -/
def State.egressBytes (s : State) (p : Nat) (x : QEnt) : List Byte :=
  let d := x.d
  let f := s.entFrame x
  let body := f.take (d.length.toNat - 4)
  let m := MetaTile.ofTile (s.metaOf d.buf)
  let fcsIn := if d.typeV = 3 then leBits 32 (f.drop (d.length.toNat - 4)) else m.fcsIn
  let fcs := egressFcs d.fcsMode fcsIn x.e.fcsD x.tail body
  let clock := p < 33 ∧ (s.ptpPort p).enable = 1 ∧ d.typeV ≠ 3
  let body' := if clock then s.ptpEgress p d m.tsWall body else body
  let fcs' := if clock then fcs ^^^ crcReg0 (body.zipWith (· ^^^ ·) body') else fcs
  let (b1, f1) := if x.e.strip = 1 then stripTail body' fcs' else (body', fcs')
  let (b2, f2) := if x.e.trailerEn = 1 then addTrailer b1 f1 (bytesOf x.e.trailer 6) else (b1, f1)
  b2 ++ bytesOf f2 4

end Sys2Proof.Machine
end

