-- ==== Sys2Proof/Machine/Reed.lean ====
section
/-!
DEFINITION. The Reed, chapter 8: ends (R210, R235), commit at the head (R236 to R239), copies and trailers (R419 to
R421), origin frames (R240, R241), hole skips (R242, R243), replay after a core's stop (R245 to R247), and the mode's
drops (R249).
-/
namespace Sys2Proof.Machine

/-! ## Records that are done -/

/-- Change a record. -/
def State.modRec (s : State) (r : Nat) (f : SeqRecord → SeqRecord) : State :=
  s.modCtx r fun k => { k with record := f k.record }

/-- A READY context that has no reference of its own takes one before its slot is released, since its instance goes on and
ends late (R243, R244); where none can be taken (R155) it leaves its list. -/
def State.keepFrame (s : State) (c : Nat) : State :=
  let k := s.ctx c
  if k.state = .ready ∧ !k.holdsRef then
    let s1 := s.takeRef c
    if (s1.ctx c).holdsRef then s1 else (s1.unready false c).modCtx c fun k => { k with state := .ended, live := false }
  else s

/-- A record is DONE: its hand-backs that wait for a context are withdrawn (R211), its slot is released while its mark
holds (R238), and its contexts are freed once nothing of the packet is left. -/
def State.doneRec (s : State) (r : Nat) (skipped : Bool) : State :=
  let s1 := s.modRec r fun x => { x with st := .done, skipped := skipped, endRec := none }
  let s2 := (s1.task.handbacks.filter fun h => h.recCtx = r).foldl State.withdraw s1
  let s3 := (s2.packetOf r).foldl State.keepFrame s2
  (s3.releaseCtx r).tryFree r

/-- HEAD_SEQ moves past a DONE head; the next head's timer starts from 0 (R236, R242). -/
def State.passHead (s : State) (od : Nat) : State :=
  match (s.dom od).recs with
  | [] => s
  | r :: rest =>
    (s.modDom od fun d =>
      { d with st.headSeq := d.st.headSeq + 1, recs := rest, headSince := s.now }).tryFree r

/-- The domain of a record. -/
def State.odOf (s : State) (r : Nat) : Nat := (s.ctx r).desc.od.toNat

/-- What an end record or an origin frame's context still holds, discarded. -/
def State.discardEnd (s : State) (r : Nat) : State :=
  let k := s.ctx r
  let s1 := match k.record.endRec with
    | some e => (s.dropInstance e.winner).dropRecorded e.recd true
    | none => s
  match k.origin with
  | some o => if k.record.st = .done then s1 else s1.dropFrame o.desc.buf
  | none => s1

/-- The procedure drop of R238, with the domain counter it raises. -/
def State.dropRec (s : State) (r : Nat) (count : OdSt → OdSt) : State :=
  let od := s.odOf r
  ((s.discardEnd r).modDom od fun d => { d with st := count d.st }).doneRec r false

/-! ## Ends (R210, R235, R240, R241) -/

/-- Contexts that origin frames of other domains need can all be taken, by the normal-packet rule of R195. -/
def State.roomFor (s : State) (os : List Origin) : Bool :=
  let k := (os.filter fun o => (s.dom o.desc.od.toNat).cfg.enable = 1).length
  k = 0 || (decide (k ≤ s.freeCtxs) && decide (s.task.cfg.expReserve.toNat - s.expHeld ≤ s.freeCtxs - k))

/-- An origin frame of another domain takes a context and that domain's next number (R240). Where the class is not
served it is dropped; its number, if the domain takes numbers, is consumed. -/
def State.numberOrigin (s : State) (o : Origin) : State :=
  let od := o.desc.od.toNat
  if (s.dom od).cfg.enable = 0 then (s.dropFrame o.desc.buf).bump .spreadErr 33
  else
    let c := s.nextCtx
    let s1 := (s.modCtx c fun k =>
      { epoch := k.epoch, state := .ended, desc := o.desc, port := 33, origin := some o }).openRec od c
    if s.serves od o.desc.tc.toNat then s1.modRec c fun x => { x with st := .ready }
    else ((s1.dropFrame o.desc.buf).bump .spreadErr 33).modRec c fun x => { x with st := .done }

/-- h_n of R107. -/
def headLen (lo ln : Nat) : Int := (ln : Int) - lo + (min 256 (lo - 4) : Nat)

/-- The end record that an end forms from its thread's slice (R201, R235): the head window up to the new length. -/
def State.endRecord (s : State) (c t : Nat) (i : Inst) : EndRec :=
  let base := 0x10000 + t * 0x1000
  let d := Desc.ofTile (leBits 256 ((s.core c).lmRead base 32))
  let n := min 320 (headLen (s.ctx i.idx).desc.length.toNat d.length.toNat).toNat
  { head := some ((s.core c).lmRead (base + 0x100) n), action := d.action, queue := d.queue, qvalid := d.qvalid
    destDev := d.destDev, outPort := d.outPort, tc := d.tc, length := d.length, winner := i.idx
    recd := { i.recd with handles := [], origins := i.recd.origins.filter (·.own) } }

/-- The handles that an instance still records drop at its end (R319). -/
def State.dropHandles (s : State) (d : Recorded) : State := s.dropRecorded { d with origins := [] } false

/-- The thread of a task that has ended is free for the next one (R235), and what it held goes (R207). -/
def State.endThread (s : State) (c t : Nat) (i : Inst) : State :=
  (s.taskLeaves c t i.tg).modTh c t fun h =>
    { h with inst := none, st := if h.st = .stopped then .stopped else .idle, atEnd := false }

/-- A retired end is offered to the Reed: it is accepted, or discarded, or waits for contexts (R240). -/
def State.taskEnd (s : State) (c t : Nat) (i : Inst) : State :=
  let others := i.recd.origins.filter fun o => !o.own
  if i.task then
    if s.roomFor others then ((others.foldl State.numberOrigin (s.dropHandles i.recd)).endThread c t i).bgEnd i.idx else s
  else if (s.ctx (s.ctx i.idx).recCtx).record.st ≠ .opened then
    (s.acceptEnd i.idx { s.endRecord c t i with recd := i.recd }).endThread c t i
  else if s.roomFor others then
    let e := s.endRecord c t i
    ((others.foldl State.numberOrigin (s.dropHandles i.recd)).acceptEnd i.idx e).endThread c t i
  else s

/-- Lock and channel requests of the instance that have not been served: they take effect before the locks and staged
words of its task go (R207, R362). -/
def State.lockOpsOut (s : State) (c t : Nat) : Bool :=
  s.weft.ops.any fun o => o.core == c && o.thread == t && o.done.isNone && (o.word.helper == 6 || o.word.helper == 7)

/-- `end` (R298): the task ends after its last completion (R210). -/
def execWEnd (c : Fin 68) (t : Fin 8) (s : State) : Out :=
  ok s (s.issue c t .endTask fun s =>
    if (s.th c t).priv = .m then s.fault c t .privilege 0
    else s.modTh c t fun h => { h.count with atEnd := true, st := if h.depcnt = 0 then .running else .waiting })

/-- The thread's end has retired (R235): no completion is left to wait for. A core that stops after it leaves it to be
accepted (R30). -/
def Thread.ended (h : Thread) : Bool := h.atEnd && h.depcnt == 0 && (h.st == .running || h.st == .stopped)

/-- TASK_END_ACCEPT: an end that has no completion left reaches the Reed (R235). -/
def execTaskEndAccept (c : Fin 68) (t : Fin 8) (s : State) : Out :=
  let h := s.th c t
  ok s (match h.inst with
    | none => s
    | some i =>
      if s.sys.mode.live ∧ h.ended ∧ ((s.core c).active ∨ h.st = .stopped) ∧ !s.lockOpsOut c t then s.taskEnd c t i else s)

/-! ## The committed frame (R25, R107, R109, R238) -/

/-- A frame as it is committed: descriptor with its new buffer, length and FCS_MODE, D and t of R107. -/
structure Woven where
  desc : Desc
  fcsD : Word32 := 0
  tail : Nat := 0
deriving DecidableEq, Repr

/-- The descriptor that a commit passes on: the context's, with what the program may set (R201). -/
def Ctx.finalDesc (k : Ctx) (e : EndRec) : Desc :=
  { k.desc with action := e.action, queue := e.queue, qvalid := e.qvalid, destDev := e.destDev, outPort := e.outPort
                tc := e.tc, length := e.length, fcsMode := 0 }

/-- A LENGTH that breaks the limits of R25. -/
def lengthBad (k : Ctx) (e : EndRec) : Bool :=
  let h := headLen k.desc.length.toNat e.length.toNat
  decide (h < 0 ∨ h > 320) || decide (e.length.toNat > 9600)

/-- reg of R105. -/
def crcReg (bs : List Byte) : Word32 := crcRun 0xEDB88320 (BitVec.allOnes 32) bs

/-- The frame of a record as committed, one reference taken on every cell (R153): the original cells where nothing has
changed, else the edited head in new cells of the same pool, linked to the tail (R152) and padded to 64 B (R109).
`none` when the pool has too few cells. -/
def State.weave (s : State) (k : Ctx) (e : EndRec) : Option (State × Woven) :=
  let d := k.finalDesc e
  let lo := k.desc.length.toNat
  let orig := (s.frameOf k.desc.buf lo).take (min 256 (lo - 4))
  let plain := some (s.holdFrame d.buf, (⟨d, 0, 0⟩ : Woven))
  match e.head with
  | none => plain
  | some hn =>
    if hn = orig then plain
    else
      let h := hn ++ List.replicate (64 - e.length.toNat) 0
      let tail := if lo - 4 > 256 then (s.cellsOf d.buf).drop 1 else []
      match s.allocMany (s.cell (recOf d.buf)).pool.toNat ((64 + h.length + 255) / 256) with
      | none => none
      | some (_, []) => none
      | some (s1, i :: r) =>
        let s2 := ((s1.dataWrite i 0 (bytesOf (s.metaOf d.buf) 64)).markMeta i).fillChain 256 (i :: r) 64 h
        let s3 := match tail with
          | [] => s2
          | x :: _ => (tail.foldl State.addRef s2).modRecord (r.getLastD i) fun c =>
              { c with last := 0, next := BitVec.ofNat 22 x, nextOff := 64 }
        some (s3, ⟨{ d with buf := handleOf i, length := BitVec.ofNat 14 (max 64 e.length.toNat), fcsMode := 1 },
          crcReg h ^^^ crcReg orig, lo - 4 - min 256 (lo - 4)⟩)

/-- A cell of the frame takes no further reference, so that the frame cannot be committed (R155). -/
def State.refsFull (s : State) (k : Ctx) (e : EndRec) : Bool :=
  let is := s.cellsOf k.desc.buf
  let tail := match e.head with
    | none => is
    | some hn => if hn = (s.frameOf k.desc.buf k.desc.length.toNat).take (min 256 (k.desc.length.toNat - 4)) then is else is.drop 1
  tail.any fun i => (s.cell i).refcnt == 255

/-- The redundancy control trailer of R420, network byte order; `lan` 0xA for the primary, 0xB for copy B. -/
def State.trailer (s : State) (w : Woven) (port : Option Nat) (num : BitVec 16) (lan : BitVec 4) : BitVec 48 :=
  let f := s.frameOf w.desc.buf w.desc.length.toNat
  let tpidB := match port with | some p => (s.port p).cfg.tpidB.toNat | none => 0x8100
  let n := (afterTags f tpidB 4 12 - 12) / 4
  let size := BitVec.ofNat 12 (w.desc.length.toNat + 6 - 16 - 4 * n)
  leBits 48 (beBytes num 2 ++ beBytes (lan ++ size) 2 ++ [0x88, 0xFB])

/-- The queue entry of a committed frame (R436). -/
def State.entryOf (s : State) (k : Ctx) (w : Woven) (launch : Option (BitVec 3 × Word)) (lan : Option (BitVec 4)) : QEnt :=
  let port := if w.desc.destDev = s.devId then some (s.queue w.desc.queue.toNat).cfg.port.toNat else none
  let tr : Option (BitVec 48) := match lan, k.record.seqGen with
    | some l, some g => if g.prp then some (s.trailer w port g.num l) else none
    | _, _ => none
  { e := { desc := w.desc.toTile, fcsD := w.fcsD, launchTime := (launch.map (·.2)).getD 0
           lscale := (launch.map (·.1)).getD 0, launchEn := bit launch.isSome, trailerEn := bit tr.isSome
           trailer := tr.getD 0 }
    fpath := k.fpath, tail := w.tail, pkt := k.pkt }

/-- Who committed an entry, for row 4 of R437: none for a default action. -/
def Ctx.by' (k : Ctx) : Option Nat := if k.byProgram then some k.slice else none

/-- An entry goes to the traffic manager and keeps its packet in the device (R185). -/
def State.hand (s : State) (k : Ctx) (x : QEnt) : State := (s.legAdd x.pkt).offer x k.by'

/-! ## Copies (R419) -/

/-- A copy B of a frame whose cells `w` names: to QUEUE_B on this device. -/
def State.copyB (s : State) (k : Ctx) (w : Woven) (launch : Option (BitVec 3 × Word)) (queue : Nat)
    (lan : Option (BitVec 4)) : State :=
  let w' : Woven := { w with desc := { w.desc with queue := BitVec.ofNat 13 queue, qvalid := 1, destDev := s.devId } }
  let x := s.entryOf k w' launch lan
  (s.hand k { x with e := { x.e with copyB := 1 } }).bump .srCopyB k.slice

/-- The copy that a SEQ_RECV has armed: the frame as received. It is not made where no reference can be taken (R155). -/
def State.copyRecv (s : State) (k : Ctx) (e : EndRec) : State :=
  match k.record.seqRecv.bind (·.copyB) with
  | some q =>
    if !s.canHold k.desc.buf then s.holdFrame k.desc.buf
    else (s.holdFrame k.desc.buf).copyB k ⟨{ k.finalDesc e with length := k.desc.length }, 0, 0⟩ e.recd.launch q none
  | none => s

/-- The copy that a SEQ_GEN has armed: the frame as committed, one reference already taken on it. -/
def State.copyGen (s : State) (k : Ctx) (e : EndRec) (w : Woven) : State :=
  match k.record.seqGen.bind (·.copyB) with
  | some q => s.copyB k w e.recd.launch q (some 0xB)
  | none => s

/-- Whether a SEQ_GEN has armed a copy. -/
def Ctx.genCopy (k : Ctx) : Bool := (k.record.seqGen.bind (·.copyB)).isSome

/-! ## The commit step (R237, R238) -/

/-- An origin frame is committed as a FORWARD (R240). -/
def State.commitOrigin (s : State) (od : Nat) (o : Origin) : State :=
  if !s.serves od o.desc.tc.toNat then (s.dropFrame o.desc.buf).bump .spreadErr 33
  else s.offer { e := { desc := o.desc.toTile, launchTime := (o.launch.map (·.2)).getD 0
                        lscale := (o.launch.map (·.1)).getD 0, launchEn := bit o.launch.isSome } } (some o.slice)

/-- The last part of every commit: own-domain origin frames in build order, the winner's reference, then the slot. -/
def State.commitEnd (s : State) (r : Nat) (e : EndRec) : State :=
  let od := s.odOf r
  ((e.recd.origins.foldl (fun (s : State) o => s.commitOrigin od o) s).dropInstance e.winner).doneRec r false

/-- The primary of a FORWARD: STRIP applies to a frame of 70 B or more (R421). -/
def State.primary (s : State) (k : Ctx) (e : EndRec) (w : Woven) : State :=
  let x := s.entryOf k w e.recd.launch (some 0xA)
  if k.record.seqRecv.any (·.strip) then
    if w.desc.length.toNat < 70 then (s.hand k x).bump .srNoTag k.slice
    else s.hand k { x with e := { x.e with strip := 1 } }
  else s.hand k x

/-- The frame of a TO_HOST: content and FCS as it would leave under its FCS_MODE. -/
def State.hostFrame (s : State) (w : Woven) : List Byte :=
  let body := (s.frameOf w.desc.buf w.desc.length.toNat).take (w.desc.length.toNat - 4)
  body ++ bytesOf (egressFcs w.desc.fcsMode (MetaTile.ofTile (s.metaOf w.desc.buf)).fcsIn w.fcsD w.tail body) 4

/-- A TO_HOST into the ring that the program named, or the port's (R28, R329). -/
def State.toHost (s : State) (k : Ctx) (e : EndRec) (w : Woven) : State :=
  let p := k.desc.inPort.toNat
  let ring := e.recd.hostRing.getD ((s.bank (s.bankOf k.desc.rsver)).port p).defHostRing.toNat
  ((s.legAdd k.pkt).hostDeliver ring w.desc.buf p (k.desc.express = 1) (s.hostFrame w) k.pkt).dropFrame w.desc.buf

/-- A counter of the record's domain. -/
def State.countOd (s : State) (r : Nat) (f : OdSt → OdSt) : State := s.modDom (s.odOf r) fun d => { d with st := f d.st }

/-- DROPPED of R232. -/
def OdSt.drop (o : OdSt) : OdSt := { o with dropped := satInc o.dropped }

/-- FORWARD or TO_HOST (R238): the primary, then its copies. A frame whose chain reaches a bad record (R156), or whose cells
take no further reference (R155), is dropped and counted in DROPPED (DESIGN CHOICE, log entry 91). -/
def State.commitSend (s : State) (r : Nat) (k : Ctx) (e : EndRec) : State :=
  if lengthBad k e then s.dropRec r fun o => { o with reedBadLen := satInc o.reedBadLen }
  else if (s.frameBad k.desc.buf).isSome then (s.foundBad k.desc.buf).dropRec r OdSt.drop
  else if s.refsFull k e then (s.holdFrame k.desc.buf).dropRec r OdSt.drop
  else match s.weave k e with
    | none => (s.allocFail (s.cell (recOf k.desc.buf)).pool.toNat).dropRec r
        fun o => { o with reedNoBuf := satInc o.reedNoBuf }
    | some (s1, w) =>
      let gen : Bool := k.genCopy && s1.canHold w.desc.buf
      let s2 := if k.genCopy then s1.holdFrame w.desc.buf else s1
      let s3 := (if e.action = 1 then s2.primary k e w else s2.toHost k e w).copyRecv k e
      ((if gen then s3.copyGen k e w else s3).countOd r fun o => { o with committed := satInc o.committed }).commitEnd r e

/-- DROP: a copy B that was armed leaves (R419); one that carries the frame as edited needs the frame to be formed. -/
def State.commitDrop (s : State) (r : Nat) (k : Ctx) (e : EndRec) : State :=
  let s1 := s.copyRecv k e
  let s2 := if k.genCopy ∧ !lengthBad k e ∧ !s1.refsFull k e ∧ (s1.frameBad k.desc.buf).isNone then
      match s1.weave k e with
      | some (t, w) => t.copyGen k e w
      | none => s1.allocFail (s1.cell (recOf k.desc.buf)).pool.toNat
    else s1
  (s2.countOd r OdSt.drop).commitEnd r e

/-- A READY head is committed by its ACTION (R237); a recorded NONCONFORM drops it first (R426). -/
def State.commitRec (s : State) (r : Nat) : State :=
  let k := s.ctx r
  match k.origin, k.record.endRec with
  | some o, _ =>
    ((s.commitOrigin (s.odOf r) o).countOd r fun o => { o with committed := satInc o.committed }).doneRec r false
  | none, none => s.doneRec r false
  | none, some e =>
    match k.record.forced with
    | some p => (((s.modPolicer p fun x =>
        { x with st := { x.st with forcedDrop := satInc x.st.forcedDrop } }).countOd r OdSt.drop)).commitEnd r e
    | none =>
      if e.action = 1 ∧ !lengthBad k e ∧ e.qvalid = 0 ∧ e.destDev = s.devId then (s.countOd r OdSt.drop).commitEnd r e
      else if e.action = 1 ∨ e.action = 3 then s.commitSend r k e
      else if e.action = 2 then s.commitDrop r k e
      else ((s.bump .noAction k.slice).countOd r OdSt.drop).commitEnd r e

/-- A domain has an action for the Reed (R236): its head is READY or DONE, or open for ORDER_TIMEOUT (R242). -/
def State.reedActs (s : State) (od : Nat) : Bool :=
  let d := s.dom od
  match d.recs with
  | [] => false
  | r :: _ => match (s.ctx r).record.st with
    | .done | .ready => true
    | .opened => decide (d.cfg.orderTimeout.toNat ≤ s.now - d.headSince)
    | .none => false

/-- It is a domain's turn (R236): domains of CLASS 7 first, then the others in round-robin order of their number. Among those
of CLASS 7 the rule gives no order. -/
def State.reedTurn (s : State) (od : Nat) : Bool :=
  let acts := (s.task.domains.map (·.1)).filter s.reedActs
  let top := acts.filter fun d => (s.dom d).cfg.classV = 7
  acts.contains od &&
    (top.contains od ||
      (top.isEmpty &&
        !acts.any fun d => decide ((d + 4095 - s.task.lastOd) % 4096 < (od + 4095 - s.task.lastOd) % 4096)))

/-- The round robin stands at a domain that has acted; CLASS 7 does not move it. -/
def State.reedActed (s : State) (od : Nat) : State :=
  if (s.dom od).cfg.classV = 7 then s else { s with task.lastOd := od }

/-- REED_COMMIT: the Reed's action in the domain whose turn it is (R236). -/
def execReedCommit (od : Fin 4096) (s : State) : Out :=
  ok s (if !s.sys.mode.live ∨ !s.reedTurn od then s
    else match (s.dom od).recs with
      | [] => s
      | r :: _ => match (s.ctx r).record.st with
        | .done => (s.reedActed od).passHead od
        | .ready => ((s.reedActed od).commitRec r).passHead od
        | _ => s)

/-- ORDER_SKIP: the head has been open for ORDER_TIMEOUT, and it is the domain's turn (R236, R242). -/
def execOrderSkip (od : Fin 4096) (s : State) : Out :=
  ok s (if !s.sys.mode.live ∨ !s.reedTurn od then s
    else match (s.dom od).recs with
      | [] => s
      | r :: _ =>
        let d := s.dom od
        if (s.ctx r).record.st ≠ .opened ∨ s.now - d.headSince < d.cfg.orderTimeout.toNat then s
        else
          let s1 := (((s.reedActed od).doneRec r true).passHead od).modDom od fun d =>
            { d with st := { d.st with orderSkip := satInc d.st.orderSkip } }
          if d.cfg.skipEvEn = 1 then s1.notice 0 0x0001 od (d.st.headSeq.setWidth 64) else s1)

/-! ## Replay (R245 to R247) -/

/-- The stopped instance is discarded: its EPOCH is dead, its reference and what it recorded drop (R208, R153). -/
def State.discardRun (s : State) (c t : Nat) (i : Inst) : State :=
  (s.discardInst i).modTh c t fun h => { h with inst := none, atEnd := false }

/-- An activation whose core has stopped (R205): RESTART, or FAULTED the second time. -/
def State.restartBg (s : State) (n : Nat) (again : Bool) (tile : Option Nat) : State :=
  let b := s.bg n
  if again then
    (s.modBg n fun b => { b with obj := { b.obj with state := 4 } }).report 0x0901 (BitVec.ofNat 32 n) 0
      b.obj.owner.toNat
  else
    (s.modBg n fun b => { b with blocked := tile, obj := { b.obj with state := 1, restart := 1 } }).pushReady
      (listKey b.obj.tg.toNat b.obj.prio.toNat) true n true

/-- A poison packet (R247). -/
def State.poison (s : State) (r : Nat) : State :=
  let k := s.ctx r
  let d := (s.warpSlot k.port (k.desc.express = 1) k.slot).desc
  let d := if k.markValid then d else k.desc.toTile
  (s.dropRec r fun o => { o with poisonDrop := satInc o.poisonDrop }).report 0x0103 0 (d.setWidth 288) k.slice

/-- A rewound packet is parsed again on the bank of its RSVER, with the class that the MAC gave it (R165), and goes to the head of its ready list; OD, TG, QUEUE, SEQ
and the rest of its descriptor stand as they were (R145, R187, R245). -/
def State.replay (s : State) (x : Nat) (d : Desc) (attempt : Bool) (tile : Option Nat) : State :=
  let d' : Desc := if attempt then { d with attempt := 1 } else d
  let k := s.ctx x
  let ex : Bool := k.desc.express = 1
  let s1 := if attempt then s.modSlot k.port ex k.slot fun t => { t with desc := d'.toTile } else s
  let (key, _) := s1.keyOf (s1.bankOf d'.rsver) { d' with tc := k.key.extractLsb' 8 3 }
  let s2 := s1.modCtx x fun k =>
    { k with state := .ready, live := true, desc := d', key := key, blocked := tile, handback := false }
  (s2.pushReady (s2.ctx x).list false x true).bump .replayed d'.tg.toNat

/-- One thread of a stopped core (R245). An instance that has ended goes on to TASK_END_ACCEPT (R30). The flag of a poison stop is kept with the core. -/
def State.threadStopped (s : State) (c t : Nat) : State :=
  match (s.th c t).inst with
  | none => s
  | some i =>
    if (s.th c t).ended then s
    else
    let st := (s.core c).st
    let tileFault : Bool := st.stopCause = 8
    let tile := if tileFault then some (st.stopPc.toNat / 64) else none
    let own := decide (t = st.stopThread.toNat) && decide (st.stopCause ≠ 13)
    let s1 := (s.leaveThread c t).discardRun c t i
    if i.task then
      let s2 := s1.restartBg i.idx i.later tile
      if i.later then s2.modCore c fun k => { k with poison := true } else s2
    else
      let x := i.idx
      let r := (s1.ctx x).recCtx
      let s2 := (s1.dropInstance x).modCtx x fun k => { k with state := .ended, live := false }
      if (s2.ctx r).record.st ≠ .opened then s2.tryFree r
      else if (s2.packetOf r).any (fun y => (s2.ctx y).live) then s2
      else if !tileFault ∧ (s2.ctx x).desc.attempt = 1 ∧ own then
        (s2.poison r).modCore c fun k => { k with poison := true }
      else
        match s2.warpRewind x with
        | (s3, none) => s3.dropRec r fun o => { o with markLostDrop := satInc o.markLostDrop }
        | (s3, some d) => s3.replay x d (!tileFault) tile

/-- The procedure core_stopped of R245. -/
def State.coreStopped (s : State) (c : Nat) : State :=
  (List.range 8).foldl (fun (s : State) t => s.threadStopped c t)
    (s.modCore c fun k => { k with poison := false, replayDue := false })

/-! ## Modes (R249, R225) -/

/-- A packet that HOLD or SAFE finds in a context (R36, R249): an open or READY record is dropped, and every instance
with it. MODE_DROP counts each packet once. -/
def State.modeDropRec (s : State) (r : Nat) : State :=
  let k := s.ctx r
  if k.record.st = .opened ∨ k.record.st = .ready then ((s.discardEnd r).bump .modeDrop 0).doneRec r false else s

/-- The threads give up their instances: packets are dropped with their records, activations restart later (R225). -/
def State.dropThread (s : State) (c t : Nat) : State :=
  match (s.th c t).inst with
  | none => s
  | some i =>
    let s1 := (s.leaveThread c t).discardRun c t i
    if i.task then
      (s1.modBg i.idx fun b => { b with obj := { b.obj with state := 1, restart := 1 } }).pushReady
        (listKey (s.bg i.idx).obj.tg.toNat (s.bg i.idx).obj.prio.toNat) true i.idx true
    else (s1.dropInstance i.idx).modCtx i.idx fun k => { k with state := .ended, live := false }

/-- A context's instance that waits on a list is dropped too. -/
def State.dropReady (s : State) (c : Nat) : State :=
  let k := s.ctx c
  if k.state = .ready then
    ((s.unready false c).dropInstance c).modCtx c fun k => { k with state := .ended, live := false }
  else s

/-- The tasks and records of a device that leaves the live modes (R225, R249): HEAD_SEQ becomes NEXT_SEQ in every
domain. -/
def State.reedStop (s : State) : State :=
  let s1 := (List.range (68 * 8)).foldl (fun (s : State) i => s.dropThread (i / 8) (i % 8)) s
  let s2 := (s1.task.ctxs.map (·.1)).foldl State.dropReady s1
  let s3 := (s2.task.ctxs.map (·.1)).foldl State.modeDropRec s2
  let s4 := (s3.task.domains.map (·.1)).foldl (fun (s : State) od =>
    (s.dom od).recs.foldl (fun (s : State) r => s.tryFree r)
      (s.modDom od fun d => { d with st := { d.st with headSeq := d.st.nextSeq }, recs := [] })) s3
  (s4.task.ctxs.map (·.2.recCtx)).foldl State.tryFree s4

/-! ## Commands -/

/-- The status of R232. -/
def State.odStatus (s : State) (od : Nat) : OdSt :=
  let d := s.dom od
  let w : Bool := match d.recs with | [] => false | r :: _ => decide ((s.ctx r).record.st = .opened)
  { d.st with outstanding := BitVec.ofNat 14 (d.st.nextSeq - d.st.headSeq).toNat, headWait := bit w
              headWaitNs := if w then satNat 32 ((s.now - d.headSince) / 64 * 64) else 0 }

/-- OD_CONFIG (R231). -/
def execOdConfig (q : Cmd) (s : State) : Out :=
  let c := OdCfg.ofTile (q.tile 1)
  let d := s.dom q.h
  runCmd (setOp 0x950 .live OdCfg.rsv) q s
    { bad := [(q.h ≥ 4096 || !inR c.orderTimeout.toNat 1000 1000000, .badParam)], owns := isSl0 s q, keys := [(.od, q.h)]
      own := [(decide (d.st.nextSeq ≠ d.st.headSeq) &&
        (decide (c.classV ≠ d.cfg.classV) || decide (d.cfg.enable = 1 ∧ c.enable = 0)), .busy)]
      eff := s.modDom q.h fun d => { d with cfg := c } }

/-- OD_GET (R232). -/
def execOdGet (q : Cmd) (s : State) : Out :=
  runCmd (getOp 0x951 .live) q s
    { bad := [(q.h ≥ 4096, .badParam)], owns := clearOk s q 0, keys := [(.od, q.h)], changes := false
      replyTiles := 3, tiles := [(s.dom q.h).cfg.toTile, (s.odStatus q.h).toTile]
      eff := if q.clear then s.modDom q.h fun d =>
          { d with st := { nextSeq := d.st.nextSeq, headSeq := d.st.headSeq } } else s }

end Sys2Proof.Machine
end

