-- ==== Sys2Proof/Machine/Status.lean ====
section
/-!
DEFINITION. The status tiles that are computed as they are read: IDENT (R548), a core's (R272), the DRAM controller's and
the cache's (R494, R509), the fabric's (R532).
-/
namespace Sys2Proof.Machine

/-- Cores of a state (R272). -/
def State.coresIn (s : State) (st : BitVec 3) : List Nat := (List.range 68).filter fun c => (s.core c).st.state = st

/-- The device holds cores as the mode has left them (R279): what they return to. -/
def State.offline (s : State) : Bool := !s.sys.mode.live

/-- IDENT (R548). -/
def State.ident (s : State) : Ident :=
  { serial := Config.serial, fwVer := s.sys.fwVer, devId := s.devId, mode := s.modeCode, dramPresent := bit s.dramOn
    activeCores := BitVec.ofNat 7 (s.coresIn 0).length, spareCores := BitVec.ofNat 7 (s.coresIn 1).length
    devGen := s.host.devGen }

/-- 24 hours in ns. -/
def dayNs : Nat := 86400000000000

/-- Counting stops of a core within the last 24 h of wall time (R49, R272). -/
def State.stops24 (s : State) (c : Nat) : Nat :=
  ((Tab.get [] s.selv.stopWalls c).filter fun w => s.wall.toNat < w.toNat + dayNs).length

/-- A core's status (R272). -/
def State.coreStatus (s : State) (c : Nat) : CoreSt :=
  { (s.core c).st with
    coreStopCount := Tab.get 0 s.selv.stopCount c
    stops24h := BitVec.ofNat 8 (s.stops24 c)
    groups := (List.range 16).foldl (fun (m : BitVec 16) g =>
      if (Tab.get ({} : TgCfg) s.task.groups g).coreMask.getLsbD c then m ||| (1 <<< g) else m) 0
    dbg := bit ((List.range 8).any fun t => (s.th c t).dbg.isSome) }

/-- The cache's status (R509). -/
def State.cacheStatus (s : State) : CacheSt :=
  let ls := s.dram.lines.filterMap (·.2)
  { s.dram.cacheSt with
    state := if s.dramOn then s.dram.cacheSt.state else 2
    evbUsed := BitVec.ofNat 6 s.dram.evb.length, validLines := BitVec.ofNat 32 ls.length
    dirtyLines := BitVec.ofNat 32 (ls.filter (·.dirty)).length }

/-- Whether a heartbeat path is held (R538). -/
def State.pathHeld (s : State) (p : Nat) : Bool :=
  decide (p < s.fab.twin.npaths.toNat) && (Tab.get ({} : HbPath) s.fab.hb p).held

/-- The fabric's status (R532). -/
def State.fabStatus (s : State) : FabSt :=
  { s.fab.st with pathUp := (List.range 4).foldl (fun (m : BitVec 4) p => if s.pathHeld p then m ||| (1 <<< p) else m) 0 }

end Sys2Proof.Machine
end

