-- ==== Sys2Proof/Machine/Transmit.lean ====
section
/-!
DEFINITION. What a change of PREEMPT_EN waits for (R100, R111), and what a port loses when its link goes down (R120).
-/
namespace Sys2Proof.Machine

/-- PREEMPT_STATE as preemption begins on a port that is up (R110). -/
def PortState.preemptStart (t : PortState) : BitVec 2 :=
  if t.cfg.preemptEn = 0 then 0 else if t.cfg.verifyDis = 1 then 2 else 1

/-- The frame boundary that a change of PREEMPT_EN waits for: a frame has been sent and no remainder is left. -/
def PortState.preemptSettle (t : PortState) : PortState :=
  if t.txHeld.isSome then t
  else if t.preemptOn then { t with st.preemptState := t.preemptStart, preemptOn := false, preemptOff := false }
  else if t.preemptOff then { t with st.preemptState := 0, preemptOff := false }
  else t

/-- The frame being transmitted and the held remainder of a preempted one are lost, and counted in TX_LINK_DOWN. -/
def State.txLost (s : State) (p : Nat) : State :=
  let lose (s : State) (f : Option TxFrame) : State :=
    match f with
    | none => s
    | some f => (s.entryGone (Desc.ofTile f.entry.desc).buf f.pkt).bump .txLinkDown p
  ((lose (lose s (s.port p).tx) (s.port p).txHeld).modPort p fun t => { t with tx := none, txHeld := none }).modTreadle p
    fun d => { d with st.heldRemainder := 0 }

end Sys2Proof.Machine
end

