-- ==== Sys2Proof/Machine/Modes.lean ====
section
/-!
DEFINITION. Operating modes, chapters 2 and 20: what a change of mode stops and starts (R35, R36, R225, R249, R279, R360,
R473, R493, R508), MODE_SET and the listening of R638, takeover and conflict of a twin pair (R539, R540), and the device
fatal fault with its snapshot (R58, R647).
-/
namespace Sys2Proof.Machine

/-! ## Packets that a mode drops (R36) -/

/-- Every queued entry goes, spilled ones too (R473). -/
def State.emptyQueues (s : State) (c : Ctr) : State :=
  (s.tm.queues.map (·.1)).foldl (fun (s : State) n =>
    ((s.queue n).ents.foldl (fun (s : State) x => (s.entryGone x.d.buf x.pkt).bump c 0) s).modQueue n fun u =>
      { u with onchip := [], dram := [], dropSince := u.dropSince + u.ents.length }) s

/-- A held remainder goes with its frame. -/
def State.dropHeld (s : State) (c : Ctr) (f : Option TxFrame) : State :=
  match f with
  | some f => (s.entryGone (Desc.ofTile f.entry.desc).buf f.pkt).bump c 0
  | none => s

/-- The held remainders of preempted frames on the ports and of suspended frames on the links (R111, R515). A suspended
frame leaves its link's retry buffer: it is not sent. -/
def State.dropRemainders (s : State) (c : Ctr) : State :=
  let s1 := (List.range 33).foldl (fun (s : State) p =>
    if (s.port p).txHeld.isSome then
      ((s.dropHeld c (s.port p).txHeld).modPort p fun t =>
        let u : PortState := { t with txHeld := none }
        if u.tx.isSome then u else u.preemptSettle).modTreadle p fun d => { d with st.heldRemainder := 0 }
    else s) s
  (List.range 4).foldl (fun (s : State) k =>
    match (s.link k).held with
    | some f => (s.dropHeld c (some f)).modLink k fun l =>
        { l with held := none, retry := l.retry.filter fun e => e.frame.bytes ≠ f.bytes }
    | none => s) s1

/-- Descriptors that no parse has taken yet. -/
def State.dropUnparsed (s : State) (p : Nat) (x : Bool) : State :=
  ((((s.warp p).ring x).slots.filter fun (_, t) => t.state = .written && !t.parsing).foldl
    (fun (s : State) (e : Nat × WarpSlot) =>
      ((s.dropFrame (Desc.ofTile e.2.desc).buf).bump .modeDrop 0).modSlot p x e.1 fun _ => {}) s).warpAdvance p x

/-- Warp rings and the staging behind them. -/
def State.dropWarps (s : State) : State :=
  let s1 := (s.buf.warps.map (·.1)).foldl (fun (s : State) p => (s.dropUnparsed p true).dropUnparsed p false) s
  (s1.ports.map (·.1)).foldl (fun (s : State) p =>
    ((s.port p).staging.foldl (fun (s : State) d => (s.dropFrame (Desc.ofTile d.desc).buf).bump .modeDrop 0) s).modPort p
      fun t => { t with staging := [] }) s1

/-- Frames that wait in the reorder store (R520). -/
def State.dropReorder (s : State) : State :=
  let n := (s.fab.rxStreams.map fun (_, x) => x.held.length).sum
  let s1 := { s with fab.rxStreams := s.fab.rxStreams.map fun (e : Nat × FabStream) => (e.1, { e.2 with held := [], holding := false }) }
  s1.bumpBy .modeDrop 0 n

/-! ## Cores (R275, R277, R279) -/

/-- A stop is recorded once the watchdog, or the mode, has noticed it (R62, R275). -/
def State.noticeStop (s : State) (c : Nat) : State :=
  let k := s.core c
  if k.st.state = 2 ∧ !k.noticed then
    let s1 := { s with selv.stopCount := Tab.upd 0 s.selv.stopCount c satInc }.modCore c fun k => { k with noticed := true }
    s1.report 0x0101 (BitVec.ofNat 32 c) ((((s1.coreStatus c).toTile.setWidth 288) >>> 8) <<< 8) k.st.stopSlice.toNat
  else s

/-- A thread of a core that is restarted. -/
def Thread.restarted (h : Thread) : Thread :=
  { h with st := .idle, from' := .running, evPend := 0, evMask := 0, cpen := 0x777, inst := none, depcnt := 0, unsettled := []
           loops := [], atEnd := false, bar := 0, miss := none, attach := none, stepping := false, haltReq := false, skipBp := false }

/-- A core that is restarted or joins (R277): its memory and shared registers are zero, its threads idle, its
coprocessors as after a restart (R331, R335, R340), ways 2 and 3 of its instruction cache empty. -/
def Core.restarted (k : Core) : Core :=
  { k with lmem := [], cs := [], badWords := [], badCs := [], cp1 := {}, cp2 := {}, cpOwner := [], cpSlice := [], cpOps := [], icache := []
           progress := true, noticed := false, replayDue := false
           threads := k.threads.map fun (i, h) => (i, h.restarted) }

/-- Debug attachments end (R280). -/
def Core.detached (k : Core) : Core :=
  { k with threads := k.threads.map fun (i, h) => (i, { h with dbg := none, stepping := false, haltReq := false, bps := [] }) }

/-- A core goes OFFLINE with the mode; what it returns to is kept (R279). A RETIRED core under its retest is RETIRED
again. -/
def State.offlineCore (s : State) (c : Nat) : State :=
  let st := (s.core c).st.state
  if st = 5 ∨ st = 6 then s
  else if s.host.deferred.any (fun d => d.wait == .coreRetest c) then
    s.modCore c fun k => { k with st := { k.st with state := 5 } }
  else
    let spare := decide (st = 1) || decide (s.weft.underTest = some c)
    (s.noticeStop c).modCore c fun k =>
      { k.detached with st := { k.st with state := 6 }, wasSpare := spare
                        recover := !spare && decide (st = 2 ∨ st = 3 ∨ st = 4) }

/-- A core returns with the mode: restarted without a test, or to its recovery's self-test. -/
def State.onlineCore (s : State) (c : Nat) : State :=
  if (s.core c).st.state ≠ 6 then s
  else s.modCore c fun k =>
    if k.recover then { k with st := { k.st with state := 3 }, recover := false }
    else { k.restarted with st := { k.st with state := if k.wasSpare then 1 else 0 } }

/-! ## DRAM and the cache (R493, R508) -/

/-- The cache writes back every dirty line and its eviction buffer; a bad one that it reads for that is met (R503). -/
def State.cleanCache (s : State) : State :=
  let n := (s.dram.lines.filter fun (_, l) => l.any (·.dirty)).length + s.dram.evb.length
  { s with dram.met := s.dram.met ++ s.dram.lines.filterMap fun (i, l) =>
             l.bind fun x => if x.dirty && x.bad.isSome then some (i, x) else none
           dram.lines := s.dram.lines.map fun (i, l) => (i, l.map fun x => { x with dirty := false, old := 0 })
           dram.evb := []
           dram.cacheSt.writebacks := satAdd s.dram.cacheSt.writebacks n }

/-- The controller follows the mode. -/
def State.dramMode (s : State) (new : Mode) : State :=
  if !s.dramOn then s
  else if new = .hold then { s.cleanCache with dram.st.state := 3 }
  else if s.dram.st.state = 3 then
    { s with dram.st.state := 2, dram.st.trackUpdates := satInc s.dram.st.trackUpdates }
  else s

/-! ## Entering a mode (R636) -/

/-- The replies of HALT and STEP that the end of the attachments forestalls say BUSY. -/
def State.endDebugWaits (s : State) : State :=
  s.host.deferred.foldl (fun (s : State) d =>
    match d.wait with
    | .debugHalt .. | .debugStep .. => s.finish (· == d.wait) .busy 0 []
    | _ => s) s

/-- What leaving the live modes stops. The locks become FREE before their holders' threads go: none is granted on (R360). -/
def State.stopTraffic (s : State) : State :=
  let s1 := ((s.endDebugWaits.freeLocks.reedStop.dropWarps).dropReorder.emptyQueues .modeDrop).dropRemainders .modeDrop
  let s2 := (List.range 68).foldl State.offlineCore s1
  { s2 with weft.underTest := none }

/-- LEASE_FREEZE returns to 0 when the device leaves COMMISSION (R346). -/
def State.thaw (s : State) : State :=
  if s.lock.freeze = 1 then { s with lock.freeze := 0 }.bumpGen (.lockUnit, 0) else s

/-- The device enters a mode: what it leaves stops, what it enters starts, and MODE_CHANGE is written with both modes.
`beat` is 1 where a TAKEOVER heartbeat goes to the twin (R538). -/
def State.enterMode (s : State) (new : Mode) (beat : Bool) : State :=
  let old := s.sys.mode
  if old = new then s
  else
    let s1 := if beat then s.heartbeats true else s
    let s2 := if old.live ∧ !new.live then s1.stopTraffic else s1
    let s3 := if old = .commission then s2.thaw else s2
    let s4 := { s3 with sys.mode := new }.dramMode new
    let s5 := if new.live ∧ !old.live then (List.range 68).foldl State.onlineCore s4 else s4
    let s6 := if new = .shadow then (s5.emptyQueues .egressMuted).dropRemainders .egressMuted else s5
    (s6.reportDev 0x0D05 0 (put 288 0 old.code ||| put 288 8 new.code)).floodLsa

/-- Whether R636 has a row from one mode to another that MODE_SET may take. -/
def modeRow (old new : Mode) : Bool :=
  match old, new with
  | .boot, .commission | .commission, .run | .commission, .shadow | .run, .commission | .run, .shadow
  | .shadow, .commission => true
  | .commission, .hold | .run, .hold | .shadow, .hold => true
  | .hold, .commission | .hold, .run | .hold, .shadow => true
  | o, .safe => o != .safe
  | _, _ => false

/-- Twin ready (R636): TWIN_EN, and a path that is held. -/
def State.twinReady (s : State) : Bool := s.fab.twin.twinEn = 1 && (List.range 4).any s.pathHeld

/-- A debugger on an express thread. -/
def State.debugExpress (s : State) : Bool := (List.range 68).any fun c => (s.th c 0).dbg.isSome

/-- The condition of a row of R636, but for R638. -/
def State.modeReady (s : State) (old new : Mode) : Bool :=
  match new with
  | .run => !s.debugExpress
  | .shadow => s.twinReady && decide (s.fab.twinMode = if old = .run then 3 else 2)
  | _ => true

/-- A mode change begins: the device that is to enter RUN under TWIN_EN first listens for 20 µs (R638). -/
def State.beginMode (s : State) (new : Mode) : State :=
  { s with sys.modeChange := some (s.sys.mode, new)
           sys.listen := if new = .run ∧ s.fab.twin.twinEn = 1 then some (s.now + 20000, false) else none }

/-- A mode change is in progress (R637). -/
def State.modeBusy (s : State) : Bool := s.sys.modeChange.isSome

/-! ## The fatal fault (R58, R647) -/

/-- The slot of the next snapshot: slot 0 holds the first one for ever, the others rotate through 1 to 3. -/
def Selvedge.snapSlot (v : Selvedge) : Nat := if v.snapCount = 0 then 0 else 1 + (v.snapCount - 1) % 3

/-- The newest entries of the event ring, in SEQ order. -/
def Selvedge.lastEvents (v : Selvedge) (n : Nat) : List Tile :=
  ((List.range n).reverse.map fun i => Tab.get 0 v.events ((v.evHead + 16384 - 1 - i) % 16384)).filter fun t =>
    t.extractLsb' 48 8 = 0xA5

/-- The snapshot that a fatal fault queues: its entry, IDENT, the cores, DRAM, cache and fabric, the last 1,024 events,
and the header (R647). -/
def State.snapTiles (s : State) (slot : Nat) (code : BitVec 16) (handle : Word32) (payload : BitVec 288) : List SelvEntry :=
  let e : SelvEntry := { area := 2, code := code, mode := s.sys.mode, wall := s.wall, handle := handle, payload := payload }
  let body := [s.ident.toTile] ++ (List.range 68).map (fun c => (s.coreStatus c).toTile) ++
    [s.dram.st.toTile, s.cacheStatus.toTile, s.fabStatus.toTile] ++ s.selv.lastEvents 1024
  let tiles := body.map fun t => { e with raw := some t }
  [e] ++ tiles ++ [{ e with code := 0x0D0D, handle := 0
                            payload := put 288 0 (BitVec.ofNat 8 slot) ||| put 288 32 (BitVec.ofNat 32 (tiles.length + 2)) |||
                              put 288 64 s.host.devGen }]

/-- A snapshot begins in its slot; one that is being written is left without its header. -/
def State.beginSnap (s : State) (code : BitVec 16) (handle : Word32) (payload : BitVec 288) : State :=
  let slot := s.selv.snapSlot
  if s.selv.stopped ∨ !s.selv.opened then s
  else
    { s with selv := { s.selv with
        queue := (s.selv.queue.filter fun e => e.area ≠ 2) ++ s.snapTiles slot code handle payload
        snapCount := s.selv.snapCount + 1, snapNow := some (slot, code)
        snapLen := Tab.set 0 s.selv.snapLen slot 0, snapWhole := Tab.set false s.selv.snapWhole slot false } }

/-- The device enters SAFE (R636, R637, R640): a change in progress ends, its MODE_SET with WRONG_MODE. -/
def State.enterSafe (s : State) (fault : Bool) : State :=
  if s.sys.mode = .safe then s
  else
    let s0 := { s with sys.modeChange := none, sys.listen := none }
    let s1 := s0.finish (· == .modeSet) .wrongMode 0 []
    let s2 := s1.enterMode .safe (!fault && decide (s.sys.mode = .run))
    let s3 := { s2 with sys.safeSince := some s2.now, sys.autoRestart := fault, selv.safeStarts := s2.selv.safeStarts + 1 }
    if fault then s3.reportDev 0x0602 0 0 else s3

/-- A device fatal fault: its report, the TAKEOVER heartbeat, the snapshot, SAFE (R58). Egress and data frames stop with
the mode, in the same step. -/
def State.fatal (s : State) (code : BitVec 16) (handle : Nat) (payload : BitVec 288) : State :=
  ((((s.reportDev code handle payload).heartbeats true).beginSnap code (BitVec.ofNat 32 handle) payload)).enterSafe true

/-! ## Takeover and conflict (R539, R540) -/

/-- A device in SHADOW takes over. -/
def State.takeover (s : State) : State :=
  if s.sys.mode ≠ .shadow then s
  else
    { { s with fab.st.twinState := 3, fab.tookOver := true }.enterMode .run false with fab.twinMode := 0 }.reportDev 0x0601 0 0

/-- Both devices of the pair are in RUN and hear each other: the odd one enters SHADOW. -/
def State.twinConflict (s : State) : State :=
  if s.sys.mode = .run ∧ s.devId.getLsbD 0 then
    ({ s with fab.st.twinState := 4, fab.tookOver := false }.enterMode .shadow false).reportDev 0x0C03 0 0
  else s

/-! ## Commands -/

/-- MODE_SET (R636, R637). -/
def execModeSet (q : Cmd) (s : State) : Out :=
  let new := Mode.ofCode (q.u8 16)
  let old := s.sys.mode
  runCmd (actOp 0x003 .all (used 16 1)) q s
    { bad := [(q.h ≠ 0 || new.isNone, .badParam)], owns := isSl0 s q, keys := [(.mode, 0)], changes := false
      hold := s.modeBusy || (s.host.snapshot.any (·.staging))
      own := match new with
        | some m => [(!modeRow old m || decide (old = .boot ∧ m = .commission ∧ !s.sys.hostReady), .wrongMode),
            (!s.modeReady old m, .busy)]
        | none => []
      eff := match new with | some m => s.beginMode m | none => s
      wait := some .modeSet }

/-- The generation of the mode, after a MODE_SET has taken effect (R567). -/
def State.modeGen (s : State) : State :=
  if s.host.deferred.any (fun d => d.wait = .modeSet) then
    { s.bumpGen (.mode, 0) with host.devGen := nextGen s.host.devGen }
  else s

/-- MODE_CHANGE_DONE: the change that is in progress takes effect, and its MODE_SET replies (R636). -/
def execModeChangeDone (s : State) : Out :=
  ok s (match s.sys.modeChange, s.sys.listen with
    | some (_, new), none =>
      let old := s.sys.mode
      let s1 := { s with sys.modeChange := none }
      if new = .safe then
        ((s1.enterMode .safe (old = .run)).modeGen.finish (· == .modeSet) .ok 0 [])
          |> fun t => { t with sys.safeSince := some t.now, sys.autoRestart := false, selv.safeStarts := t.selv.safeStarts + 1 }
      else
        let beat := decide (old = .run) && (decide (new = .hold) || decide (new = .shadow))
        ((s1.enterMode new beat).modeGen.finish (· == .modeSet) .ok 0 [])
    | _, _ => s)

/-- TWIN_LISTEN_END (R638): the 20 µs are over. A device that has heard its twin in RUN does not enter RUN: MODE_SET ends
BUSY; ST23 goes to SHADOW where the twin is ready, else it stays. -/
def execTwinListenEnd (s : State) : Out :=
  ok s (match s.sys.listen with
    | none => s
    | some (t, heard) =>
      if s.now < t then s
      else
        let s1 := { s with sys.listen := none }
        if !heard then s1
        else if s1.host.deferred.any (fun d => d.wait = .modeSet) then
          (State.finish { s1 with sys.modeChange := none } (· == .modeSet) .busy 0 [])
        else if s1.twinReady ∧ s1.fab.twinMode = 2 then { s1 with sys.modeChange := some (s1.sys.mode, .shadow) }
        else { s1 with sys.modeChange := none })

/-- CP_WATCHDOG: the command processor's own watchdog expires (R58). -/
def execCpWatchdog (s : State) : Out := ok s (s.fatal 0x0D0C 0 0)

/-- The time in SAFE after which AUTO_RESTART acts, and the three starts that bar it (R640). -/
def State.restartDue (s : State) : Bool :=
  match s.sys.safeSince with
  | some t => s.sys.mode = .safe && s.sys.autoRestart && s.sys.boot.autoRestartS ≠ 0 && decide (s.selv.safeStarts < 3) &&
      decide (t + s.sys.boot.autoRestartS.toNat * 1000000000 ≤ s.now)
  | none => false

end Sys2Proof.Machine
end

