-- ==== Sys2Proof/Machine/Cores.lean ====
section
/-!
DEFINITION. The Weft cores as a whole, chapter 9: program store and entry tables (R264 to R270), the watchdog, self-test,
restart, retirement and spares (R49, R50, R276 to R279), and the debugger (R280, R281, R619).
-/
namespace Sys2Proof.Machine

/-- A debugger is attached to some thread of a core. -/
def Core.debugged (k : Core) : Bool := (List.range 8).any fun t => (k.th t).dbg.isSome

/-! ## The watchdog (R276) and what follows a stop (R49, R51) -/

/-- A stopped core's tasks are replayed, then it goes to its self-test (R245, R277). -/
def State.recoverCore (s : State) (c : Nat) : State :=
  (s.coreStopped c).modCore c fun k => { k with st := { k.st with state := 3 } }

/-- The slices whose debuggers are attached to a core. -/
def Core.debuggers (k : Core) : List Nat := ((List.range 8).filterMap fun t => (k.th t).dbg).eraseDups

/-- A stop is noticed: recorded, and recovered from unless a debugger is attached, which is told (R51). The replies of
HALT and STEP that the stop forestalls say BUSY. -/
def State.noticed (s : State) (c : Nat) : State :=
  let k := s.core c
  let s1 := s.noticeStop c
  let s2 := (List.range 8).foldl (fun (s : State) t =>
    s.finish (fun w => w == .debugHalt c t || w == .debugStep c t) .busy 0 []) s1
  if k.debugged then
    (k.debuggers.filter fun n => n ≠ 0 ∧ n ≠ k.st.stopSlice.toNat).foldl (fun (s : State) n =>
      s.postItem n 0x0101 0 (BitVec.ofNat 32 c) ((((s.coreStatus c).toTile.setWidth 288) >>> 8) <<< 8))
      (s2.modCore c fun k => { k with replayDue := true })
  else s2.recoverCore c

/-- A thread that holds no progress up: held at `req` or waiting on a DRAM-window access (R276). -/
def State.excused (s : State) (c t : Nat) : Bool := s.heldReq c t || (s.th c t).attach.isSome

/-- The running threads of a core. -/
def Core.runningThreads (k : Core) : List Nat := (List.range 8).filter fun t => (k.th t).st = .running

/-- A cycle counts as progress without an instruction (R276). -/
def State.idleProgress (s : State) (c : Nat) : Bool := (s.core c).runningThreads.all fun t => s.excused c t

/-- The watchdog's round brings it to a core again after 1,920 ns (R276). -/
def State.visitDue (s : State) (c : Nat) : Bool :=
  match (s.core c).visitAt with
  | some t => decide (t + 1920 ≤ s.now)
  | none => true

/-- What a visit finds (R276): a stop is noticed; an ACTIVE core that has made no progress since the last visit stops with
HANG. -/
def State.visit (s : State) (c : Nat) : State :=
  let k := s.core c
  if k.st.state = 2 then (if k.noticed then s else s.noticed c)
  else if k.st.state = 0 ∧ !k.progress ∧ !s.idleProgress c then
    let t := (k.runningThreads.find? fun t => !s.excused c t).getD 0
    (s.stopCore c t Cause.hang.code (s.th c t).pc 0).noticed c
  else s.modCore c fun k => { k with progress := false }

/-- WATCHDOG_VISIT: a visit of the round, which is still while the cores do not run; before its time it is none. -/
def execWatchdogVisit (c : Fin 68) (s : State) : Out :=
  ok s (if !s.sys.mode.live ∨ !s.visitDue c then s
    else (s.modCore c fun k => { k with visitAt := some s.now }).visit c)

/-! ## Self-test, restart, retirement (R49, R277, R278) -/

/-- CORE_MASK bits move from a retired core to its spare (R194, R277). -/
def State.moveMasks (s : State) (c n : Nat) : State :=
  (List.range 16).foldl (fun (s : State) g =>
    if (s.group g).coreMask.getLsbD c then
      { s with task.groups := Tab.upd {} s.task.groups g fun x =>
          { x with coreMask := (x.coreMask &&& ~~~ ((1 : BitVec 68) <<< c)) ||| (1 <<< n) } }.bumpGen (.tg, g)
    else s) s

/-- Every binding of a channel to a retired core names its spare, and the object's generation counts (R366). -/
def State.moveChans (s : State) (c n : Nat) : State :=
  let swap (x : BitVec 7) : BitVec 7 := if x.toNat = c then BitVec.ofNat 7 n else x
  (List.range 4096).foldl (fun (s : State) r =>
    let k := Tab.get {} s.lock.chans r
    if k.cfg.prodCore.toNat = c ∨ k.cfg.consCore.toNat = c then
      { s with lock.chans := Tab.upd {} s.lock.chans r fun k =>
          { k with cfg := { k.cfg with prodCore := swap k.cfg.prodCore, consCore := swap k.cfg.consCore } } }.bumpGen (.chan, r)
    else s) s

/-- The spare that a retirement takes: the lowest in SPARE, else the one whose test it aborts (R277, R278). -/
def State.spareFor (s : State) : Option Nat := (s.coresIn 1).head?.or s.weft.underTest

/-- A core is retired and a spare joins; with none left the fault is fatal (R49, R58, R277). -/
def State.retire (s : State) (c : Nat) : State :=
  let s1 := { s with selv.retired := s.selv.retired ++ [c] }.modCore c fun k => { k with st := { k.st with state := 5 } }
  match s1.spareFor with
  | none => s1.fatal 0x0104 c 0
  | some n =>
    let s2 := { s1 with weft.underTest := if s1.weft.underTest = some n then none else s1.weft.underTest }
    let s3 := s2.modCore n fun k =>
      { k with cfg := (s.core c).cfg, st := { k.st with state := 4, replaces := BitVec.ofNat 7 c } }
    (((s3.bumpGen (.core, n)).moveMasks c n).moveChans c n).reportDev 0x0102 c (put 288 0 (BitVec.ofNat 8 n))

/-- A core is being restarted (R277). -/
def State.joining (s : State) (c : Nat) : State := s.modCore c fun k => { k with st := { k.st with state := 4 } }

/-- The wall times of a core's last three stops that count (R646), with the present one. -/
def State.countStop (s : State) (c : Nat) : State :=
  let l := Tab.get [] s.selv.stopWalls c ++ [(s.core c).st.stopWall]
  { s with selv.stopWalls := Tab.set [] s.selv.stopWalls c (l.drop (l.length - 3)) }.modCore c fun k => { k with toJudge := false }

/-- A RETIRED core is under its retest (R278). -/
def State.retesting (s : State) (c : Nat) : Bool := s.host.deferred.any fun d => d.wait == .coreRetest c

/-- CORE_SELFTEST_DONE: the test of a stopped core ends; `pass` is its result (R49). The test begins after the Reed has
accepted the ends that retired before the stop (R235, R277). A stop is judged once: a core whose test runs again after a
mode change has been judged (R279). -/
def execCoreSelftestDone (c : Fin 68) (pass : Bool) (s : State) : Out :=
  let k := s.core c
  ok s (if k.st.state ≠ 3 ∨ s.weft.underTest = some c.val ∨ s.retesting c ∨ (List.range 8).any (fun t => (k.th t).ended) then s
    else if !pass then s.retire c
    else if k.poison ∨ !k.toJudge then s.joining c
    else
      let s1 := s.countStop c
      if s1.stops24 c ≥ 3 then s1.retire c else s1.joining c)

/-- CORE_JOIN_DONE: a restarted core or a spare is ready (R277). -/
def execCoreJoinDone (c : Fin 68) (s : State) : Out :=
  ok s (if (s.core c).st.state = 4 then
    s.modCore c fun k => { k.restarted with st := { k.st with state := 0 } } else s)

/-- The next spare in turn after a number (R278). -/
def State.turn (s : State) : Option Nat :=
  let l := s.coresIn 1
  (l.find? fun c => s.weft.nextSpare ≤ c).or l.head?

/-- A spare test is due once 3,600 s of wall time have gone since the last one began (R278). -/
def State.spareDue (s : State) : Bool :=
  match s.weft.spareAt with
  | some w => decide (3600000000000 ≤ (s.wall - w).toNat)
  | none => true

/-- SPARE_TEST (R278): without a result the test of the next spare begins, if one is due; with one it ends. -/
def execSpareTest (result : Option Bool) (s : State) : Out :=
  ok s (match result, s.weft.underTest with
    | none, none =>
      match if s.spareDue then s.turn else none with
      | some c => { s with weft.underTest := some c, weft.nextSpare := c + 1, weft.spareAt := some s.wall }.modCore c fun k =>
          { k with st := { k.st with state := 3 } }
      | none => s
    | some pass, some c =>
      let s1 := { s with weft.underTest := none }
      if pass then s1.modCore c fun k => { k with st := { k.st with state := 1 } }
      else { s1 with selv.retired := s1.selv.retired ++ [c] }.modCore c fun k => { k with st := { k.st with state := 5 } }
    | _, _ => s)

/-- CORE_CONFIG (R271). -/
def execCoreConfig (q : Cmd) (s : State) : Out :=
  runCmd (setOp 0x901 .live CoreCfg.rsv) q s
    { bad := [(q.h ≥ 68, .badParam)], owns := isSl0 s q, keys := [(.core, q.h)]
      eff := s.modCore q.h fun k => { k with cfg := CoreCfg.ofTile (q.tile 1) } }

/-- CORE_GET (R272). CORE_STOP_COUNT is a persistent record, which CLEAR does not reach (R646). -/
def execCoreGet (q : Cmd) (s : State) : Out :=
  runCmd (getOp 0x902 .live) q s
    { bad := [(q.h ≥ 68, .badParam)], owns := clearOk s q 0, keys := [(.core, q.h)], changes := false
      replyTiles := 3, tiles := [(s.core q.h).cfg.toTile, (s.coreStatus q.h).toTile], eff := s }

/-- CORE_RETEST (R278): the reply follows at the end of the test. -/
def execCoreRetest (q : Cmd) (s : State) : Out :=
  runCmd (actOp 0x903 .comm 0) q s
    { bad := [(q.h ≥ 68, .badParam)], owns := isSl0 s q, keys := [(.core, q.h)], changes := false
      own := [((s.core q.h).st.state ≠ 5, .busy)]
      eff := s.modCore q.h fun k => { k with st := { k.st with state := 3 } }, wait := some (.coreRetest q.h) }

/-- CORE_RETEST_DONE: a pass makes the core SPARE; either way it is written as CORE_RETEST (R278). A test that a mode
change has cut short fails. -/
def execCoreRetestDone (c : Fin 68) (pass : Bool) (s : State) : Out :=
  ok s (if !s.retesting c then s
    else
      let good := pass && decide ((s.core c).st.state = 3)
      let s1 := if good then
          { (s.bumpGen (.core, c)) with
            host.devGen := nextGen s.host.devGen, selv.retired := s.selv.retired.filter (· ≠ c.val) }.modCore c fun k =>
            { k with st := { k.st with state := 1 } }
        else if (s.core c).st.state = 3 then s.modCore c fun k => { k with st := { k.st with state := 5 } } else s
      (s1.reportDev 0x0106 c (put 288 0 (BitVec.ofNat 8 c.val) ||| put 288 8 (bit good))).finish
        (· == .coreRetest c) .ok (dat 16 ((bit good).setWidth 8)) [])

/-! ## Program store (R264 to R270) -/

/-- An instruction-cache set takes a tile: two ways, the least recently used gives way (R269). -/
def Core.fillTile (k : Core) (tile : Nat) : Core :=
  if tile < 128 then k
  else { k with icache := Tab.upd [] k.icache (tile % 64) fun l => (tile :: l.filter (· ≠ tile)).take 2 }

/-- ICACHE_FILL_DONE: the fill of a tile serves every thread of the core that waits for it; `bad` says that its CHECK is
wrong, which stops the core at the fetching thread (R50, R252, R269). -/
def execIcacheFillDone (c : Fin 68) (tile : Fin 131072) (bad : Bool) (s : State) : Out :=
  let k := s.core c
  let ts := (List.range 8).filter fun t => (k.th t).miss = some tile.val
  ok s (match ts with
    | [] => s
    | t :: _ =>
      if !k.active then s
      else if bad then
        { s with weft.badTiles := if s.weft.badTiles.contains tile.val then s.weft.badTiles
            else s.weft.badTiles ++ [tile.val] }.fault c t .programTile 0
      else ts.foldl (fun (s : State) t => s.modTh c t fun h => { h with miss := none })
        (s.modCore c fun k => k.fillTile tile))

/-- PROGRAM_TILE_REWRITE: a bad tile is rewritten, and what waited for it may be dispatched (R50). -/
def execProgramTileRewrite (tile : Fin 131072) (s : State) : Out :=
  ok s (if s.weft.badTiles.contains tile.val then s.rewriteProg tile else s)

/-- PROGRAM_STORE_SCRUB: the scrubber reads a tile; `bad` says that its CHECK is wrong (R270). -/
def execProgramStoreScrub (tile : Fin 131072) (bad : Bool) (s : State) : Out :=
  ok s (if bad then s.rewriteProg tile else s)

/-- Two runs of tiles share one. -/
def runsMeet (a n b m : Nat) : Bool := 0 < n && 0 < m && a < b + m && b < a + n

/-- PROG_REGION_SET (R265). -/
def execProgRegionSet (q : Cmd) (s : State) : Out :=
  let eb := q.u8 17
  let et := q.u8 18
  let pb := q.u32 20
  let pt := q.u32 24
  let meets := s.weft.progs.any fun (n, p) => n ≠ q.h && p.enable = 1 &&
    (runsMeet pb pt p.progBase.toNat p.progTiles.toNat || runsMeet eb et p.expBase.toNat p.expTiles.toNat)
  runCmd (actOp 0x910 .live (used 16 3 ||| used 20 8)) q s
    { bad := [(q.h ≥ 64 || decide (q.u8 16 > 1) || decide (eb > 127) || decide (et > 128) || !inR pb 128 131071 ||
        decide (pt > 130944), .badParam)]
      owns := isSl0 s q, keys := [(.prog, q.h)]
      own := [(decide (eb + et > 128) || decide (pb + pt > 131072) || meets, .badParam)]
      eff := s.modProg q.h fun p =>
        { p with enable := BitVec.ofNat 1 (q.u8 16), expBase := BitVec.ofNat 7 eb, expTiles := BitVec.ofNat 8 et
                 progBase := BitVec.ofNat 17 pb, progTiles := BitVec.ofNat 18 pt } }

/-- An entry table lies outside the program region (R265). -/
def ProgCfg.tabOut (p : ProgCfg) (base count : Nat) : Bool :=
  0 < count && !(decide (p.progBase.toNat ≤ base) &&
    decide (base + (count + 14) / 15 ≤ p.progBase.toNat + p.progTiles.toNat))

/-- PROG_CONFIG (R265): the fields of PROG_REGION_SET keep their values; the read-only ones are ignored. -/
def execProgConfig (q : Cmd) (s : State) : Out :=
  let o := s.progCfg q.h
  let c : ProgCfg := { ProgCfg.ofTile (q.tile 1) with activeTable := o.activeTable, draining := o.draining }
  let region := decide (c.enable = o.enable) && decide (c.progBase = o.progBase) && decide (c.progTiles = o.progTiles) &&
    decide (c.expBase = o.expBase) && decide (c.expTiles = o.expTiles)
  let cur := if o.activeTable = 0 then decide (c.entryTab0 ≠ o.entryTab0 ∨ c.entryCount0 ≠ o.entryCount0)
    else decide (c.entryTab1 ≠ o.entryTab1 ∨ c.entryCount1 ≠ o.entryCount1)
  runCmd (setOp 0x911 .live ProgCfg.rsv) q s
    { bad := [(q.h ≥ 64 || decide (c.entryCount0.toNat > 4096) || decide (c.entryCount1.toNat > 4096), .badParam)]
      owns := s.requester q = q.h, keys := [(.prog, q.h)]
      own := [(!region, .notOwner),
        (c.tabOut c.entryTab0.toNat c.entryCount0.toNat || c.tabOut c.entryTab1.toNat c.entryCount1.toNat, .badParam),
        (cur || (decide (o.draining = 1) && decide (c ≠ o)), .busy)]
      eff := s.modProg q.h fun _ => c }

/-- PROG_GET (R612). -/
def execProgGet (q : Cmd) (s : State) : Out :=
  runCmd (getOp 0x912 .live) q s
    { bad := [(q.h ≥ 64, .badParam)], owns := isSl0 s q || s.requester q = q.h, keys := [(.prog, q.h)], changes := false
      replyTiles := 2, tiles := [(s.progCfg q.h).toTile], eff := s }

/-- Tiles of the program store are written (R268): a copy in a core's cache goes with it. -/
def State.loadTiles (s : State) : Nat → List Tile → State
  | _, [] => s
  | n, t :: r =>
    let s1 := { s with weft.prog := Tab.set 0 s.weft.prog n (t.setWidth 480)
                       weft.cores := s.weft.cores.map fun (c, k) =>
                         (c, { k with icache := Tab.upd [] k.icache (n % 64) fun l => l.filter (· ≠ n) }) }
    State.loadTiles s1 (n + 1) r

/-- PROGRAM_LOAD (R268). -/
def execProgramLoad (q : Cmd) (s : State) : Out :=
  let p := s.progCfg q.h
  let a := q.u32 16
  runCmd { opcode := 0x913, modes := .live, minTiles := 2, maxTiles := 64, uses := used 16 4 } q s
    { bad := [(q.h ≥ 64 || a ≥ 131072, .badParam)], owns := s.requester q = q.h, keys := [(.prog, q.h)]
      own := [((List.range q.cont.length).any fun i => !p.inProg (a + i) && !p.inExp (a + i), .badParam)]
      eff := s.loadTiles a q.cont }

/-- PROG_COMMIT (R268): the tables switch; a commit during the drain waits. -/
def execProgCommit (q : Cmd) (s : State) : Out :=
  runCmd (actOp 0x914 .live 0) q s
    { bad := [(q.h ≥ 64, .badParam)], owns := s.requester q = q.h, keys := [(.prog, q.h)]
      hold := (s.progCfg q.h).draining = 1
      eff := s.modProg q.h fun p => { p with activeTable := p.activeTable ^^^ 1, draining := 1 }
      wait := some (.progCommit q.h) }

/-- An instance of a slice that was dispatched under a table is not over. -/
def State.tableUsed (s : State) (n : Nat) (table : BitVec 1) : Bool :=
  (s.task.ctxs.any fun (_, k) => k.slice = n && k.table == some table &&
    (k.live || decide ((s.ctx k.recCtx).record.st = .opened))) ||
  (s.weft.cores.any fun (_, k) => k.threads.any fun (_, h) =>
    h.inst.any fun i => i.task && i.slice = n && decide (i.table = table))

/-- PROG_DRAIN_END (R268). -/
def execProgDrainEnd (n : Fin 64) (s : State) : Out :=
  let p := s.progCfg n
  ok s (if p.draining = 0 ∨ s.tableUsed n (p.activeTable ^^^ 1) then s
    else (s.modProg n fun p => { p with draining := 0 }).finish (· == .progCommit n) .ok 0 [])

/-! ## Debugging (R280, R281, R619) -/

/-- A debugger's thread goes on (R255): back to the state it left, or to RUNNING if its condition has been met. Its run
limit counts from where it paused (R202). -/
def Thread.resumed (h : Thread) (now : Nat) : Thread :=
  if h.st ≠ .halted then h
  else
    let h1 : Thread := { h with inst := h.inst.map fun (i : Inst) => { i with since := i.since + (now - h.haltAt) } }
    match h.from' with
    | .waiting => { h1 with st := if h.depcnt = 0 then .running else .waiting }
    | .evwait => ({ h1 with st := .evwait }).evWake
    | _ => { h1 with st := .running }

/-- An attachment ends; a thread that it holds goes on, and with the last one a deferred replay runs (R51, R280). -/
def State.detach (s : State) (c t : Nat) : State :=
  let s1 := s.finish (fun w => w == .debugHalt c t || w == .debugStep c t) .busy 0 []
  let s2 := s1.modTh c t fun h =>
    let r : Thread := h.resumed s.now
    { r with dbg := none, stepping := false, haltReq := false, skipBp := false, bps := [] }
  if (s2.core c).replayDue ∧ !(s2.core c).debugged then s2.recoverCore c else s2

end Sys2Proof.Machine

namespace Sys2Proof
open Sys2Proof.Machine

/-- THREAD of a debug command. -/
def Cmd.thread (q : Cmd) : Nat := q.u8 16

end Sys2Proof

namespace Sys2Proof.Machine

/-- The requester's own attachment (R619). -/
def State.attached (s : State) (q : Cmd) : Bool := (s.th q.h q.thread).dbg == some (s.requester q)

/-- A debug command's plan: core and thread in range, under an attachment of the requester. -/
def debugPlan (s : State) (q : Cmd) (t : State) : Plan :=
  { bad := [(q.h ≥ 68 || q.thread ≥ 8, .badParam)], owns := s.attached q, keys := [(.core, q.h)], changes := false, eff := t }

/-- DEBUG_ATTACH (R280). -/
def execDebugAttach (q : Cmd) (s : State) : Out :=
  let me := s.requester q
  runCmd (actOp 0xF01 .live (used 16 1)) q s
    { debugPlan s q (s.modTh q.h q.thread fun h => { h with dbg := some me }) with
      owns := me = 0 || s.ownsCore me q.h
      own := [(!s.sys.mode.live || (s.sys.mode != .commission && q.thread == 0), .wrongMode),
        ((s.th q.h q.thread).dbg.isSome, .busy)] }

/-- DEBUG_DETACH (R280, R51). -/
def execDebugDetach (q : Cmd) (s : State) : Out :=
  runCmd (actOp 0xF02 .live (used 16 1)) q s (debugPlan s q (s.detach q.h q.thread))

/-- A thread that a HALT stops at once: it runs a task of the debugging slice and is between two instructions. -/
def Thread.haltNow (h : Thread) : Bool :=
  h.debugged && h.attach.isNone && (h.st == .running || h.st == .waiting || h.st == .evwait)

/-- DEBUG_HALT (R281): the reply follows once the thread is halted. -/
def execDebugHalt (q : Cmd) (s : State) : Out :=
  let h := s.th q.h q.thread
  let t := if h.haltNow then s.modTh q.h q.thread fun h => { h with st := .halted, from' := h.st, haltAt := s.now }
    else s.modTh q.h q.thread fun h => { h with haltReq := true }
  runCmd (actOp 0xF03 .live (used 16 1)) q s
    { debugPlan s q (if h.st = .halted then s else t) with
      own := [(decide (h.st = .stopped), .busy)]
      wait := if h.st = .halted ∨ h.haltNow then none else some (.debugHalt q.h q.thread) }

/-- DEBUG_RESUME (R281): a core whose replay waits goes to its recovery (R51). -/
def execDebugResume (q : Cmd) (s : State) : Out :=
  let t := if (s.core q.h).replayDue then s.recoverCore q.h
    else s.modTh q.h q.thread fun h =>
      let r : Thread := h.resumed s.now
      { r with haltReq := false, stepping := false }
  runCmd (actOp 0xF04 .live (used 16 1)) q s (debugPlan s q t)

/-- DEBUG_STEP (R281): one instruction; a thread whose wait is still unmet stays halted. -/
def execDebugStep (q : Cmd) (s : State) : Out :=
  let h := s.th q.h q.thread
  let r := h.resumed s.now
  let go := decide (h.st = .halted) && decide (r.st = .running)
  runCmd (actOp 0xF05 .live (used 16 1)) q s
    { debugPlan s q (if go then s.modTh q.h q.thread fun _ => { r with stepping := true, skipBp := true } else s) with
      own := [(decide (h.st ≠ .halted), .busy)], wait := if go then some (.debugStep q.h q.thread) else none }

/-- No address: what a breakpoint slot holds that is not set. -/
def noBreak : Nat := 2 ^ 32

/-- DEBUG_BREAK (R281). -/
def execDebugBreak (q : Cmd) (s : State) : Out :=
  let p := debugPlan s q (s.modTh q.h q.thread fun h =>
    { h with bps := Tab.set noBreak h.bps (q.u8 17) (if q.u8 18 = 1 then q.u32 20 else noBreak) })
  runCmd (actOp 0xF06 .live (used 16 3 ||| used 20 4)) q s
    { p with bad := p.bad ++ [(decide (q.u8 17 > 3) || decide (q.u8 18 > 1), .badParam)] }

/-- BREAKPOINT_HIT (R281): the thread halts before the instruction at its address. -/
def execBreakpointHit (c : Fin 68) (t : Fin 8) (s : State) : Out :=
  ok s (if s.canIssue c t ∧ (s.th c t).atBreak then
    (s.modTh c t fun h =>
      { h with st := .halted, from' := .running, skipBp := true, stepping := false, haltReq := false, haltAt := s.now }).finish
      (fun w => w == .debugHalt c.val t.val || w == .debugStep c.val t.val) .ok 0 []
    else s)

/-- Codes of TSTATE in the order of R255. -/
def ThState.code : ThState → BitVec 8
  | .idle => 0 | .running => 1 | .waiting => 2 | .evwait => 3 | .halted => 4 | .stopped => 5

/-- Bytes as continuation tiles of 60 B. -/
def tiles60 (bs : List Byte) : List Tile :=
  (List.range ((bs.length + 59) / 60)).map fun i => leBits 512 (slice bs (60 * i) 60)

/-- What a debug access names: SPACE, ADDR, LEN. -/
structure DbgAcc where
  space : Nat
  addr : Nat
  len : Nat
deriving DecidableEq, Repr

end Sys2Proof.Machine

namespace Sys2Proof
open Sys2Proof.Machine

/-- The access of a command. -/
def Cmd.dbgAcc (q : Cmd) : DbgAcc := ⟨q.u8 17, q.u32 20, q.u16 24⟩

end Sys2Proof

namespace Sys2Proof.Machine

/-- Numbers of the registers that an access covers. -/
def DbgAcc.regs (a : DbgAcc) : List Nat := (List.range (a.len / 8)).map (a.addr + ·)

/-- Check 7: LEN (R619). -/
def DbgAcc.badLen (a : DbgAcc) : Bool :=
  !inR a.len 1 3780 || ((a.space = 0 || a.space = 1 || a.space = 4) && a.len % 8 ≠ 0)

/-- A space, or a register number that R302 does not define (R619). -/
def DbgAcc.bad (a : DbgAcc) : Bool :=
  a.space > 4 || (a.space = 0 && a.regs.any fun r => r ≥ 32) || (a.space = 1 && a.regs.any fun r => !crListed r) ||
    (a.space = 4 && a.regs.any fun r => r ≥ 16)

/-- Where a byte of the thread slice or of a shared window lies. -/
def DbgAcc.lm (a : DbgAcc) (t : Nat) : Nat := if a.space = 2 then 0x10000 + t * 0x1000 + a.addr else a.addr

/-- What R281 opens to a debugger of a slice: the thread while it runs a task of the slice, its own slice of local memory,
and the slice's windows and core-shared registers. -/
def State.dbgOpen (s : State) (c t n : Nat) (a : DbgAcc) : Bool :=
  let k := s.core c
  if a.space ≤ 2 then (k.th t).debugged && (a.space ≠ 2 || decide (a.addr + a.len ≤ 0x1000))
  else if a.space = 3 then decide (0x8000 ≤ a.addr) && decide (a.addr + a.len ≤ 0x10000) &&
    (List.range 8).all fun w => !runsMeet a.addr a.len (0x8000 + w * 0x1000) 0x1000 ||
      (k.cfg.lmEn.getLsbD w && (k.cfg.lmOwner.extractLsb' (6 * w) 6).toNat = n)
  else a.regs.all fun r => k.cfg.csEn.getLsbD r && (k.cfg.csOwner.extractLsb' (6 * r) 6).toNat = n

/-- The bytes that an access reads. -/
def State.dbgRead (s : State) (c t : Nat) (a : DbgAcc) : List Byte :=
  let k := s.core c
  if a.space = 0 then a.regs.flatMap fun r => bytesOf ((k.th t).reg (BitVec.ofNat 5 r)) 8
  else if a.space = 1 then a.regs.flatMap fun r => bytesOf (s.crValue c t r) 8
  else if a.space = 4 then a.regs.flatMap fun r => bytesOf (Tab.get 0 k.cs r) 8
  else s.lmSee c (a.lm t) a.len

/-- Registers and values of a write. -/
def DbgAcc.pairs (a : DbgAcc) (bs : List Byte) : List (Nat × Word) :=
  (List.range (a.len / 8)).map fun i => (a.addr + i, leBits 64 (slice bs (8 * i) 8))

/-- A control register that S may write, with the value written (R302, R304). -/
def crDebug (h : Thread) (n : Nat) (v : Word) : Bool :=
  n = 8 || (0x18 ≤ n && n ≤ 0x1A) || (n = 4 && decide ((v ^^^ h.cpen) &&& ~~~ 0x7 = 0))

/-- A control register takes a debugger's value. -/
def Thread.setCr (h : Thread) (n : Nat) (v : Word) : Thread :=
  if n = 4 then { h with cpen := v }
  else if n = 8 then { h with sepc := v }
  else { h with loops := h.loops.modify (n - 0x18) fun l => { l with lc := v.toNat % 2 ^ 32 } }

/-- A write of the debugger takes effect. -/
def State.dbgWrite (s : State) (c t : Nat) (a : DbgAcc) (bs : List Byte) : State :=
  if a.space = 0 then s.modTh c t fun h => (a.pairs bs).foldl (fun h (r, v) => h.setReg (BitVec.ofNat 5 r) v) h
  else if a.space = 1 then s.modTh c t fun h => (a.pairs bs).foldl (fun h (r, v) => h.setCr r v) h
  else if a.space = 4 then s.modCore c fun k =>
    { k with cs := (a.pairs bs).foldl (fun m (r, v) => Tab.set 0 m r v) k.cs
             badCs := k.badCs.filter fun r => !(a.regs.contains r) }
  else s.lmWrite c (a.lm t) bs

/-- DEBUG_READ (R619). -/
def execDebugRead (q : Cmd) (s : State) : Out :=
  let a := q.dbgAcc
  let h := s.th q.h q.thread
  let p := debugPlan s q s.drawn
  runCmd (actOp 0xF07 .live (used 16 2 ||| used 20 6)) q s
    { p with bad := [(a.badLen, .badLength)] ++ p.bad ++ [(a.bad, .badParam)]
             own := [(!s.dbgOpen q.h q.thread (s.requester q) a, .notOwner)]
             replyTiles := 1 + (a.len + 59) / 60, tiles := tiles60 (s.dbgRead q.h q.thread a)
             data := dat 16 h.st.code ||| dat 20 (BitVec.ofNat 32 h.pc) }

/-- DEBUG_WRITE (R619). -/
def execDebugWrite (q : Cmd) (s : State) : Out :=
  let a := q.dbgAcc
  let h := s.th q.h q.thread
  let bs := (q.cont.flatMap fun t => bytesOf t 60).take a.len
  let p := debugPlan s q (s.dbgWrite q.h q.thread a bs)
  runCmd { opcode := 0xF08, modes := .live, minTiles := 2, maxTiles := 64, uses := used 16 2 ||| used 20 6 } q s
    { p with bad := [(a.badLen || decide (q.cont.length ≠ (a.len + 59) / 60), .badLength)] ++ p.bad ++ [(a.bad, .badParam)]
             own := [(!s.dbgOpen q.h q.thread (s.requester q) a ||
                 (a.space = 1 && (a.pairs bs).any fun (r, v) => !crDebug h r v), .notOwner),
               (decide (h.st ≠ .halted), .busy)] }

/-- MEM_TIMEOUT: a DRAM-window access has not completed within 10 µs (R258). -/
def execMemTimeout (c : Fin 68) (t : Fin 8) (s : State) : Out :=
  ok s (match (s.th c t).attach with
    | some x => if (s.core c).active ∧ s.now - x.at' ≥ 10000 then s.fault c t .memTimeout (BitVec.ofNat 64 x.addr) else s
    | none => s)

end Sys2Proof.Machine
end

