-- ==== Sys2Proof/Machine/FabLinks.lean ====
section
/-!
DEFINITION. Shared operations of the fabric: a link that goes DOWN and what moves (R518, R521), the computation of routes
(R527), the device's ID (R524), DISCOVER and ANSWER frames (R523), and the twin's state (R537 to R541).
-/
namespace Sys2Proof.Machine

/-! ## Changes of a destination's links (R521) -/

/-- The links that serve a destination now (R528). -/
def State.serving (s : State) (d : Nat) : List Nat :=
  match s.upIn (s.route d).prim with
  | [] => s.upIn (s.route d).alt
  | l => l

/-- The frames queued for a destination without a usable link are dropped (R34). -/
def State.dropUnreach (s : State) (d : Nat) : State :=
  (List.range 8).foldl (fun (s : State) c =>
    let n := 7680 + 8 * d + c
    ((s.queue n).ents.foldl (fun (s : State) x => (s.entryGone x.d.buf x.pkt).unreach (x.source s.devId) d) s).modQueue n
      fun u => { u with onchip := [], dram := [], dropSince := u.dropSince + u.ents.length }) s

/-- Destinations whose serving links differ from those of an earlier state are marked with the present time; the queues
of one that has lost its last link are dropped. -/
def State.noteRoutes (s old : State) : State :=
  (List.range 64).foldl (fun (s : State) d =>
    if s.serving d = old.serving d then s
    else
      let s1 := { s with fab.routes := Tab.upd {} s.fab.routes d fun r => { r with changedAt := some s.now } }
      if s1.serving d = [] then s1.dropUnreach d else s1) s

/-! ## A link goes DOWN (R518) -/

/-- An unacknowledged frame moves to the link that now serves its destination, or is dropped (R34). One of another kind than
DATA, COMMAND and REPLY is discarded and counted nowhere (DESIGN CHOICE, log entry 68). -/
def State.moveFrame (s : State) (f : FabFrame) : State :=
  if f.kind > 2 then s
  else
    match if f.kind = 0 then s.pickLink f.dest.toNat f.fpath.toNat else s.cmdLink f.dest.toNat with
    | some l => s.linkSend l { f with rerouted := true }
    | none => if f.kind = 0 then s.unreach f.src.toNat f.dest.toNat else s.unreachCmd f.src.toNat f.dest.toNat

/-- The entry of a frame that a link has begun. -/
def State.txGone (s : State) (f : Option TxFrame) : State :=
  match f with
  | some f => s.entryGone (Desc.ofTile f.entry.desc).buf f.pkt
  | none => s

/-- A link is declared DOWN: its numbers and its retry buffer start afresh, its unacknowledged frames move in LINK_SEQ
order, and wall time that came over it has lost its source (R66). -/
def State.linkFail (s : State) (k : Nat) : State :=
  let l := s.link k
  let s1 := ((s.txGone l.tx).txGone l.held).modLink k fun l =>
    { l with st.state := 0, lock := false, retry := [], tx := none, held := none, txSeq := 0, rxSeq := 0, helloRun := 0 }
  let s2 := (l.retry.map (·.frame)).foldl State.moveFrame (s1.noteRoutes s)
  if l.st.state = 3 then
    (((s2.modLink k fun l => { l with st.linkDownCount := satInc l.st.linkDownCount }).reportDev 0x0502 k 0).floodLsa).wallFollows
  else s2

/-! ## Routes (R527) -/

/-- The LSAs that take part: one for each ID; an ID that two serials claim is left out (R525). -/
def State.goodLsas (s : State) : List Lsa :=
  (List.range 64).filterMap fun d => s.lsaOf (BitVec.ofNat 6 d)

/-- A device through which paths pass: in COMMISSION or RUN. -/
def Lsa.transit (l : Lsa) : Bool := l.mode = 1 || l.mode = 2

/-- IDs at most `n` hops from a set of ends, each with its distance; paths pass through no ID of `avoid`. -/
def hopTable (ls : List Lsa) (ends avoid : List (BitVec 6)) : Nat → List (BitVec 6 × Nat)
  | 0 => ends.map fun e => (e, 0)
  | n + 1 =>
    let t := hopTable ls ends avoid n
    t ++ (ls.filter fun l => l.transit && !avoid.contains l.id && !(t.any fun x => x.1 = l.id) &&
      l.links.any fun x => t.any fun y => y.1 = x.2).map fun l => (l.id, n + 1)

/-- Hops from a neighbour to an end. -/
def hopsOf (t : List (BitVec 6 × Nat)) (d : BitVec 6) : Option Nat := (t.find? fun x => x.1 = d).map (·.2)

/-- The smallest of a list. -/
def leastOf : List Nat → Option Nat
  | [] => none
  | x :: r => some (match leastOf r with | some y => min x y | none => x)

/-- A mask of links. -/
def maskOf (l : List Nat) : BitVec 4 := l.foldl (fun (m : BitVec 4) k => m ||| (1 <<< k)) 0

/-- The masks and hops towards a set of ends (R527): the fewest hops over the UP links, at most 8; then the best of the
other links without the neighbours that the first ones reach. -/
def State.masks (s : State) (ends : List (BitVec 6)) : BitVec 4 × BitVec 4 × Nat :=
  let ls := s.goodLsas
  let self := [s.devId]
  let best (t : List (BitVec 6 × Nat)) (ks : List Nat) : List Nat × Nat :=
    match leastOf (ks.filterMap fun k => hopsOf t (s.link k).st.neighId) with
    | none => ([], 0)
    | some m => (ks.filter fun k => hopsOf t (s.link k).st.neighId = some m, m + 1)
  let p := best (hopTable ls ends self 7) s.upLinks
  let near := (p.1.map fun k => (s.link k).st.neighId).filter fun d => !ends.contains d
  let a := if p.1 = [] then ([], 0)
    else best (hopTable ls ends (self ++ near) 7) (s.upLinks.filter fun k => !p.1.contains k)
  (maskOf p.1, maskOf a.1, p.2)

/-- The devices that accept DATA for an ID, this one apart. -/
def State.dataEnds (s : State) (d : BitVec 6) : List (BitVec 6) :=
  ((s.goodLsas.filter fun l => l.accepts.contains d).map (·.id)).filter fun i => i ≠ s.devId

/-- The device of an ID, where COMMAND and REPLY frames may end there: not in BOOT or HOLD (R533). -/
def State.cmdEnds (s : State) (d : BitVec 6) : List (BitVec 6) :=
  if d = s.devId then [] else ((s.goodLsas.filter fun l => l.id = d && l.mode ≠ 0 && l.mode ≠ 4).map (·.id))

/-- The route of a destination, unless it is pinned, and its route for commands. -/
def State.recomputeOne (s : State) (d : Nat) : State :=
  let r := s.route d
  let m := s.masks (s.dataEnds (BitVec.ofNat 6 d))
  let c := s.masks (s.cmdEnds (BitVec.ofNat 6 d))
  let r' : FabRoute := if r.pinned then r else { r with prim := m.1, alt := m.2.1, hops := m.2.2 }
  { s with fab.routes := Tab.set {} s.fab.routes d r'
           fab.cmdRoutes := Tab.set {} s.fab.cmdRoutes d { prim := c.1, alt := c.2.1, hops := c.2.2 } }

/-- Every route anew, in one cycle; a destination that has lost its route is reported. -/
def State.recompute (s : State) : State :=
  let s1 := ((List.range 64).foldl State.recomputeOne s).noteRoutes s
  (List.range 64).foldl (fun (t : State) d =>
    let had : Bool := (s.route d).prim ≠ 0 || (s.route d).alt ≠ 0
    if had && (s1.route d).prim = 0 && (s1.route d).alt = 0 then t.reportDev 0x0C05 d 0 else t) s1

/-! ## The device's ID (R524) -/

/-- The device takes an ID, `none` for the straps, stores the choice and floods an LSA; its streams start again. -/
def State.takeId (s : State) (id : Option (BitVec 6)) : State :=
  let s1 : State := { s with selv.fabricId := id, fab.st.id := id.getD s.sys.idSel
                             fab.st.idState := if id.isSome then 1 else 0, fab.txStreams := [] }
  s1.floodLsa

/-! ## DISCOVER and ANSWER (R523): the payloads are the model's layout -/

/-- What a flood asks for: every device's answer, or that one device takes an ID (R524). -/
def discoverBytes (root : Word) (n : Nat) (target : Option (Word × Option (BitVec 6))) : List Byte :=
  beBytes root 8 ++ beBytes (BitVec.ofNat 32 n) 4 ++
    match target with
    | none => [0]
    | some (serial, id) => [1] ++ beBytes serial 8 ++ [(id.getD 0).setWidth 8, bit id.isNone |>.setWidth 8]

/-- A DISCOVER of this device on every UP link. -/
def State.discover (s : State) (target : Option (Word × Option (BitVec 6))) : State :=
  let n := s.fab.disc.count + 1
  let f : FabFrame := { kind := 4, dest := 63, port := 63, src := s.devId, payload := discoverBytes Config.serial n target }
  { s with fab.disc.count := n }.flood f none

/-- The device's answer (R614): SERIAL, STEPPING, ID, ID_STATE, ID_SEL, MODE, HOPS and the neighbours. -/
def State.answerTile (s : State) (hops : Nat) : Tile :=
  let nb (k : Nat) : Tile :=
    if (s.link k).st.state = 3 then
      put 512 (128 + 72 * k) (s.link k).st.neighSerial ||| put 512 (192 + 72 * k) ((s.link k).st.neighLink.setWidth 8)
    else put 512 (128 + 72 * k) (BitVec.allOnes 72)
  put 512 0 Config.serial ||| put 512 64 ({} : Ident).stepping ||| put 512 72 (s.devId.setWidth 8) |||
    put 512 80 (s.fab.st.idState.setWidth 8) ||| put 512 88 (s.sys.idSel.setWidth 8) |||
    put 512 96 (s.modeCode.setWidth 8) ||| put 512 104 (BitVec.ofNat 8 hops) ||| nb 0 ||| nb 1 ||| nb 2 ||| nb 3

/-! ## Twins -/

/-- A heartbeat from the twin has been heard: NONE and LOST become PAIRED; TOOK_OVER lasts until the twin is a shadow,
CONFLICT while the twin is in RUN (the spec gives no other end). -/
def State.pairHeard (s : State) (mode : BitVec 3) : State :=
  let t := s.fab.st.twinState
  let pair : Bool := t = 0 || t = 2 || (t = 3 && mode = 3) || (t = 4 && mode ≠ 2)
  { s with fab.twinMode := mode, fab.st.twinState := if pair then 1 else t
           sys.listen := s.sys.listen.map fun l => (l.1, l.2 || decide (mode = 2)) }

end Sys2Proof.Machine
end

