-- ==== Sys2Proof/Machine/FabCmds.lean ====
section
/-!
DEFINITION. The commands of group 0x0C (R614): fabric and link configuration (R511, R532), FABRIC_DISCOVER and
FABRIC_ID_SET (R523, R524), routes (R529) and the twin (R537).
-/
namespace Sys2Proof.Machine

/-- FABRIC_CONFIG (R532), with CLEAR_DESYNC (R535). -/
def execFabricConfig (q : Cmd) (s : State) : Out :=
  let c := FabCfg.ofTile (q.tile 1)
  let s1 := State.wallFollows { s with fab.cfg := c }
  runCmd { setOp 0xC01 .all FabCfg.rsv with uses := dat 16 (0x20 : BitVec 8) } q s
    { bad := [(q.h ≠ 0 || !inR c.fabHoldNs.toNat 500 100000 || !inR c.cmdTimeoutUs.toNat 100 1000000, .badParam)]
      owns := isSl0 s q, keys := [(.fabric, 0)]
      eff := if q.opt 16 5 then { s1 with fab.st.twinDesync := 0 } else s1 }

/-- FABRIC_GET (R532). -/
def execFabricGet (q : Cmd) (s : State) : Out :=
  runCmd (getOp 0xC02 .all) q s
    { bad := [(q.h ≠ 0, .badParam)], owns := clearOk s q 0, keys := [(.fabric, 0)], changes := false, replyTiles := 3
      tiles := [s.fab.cfg.toTile, s.fabStatus.toTile]
      eff := if q.clear then
          { s with fab.st := { s.fab.st with fabDup := 0, fabGap := 0, fabSkip := 0, fabHops := 0, cmdLateReply := 0
                                             rootConflict := 0, fabHbMisroute := 0 } }
        else s }

/-- FABRIC_LINK_CONFIG (R511): disabling takes the link DOWN. -/
def execFabricLinkConfig (q : Cmd) (s : State) : Out :=
  let c := LinkCfg.ofTile (q.tile 1)
  let o := (s.link q.h).cfg
  let s1 := s.modLink q.h fun l => { l with cfg := c }
  runCmd (setOp 0xC03 .all LinkCfg.rsv) q s
    { bad := [(decide (q.h ≥ 4), .badParam)], owns := isSl0 s q, keys := [(.link, q.h)]
      own := [(o.enable = 1 && decide ({ c with enable := 1 } ≠ o), .busy)]
      eff := if o.enable = 1 ∧ c.enable = 0 then s1.linkFail q.h
        else if o.enable = 0 ∧ c.enable = 1 ∧ c.ltEn = 1 then s1.modLink q.h fun l => { l with st.state := 1 }
        else s1 }

/-- FABRIC_LINK_GET (R512). -/
def execFabricLinkGet (q : Cmd) (s : State) : Out :=
  let l := s.link q.h
  runCmd (getOp 0xC04 .all) q s
    { bad := [(decide (q.h ≥ 4), .badParam)], owns := clearOk s q 0, keys := [(.link, q.h)], changes := false
      replyTiles := 3, tiles := [l.cfg.toTile, l.st.toTile]
      eff := if q.clear then s.modLink q.h fun l =>
          { l with st := { l.st with linkDownCount := 0, resends := 0, linkCrcErr := 0, fecUncorrected := 0
                                     retryFullNs := 0, fabricUnreach := 0 } }
        else s }

/-- FABRIC_DISCOVER (R523): the reply follows after 5 ms and has room for 63 answers. -/
def execFabricDiscover (q : Cmd) (s : State) : Out :=
  let s1 := s.discover none
  runCmd (actOp 0xC10 .live (used 16 1)) q s
    { bad := [(q.h ≠ 0 || decide (q.u8 16 ≥ 64), .badParam)], owns := isSl0 s q, keys := [(.fabric, 0)], changes := false
      hold := s.fab.disc.until'.isSome, own := [(s.fab.cfg.root = 0, .badParam)], replyTiles := 64
      eff := { s1 with fab.disc.until' := some (s.now + 5000000), fab.disc.answers := [] }
      wait := some .discover }

/-- FABRIC_ID_SET (R524): at the device itself at once, else by a flood. -/
def execFabricIdSet (q : Cmd) (s : State) : Out :=
  let id : Option (BitVec 6) := if q.u8 25 = 1 then none else some (BitVec.ofNat 6 (q.u8 24))
  let here : Bool := q.u64 16 = Config.serial
  let s1 := s.discover (some (q.u64 16, id))
  runCmd (actOp 0xC11 .comm (used 16 10)) q s
    { bad := [(q.h ≠ 0 || decide (q.u8 25 > 1) || decide (q.u8 24 ≥ 64), .badParam)], owns := isSl0 s q
      keys := [(.fabric, 0)], hold := s.fab.idSet.isSome
      eff := if here then s.takeId id else { s1 with fab.idSet := some (q.u64 16, s.now + 5000000) }
      wait := if here then none else some .idSet }

/-- The four bytes of a destination (R614). -/
def FabRoute.bytes (r : FabRoute) : List Byte :=
  [r.prim.setWidth 8, r.alt.setWidth 8, (bit r.pinned).setWidth 8, BitVec.ofNat 8 r.hops]

/-- FABRIC_ROUTE_GET (R529). -/
def execFabricRouteGet (q : Cmd) (s : State) : Out :=
  let bs := (List.range 64).flatMap fun d => (s.route d).bytes
  runCmd (getOp 0xC20 .all) q s
    { bad := [(q.h ≠ 0, .badParam)], owns := clearOk s q 0, keys := [(.fabric, 0)], changes := false, replyTiles := 6
      tiles := (List.range 5).map fun i => leBits 512 (slice bs (60 * i) 60), eff := s }

/-- ROUTE_PIN (R529). -/
def execRoutePin (q : Cmd) (s : State) : Out :=
  let p := BitVec.ofNat 4 (q.u8 16)
  let a := BitVec.ofNat 4 (q.u8 17)
  let s1 : State := { s with fab.routes := Tab.upd {} s.fab.routes q.h fun r => { r with prim := p, alt := a, pinned := true } }
  runCmd (actOp 0xC21 .live (used 16 2)) q s
    { bad := [(decide (q.h ≥ 64) || decide (q.u8 16 ≥ 16) || decide (q.u8 17 ≥ 16) || p &&& a ≠ 0, .badParam)]
      owns := isSl0 s q, keys := [(.routeMask, q.h)], eff := s1.noteRoutes s }

/-- ROUTE_UNPIN (R529): the destination is computed again. -/
def execRouteUnpin (q : Cmd) (s : State) : Out :=
  let s1 : State := { s with fab.routes := Tab.upd {} s.fab.routes q.h fun r => { r with pinned := false } }
  runCmd (actOp 0xC22 .live 0) q s
    { bad := [(decide (q.h ≥ 64), .badParam)], owns := isSl0 s q, keys := [(.routeMask, q.h)]
      eff := (s1.recomputeOne q.h).noteRoutes s }

/-- FABRIC_TWIN_CONFIG (R537). -/
def execFabricTwinConfig (q : Cmd) (s : State) : Out :=
  let c := TwinCfg.ofTile (q.tile 1)
  let s1 : State := { s with fab.twin := c }
  runCmd (setOp 0xC30 .comm TwinCfg.rsv) q s
    { bad := [(q.h ≠ 0 || !inR c.npaths.toNat 1 4 || (List.range 4).any fun p => (c.path p).extractLsb' 19 13 ≠ 0, .badParam)]
      owns := isSl0 s q, keys := [(.twin, 0)]
      eff := if c.twinEn = 0 then { s1 with fab.st.twinState := 0, fab.hb := [], fab.twinMode := 0, fab.tookOver := false }
        else s1 }

/-- FABRIC_TWIN_GET (R537). -/
def execFabricTwinGet (q : Cmd) (s : State) : Out :=
  runCmd (getOp 0xC31 .all) q s
    { bad := [(q.h ≠ 0, .badParam)], owns := clearOk s q 0, keys := [(.twin, 0)], changes := false, replyTiles := 2
      tiles := [s.fab.twin.toTile], eff := s }

end Sys2Proof.Machine
end

