-- ==== Sys2Proof/Machine/CtrNames.lean ====
section
/-!
DEFINITION. The spec's names of the counters, which STATS_READ returns in ASCII (R618).
-/
namespace Sys2Proof.Machine

/-- The name of a counter as the spec writes it. -/
def Ctr.name : Ctr → String
  | .egressMuted => "EGRESS_MUTED"
  | .modeDrop => "MODE_DROP"
  | .descCheckErr => "DESC_CHECK_ERR"
  | .rxFrames => "RX_FRAMES"
  | .rxBytes => "RX_BYTES"
  | .rxCodeErr => "RX_CODE_ERR"
  | .rxRunt => "RX_RUNT"
  | .rxOversize => "RX_OVERSIZE"
  | .rxFcsErr => "RX_FCS_ERR"
  | .rxMacCtrl => "RX_MAC_CTRL"
  | .rxFragErr => "RX_FRAG_ERR"
  | .rxModeDrop => "RX_MODE_DROP"
  | .rxNoBuf => "RX_NO_BUF"
  | .txFrames => "TX_FRAMES"
  | .txBytes => "TX_BYTES"
  | .txPreempt => "TX_PREEMPT"
  | .txOversize => "TX_OVERSIZE"
  | .txLate => "TX_LATE"
  | .txLaunchBad => "TX_LAUNCH_BAD"
  | .txLinkDown => "TX_LINK_DOWN"
  | .tc7Over => "TC7_OVER"
  | .barBadAccess => "BAR_BAD_ACCESS"
  | .mboxOverrun => "MBOX_OVERRUN"
  | .mgmtDrop => "MGMT_DROP"
  | .hrFrames => "HR_FRAMES"
  | .hrDrop => "HR_DROP"
  | .hrTooBig => "HR_TOO_BIG"
  | .hrNoItem => "HR_NO_ITEM"
  | .hrSquashed => "HR_SQUASHED"
  | .tornSeen => "TORN_SEEN"
  | .ctxStallNs => "CTX_STALL_NS"
  | .delaySkip => "DELAY_SKIP"
  | .delayMisfire => "DELAY_MISFIRE"
  | .delayParity => "DELAY_PARITY"
  | .delayHeld => "DELAY_HELD"
  | .dispatched => "DISPATCHED"
  | .replayed => "REPLAYED"
  | .handedBack => "HANDED_BACK"
  | .expWait => "EXP_WAIT"
  | .tgDeny => "TG_DENY"
  | .bgRuns => "BG_RUNS"
  | .kickMerged => "KICK_MERGED"
  | .lateCompletion => "LATE_COMPLETION"
  | .endWithLock => "END_WITH_LOCK"
  | .runLimitHit => "RUN_LIMIT_HIT"
  | .noAction => "NO_ACTION"
  | .spreadErr => "SPREAD_ERR"
  | .parseNomatch => "PARSE_NOMATCH"
  | .parseErr => "PARSE_ERR"
  | .parseDepthStop => "PARSE_DEPTH_STOP"
  | .classMiss => "CLASS_MISS"
  | .defDrop => "DEF_DROP"
  | .defToHost => "DEF_TO_HOST"
  | .defForward => "DEF_FORWARD"
  | .defProfile => "DEF_PROFILE"
  | .defMirror => "DEF_MIRROR"
  | .mirrorPoliced => "MIRROR_POLICED"
  | .defOdOff => "DEF_OD_OFF"
  | .issued => "ISSUED"
  | .squashed => "SQUASHED"
  | .icacheMiss => "ICACHE_MISS"
  | .evDrop => "EV_DROP"
  | .entryBad => "ENTRY_BAD"
  | .postedErr => "POSTED_ERR"
  | .cpLoadBad => "CP_LOAD_BAD"
  | .tmQDisabled => "TM_Q_DISABLED"
  | .tmNotOwner => "TM_NOT_OWNER"
  | .tmClassErr => "TM_CLASS_ERR"
  | .tmEntryFull => "TM_ENTRY_FULL"
  | .tmFabqLocal => "TM_FABQ_LOCAL"
  | .fabricNoq => "FABRIC_NOQ"
  | .prefetchStall => "PREFETCH_STALL"
  | .panicNs => "PANIC_NS"
  | .srNoTag => "SR_NO_TAG"
  | .srReset => "SR_RESET"
  | .srGen => "SR_GEN"
  | .srCopyB => "SR_COPY_B"
  | .srAccept => "SR_ACCEPT"
  | .srDuplicate => "SR_DUPLICATE"
  | .srRogue => "SR_ROGUE"
  | .srLate => "SR_LATE"
  | .srGap => "SR_GAP"
  | .stInsert => "ST_INSERT"
  | .stMove => "ST_MOVE"
  | .stEvict => "ST_EVICT"
  | .stAged => "ST_AGED"
  | .stFull => "ST_FULL"
  | .stQuota => "ST_QUOTA"
  | .stStaticConflict => "ST_STATIC_CONFLICT"
  | .stFlushed => "ST_FLUSHED"
  | .lookupMissCheck => "LOOKUP_MISS_CHECK"
  | .restored => "RESTORED"
  | .lost => "LOST"
  | .cacheHits => "CACHE_HITS"
  | .cacheMisses => "CACHE_MISSES"

end Sys2Proof.Machine
end

