-- ==== Sys2Proof/Machine/Treadle.lean ====
section
/-!
DEFINITION. Treadle lists (R451 to R461): where a list stands on its nominal grid, the predicted close of a gate, and
the events of a list: the beginning of an entry, a switch, the copy back, a repaired entry, a reposition.
-/
namespace Sys2Proof.Machine

/-- Entries in force of a list. -/
def hdrCount (h : TreadleHdr) : Nat := h.count.toNat
/-- DURATION of entry `i`. -/
def durOf (m : Tab TreadleEntry) (i : Nat) : Nat := (Tab.get {} m i).duration.toNat
/-- ΣD_j over j < i. -/
def durSum (m : Tab TreadleEntry) (i : Nat) : Nat := ((List.range i).map (durOf m)).sum
/-- Nominal start of entry `i` of cycle `k` (R456). -/
def nomStart (h : TreadleHdr) (m : Tab TreadleEntry) (s0 k i : Nat) : Nat := s0 + k * h.cycleTime.toNat + durSum m i
/-- Nominal end: the last entry holds until the cycle ends (R456). -/
def nomEnd (h : TreadleHdr) (m : Tab TreadleEntry) (s0 k i : Nat) : Nat :=
  s0 + k * h.cycleTime.toNat + if i + 1 = hdrCount h then h.cycleTime.toNat else durSum m (i + 1)

/-- Nominal end of the entry in force. -/
def Treadle.curEnd (d : Treadle) : Nat := nomEnd d.actHdr d.act d.st.activeStart.toNat d.cycle d.st.curEntry.toNat
/-- The entry in force. -/
def Treadle.cur (d : Treadle) : TreadleEntry := Tab.get {} d.act d.st.curEntry.toNat

/-! ## Guard bands (R458, R459) -/

/-- Ns from now until a scale reads `t`: a pick scale at its present FREQ_NOW raised by 1/128 (R458). -/
def State.nsUntil (s : State) (scale t : Nat) : Nat :=
  if scale = 0 then t - s.wall.toNat
  else (t - s.scaleNow scale) * pickDiv * 128 / (max 1 ((s.pick (scale - 1)).st.freqNow.toNat * 129))

/-- An entry keeps class `c` open; a HOLD entry closes classes 0 to 6 when `hold` (R459). -/
def TreadleEntry.open' (e : TreadleEntry) (hold : Bool) (c : Nat) : Bool :=
  e.shed.getLsbD c && !(hold && e.hold = 1 && decide (c < 7))

/-- The first close of a class in a list from entry `i` of cycle `k`: the end, in scale units, of the last entry of the
run that keeps it open; `none` when every entry of a whole cycle keeps it open. -/
def closeFrom (h : TreadleHdr) (m : Tab TreadleEntry) (s0 : Nat) (hold : Bool) (c : Nat) : Nat → Nat → Nat → Option (Nat × Nat)
  | 0, _, _ => none
  | n + 1, k, i =>
    let k' := if i + 1 < hdrCount h then k else k + 1
    let i' := if i + 1 < hdrCount h then i + 1 else 0
    if (Tab.get {} m i').open' hold c then closeFrom h m s0 hold c n k' i' else some (k, i)

/-- G_c: ns from now until the predicted close of class `c` on port `p`, which is open now; `none` imposes no guard. -/
def State.closeIn (s : State) (p c : Nat) (hold : Bool) : Option Nat :=
  let d := s.treadle p
  let sc := d.st.activeScale.toNat
  let act : Option Nat :=
    if d.st.active = 0 ∨ !d.begun then none
    else
      match closeFrom d.actHdr d.act d.st.activeStart.toNat hold c (hdrCount d.actHdr + 1) d.cycle d.st.curEntry.toNat with
      | none => none
      | some (k, i) =>
        let e := s.nsUntil sc (nomEnd d.actHdr d.act d.st.activeStart.toNat k i)
        if d.removing ∧ k ≠ d.cycle then none
        else if k = d.cycle ∧ i = d.st.curEntry.toNat then some (max e (d.entryAt + d.cur.floorNs.toNat - s.now)) else some e
  let r :=
    if d.st.pending = 1 ∧ !d.removing then
      let at' := s.nsUntil d.pendHdr.scale.toNat d.st.pendingStart.toNat
      if act.any (· ≤ at') then act
      else if !(Tab.get {} d.pend 0).open' hold c then some at'
      else (closeFrom d.pendHdr d.pend d.st.pendingStart.toNat hold c (hdrCount d.pendHdr + 1) 0 0).map fun (k, i) =>
        s.nsUntil d.pendHdr.scale.toNat (nomEnd d.pendHdr d.pend d.st.pendingStart.toNat k i)
    else act
  match r with
  | some g => if g > 1000000000 then none else some g
  | none => none

/-- The preemptable MAC may be preempted: PREEMPT_STATE ACTIVE (R110); M0 has no preemption. -/
def State.preempts (s : State) (p : Nat) : Bool := p < 32 && (s.port p).st.preemptState = 2

/-- HOLD in force on a port whose preemption is active (R459). -/
def State.held (s : State) (p : Nat) : Bool := s.preempts p && (s.treadle p).st.curHold = 1

/-- The wire time of `n` charged bytes is at most `g` ns, exactly (R436, R458). -/
def State.fits (s : State) (p n g : Nat) : Bool := decide ((n + 20) * 8000 ≤ g * s.rate p)

/-- A frame of class `c` and `n` charged bytes may start on port `p` now (R458, R459). `first` is its length up to the
first legal preemption point, 0 when it has none. -/
def State.gateOk (s : State) (p c n first : Nat) : Bool :=
  if p ≥ 33 then true
  else
    (s.treadle p).st.curShed.getLsbD c && !(decide (c < 7) && s.held p) &&
      match s.closeIn p c (s.preempts p) with
      | none => true
      | some g => s.fits p n g || (decide (c < 7 ∧ first ≠ 0) && s.preempts p && s.fits p first g)

/-! ## The events of a list -/

/-- The shed and HOLD of the entry in force are shown (R461); an entry whose parity fails is found so, and those of the
entry before it stay (R452). -/
def Treadle.show' (d : Treadle) : Treadle :=
  let i := d.st.curEntry.toNat
  if d.badEnts.contains i then { d with foundBad := if d.foundBad.contains i then d.foundBad else d.foundBad ++ [i] }
  else { d with st.curShed := d.cur.shed, st.curHold := d.cur.hold }

/-- Enter entry `i` of cycle `k`; entries whose nominal end has passed and that have no floor are skipped (R456). The
fuel is one cycle's entries: a list that is later than that goes on at its next event. -/
def Treadle.enter (now reading : Nat) : Nat → Nat → Nat → Treadle → Treadle
  | fuel, k, i, d =>
    let d1 := { d with
      cycle := k, entryAt := now, begun := true, cut := false, st.curEntry := BitVec.ofNat 10 i
      st.cycles := if i = 0 then satInc d.st.cycles else d.st.cycles }
    let e := Tab.get {} d.act i
    match fuel with
    | 0 => d1.show'
    | n + 1 =>
      if e.floorNs = 0 ∧ nomEnd d.actHdr d.act d.st.activeStart.toNat k i ≤ reading then
        let d2 := { d1 with st.treadleSkip := satInc d1.st.treadleSkip }
        if i + 1 < hdrCount d.actHdr then Treadle.enter now reading n k (i + 1) d2
        else Treadle.enter now reading n (k + 1) 0 d2
      else d1.show'

/-- No list: every gate is open and no hold applies (R451). -/
def Treadle.clear (d : Treadle) : Treadle :=
  { d with actHdr := {}, act := [], begun := false, removing := false, cut := false, cycle := 0, entryAt := 0
           badEnts := [], foundBad := [], jumps := 0
           st := { d.st with active := 0, activeScale := 0, activeCount := 0, curEntry := 0, curShed := 0xFF, curHold := 0
                             activeStart := 0, pending := 0, pendingStart := 0 } }

/-- The position of a reading on a list's grid: cycle and entry whose nominal span holds it. -/
def Treadle.posOf (d : Treadle) (reading : Nat) : Nat × Nat :=
  let c := max 1 d.actHdr.cycleTime.toNat
  let k := (reading - d.st.activeStart.toNat) / c
  let i := (List.range (hdrCount d.actHdr)).filter (fun i =>
    decide (nomStart d.actHdr d.act d.st.activeStart.toNat k i ≤ reading)) |>.length
  (k, i - 1)

/-- The entry in force has ended: its nominal end or a cut has come, and its floor is over (R456, R457, R460). -/
def State.entryOver (s : State) (p : Nat) : Bool :=
  let d := s.treadle p
  (d.cut || decide (d.curEnd ≤ s.scaleNow d.st.activeScale.toNat)) && decide (d.entryAt + d.cur.floorNs.toNat ≤ s.now)

/-- A floor has prolonged the entry that ends: the scale passed its nominal end before the floor did (R456). -/
def State.floored (s : State) (p : Nat) : Bool :=
  let d := s.treadle p
  let t := d.entryAt + d.cur.floorNs.toNat
  let sc := d.st.activeScale.toNat
  !d.cut && decide (d.cur.floorNs ≠ 0) &&
    decide (d.curEnd < if sc = 0 then (s.wallAt (t * 1000)).toNat else (s.pick (sc - 1)).at t)

/-- A preemptable frame on the wire whose gate closes is preempted at its last point (R459): the last whose fragment,
preamble, mCRC and inter-frame gap, 24 B in all, end by now. What it has sent so far stays sent, and its remainder waits. -/
def State.holdTx (s : State) (p : Nat) : State :=
  match (s.port p).tx with
  | some f =>
    if f.tc < 7 ∧ f.cuts ∧ s.preempts p ∧ !(s.port p).preemptOff ∧ (s.port p).txHeld.isNone ∧
        (!(s.treadle p).st.curShed.getLsbD f.tc ∨ s.held p) then
      let n := f.sent + ((s.now - f.started) * s.rate p / 8000 - 24)
      if n - f.sent ≥ 60 + 64 * (s.port p).cfg.txAddFrag.toNat ∧ n + 64 ≤ f.bytes.length then
        (((s.modPort p fun t => { t with tx := none, txHeld := some { f with sent := n, frags := f.frags + 1 } }).emit
          (.fragment p (slice f.bytes f.sent (n - f.sent)) false)).bump .txPreempt p).modTreadle p
            fun d => { d with st.heldRemainder := 1 }
      else s
    else s
  | none => s

/-- A waiting commit's start has come (R457): the next event of the list is its switch. -/
def State.switchDue (s : State) (p : Nat) : Bool :=
  let d := s.treadle p
  d.st.pending = 1 && !d.removing && decide (d.st.pendingStart.toNat ≤ s.scaleNow d.pendHdr.scale.toNat)

/-- TREADLE_ENTRY_BEGIN: the entry in force has ended and the next begins, or the list's first entry (R455, R456). A
removal takes effect at the end of a cycle (R454). After a jump of the scale the list repositions itself first (R460). -/
def execTreadleEntryBegin (p : Fin 33) (s : State) : Out :=
  let d := s.treadle p
  let r := s.scaleNow d.st.activeScale.toNat
  let s1 :=
    if d.st.active = 0 ∨ s.switchDue p ∨ (d.begun ∧ d.jumps ≠ 0) then s
    else if !d.begun then
      if d.st.activeStart.toNat ≤ r then s.modTreadle p fun d => d.enter s.now r (hdrCount d.actHdr) 0 0 else s
    else if s.entryOver p then
      let s0 := if s.floored p then s.modTreadle p fun d => { d with st.floorExtend := satInc d.st.floorExtend } else s
      if d.cut then s0.modTreadle p fun d => let (k, i) := d.posOf r; d.enter s.now r 0 k i
      else if d.st.curEntry.toNat + 1 < hdrCount d.actHdr then
        s0.modTreadle p fun d => d.enter s.now r (hdrCount d.actHdr) d.cycle (d.st.curEntry.toNat + 1)
      else if d.removing then s0.modTreadle p Treadle.clear
      else s0.modTreadle p fun d => d.enter s.now r (hdrCount d.actHdr) (d.cycle + 1) 0
    else s
  ok s (s1.holdTx p)

/-- Whether a start S lies on a cycle start of the active list (R457). -/
def Treadle.onGrid (d : Treadle) : Bool :=
  d.pendHdr.scale = d.st.activeScale && decide (d.st.activeStart.toNat ≤ d.st.pendingStart.toNat) &&
    decide ((d.st.pendingStart.toNat - d.st.activeStart.toNat) % (max 1 d.actHdr.cycleTime.toNat) = 0)

/-- TREADLE_SWITCH: the pending list's scale has reached its start; the entry in progress ends at its own floor at the
earliest, and the pending list becomes the active one (R457). -/
def execTreadleSwitch (p : Fin 33) (s : State) : Out :=
  let d := s.treadle p
  let free := d.st.active = 0 ∨ !d.begun ∨ d.entryAt + d.cur.floorNs.toNat ≤ s.now
  ok s (if s.switchDue p ∧ free then
      (s.modTreadle p fun d =>
        let cut := d.st.active = 1 ∧ !d.onGrid
        let d1 : Treadle := { d with
          actHdr := d.pendHdr, act := d.pend, badEnts := [], foundBad := [], jumps := 0
          st := { d.st with active := 1, activeScale := d.pendHdr.scale, activeCount := d.pendHdr.count, pending := 2
                            activeStart := d.st.pendingStart, pendingStart := 0, cycles := 0
                            treadleCut := if cut then satInc d.st.treadleCut else d.st.treadleCut } }
        d1.enter s.now (s.scaleNow d.pendHdr.scale.toNat) (hdrCount d.pendHdr) 0 0).holdTx p
    else s)

/-- TREADLE_COPY_DONE: the new active list has been copied into the pending copy (R457). -/
def execTreadleCopyDone (p : Fin 33) (s : State) : Out :=
  ok s (if (s.treadle p).st.pending = 2 then
    s.modTreadle p fun d => { d with pendHdr := d.actHdr, pend := d.act, st.pending := 0 } else s)

/-- An entry is mended: if it is in force, its shed and HOLD now take force (R452). -/
def Treadle.mend (d : Treadle) (i : Nat) : Treadle :=
  let d1 : Treadle := { d with badEnts := d.badEnts.erase i, foundBad := d.foundBad.erase i }
  if d.begun ∧ d.st.curEntry.toNat = i then d1.show' else d1

/-- TREADLE_ENTRY_REWRITE: an entry whose parity failed when it should begin has been rewritten from the command
processor's copy (R452); until then the port kept the entry before it. -/
def execTreadleEntryRewrite (p : Fin 33) (i : Fin 1024) (s : State) : Out :=
  let pay := put 288 0 (BitVec.ofNat 16 p) ||| put 288 16 (BitVec.ofNat 16 i)
  ok s (if (s.treadle p).st.active = 1 ∧ (s.treadle p).foundBad.contains i.val then
    (((s.modTreadle p fun d => d.mend i).holdTx p).reportDev 0x0201 p pay).reportDev 0x0203 p pay else s)

/-- TREADLE_REPOSITION: the list's scale has jumped (R460). The entry in progress ends at its own floor at the earliest;
the list goes on where the new reading lies. -/
def execTreadleReposition (p : Fin 33) (s : State) : Out :=
  let d := s.treadle p
  ok s (if d.st.active = 1 ∧ d.begun ∧ d.jumps ≠ 0 then
    let s1 := s.modTreadle p fun d => { d with jumps := d.jumps - 1, st.treadleStep := satInc d.st.treadleStep }
    if d.entryAt + d.cur.floorNs.toNat ≤ s.now then
      (s1.modTreadle p fun d =>
        let r := s.scaleNow d.st.activeScale.toNat
        let (k, i) := d.posOf r
        d.enter s.now r 0 k i).holdTx p
    else s1.modTreadle p fun d => { d with cut := true }
    else s)

end Sys2Proof.Machine
end

