-- ==== Sys2Proof/Machine/TmSelect.lean ====
section
/-!
DEFINITION. Selection at an egress port (R441, R442), the start of a frame, preemption and its remainder (R111), the
links' queues (R515), launch times (R115 to R117), prefetch (R467) and telemetry samples (R469, R470).
-/
namespace Sys2Proof.Machine

/-! ## Ready queues -/

/-- The link of a fabric queue: that of its head frame (R528). -/
def State.fabLinkOf (s : State) (n : Nat) : Option Nat :=
  match (s.queue n).onchip with
  | [] => none
  | x :: _ => s.pickLink ((n - 7680) / 8) x.fpath.toNat

/-- The queues that an egress port serves: general queues by PORT, fabric queues by their head's link; an empty fabric
queue is a member of every link. -/
def State.portQueues (s : State) (p : Nat) : List Nat :=
  (s.tm.queues.filter fun (n, u) =>
    if n < 7680 then decide (p < 33 ∧ u.cfg.port.toNat = p)
    else decide (p ≥ 48) && (u.onchip.isEmpty || decide (s.fabLinkOf n = some (p - 48)))).map (·.1)

/-- The first legal preemption point of a frame: bytes, 0 when it has none (R111). -/
def State.firstPoint (s : State) (p n : Nat) : Nat :=
  let a := 60 + 64 * (s.port p).cfg.txAddFrag.toNat
  if n ≥ a + 64 then a + 4 else 0

/-- The head entry of a queue's on-chip part. -/
def State.headOf (s : State) (n : Nat) : Option QEnt := (s.queue n).onchip.head?

/-- The head frame's launch time has come (R115): a frame whose preamble starts now has its egress timestamp point at the
launch time or after it. Other queues have none. -/
def State.launchDue (s : State) (n : Nat) (x : QEnt) : Bool :=
  (s.queue n).cfg.launch = 0 || x.e.launchEn = 0 ||
    s.dueAt x.e.lscale.toNat x.e.launchTime.toNat (s.txPoint (s.queue n).cfg.port.toNat)

/-- What R441 asks of a queue, but for the prefetch. -/
def State.readyBut (s : State) (p n : Nat) : Bool :=
  match s.headOf n with
  | none => false
  | some x =>
    let tc := (s.queue n).tc n
    s.gateOk p tc x.charged (s.firstPoint p x.charged) && s.shaped n p tc && s.launchDue n x
/-- Ready (R441). -/
def State.ready (s : State) (p n : Nat) : Bool :=
  s.readyBut p n && (s.headOf n).any fun x => x.e.dram = 0 || x.fetched

/-- Charged length of a queue's head. -/
def State.headLen (s : State) (n : Nat) : Nat := ((s.headOf n).map QEnt.charged).getD 0

/-! ## DWRR (R442) -/

/-- A turn of the pointer: members behind the current one first, the current one last. -/
def afterCur (mem : List Nat) : Option Nat → List Nat
  | none => mem
  | some c => mem.filter (c < ·) ++ mem.filter (· ≤ c)

/-- What a list's DWRR needs to know of its members. -/
structure DwrrEnv where
  mem : List Nat
  ready : Nat → Bool
  empty : Nat → Bool
  need : Nat → Nat
  quantum : Nat → Nat

/-- The pointer moves to the next ready member, which adds its quantum; an empty member passed over loses its DEFICIT. -/
def DwrrEnv.move (e : DwrrEnv) : List Nat → Tab Nat → Option Nat × Tab Nat
  | [], d => (none, d)
  | m :: r, d =>
    if e.ready m then (some m, Tab.upd 0 d m fun v => v + e.quantum m)
    else e.move r (if e.empty m then Tab.set 0 d m 0 else d)

/-- The member that sends next, with the pointer and the deficits before its frame is charged; no move when no member is
ready. -/
def DwrrEnv.pick (e : DwrrEnv) : Nat → Option Nat → Tab Nat → Option (Nat × Tab Nat)
  | 0, _, _ => none
  | n + 1, cur, d =>
    let go :=
      match e.move (afterCur e.mem cur) d with
      | (none, _) => none
      | (some m, d') => e.pick n (some m) d'
    match cur with
    | some c => if e.mem.contains c ∧ e.ready c ∧ e.need c ≤ Tab.get 0 d c then some (c, d) else go
    | none => go

/-- Turns that suffice for a frame of 9,606 B and quanta of 64 B. -/
def DwrrEnv.fuel (e : DwrrEnv) : Nat := 153 * e.mem.length + 2

/-- The DWRR over the queues of class `c` on port `p`. -/
def State.groupEnv (s : State) (p c : Nat) : DwrrEnv where
  mem := (s.portQueues p).filter fun n => (s.queue n).tc n = c
  ready := s.ready p
  empty n := (s.queue n).ents.isEmpty
  need := s.headLen
  quantum n := (s.queue n).cfg.quantum.toNat

/-- dwrr(group(p, c)): the queue, and the deficits of the group. -/
def State.groupPick (s : State) (p c : Nat) : Option (Nat × Tab Nat) :=
  let e := s.groupEnv p c
  let d := e.mem.foldl (fun (d : Tab Nat) n => Tab.set 0 d n (s.queue n).st.deficit.toNat) []
  e.pick e.fuel (Tab.get none (s.portTm p).curQueue c) d

/-- CLASS_QUANTUM[c] (R443). -/
def PortSched.quantum (h : PortSched) (c : Nat) : Nat := (h.classQuantums.extractLsb' (16 * c) 14).toNat

/-- The DWRR over the classes that are not strict. -/
def State.classEnv (s : State) (p : Nat) : DwrrEnv where
  mem := (List.range 7).filter fun c => !(s.portTm p).sched.strictMask.getLsbD c
  ready c := (s.groupPick p c).isSome
  empty c := ((s.groupEnv p c).mem.all fun n => (s.queue n).ents.isEmpty)
  need c := ((s.groupPick p c).map fun r => s.headLen r.1).getD 0
  quantum c := (s.portTm p).sched.quantum c

/-- A queue has been chosen in its group: pointer and deficits, its frame charged. -/
def State.groupCharge (s : State) (p c : Nat) (r : Nat × Tab Nat) : State :=
  let d := Tab.upd 0 r.2 r.1 fun v => v - s.headLen r.1
  let s1 := (s.groupEnv p c).mem.foldl (fun (s : State) n =>
    s.modQueue n fun u => { u with st.deficit := BitVec.ofNat 32 (Tab.get 0 d n) }) s
  s1.modPortTm p fun t => { t with curQueue := Tab.set none t.curQueue c (some r.1) }

/-- The next ready TC7 queue after the last one served (R442). -/
def State.pickTc7 (s : State) (p : Nat) : Option Nat :=
  (afterCur ((s.portQueues p).filter fun n => (s.queue n).tc n = 7) (s.portTm p).lastTc7).find? (s.ready p)

/-- select(p) below TC7: the queue, with the state after its charges. -/
def State.pickLower (s : State) (p : Nat) : Option (Nat × State) :=
  match [6, 5, 4, 3, 2, 1, 0].find? fun c =>
      (s.portTm p).sched.strictMask.getLsbD c && (s.groupPick p c).isSome with
  | some c => (s.groupPick p c).map fun r => (r.1, s.groupCharge p c r)
  | none =>
    let e := s.classEnv p
    match e.pick e.fuel (s.portTm p).curClass (s.portTm p).classDeficit with
    | none => none
    | some (c, d) => (s.groupPick p c).map fun r =>
      (r.1, (s.groupCharge p c r).modPortTm p fun t =>
        { t with curClass := some c, classDeficit := Tab.upd 0 d c fun v => v - s.headLen r.1 })

/-! ## Leaving a queue -/

/-- The head entry leaves its queue. -/
def State.popHead (s : State) (n : Nat) : State := s.modQueue n fun u => { u with onchip := u.onchip.drop 1 }

/-- An entry is dropped at dequeue. -/
def State.dropHead (s : State) (n : Nat) (x : QEnt) : State :=
  ((s.popHead n).modQueue n fun u => { u with dropSince := u.dropSince + 1 }).entryGone x.d.buf x.pkt

/-- Whether a launch-time frame that starts now would have its timestamp point more than LAUNCH_TOL after its due instant
(R117). A launch time that can no longer be converted lies before the kept segments or the last wall-time step, so long
ago that the frame is late. -/
def State.late (s : State) (p n : Nat) (x : QEnt) : Bool :=
  (s.queue n).cfg.launch = 1 && decide (x.e.launchEn = 1) &&
    (let c := s.convert x.e.lscale.toNat 0 x.e.launchTime.toNat
     c.status = 2 || (c.status ≤ 1 && decide ((s.txStamp p).toNat > c.value + (s.port p).cfg.launchTol.toNat)))

/-- The bound of a TC7 frame on a port in ns (R37, R43); none on M0 and on slow ports without preemption. -/
def State.tc7Bound (s : State) (p : Nat) : Option Nat :=
  if p ≥ 48 then some 750
  else if p = 32 then none
  else match (s.port p).cfg.mode.toNat with
    | 1 | 2 => if s.preempts p then some (630 + 1200 + 150) else none
    | 3 => if s.preempts p then some (630 + 480 + 60) else none
    | _ => some 750

/-- TC7_OVER at the first bit of a TC7 frame that entered at a front port: from the last bit of its FCS there, in whole ns
(R46), against the bound and the wire time of the frames that were ahead (R41). -/
def State.measureTc7 (s : State) (p : Nat) (x : QEnt) : State :=
  let d := x.d
  if d.tc = 7 ∧ d.typeV = 0 then
    match s.tc7Bound p with
    | none => s
    | some b =>
      let took := ((s.now : Int) * 1000 - Tab.get 0 s.buf.rxEnd (recOf d.buf)) / 1000
      if (took - b) * s.rate p > x.ahead * 1000 then s.bump .tc7Over p else s
  else s

/-- A frame starts on the wire: counters, sojourn, shapers, the bound (R446, R469, R471). -/
def State.begin' (s : State) (p n : Nat) (x : QEnt) : State :=
  let s1 := (s.popHead n).modQueue n fun u =>
    { u with st.txFrames := satInc u.st.txFrames, st.txBytes := satAdd u.st.txBytes x.charged, txSince := u.txSince + 1
             maxSojourn := max u.maxSojourn (s.now - x.e.enqLocal.toNat) }
  (s1.chargeAll n p x.d.tc.toNat x.charged).measureTc7 p x

/-- A frame starts on a front port or M0. -/
def State.startPort (s : State) (p n : Nat) (x : QEnt) : State :=
  let f : TxFrame := { queue := n, entry := x.e, bytes := s.egressBytes p x, tc := x.d.tc.toNat, started := s.now, began := s.now
                       cuts := s.preempts p, pkt := x.pkt }
  ((s.begin' p n x).ptpReturn p f.bytes).modPort p fun t => { t with tx := some f }

/-- A frame starts on a link: its number, its place in the retry buffer (R516, R517, R519). -/
def State.startLink (s : State) (k n : Nat) (x : QEnt) : State :=
  let (s1, f) := s.dataFrame x (s.egressBytes (48 + k) x)
  let t : TxFrame := { queue := n, entry := x.e, bytes := f.bytes, tc := x.d.tc.toNat, started := s.now, pkt := x.pkt }
  ((s1.begin' (48 + k) n x).linkKeep k f).modLink k fun l => { l with tx := some t }

/-- The head entry of a queue fails its parity or its descriptor's CHECK at dequeue: discarded under R21 (R439). -/
def State.badHead (s : State) (n : Nat) (x : QEnt) : State :=
  ((((s.popHead n).modQueue n fun u => { u with dropSince := u.dropSince + 1 }).entryGone x.d.buf x.pkt).bump
    .descCheckErr 0).report 0x0302 (BitVec.ofNat 32 n) (x.e.desc.setWidth 288) (s.queue n).cfg.owner.toNat

/-- An entry whose descriptor is IDLE names no frame (R19). -/
def State.idleHead (s : State) (n : Nat) (x : QEnt) : State := (s.popHead n).entryGone x.d.buf x.pkt

/-- The chain of a head's frame reaches a bad record (R156): dropped, and counted in HEAD_DROP (DESIGN CHOICE, log entry
91). -/
def State.badChain (s : State) (n : Nat) (x : QEnt) : State :=
  (((s.foundBad x.d.buf).popHead n).modQueue n fun u =>
    { u with st.headDrop := satInc u.st.headDrop, dropSince := u.dropSince + 1 }).entryGone x.d.buf x.pkt

/-- A selected head: discarded when its entry is bad, dropped when it is too long (R109) or late under LAUNCH_LATE 0
(R117), else started. The Boolean says that it left without being sent, so that the port selects again. -/
def State.serveQueue (s : State) (p n : Nat) (x : QEnt) (bad : Bool) : State × Bool :=
  if !bad && idleDesc x.e.desc then (s.idleHead n x, true)
  else if bad || (goodDesc x.e.desc).isNone then (s.badHead n x, true)
  else if (s.frameBad x.d.buf).isSome then (s.badChain n x, true)
  else if p ≥ 48 then (s.startLink (p - 48) n x, false)
  else if x.charged > (s.port p).cfg.maxFrame.toNat then ((s.dropHead n x).bump .txOversize p, true)
  else if s.late p n x then
    let s1 := s.bump .txLate p
    if (s.port p).cfg.launchLate = 0 then (s1.dropHead n x, true) else (s1.startPort p n x, false)
  else (s.startPort p n x, false)

/-- Whether a link takes a new frame: its retry buffer has room (R517). -/
def State.linkTakes (s : State) (p n : Nat) : Bool :=
  p < 48 || (s.link (p - 48)).room ((s.queue n).tc n = 7) (16 + s.headLen n)

/-- Queues of a port that only the prefetch holds back count in PREFETCH_STALL (R467). -/
def State.stallCount (s : State) (p : Nat) : State :=
  s.bumpBy .prefetchStall p ((s.portQueues p).filter fun n => s.readyBut p n && !s.ready p n).length

/-- A TC7 frame starts, if one is ready; selection goes on past dropped heads. `bad`: the first entry taken from the store
fails its parity. -/
def State.runTc7 (s : State) (p : Nat) (bad : Bool) : Nat → Option State
  | 0 => none
  | fuel + 1 =>
    match s.pickTc7 p with
    | none => none
    | some n =>
      match s.headOf n with
      | none => none
      | some x =>
        if !s.linkTakes p n then none
        else
          let s1 := s.modPortTm p fun t => { t with lastTc7 := some n }
          match s1.serveQueue p n x bad with
          | (s2, true) => some ((s2.runTc7 p false fuel).getD s2)
          | (s2, false) => some s2

/-- A frame of TC0 to TC6 starts, if one is ready. -/
def State.runLower (s : State) (p : Nat) (bad : Bool) : Nat → State
  | 0 => s
  | fuel + 1 =>
    match s.pickLower p with
    | none => s
    | some (n, s1) =>
      match s.headOf n with
      | none => s
      | some x =>
        if !s.linkTakes p n then s
        else match s1.serveQueue p n x bad with
          | (s2, true) => s2.runLower p false fuel
          | (s2, false) => s2

/-- Entries that could be dropped at one selection. -/
def State.selectFuel (s : State) (p : Nat) : Nat := ((s.portQueues p).map fun n => (s.queue n).onchip.length).sum + 1

/-! ## Front ports -/

/-- Bytes of the frame on the wire that have left, the preamble apart. -/
def State.sentBytes (s : State) (p : Nat) (f : TxFrame) : Nat :=
  f.sent + ((s.now - f.started) * s.rate p / 8000 - (if p ≥ 48 then 0 else 8))

/-- The preemptable frame on the wire gives way to a TC7 frame at a legal point (R111). -/
def State.preempt (s : State) (p : Nat) (f : TxFrame) (bad : Bool) : State :=
  let n := s.sentBytes p f
  if f.tc < 7 ∧ f.cuts ∧ s.preempts p ∧ !(s.port p).preemptOff ∧ (s.pickTc7 p).isSome ∧
      n - f.sent ≥ 60 + 64 * (s.port p).cfg.txAddFrag.toNat ∧ n + 64 ≤ f.bytes.length then
    let s1 := ((s.modPort p fun t => { t with tx := none, txHeld := some { f with sent := n, frags := f.frags + 1 } }).emit
      (.fragment p (slice f.bytes f.sent (n - f.sent)) false)).bump .txPreempt p
    let s2 := if p < 33 then s1.modTreadle p fun d => { d with st.heldRemainder := 1 } else s1
    (s2.runTc7 p bad (s2.selectFuel p)).getD s2
  else s

/-- The held remainder resumes when its class's gate is open and its guard holds (R111, R459). -/
def State.resumeHeld (s : State) (p : Nat) (f : TxFrame) : State :=
  let n := f.bytes.length - f.sent
  if s.gateOk p f.tc n (s.firstPoint p n) then
    (s.modPort p fun t => { t with tx := some { f with started := s.now }, txHeld := none }).modTreadle p
      fun d => { d with st.heldRemainder := 0 }
  else s

/-- While a port is down, one frame that reaches the head of its queues is dropped for each selection (R120, R473). -/
def State.drainDown (s : State) (p : Nat) (bad : Bool) : State :=
  match (s.portQueues p).find? fun n => (s.headOf n).isSome with
  | none => s
  | some n =>
    match s.headOf n with
    | none => s
    | some x => if !bad && idleDesc x.e.desc then s.idleHead n x else if bad || (goodDesc x.e.desc).isNone then s.badHead n x else (s.dropHead n x).bump .txLinkDown p

/-- Selection on a front port or M0. -/
def State.selectPort (s : State) (p : Nat) (bad : Bool) : State :=
  if (s.port p).st.linkUp = 0 then s.drainDown p bad
  else
    let s1 := s.stallCount p
    match (s1.port p).tx with
    | some f => s1.preempt p f bad
    | none =>
      match s1.runTc7 p bad (s1.selectFuel p) with
      | some s2 => s2
      | none =>
        match (s1.port p).txHeld with
        | some f => s1.resumeHeld p f
        | none => if s1.held p then s1 else s1.runLower p bad (s1.selectFuel p)

/-! ## Links (R515) -/

/-- Selection on a link: TC7 first, a suspended frame next, then the other classes; a frame that has sent 64 B is
suspended for an express one. -/
def State.selectLink (s : State) (k : Nat) (bad : Bool) : State :=
  let p := 48 + k
  if (s.link k).st.state ≠ 3 then s
  else
    let s1 := s.stallCount p
    match (s1.link k).tx with
    | some f =>
      if f.tc < 7 ∧ (s1.pickTc7 p).isSome ∧ s1.sentBytes p f ≥ 64 ∧ (s1.link k).held.isNone then
        let s2 := s1.modLink k fun l => { l with tx := none, held := some { f with sent := s1.sentBytes p f } }
        (s2.runTc7 p bad (s2.selectFuel p)).getD s1
      else s1
    | none =>
      match s1.runTc7 p bad (s1.selectFuel p) with
      | some s2 => s2
      | none =>
        match (s1.link k).held with
        | some f => s1.modLink k fun l => { l with tx := some { f with started := s.now }, held := none }
        | none => s1.runLower p bad (s1.selectFuel p)

/-- Port codes of the egress ports: 0 to 32 and 48 to 51 (R443). -/
def egressPort (p : Nat) : Bool := p ≤ 32 || (48 ≤ p && p ≤ 51)

/-- A selection at an egress port (R442): in the modes that send (R35). -/
def State.select (s : State) (p : Nat) (bad : Bool) : State :=
  if !s.sys.mode.live ∨ !egressPort p then s
  else if p ≥ 48 then s.selectLink (p - 48) bad else s.selectPort p bad

/-- PORT_SELECT; `bad` says that the entry it dequeues fails its parity in the entry store (R439). -/
def execPortSelect (p : Fin 52) (bad : Bool) (s : State) : Out := ok s (s.select p bad)

/-- LAUNCH_DUE: the head of a launch-time queue falls due (R115): its port selects, and on a port that is down it is
dropped (R120). -/
def execLaunchDue (q : Fin 7680) (s : State) : Out :=
  let u := s.queue q
  ok s (match u.onchip with
    | [] => s
    | x :: _ => if u.cfg.launch = 1 ∧ s.launchDue q x ∧ x.e.launchEn = 1 then s.select u.cfg.port.toNat false else s)

/-! ## The DRAM part (R465, R467, R468) -/

/-- The DRAM address of the head of a queue's DRAM part (R463). -/
def Queue.headAddr (u : Queue) : Nat :=
  u.cfg.spillBase.toNat + (u.dramW - u.dram.length) % 2 ^ u.cfg.spillLog2.toNat * 64
/-- The head of the DRAM part has the right CHECK, once the cache has brought it. -/
def State.spilledOk (s : State) (q : Nat) : Bool :=
  let a := (s.queue q).headAddr
  tileOk (leBits 512 (Mem.read (s.cacheRange 2 a 64 false).dram.mem a 64))

/-- SPILL_REFILL: the head of the DRAM part moves to the tail of the on-chip part while that holds fewer than 32 entries;
one whose CHECK is wrong in DRAM, or of which `bad` says so, is discarded, and its buffers are lost to their pool (R465). -/
def execSpillRefill (q : Fin 7680) (bad : Bool) (s : State) : Out :=
  let u := s.queue q
  ok s (match u.dram with
    | [] => s
    | x :: r =>
      if u.onchip.length ≥ 32 ∨ !s.storeRoom (u.tc q) then s
      else
        let a := u.headAddr
        let s1 := (s.cacheRange 2 a 64 false).modQueue q fun u => { u with dram := r }
        let t := leBits 512 (Mem.read s1.dram.mem a 64)
        if bad || !tileOk t then
          let n := (s.cellsOf x.d.buf).length
          ((((s1.modQueue q fun u => { u with dropSince := u.dropSince + 1 }).modPool u.cfg.spillPool.toNat
            fun b => { b with st.lostBuf := satAdd b.st.lostBuf n }).legGone x.pkt).bump
            .descCheckErr 0).report 0x0302 (BitVec.ofNat 32 q) (x.e.desc.setWidth 288) u.cfg.owner.toNat
        else s1.modQueue q fun u => { u with onchip := u.onchip ++ [{ x with e := QEntry.ofTile t }] })

/-- Bytes of a port's fetched heads: the fill of its prefetch buffer. -/
def State.prefetchFill (s : State) (p : Nat) : Nat :=
  ((s.portQueues p).map fun n => (((s.queue n).onchip.filter (·.fetched)).map fun x => x.d.length.toNat).sum).sum

/-- The queues whose head lies in DRAM and is not fetched. -/
def State.unfetched (s : State) (p : Nat) : List Nat :=
  (s.portQueues p).filter fun n => (s.headOf n).any fun x => x.e.dram = 1 && !x.fetched

/-- PREFETCH_COMPLETE: the next DRAM-resident head frame of a port's queues, in round-robin order, lies whole in the
prefetch buffer of 32 KiB, if it has the space (R467). -/
def execPrefetchComplete (p : Fin 52) (s : State) : Out :=
  ok s (match (afterCur (s.unfetched p) (some (s.portTm p).prefetchAt)).find? fun n =>
      decide (s.prefetchFill p + ((s.headOf n).map fun x => x.d.length.toNat).getD 0 ≤ 32768) with
    | none => s
    | some n =>
      (s.modQueue n fun u =>
        { u with onchip := match u.onchip with | x :: r => { x with fetched := true } :: r | [] => [] }).modPortTm p
          fun t => { t with prefetchAt := n })

/-- A port's panic (R468). -/
def State.panics (s : State) (p : Nat) : Bool :=
  decide (s.prefetchFill p < (s.portTm p).sched.prefetchLow.toNat) && !(s.unfetched p).isEmpty

/-! ## Telemetry (R469, R470) -/

/-- Age of a queue's oldest entry. -/
def State.headAge (s : State) (u : Queue) : Nat :=
  match u.ents with
  | x :: _ => s.now - x.e.enqLocal.toNat
  | [] => 0

/-- The first multiple of a queue's sample period after a local time (R469). -/
def QueueCfg.nextSample (c : QueueCfg) (t : Nat) : Nat :=
  let p := 2 ^ c.sampleLog2.toNat * 1000
  (t / p + 1) * p

/-- A queue's sample is due and may be taken: its period's boundary has come, none is due longer, and the sampler's last
sample is 2 ns past (R469). -/
def State.sampleDue (s : State) (q : Nat) : Bool :=
  let u := s.queue q
  u.cfg.telemEn = 1 && u.sampleAt ≤ s.now && s.tm.sampledAt + 2 ≤ s.now &&
    s.tm.queues.all fun (_, v) => v.cfg.telemEn = 0 || u.sampleAt ≤ v.sampleAt

/-- TELEMETRY_SAMPLE: the sample of one queue, flagged LATE when its due instant is more than 1 µs past (R469). -/
def execTelemetrySample (q : Fin 8192) (s : State) : Out :=
  let u := s.queue q
  let late := decide (u.sampleAt + 1000 < s.now)
  let p := if q.val < 7680 then u.cfg.port.toNat else 48 + (s.fabLinkOf q).getD 0
  let gate := p ≥ 33 || (s.treadle p).st.curShed.getLsbD (u.tc q)
  let it : BitVec 512 := put 512 0 (BitVec.ofNat 16 q) ||| put 512 16 (bit (!u.dram.isEmpty)) ||| put 512 17 (bit gate) |||
    put 512 18 (bit (s.panics p)) ||| put 512 19 (bit late) ||| put 512 24 u.sampleSeq |||
    put 512 32 (satNat 32 u.ents.length) ||| put 512 64 (satNat 32 u.bytes) |||
    put 512 96 (satNat 32 (s.headAge u)) ||| put 512 128 (satNat 32 u.maxSojourn) |||
    put 512 160 (satNat 32 u.txSince) ||| put 512 192 (satNat 32 u.dropSince) |||
    put 512 224 (s.wall.extractLsb' 10 32)
  ok s (if s.sampleDue q then
    { (ringPush s u.cfg.telemRing.toNat it).1.modQueue q fun u =>
        { u with maxSojourn := 0, txSince := 0, dropSince := 0, sampleSeq := u.sampleSeq + 1
                 sampleAt := u.cfg.nextSample u.sampleAt } with tm.sampledAt := s.now } else s)

end Sys2Proof.Machine
end

