-- ==== Sys2Proof/Machine/Ports.lean ====
section
/-!
DEFINITION. Front ports and M0, chapter 4: configuration, link state, preemption verify, receive.
-/
namespace Sys2Proof.Machine

/-! ## Configuration -/

/-- The reset value of a port's configuration (R98). -/
def PortCfg.reset : PortCfg := {}

/-- The BAD_PARAM cases of R99 and the ranges of R98, for a port code. -/
def PortCfg.bad (c : PortCfg) (p : Nat) : Bool :=
  c.mode.toNat ≥ 8 || !inR c.maxFrame.toNat 1518 9600 || c.loop = 3 || c.linkUpMs.toNat > 4000
  || !inR c.launchHorizon.toNat 1 10000000
  || (c.fec = 1 && c.mode ≠ 5 && c.mode ≠ 7) || (c.mode = 7 && c.fec = 0)
  || (c.anEn = 1 && c.mode ≠ 1 && c.mode ≠ 2) || (c.ltEn = 1 && c.mode.toNat < 4)
  || (!fourLane c.mode && (c.rxPol.toNat > 1 || c.txPol.toNat > 1))
  || (fourLane c.mode && p % 4 ≠ 0)
  || (p = 32 && (c.mode.toNat > 2 || (c.mode = 0 && c.enable = 1) || c.preemptEn = 1
      || c.launchLate ≠ PortCfg.reset.launchLate || c.launchTol ≠ PortCfg.reset.launchTol
      || c.launchHorizon ≠ PortCfg.reset.launchHorizon))

/-- The fields that R100 does not let change while ENABLE is 1. -/
def PortCfg.fixedSame (c o : PortCfg) : Bool :=
  c.mode == o.mode && c.fec == o.fec && c.anEn == o.anEn && c.ltEn == o.ltEn && c.eqPreset == o.eqPreset
  && c.loop == o.loop && c.rxPol == o.rxPol && c.txPol == o.txPol

/-- What PREEMPT_EN does while the link is up (R110, R111): with a frame or a remainder on its way, the change waits for the
frame boundary (R100). -/
def PortState.preemptChange (t : PortState) (o : PortCfg) : PortState :=
  if t.cfg.preemptEn = o.preemptEn then t
  else if t.cfg.preemptEn = 0 then
    if t.st.preemptState = 2 ∧ (t.txHeld.isSome ∨ t.tx.isSome) then { t with preemptOff := true, preemptOn := false }
    else { t with st.preemptState := 0, preemptOn := false }
  else if t.st.linkUp = 0 then { t with st.preemptState := 0, preemptOff := false }
  else if t.tx.isSome ∨ t.txHeld.isSome then { t with preemptOn := true, verifyTries := 0, verifyAt := none }
  else { t with st.preemptState := t.preemptStart, verifyTries := 0, verifyAt := none, preemptOff := false }

/-- Declare a port's link down (R119, R120). -/
def State.linkDown (s : State) (p : Nat) : State :=
  let was := (s.port p).st.linkUp = 1
  let s1 := s.modPort p fun t =>
    { t with st.linkUp := 0, st.pcsLock := 0, st.tsCalDone := 0, st.anDone := 0, st.fecActive := 0
             st.preemptState := 0, preemptOff := false, preemptOn := false, verifyTries := 0, verifyAt := none
             ltDone := false }
  if was then
    ((s1.modPort p fun t =>
      { t with st.linkDownCount := satInc t.st.linkDownCount, st.linkChangeWall := s.wall
               downAt := some s.now }).txLost
      p).reportDev 0x0501 p 0
  else s1

/-- A new port configuration (R98 to R100): ENABLE 0 takes the link down, and a single-lane MODE releases the other lanes
of a four-lane port. -/
def State.setPortCfg (s : State) (p : Nat) (c : PortCfg) : State :=
  let o := (s.port p).cfg
  let s1 := s.modPort p fun t =>
    ({ t with cfg := c, cfgPast := ((s.now, o) :: t.cfgPast).take 16 } : PortState).preemptChange o
  let s2 := if o.enable = 1 ∧ c.enable = 0 then s1.linkDown p else s1
  if p < 32 ∧ fourLane o.mode ∧ !fourLane c.mode then
    [1, 2, 3].foldl (fun (s : State) k => s.modPort (p / 4 * 4 + k) fun _ => {}) s2 else s2

/-- PORT_CONFIG (R98 to R100). -/
def execPortConfig (q : Cmd) (s : State) : Out :=
  let c := PortCfg.ofTile (q.tile 1)
  let o := (s.port q.h).cfg
  runCmd (setOp 0x201 .live PortCfg.rsv) q s
    { bad := [(q.h > 32 || s.absorbed q.h, .badParam), (c.bad q.h, .badParam)], owns := isSl0 s q
      keys := [(.port, q.h)]
      own := [(fourLane c.mode && c.enable = 1 &&
                [1, 2, 3].any (fun k => decide ((s.port (q.h / 4 * 4 + k)).cfg.enable = 1)), .busy),
              (o.enable = 1 && !c.fixedSame o, .busy)]
      eff := s.setPortCfg q.h c }

/-- The status tile of PORT_GET: the fixed latencies are those of the present MODE and FEC (R113). -/
def State.portStatus (s : State) (p : Nat) : PortSt :=
  let t := s.port p
  let m := t.cfg.mode.toNat
  { t.st with rxLatNs := if m = 0 then 0 else Config.rxLatNs m t.cfg.fec.toNat
              txLatNs := if m = 0 then 0 else Config.txLatNs m t.cfg.fec.toNat }

/-- PORT_GET (R101). -/
def execPortGet (q : Cmd) (s : State) : Out :=
  runCmd (getOp 0x202 .live) q s
    { bad := [(q.h > 32 || s.absorbed q.h, .badParam)], owns := clearOk s q 0, keys := [(.port, q.h)]
      changes := false, replyTiles := 3, tiles := [(s.port q.h).cfg.toTile, (s.portStatus q.h).toTile]
      eff := if q.clear then s.modPort q.h fun t =>
          { t with st := { t.st with linkDownCount := 0, fecCorrected := 0, fecUncorrected := 0 } } else s }

/-! ## Link state (R114, R119) -/

/-- The reference clock of a port's lanes runs (R660, R661). -/
def State.clockOk (s : State) (p : Nat) : Bool := !(Tab.get false s.sys.refLost (if p < 16 then 0 else 1))

/-- PCS_LOCK_ACQUIRE: block lock, and alignment on a four-lane port; calibration starts (R114). -/
def execPcsLockAcquire (p : Fin 33) (s : State) : Out :=
  ok s (if (s.port p).cfg.enable = 1 ∧ !s.absorbed p ∧ s.clockOk p then s.modPort p fun t =>
    { t with st.pcsLock := 1, st.tsCalDone := 0, st.fecActive := t.cfg.fec, lockAt := s.now } else s)

/-- AUTONEG_DONE: auto-negotiation runs once the PCS has synchronisation (R119). -/
def execAutonegDone (p : Fin 33) (s : State) : Out :=
  ok s (if (s.port p).cfg.enable = 1 ∧ (s.port p).cfg.anEn = 1 ∧ (s.port p).st.pcsLock = 1 ∧ s.clockOk p then
    s.modPort p fun t => { t with st.anDone := 1 } else s)

/-- LINK_TRAINING_DONE (R119). -/
def execLinkTrainingDone (p : Fin 33) (s : State) : Out :=
  ok s (if (s.port p).cfg.enable = 1 ∧ (s.port p).cfg.ltEn = 1 then
    s.modPort p fun t => { t with ltDone := true } else s)

/-- TS_CALIBRATION_DONE: calibration after the PCS lock has completed (R114). -/
def execTsCalibrationDone (p : Fin 33) (s : State) : Out :=
  ok s (if (s.port p).st.pcsLock = 1 then s.modPort p fun t => { t with st.tsCalDone := 1 } else s)

/-- The four conditions of R119. -/
def PortState.canUp (t : PortState) (now : Nat) : Bool :=
  t.cfg.enable = 1 && t.st.pcsLock = 1 && t.st.tsCalDone = 1 && t.st.linkUp = 0
  && (t.cfg.anEn = 0 || t.st.anDone = 1) && (t.cfg.ltEn = 0 || t.ltDone)
  && decide (now - t.lockAt ≥ t.cfg.linkUpMs.toNat * 1000000)

/-- LINK_UP_DECLARE (R119); preemption starts its verify (R110). -/
def execLinkUpDeclare (p : Fin 33) (s : State) : Out :=
  ok s (if (s.port p).canUp s.now then s.modPort p fun t =>
    { t with st.linkUp := 1, st.linkChangeWall := s.wall, verifyTries := 0, verifyAt := none
             st.preemptState := t.preemptStart } else s)

/-- An auto-negotiation restart takes the link down and leaves the PCS its lock (R119). -/
def State.autonegRestart (s : State) (p : Nat) : State :=
  let o := (s.port p).st
  let a := (s.port p).ltDone
  if (s.port p).cfg.anEn = 0 then s
  else (s.linkDown p).modPort p fun t =>
    { t with st.pcsLock := o.pcsLock, st.tsCalDone := o.tsCalDone, st.fecActive := o.fecActive, ltDone := a }

/-- PCS_LOCK_LOSS: lock or alignment lost, or auto-negotiation begins anew (R119). -/
def execPcsLockLoss (p : Fin 33) (why : PcsLoss) (s : State) : Out :=
  ok s (match why with | .lock | .alignment => s.linkDown p | .autoneg => s.autonegRestart p)

/-- The 10 ms of a verify attempt have passed (R110). -/
def PortState.verifyDue (t : PortState) (now : Nat) : Bool := t.verifyAt.all fun a => decide (a + 10000000 ≤ now)

/-- PREEMPT_VERIFY_SEND: the 10 ms interval expires; FAILED after three unanswered attempts (R110). -/
def execPreemptVerifySend (p : Fin 33) (s : State) : Out :=
  ok s (if (s.port p).st.preemptState = 1 ∧ (s.port p).verifyDue s.now then
    if (s.port p).verifyTries ≥ 3 then s.modPort p fun t => { t with st.preemptState := 3 }
    else (s.modPort p fun t => { t with verifyTries := t.verifyTries + 1, verifyAt := some s.now }).emit (.verify p)
    else s)

/-- PREEMPT_VERIFY_RESPONSE (R110). -/
def execPreemptVerifyResponse (p : Fin 33) (s : State) : Out :=
  ok s (if (s.port p).st.preemptState = 1 then s.modPort p fun t => { t with st.preemptState := 2 } else s)

/-! ## Receive (R102 to R104) -/

/-- PCP_MAP at a PCP (R98). -/
def PortCfg.pcp (c : PortCfg) (b : Byte) : Nat := (c.pcpMap.extractLsb' (3 * (b.extractLsb' 5 3).toNat) 3).toNat

/-- The class of a frame from its bytes 12 to 20 (R103). -/
def PortCfg.classOf (c : PortCfg) (f : List Byte) : Nat :=
  let tag (o : Nat) : Bool := let v := beBits 16 (slice f o 2); v == 0x8100 || v == c.tpidB
  if tag 12 then c.pcp (nthByte f 14)
  else if beBits 16 (slice f 12 2) = 0x892F ∧ tag 18 then c.pcp (nthByte f 20)
  else c.defaultTc.toNat

/-- The configuration under which a frame that began at a local time is received (R100). -/
def PortState.cfgAt (t : PortState) (began : Nat) : PortCfg :=
  ((t.cfgPast.filter fun e => decide (began < e.1)).getLast?.map (·.2)).getD t.cfg

/-- The metadata tile of a timestamp point at a local time in ps (R22): times and flags are those of that instant. -/
def State.metaTile (s : State) (ps : Int) (fcs : Word32) : Tile :=
  let e := s.pastAt ps
  let t := (ps / 1000).toNat
  { tsWall := s.wallAt ps, tsPk0 := s.pickStamp 0 t, tsPk1 := s.pickStamp 1 t, tsPk2 := s.pickStamp 2 t
    tsPk3 := s.pickStamp 3 t, pkEn := e.on, pkHold := e.hold, wallUnsync := e.unsync, fcsIn := fcs : MetaTile }.toTile

/-- The descriptor that a producer creates (R18): no output port, this device as destination. -/
def State.newDesc (s : State) (kind tc port len : Nat) (buf : BitVec 24) (wall : Word) : Desc :=
  { typeV := BitVec.ofNat 4 kind, tc := BitVec.ofNat 3 tc, express := bit (tc = 7), inPort := BitVec.ofNat 6 port
    length := BitVec.ofNat 14 len, buf := buf, tsWallLo := wall.setWidth 32, outPort := 63, destDev := s.devId }

/-- A good frame enters the device: cells, metadata, descriptor, warp ring (R102 check 8, R103, R104). `ps` is the local
time of its timestamp point and `endPs` that of the last bit of its FCS at the pins. `none` when the pool has no cell. -/
def State.intake (s : State) (kind p tc : Nat) (ps endPs : Int) (f : List Byte) : Option State :=
  let w := (s.warp p).cfg
  let pool := (if tc = 7 then w.rxPoolX else w.rxPool).toNat
  let tile := s.metaTile ps (leBits 32 (slice f (f.length - 4) 4))
  match s.storeFrame pool tile f with
  | none => none
  | some (s1, h) =>
    let d := s.newDesc kind tc p f.length h (s.wallAt ps)
    some ({ s1 with buf.rxEnd := Tab.set 0 s1.buf.rxEnd (recOf h) endPs }.warpWrite p (tc = 7) d.toTile)

/-- The bytes of a frame that came in fragments: their data, and the last one's check as the FCS. -/
def rxBytes : RxFrame → List Byte
  | .whole bs => bs
  | .parts l => (l.map (·.data)).flatten ++ (match l.getLast? with | some m => bytesOf m.check 4 | none => [])

/-- The fragments behind the first (R112): continuations of one frame whose fragment counts follow each other, each but the
last with the mCRC of the frame so far. -/
def goodRest (frame : BitVec 2) : Nat → List Byte → List MPacket → Bool
  | _, _, [] => true
  | n, sofar, m :: r =>
    let all := sofar ++ m.data
    !m.start && m.frame == frame && m.frag == BitVec.ofNat 2 n && (r.isEmpty || m.check == crc32 all ^^^ 0xFFFF0000)
      && goodRest frame (n + 1) all r

/-- Whether a frame reassembles (R112; the mCRC is the FCS of the frame so far with its last 16 bits inverted, as IEEE
802.3br has it: log entry 31). -/
def rxGood : RxFrame → Bool
  | .whole _ => true
  | .parts [] => false
  | .parts (m :: r) =>
    m.start && (r.isEmpty || m.check == crc32 m.data ^^^ 0xFFFF0000) && goodRest m.frame 0 m.data r

/-- The counter of the first check of R102 that a frame fails, in their order, but for the buffer; `c` is the
configuration under which it is received. Checks 2 to 5 read the reassembled frame, so a frame that does not reassemble
comes to check 6 (log entry 31). -/
def State.rxDrop (s : State) (c : PortCfg) (f : RxFrame) (line : RxLine) : Option Ctr :=
  let bs := rxBytes f
  if line.codeErr ∨ line.fecBad > 0 then some .rxCodeErr
  else if !rxGood f then some .rxFragErr
  else if bs.length < 64 then some .rxRunt
  else if bs.length > c.maxFrame.toNat then some .rxOversize
  else if crc32 (bs.take (bs.length - 4)) ≠ leBits 32 (slice bs (bs.length - 4) 4) then some .rxFcsErr
  else if beNat (slice bs 12 2) = 0x8808 then some .rxMacCtrl
  else if s.sys.mode.live then none else some .rxModeDrop

/-- A command frame of the management port goes to the command processor and to no core (R97, R579). -/
def State.isMgmt (s : State) (p : Nat) (f : List Byte) : Bool :=
  p = 32 && beNat (slice f 12 2) = 0x88B5 && decide (slice f 0 6 = bytesOf s.m0Addr 6)

/-- Local time in ps at which what the PCS detects at a local time crossed the pins: RX_LAT_NS and the signed RX_CAL_PS are
subtracted (R113). -/
def State.rxPoint (s : State) (p t : Nat) : Int :=
  ((t : Int) - (s.portStatus p).rxLatNs.toNat) * 1000 - (s.port p).cfg.rxCalPs.toInt

/-- The codewords of a frame's reception count while RS-FEC is in use (R101). -/
def State.countFec (s : State) (p : Nat) (line : RxLine) : State :=
  s.modPort p fun t => if t.st.fecActive = 0 then t else
    { t with st.fecCorrected := satAdd t.st.fecCorrected line.fecFixed
             st.fecUncorrected := satAdd t.st.fecUncorrected line.fecBad }

/-- A frame at an enabled port whose link is up (R102 to R104). -/
def State.macReceive (s : State) (p : Nat) (f : RxFrame) (line : RxLine) (age : Nat) : State :=
  let c := (s.port p).cfgAt (s.now - age)
  let bs := rxBytes f
  match s.rxDrop c f line with
  | some k => s.bump k p
  | none =>
    if s.isMgmt p bs then (s.bump .rxFrames p).bumpBy .rxBytes p bs.length
    else match s.intake 0 p (c.classOf bs) (s.rxPoint p (s.now - age)) (s.rxPoint p s.now) bs with
      | none => (s.allocFail ((if c.classOf bs = 7 then (s.warp p).cfg.rxPoolX else (s.warp p).cfg.rxPool).toNat)).bump
          .rxNoBuf p
      | some s1 => (s1.bump .rxFrames p).bumpBy .rxBytes p bs.length

/-- FRAME_RECEIVE: a frame has arrived; `age` is the time since its first bit was detected (R113). A frame that had begun
when the port went down is dropped under check 1 (R120). Under LOOP 1 the receiver does not hear the line; under LOOP 2
the line's frame goes back as it came (R98; log entry 87). -/
def execFrameReceive (p : Fin 33) (f : RxFrame) (line : RxLine) (age : Nat) (s : State) : Out :=
  let t := s.port p
  ok s (if t.cfg.loop = 1 then s
    else if t.cfg.enable = 0 ∨ t.st.linkUp = 0 then
      (if t.downAt.any fun d => decide (s.now - age < d) then s.bump .rxCodeErr p else s)
    else
      let s1 := if t.cfg.loop = 2 then s.emit (.frame p (rxBytes f)) else s
      (s1.countFec p line).macReceive p f line age)

/-! ## The end of a transmission -/

/-- A frame that ends after its gate has closed (R458). -/
def State.overrun (s : State) (p : Nat) (f : TxFrame) : State :=
  if p < 33 ∧ !(s.treadle p).st.curShed.getLsbD f.tc then
    s.modTreadle p fun d => { d with st.gateOverrun := satInc d.st.gateOverrun }
  else s

/-- A frame that has left a MAC whole: onto the line, under LOOP 1 into the port's own receiver, under LOOP 2 nowhere
(R98; log entry 87). -/
def State.outward (s : State) (p : Nat) (f : TxFrame) : State :=
  match (s.port p).cfg.loop.toNat with
  | 0 => s.emit (if f.frags = 0 then .frame p f.bytes else .fragment p (f.bytes.drop f.sent) true)
  | 1 => s.macReceive p (.whole f.bytes) {} (s.now - f.began)
  | _ => s

/-- The last bit of a port's frame has left. -/
def State.txEnd (s : State) (p : Nat) (f : TxFrame) : State :=
  let s1 := s.modPort p fun t => { t with tx := none }.preemptSettle
  let s2 := ((s1.overrun p f).bump .txFrames p).bumpBy .txBytes p f.bytes.length
  (s2.entryGone (Desc.ofTile f.entry.desc).buf f.pkt).outward p f

/-- TX_COMPLETE: the last bit of the frame on the wire has left. The entry's references drop (R153); a change of
PREEMPT_EN that waits for the frame boundary comes into force (R100, R111). -/
def execTxComplete (p : Fin 52) (s : State) : Out :=
  ok s (if p.val ≥ 48 then
    match (s.link (p - 48)).tx with
    | none => s
    | some f => ((s.modLink (p - 48) fun l => { l with tx := none }).emit (.link (p - 48) 0 f.bytes)).entryGone
        (Desc.ofTile f.entry.desc).buf f.pkt
  else match (s.port p).tx with
    | none => s
    | some f => s.txEnd p f)

end Sys2Proof.Machine
end

