-- ==== Sys2Proof/Machine/Tables.lean ====
section
/-!
DEFINITION. The station, stream and route tables (chapter 13): candidates, lookups, faults found and restoration,
learning, ageing, flushes, scrubbing, and the commands of group 0x05.
-/
namespace Sys2Proof.Machine

/-! ## Slots -/

/-- First slot of the main region, slots of the stream table, first line of the main region in DRAM (R375, R479). -/
def mainBase : Nat := 65536
/-- The line that holds a main slot. -/
def mainLine (n : Nat) : Nat := 0x20000 + (n - mainBase)

/-- A slice's table partition. -/
def State.part (s : State) (n : Nat) : TablePart := Tab.get {} s.tab.parts n
/-- A station slot. -/
def State.station (s : State) (n : Nat) : Station := Tab.get {} s.tab.stations n
/-- A stream slot: the pinned region on the chip, the main region as tiles in DRAM. -/
def State.stream (s : State) (n : Nat) : Stream :=
  if n < mainBase then Tab.get {} s.tab.streams n else Stream.ofTile (s.dramLine (mainLine n))
/-- A route by its handle. -/
def State.rt (s : State) (n : Nat) : Route := Tab.get {} s.tab.routes n

/-- FLAGS.VALID of a stream. -/
def Stream.valid (e : Stream) : Bool := e.flags.getLsbD 0
/-- FLAGS.PINNED of a stream. -/
def Stream.pinned (e : Stream) : Bool := e.flags.getLsbD 2
/-- The tile of a stream slot; a free slot of DRAM is all zeros. -/
def Stream.stored (e : Stream) : Tile := if e = {} then 0 else e.toTile

/-- A main slot's tile fails its CHECK, which is verified at every use (R375); a slot of zeros holds nothing. -/
def State.checkBad (s : State) (n : Nat) : Bool :=
  decide (mainBase ≤ n) && decide (n < 1048576) && s.dramOn && s.dramLine (mainLine n) != 0 &&
    !tileOk (s.dramLine (mainLine n))

/-- A slot awaits restoration (R405). -/
def State.awaits (s : State) (tb n : Nat) : Bool := s.tab.bad.contains (tb, n)
/-- A slot is written or freed: its restoration and the repair of its half are abandoned (R405, R408). -/
def State.settle (s : State) (tb n : Nat) : State :=
  { s with tab.bad := s.tab.bad.erase (tb, n)
           tab.badHalf := if tb = 1 then s.tab.badHalf.filter fun p => p.1 ≠ n else s.tab.badHalf }

/-- A station slot is written: no flush removes what is inserted, moved or refreshed while it walks (R390). -/
def State.putStation (s : State) (n : Nat) (e : Station) : State :=
  { s with tab.stations := Tab.set {} s.tab.stations n e
           tab.flushes := s.tab.flushes.map fun (f : Flush) => { f with slots := f.slots.filter (· ≠ n) } }
/-- A stream slot is written, both halves of a pinned one in one cycle (R394), a main one through the cache as CID 1. -/
def State.putStream (s : State) (n : Nat) (e : Stream) : State :=
  if n < mainBase then { s with tab.streams := Tab.set {} s.tab.streams n e }
  else s.cachedWrite 1 (mainLine n * 64) (bytesOf e.stored 64)
/-- A route is written. -/
def State.putRoute (s : State) (n : Nat) (e : Route) : State :=
  { s with tab.routes := Tab.set {} s.tab.routes n e }

/-- Main slots that hold an entry. -/
def State.mainSlots (s : State) : List Nat :=
  ((s.dram.mem.filterMap fun (a, _) =>
    if mainLine mainBase * 64 ≤ a ∧ a < mainLine 1048576 * 64 then some (a / 64 - mainLine mainBase + mainBase) else none).dedup).filter
    fun n => (s.stream n).valid

/-- Station entries of a slice. -/
def State.stCount (s : State) (n : Nat) : Nat := (s.tab.stations.filter fun (_, e) => e.valid = 1 && e.owner.toNat = n).length
/-- Pinned stream entries of a slice. -/
def State.pinCount (s : State) (n : Nat) : Nat := (s.tab.streams.filter fun (_, e) => e.valid && e.owner.toNat = n).length
/-- Main stream entries of a slice. -/
def State.mainCount (s : State) (n : Nat) : Nat := (s.mainSlots.filter fun i => (s.stream i).owner.toNat = n).length
/-- Units of a route (R396). -/
def Route.units (e : Route) : Nat := if e.valid = 0 then 0 else if e.af = 0 then 1 else 4
/-- Route units of a slice. -/
def State.rtUnits (s : State) (n : Nat) : Nat :=
  ((s.tab.routes.filter fun (_, e) => e.owner.toNat = n).map fun (_, e) => e.units).sum

/-! ## Placing keys (R381, R382) -/

/-- H_c of R381. -/
def State.tabHash (s : State) (key : List Byte) (c : Nat) : Nat :=
  (crc32c (bytesOf s.tab.cfg.hashSeed 4 ++ key ++ [BitVec.ofNat 8 c])).toNat

/-- The eight slots of two buckets. -/
def slotsOf (base b1 b2 : Nat) : List Nat :=
  (List.range 4).map (fun w => base + b1 * 4 + w) ++ (List.range 4).map fun w => base + b2 * 4 + w

/-- The key of a station entry. -/
def stKey (owner : BitVec 6) (mac : BitVec 48) (fid : BitVec 12) : List Byte :=
  [owner.setWidth 8] ++ bytesOf mac 6 ++ bytesOf (fid.setWidth 16) 2
/-- The key of a stream entry. -/
def seKey (owner : BitVec 6) (dmac : BitVec 48) (vid : BitVec 12) (appid : BitVec 16) : List Byte :=
  [owner.setWidth 8] ++ bytesOf dmac 6 ++ bytesOf (vid.setWidth 16) 2 ++ bytesOf appid 2
/-- A station's key. -/
def Station.key (e : Station) : List Byte := stKey e.owner e.mac e.fid
/-- A stream's key. -/
def Stream.key (e : Stream) : List Byte := seKey e.owner e.dmac e.vid e.appid

/-- Candidate slots of a station key. -/
def State.stCands (s : State) (key : List Byte) : List Nat :=
  let b1 := s.tabHash key 1 % 65536
  let b2 := s.tabHash key 2 % 65536
  slotsOf 0 b1 (if b2 = b1 then b1 ^^^ 1 else b2)
/-- Candidate slots of a stream key in the pinned region. -/
def State.pinCands (s : State) (key : List Byte) : List Nat :=
  let b1 := s.tabHash key 1 % 16384
  let b2 := s.tabHash key 2 % 16384
  slotsOf 0 b1 (if b2 = b1 then b1 ^^^ 1 else b2)
/-- Candidate slots of a stream key in the main region. -/
def State.mainCands (s : State) (key : List Byte) : List Nat :=
  let b1 := s.tabHash key 1 % 245760
  let b2 := s.tabHash key 2 % 245760
  slotsOf mainBase b1 (if b2 = b1 then (b1 + 1) % 245760 else b2)

/-- The free slot that the device chooses among eight candidates (R382). -/
def chooseSlot (cands : List Nat) (free : Nat → Bool) : Option Nat :=
  let a := (cands.take 4).filter free
  let b := (cands.drop 4).filter free
  if b.length > a.length then b.head? else a.head?

/-- A station slot holds nothing and does not await restoration. -/
def State.stFree (s : State) (n : Nat) : Bool := (s.station n).valid = 0 && !s.awaits 0 n
/-- A stream slot holds nothing and does not await restoration. -/
def State.seFree (s : State) (n : Nat) : Bool := !(s.stream n).valid && !s.awaits 1 n
/-- The slot of a station key (R381), one that awaits restoration too: a command writes or frees it there (R405). -/
def State.stHeld (s : State) (key : List Byte) : Option Nat :=
  (s.stCands key).find? fun n => (s.station n).valid = 1 && (s.station n).key == key
/-- The slot of a station key, good slots only. -/
def State.stGood (s : State) (key : List Byte) : Option Nat := (s.stHeld key).filter fun n => !s.awaits 0 n
/-- The slot of a stream key among some candidates, one that awaits restoration too. -/
def State.seHeldIn (s : State) (cands : List Nat) (key : List Byte) : Option Nat :=
  cands.find? fun n => (s.stream n).valid && (s.stream n).key == key
/-- The slot of a stream key in both regions. -/
def State.seHeld (s : State) (key : List Byte) : Option Nat :=
  match s.seHeldIn (s.pinCands key) key with
  | some n => some n
  | none => if s.dramOn then s.seHeldIn (s.mainCands key) key else none

/-! ## Faults and restoration (R394, R399 to R406) -/

/-- Payload of a table report: table, slot, slice. -/
def tabPayload (tb n owner : Nat) : BitVec 288 :=
  put 288 0 (BitVec.ofNat 32 tb) ||| put 288 32 (BitVec.ofNat 32 n) ||| put 288 64 (BitVec.ofNat 8 owner)

/-- A slot holds an entry. -/
def State.slotUsed (s : State) (tb n : Nat) : Bool :=
  if tb = 0 then (s.station n).valid = 1 else if tb = 1 then (s.stream n).valid else (s.rt n).valid = 1

/-- The owner of what a slot holds, or held last (DESIGN CHOICE for a free slot, whose slice the spec does not name: log entry
93). -/
def State.slotOwner (s : State) (tb n : Nat) : Nat :=
  if !s.slotUsed tb n then Tab.get 0 s.tab.lastOwner (tb * 2 ^ 20 + n)
  else if tb = 0 then (s.station n).owner.toNat else if tb = 1 then (s.stream n).owner.toNat else (s.rt n).owner.toNat

/-- A report of a slot, with the notice to the slice whose entry it is (R62, R573). -/
def State.tabReport (s : State) (code : BitVec 16) (tb n owner : Nat) : State :=
  (s.report code (BitVec.ofNat 32 n) (tabPayload tb n owner) owner).notice owner 0x0008 n
    (BitVec.ofNat 64 (tb + n * 2 ^ 32))

/-- A slot becomes free, and its restoration ends. -/
def State.freeSlot (s : State) (tb n : Nat) : State :=
  let s1 := { s with tab.lastOwner := Tab.set 0 s.tab.lastOwner (tb * 2 ^ 20 + n) (s.slotOwner tb n) }
  (if tb = 0 then s1.putStation n {} else if tb = 1 then s1.putStream n {} else s1.putRoute n {}).settle tb n

/-- A slot is lost: freed, and reported as TABLE_ENTRY_LOST (R404). -/
def State.loseSlot (s : State) (tb n owner : Nat) : State :=
  ((s.freeSlot tb n).tabReport 0x0A01 tb n owner).bump .lost owner

/-- Where the host's copy of a slot or handle lies, from COPY_BASE (R401). -/
def copyOffset (tb n : Nat) : Nat :=
  (if tb = 0 then 0x04000000 else if tb = 1 then 0 else 0x05000000) + n * 64

/-- A bad slot enters restoration (R404), in use or free: the host's copy is read where its slice keeps copies of the table;
else the slot is freed, and lost unless it held a dynamic station (R403). -/
def State.restore (s : State) (tb n : Nat) : State :=
  let o := s.slotOwner tb n
  if (s.part o).copyMask.getLsbD tb then
    { s with tab.bad := s.tab.bad ++ [(tb, n)]
             tab.badAt := Tab.set 0 s.tab.badAt (tb * 2 ^ 20 + n) s.now }.emit
      (.hostRead o (BitVec.ofNat 64 ((s.part o).copyBase.toNat + copyOffset tb n)) 64)
  else if tb = 0 ∧ s.slotUsed 0 n ∧ (s.station n).staticV = 0 then s.freeSlot tb n
  else s.loseSlot tb n o

/-- The half of a pinned slot that a fault names. -/
def SlotFault.half : SlotFault → Option Bool
  | .halfA => some false
  | .halfB => some true
  | _ => none
/-- The fault that a read of a slot finds: the one it is told of, or a CHECK that fails in DRAM. -/
def State.faultSeen (s : State) (tb n : Nat) (f : Option SlotFault) : Option SlotFault :=
  match f with
  | some f => some f
  | none => if tb = 1 ∧ s.checkBad n then some .whole else none

/-- The fault that a read of a slot meets, with what is known of its halves already: `some none` for a slot that counts
as bad, `some (some h)` for a pinned slot whose half `h` alone is bad (R394). -/
def State.slotFault (s : State) (tb n : Nat) (f : Option SlotFault) : Option (Option Bool) :=
  let known : Option Bool := if tb = 1 then (s.tab.badHalf.find? fun p => p.1 = n).map (·.2) else none
  if s.awaits tb n then some none
  else match s.faultSeen tb n f with
    | none => known.map some
    | some f =>
      match (if tb = 1 ∧ n < mainBase then SlotFault.half f else none), known with
      | some h, none => some (some h)
      | some h, some k => if h = k then some (some h) else some none
      | none, _ => some none

/-- A read finds a slot bad (R394, R399): reported, and repaired or restored. -/
def State.noteFault (s : State) (tb n : Nat) (f : SlotFault) : State :=
  let o := s.slotOwner tb n
  let code : BitVec 16 := if tb = 1 ∧ mainBase ≤ n then 0x0202 else 0x0201
  if s.awaits tb n then s
  else match s.slotFault tb n (some f) with
    | some (some h) =>
      if s.tab.badHalf.contains (n, h) then s
      else { s.tabReport code tb n o with tab.badHalf := (n, h) :: s.tab.badHalf }
    | _ =>
      let twice : Bool := tb = 1 && n < mainBase && f = .whole
      let s1 := s.tabReport code tb n o
      let s2 := if twice then s1.tabReport code tb n o else s1
      { s2 with tab.badHalf := s2.tab.badHalf.filter fun p => !(tb = 1 && p.1 = n) }.restore tb n

/-- The fault that a list names for a slot. -/
def faultAt (fs : List (Nat × SlotFault)) (n : Nat) : Option SlotFault := (fs.find? fun p => p.1 = n).map (·.2)

/-- The faults of a list at some candidates are noted. -/
def State.noteFaults (s : State) (tb : Nat) (cands : List Nat) (fs : List (Nat × SlotFault)) : State :=
  cands.foldl (fun (s : State) n =>
    match s.faultSeen tb n (faultAt fs n) with | some f => s.noteFault tb n f | none => s) s

/-- What a lookup answers. -/
inductive Look where
  | hit (n : Nat)
  | miss
  | missCheck
deriving DecidableEq, Repr

/-- A lookup among candidates (R399): a good slot that holds the key is the answer; else a bad one makes MISS_CHECK. -/
def State.look (s : State) (tb : Nat) (cands : List Nat) (fs : List (Nat × SlotFault)) (is : Nat → Bool) : Look :=
  let bad := fun n => s.slotFault tb n (faultAt fs n) == some none
  match cands.find? fun n => !bad n && is n with
  | some n => .hit n
  | none => if cands.any bad then .missCheck else .miss

/-- STATION lookup of a slice (R384). -/
def State.stLook (s : State) (slice : Nat) (mac : BitVec 48) (fid : BitVec 12) (fs : List (Nat × SlotFault)) : State × Look :=
  let key := stKey (BitVec.ofNat 6 slice) mac fid
  let c := s.stCands key
  let r := s.look 0 c fs fun n => (s.station n).valid = 1 && (s.station n).key == key
  let s1 := s.noteFaults 0 c fs
  (if r = .missCheck then s1.bump .lookupMissCheck slice else s1, r)

/-- FIND, and with `pin` FIND_PINNED (R393): the main region is read through the table cache as CID 1. -/
def State.seLook (s : State) (slice : Nat) (key : List Byte) (pin : Bool) (fs : List (Nat × SlotFault)) : State × Look :=
  let is := fun n => (s.stream n).valid && (s.stream n).key == key
  let c := s.pinCands key
  let r := s.look 1 c fs is
  let s1 := s.noteFaults 1 c fs
  let go : Bool := !pin && s.dramOn && (match r with | .hit _ => false | _ => true)
  let d := s.mainCands key
  let r2 := if go then (match s.look 1 d fs is with | .miss => r | x => x) else r
  let s2 := if go then
      (d.foldl (fun s n => (s.cacheTouch 1 (mainLine n) false).1) s1).noteFaults 1 d fs
    else s1
  (if r2 = .missCheck then s2.bump .lookupMissCheck slice else s2, r2)

/-! ## Routes (R396, R397) -/

/-- Bits of an address of a family. -/
def routeWidth (af : BitVec 1) : Nat := if af = 0 then 32 else 128
/-- An address in frame order as a number. -/
def routeNum (af : BitVec 1) (a : BitVec 128) : Nat := beNat (bytesOf a (routeWidth af / 8))
/-- A route's prefix matches an address. -/
def Route.matches (e : Route) (a : BitVec 128) : Bool :=
  let k := routeWidth e.af - e.plen.toNat
  routeNum e.af e.prefixV / 2 ^ k = routeNum e.af a / 2 ^ k
/-- The best match of a slice and family: largest PLEN. -/
def State.rtBest (s : State) (slice : Nat) (af : BitVec 1) (a : BitVec 128) : Option Nat :=
  let m := s.tab.routes.filter fun (_, e) => e.valid = 1 && e.owner.toNat = slice && e.af = af && e.matches a
  (m.foldl (fun (b : Option (Nat × Route)) x =>
    match b with
    | some y => if x.2.plen.toNat > y.2.plen.toNat then some x else b
    | none => some x) none).map (·.1)

/-- A damaged part of the search structure is found (R399, R400). -/
def State.indexFault (s : State) : State :=
  if s.tab.routeDamaged then s else { s.tabReport 0x0201 2 0xFFFFFFFF 0 with tab.routeDamaged := true }

/-- FIND4 and FIND6 (R397, R399): `path` when the search meets a damaged part, `entry` when the selected entry fails its
parity. No shorter prefix takes the place of a bad one. -/
def State.rtLook (s : State) (slice : Nat) (af : BitVec 1) (a : BitVec 128) (path entry : Bool) : State × Look :=
  let best := s.rtBest slice af a
  let s1 := if path then s.indexFault else s
  match best with
  | none => if path then (s1.bump .lookupMissCheck slice, .missCheck) else (s1, .miss)
  | some n =>
    let s2 := if entry then s1.noteFault 2 n .whole else s1
    if path ∨ entry ∨ s.awaits 2 n then (s2.bump .lookupMissCheck slice, .missCheck) else (s2, .hit n)

/-- The handle of a slice's prefix, kept for the life of the prefix (R398), one that awaits restoration too. -/
def State.rtHeld (s : State) (e : Route) : Option Nat :=
  (s.tab.routes.find? fun (_, r) => r.valid = 1 && r.owner = e.owner && r.af = e.af && r.plen = e.plen &&
    r.prefixV = e.prefixV).map (·.1)

/-- PLEN in range and no bit beyond it (R396, R398). -/
def Route.shaped (e : Route) : Bool :=
  decide (e.plen.toNat ≤ routeWidth e.af) && (e.af = 1 || decide (e.prefixV.toNat < 2 ^ 32)) &&
    decide (routeNum e.af e.prefixV % 2 ^ (routeWidth e.af - e.plen.toNat) = 0)

/-! ## Learning (R385 to R387) -/

/-- Push a learning item (R387). -/
def State.learnItem (s : State) (slice : Nat) (mac : BitVec 48) (fid : BitVec 12) (ev port old index : Nat) : State :=
  let p := s.part slice
  if p.lrnEn = 1 then
    (ringPush s p.lrnRing.toNat (put 512 0 mac ||| put 512 48 fid ||| put 512 64 (BitVec.ofNat 8 ev) |||
      put 512 72 (BitVec.ofNat 8 port) ||| put 512 80 (BitVec.ofNat 8 old) ||| put 512 96 (BitVec.ofNat 32 index))).1
  else s

/-- A dynamic entry is old (R388). -/
def State.isOld (s : State) (e : Station) : Bool :=
  e.valid = 1 && e.staticV = 0 && decide ((s.tab.now16 - e.age).toNat ≥ s.tab.cfg.ageLimit.toNat)

/-- The victim of an eviction (R386): RANDOM draws from a generator that no program can read. -/
def State.stVictim (s : State) (slice : Nat) (cands : List Nat) : State × Option Nat :=
  let vs := cands.filter fun n =>
    (s.station n).valid = 1 && (s.station n).staticV = 0 && (s.station n).owner.toNat = slice && !s.awaits 0 n
  let age := fun n => (s.tab.now16 - (s.station n).age).toNat
  match vs with
  | [] => (s, none)
  | v :: r =>
    if s.tab.cfg.evict = 0 then (s, none)
    else if s.tab.cfg.evict = 1 then (s.drawn, vs[(Config.random s.time.free).toNat % vs.length]?)
    else (s, some (r.foldl (fun b n => if age n > age b then n else b) v))

/-- A new dynamic entry (R385). -/
def State.newStation (s : State) (slice : Nat) (mac : BitVec 48) (fid : BitVec 12) (port : Nat) : Station :=
  { mac := mac, fid := fid, owner := BitVec.ofNat 6 slice, valid := 1, port := BitVec.ofNat 6 port, dev := s.devId
    age := s.tab.now16 }

/-- LEARN (R385): DETAIL, and the slot of the entry (0xFFFF_FFFF for none). -/
def State.learn (s : State) (slice : Nat) (mac : BitVec 48) (fid : BitVec 12) (port : Nat) : State × Nat × Nat :=
  let key := stKey (BitVec.ofNat 6 slice) mac fid
  let c := s.stCands key
  match s.stGood key with
  | some n =>
    let e := s.station n
    let here : Bool := e.port.toNat = port && e.dev = s.devId
    if e.staticV = 1 then
      if e.port.toNat = port ∧ e.dev = s.devId then (s, 0, n) else (s.bump .stStaticConflict slice, 5, n)
    else if here then (s.putStation n { e with age := s.tab.now16 }, 0, n)
    else
      (((s.putStation n { e with port := BitVec.ofNat 6 port, dev := s.devId, age := s.tab.now16 }).bump .stMove slice).learnItem
        slice mac fid 2 port e.port.toNat n, 2, n)
  | none =>
    let full : Bool := s.stCount slice ≥ (s.part slice).stQuota.toNat
    match (if full then none else chooseSlot c s.stFree) with
    | some n =>
      (((s.putStation n (s.newStation slice mac fid port)).bump .stInsert slice).learnItem slice mac fid 1 port port n, 1, n)
    | none =>
      match s.stVictim slice c with
      | (s1, some n) =>
        let v := s1.station n
        let s2 := (s1.learnItem slice v.mac v.fid 3 v.port.toNat v.port.toNat n).putStation n (s1.newStation slice mac fid port)
        ((s2.bump .stEvict slice).learnItem slice mac fid 1 port port n, 3, n)
      | (s1, none) =>
        if full then ((s1.bump .stQuota slice).learnItem slice mac fid 6 port port 0xFFFFFFFF, 6, 0xFFFFFFFF)
        else ((s1.bump .stFull slice).learnItem slice mac fid 5 port port 0xFFFFFFFF, 4, 0xFFFFFFFF)

/-! ## What happens by itself -/

/-- The boundaries of AGE_TICK_MS that local time has passed (R388): NOW16 counts each while AGE_EN is 1. The period that
follows a boundary is the one in force at it (R380). -/
def State.ageTicks (s : State) : State :=
  let p := 1000000 * s.tab.cfg.ageTickMs.toNat
  if s.now < s.tab.tickDue then s
  else
    let k := (s.now - s.tab.tickDue) / p + 1
    { s with tab.tickDue := s.tab.tickDue + k * p
             tab.now16 := if s.tab.cfg.ageEn = 1 then s.tab.now16 + BitVec.ofNat 16 k else s.tab.now16 }

/-- AGE_TICK (R388): no boundary, no tick. -/
def execAgeTick (s : State) : Out := ok s s.ageTicks

/-- STATION_AGER_VISIT (R388). -/
def execStationAgerVisit (n : Fin 262144) (s : State) : Out :=
  let e := s.station n
  let o := e.owner.toNat
  ok s (if s.tab.cfg.ageEn = 1 ∧ s.isOld e ∧ !s.awaits 0 n then
    ((s.freeSlot 0 n).bump .stAged o).learnItem o e.mac e.fid 4 e.port.toNat e.port.toNat n
    else s)

/-- FLUSH_WALK_END (R390): what matched at the start and stands untouched is removed. -/
def execFlushWalkEnd (n : Fin 64) (s : State) : Out :=
  ok s (match s.tab.flushes.find? fun f => f.slice = n.val with
    | none => s
    | some f =>
      let go := f.slots.filter fun i => !s.awaits 0 i
      let s1 := go.foldl (fun s i => s.freeSlot 0 i) { s with tab.flushes := s.tab.flushes.erase f }
      (s1.bumpBy .stFlushed n go.length).finish (· == .stationFlush n) .ok (dat 16 (BitVec.ofNat 32 go.length)) [])

/-- Fields of SEQ_CFG and SEQ_STATE of a stream. -/
def Stream.seq (e : Stream) : SeqState := SeqState.ofTile e.seqState
/-- SEQ_CFG of a stream. -/
def Stream.seqC (e : Stream) : SeqCfg := SeqCfg.ofTile e.seqCfg
/-- A stream with another SEQ_STATE. -/
def Stream.withSeq (e : Stream) (q : SeqState) : Stream := { e with seqState := q.toTile }

/-- The timeout of R415 has passed without an acceptance. -/
def Stream.timedOut (e : Stream) (wall : Word) : Bool :=
  let n := e.seqC.resetLog2.toNat
  let d := wall.extractLsb' 20 32 - e.seq.lastT
  n ≠ 0 && e.seq.takeAny = 0 && decide (d.toNat ≥ 2 ^ n)

/-- The reset test of R415 at a slot. -/
def State.seqReset (s : State) (n : Nat) : State :=
  let e := s.stream n
  if e.valid && e.timedOut s.wall then (s.putStream n (e.withSeq { e.seq with takeAny := 1 })).bump .srReset e.owner.toNat
  else s

/-- TABLE_SCRUB (R400, R394, R415). -/
def execTableScrub (w : ScrubAt) (f : Option SlotFault) (s : State) : Out :=
  let visit (tb n : Nat) : State := match s.faultSeen tb n f with | some f => s.noteFault tb n f | none => s
  ok s (match w with
    | .station n => visit 0 n
    | .stream n =>
      if mainBase ≤ n.val ∧ !s.dramOn then s
      else
        let s1 := visit 1 n
        if s1.awaits 1 n then s1 else s1.seqReset n
    | .route n => visit 2 n
    | .index => if f.isSome then s.indexFault else s)

/-- MIRROR_REPAIR (R394, R404): the bad half is written from the good one. -/
def execMirrorRepair (n : Fin 65536) (s : State) : Out :=
  let o := s.slotOwner 1 n
  ok s (if s.tab.badHalf.any fun p => p.1 = n.val then
      (({ s with tab.badHalf := s.tab.badHalf.filter fun p => p.1 ≠ n.val }).tabReport 0x0203 1 n o).bump .restored o
    else s)

/-- The key of a copy is held by now in another slot: a key is held in one slot at most (R381). -/
def State.copyTaken (s : State) (tb n : Nat) (t : Tile) : Option Nat :=
  let h := if tb = 0 then s.stHeld (Station.ofTile t).key
    else if tb = 1 then s.seHeld (Stream.ofTile t).key
    else s.rtHeld (Route.ofTile t)
  h.filter (· ≠ n)

/-- A dynamic station, learned while the slot of its key awaited restoration, gives way to the copy. -/
def State.giveWay (s : State) (tb n : Nat) (t : Tile) : State :=
  match s.copyTaken tb n t with
  | some h => if tb = 0 ∧ (s.station h).staticV = 0 then s.freeSlot 0 h else s
  | none => s

/-- A copy that R404 lets in: its entry goes into the slot. What a command has written under its key in the meantime stands
(DESIGN CHOICE, log entry 93). -/
def State.takeCopy (s0 : State) (tb n owner : Nat) (t : Tile) : Option State :=
  let s := s0.giveWay tb n t
  if (s.copyTaken tb n t).isSome then none
  else if tb = 0 then
    let e := Station.ofTile t
    if e.owner.toNat = owner ∧ n ∈ s.stCands e.key then some (s.putStation n { e with age := s.tab.now16 }) else none
  else if tb = 1 then
    let e := Stream.ofTile t
    let c := if n < mainBase then s.pinCands e.key else s.mainCands e.key
    if e.owner.toNat = owner ∧ n ∈ c then some (s.putStream n e) else none
  else
    let e := Route.ofTile t
    if e.owner.toNat = owner then some (s.putRoute n e) else none

/-- VALID of a copy. -/
def copyValid (tb : Nat) (t : Tile) : Bool :=
  if tb = 0 then (Station.ofTile t).valid = 1 else if tb = 1 then (Stream.ofTile t).valid else (Route.ofTile t).valid = 1

/-- The copy of a slot still comes in time: within 1 ms of the fault's detection (R404). -/
def State.copyInTime (s : State) (tb n : Nat) : Bool :=
  s.now ≤ Tab.get 0 s.tab.badAt (tb * 2 ^ 20 + n) + 1000000

/-- TABLE_RESTORE_DONE (R404, R405): the copy has arrived, or (`none`) its 1 ms has run out; a copy later than that is as
one that never came. -/
def execTableRestoreDone (tb : Fin 3) (n : Fin 1048576) (copy : Option (BitVec 512)) (s : State) : Out :=
  let o := s.slotOwner tb n
  ok s (if !s.awaits tb n then s
    else match copy with
      | none => s.loseSlot tb n o
      | some t =>
        if !tileOk t || !s.copyInTime tb n then s.loseSlot tb n o
        else if !copyValid tb t then s.freeSlot tb n
        else match s.takeCopy tb n o t with
          | some s1 => ((s1.settle tb n).tabReport 0x0203 tb n o).bump .restored o
          | none => s.loseSlot tb n o)

/-- ROUTE_REBUILD (R400). -/
def execRouteRebuild (s : State) : Out := ok s { s with tab.routeDamaged := false }

/-! ## Commands: partitions and configuration -/

/-- The slice holds an entry of some table. -/
def State.holdsEntries (s : State) (n : Nat) : Bool :=
  decide (0 < s.stCount n) || decide (0 < s.pinCount n) || decide (0 < s.mainCount n) || decide (0 < s.rtUnits n)

/-- BAD_PARAM cases of R378 that the object alone shows. -/
def TablePart.bad (p : TablePart) : Bool :=
  decide (p.stQuota.toNat > 262144) || decide (p.sePinQuota.toNat > 65536) || decide (p.seMainQuota.toNat > 983040) ||
  decide (p.rtQuota.toNat > 131072) || decide (p.copyBase.toNat % 4096 ≠ 0) || decide (p.copyMask ≠ 0 ∧ p.copyBase = 0)

/-- TABLE_PART_SET (R377, R378). -/
def execTablePartSet (q : Cmd) (s : State) : Out :=
  let p := TablePart.ofTile (q.tile 1)
  let g := s.ring p.lrnRing.toNat
  runCmd (setOp 0x501 .live TablePart.rsv) q s
    { bad := [(q.h ≥ 64 || p.bad, .badParam)], owns := isSl0 s q, keys := [(.tablePart, q.h)]
      own := [(p.lrnEn = 1 && !(g.cfg.enable = 1 && g.cfg.owner.toNat = q.h && g.cfg.kind = 0 && g.cfg.itemSize = 0), .badParam),
        ((s.part q.h).enable = 1 && p.enable = 0 && s.holdsEntries q.h, .busy)]
      eff := { s with tab.parts := Tab.set {} s.tab.parts q.h p } }

/-- TABLE_PART_GET (R608). -/
def execTablePartGet (q : Cmd) (s : State) : Out :=
  let n := q.h
  runCmd (getOp 0x502 .live) q s
    { bad := [(n ≥ 64, .badParam)], owns := (isSl0 s q || s.requester q = n) && clearOk s q 0, keys := [(.tablePart, n)]
      changes := false, replyTiles := 2, tiles := [(s.part n).toTile], eff := s
      data := dat 16 (s.gen (.station, n)) ||| dat 20 (s.gen (.stream, n)) ||| dat 24 (s.gen (.route, n)) |||
        dat 28 (BitVec.ofNat 32 (s.stCount n)) ||| dat 32 (BitVec.ofNat 32 (s.pinCount n)) |||
        dat 36 (BitVec.ofNat 32 (s.mainCount n)) ||| dat 40 (BitVec.ofNat 32 (s.rtUnits n)) }

/-- TABLE_CONFIG (R379, R380): the tick boundaries that have passed count under the old configuration. -/
def execTableConfig (q : Cmd) (s : State) : Out :=
  let c := TableCfg.ofTile (q.tile 1)
  runCmd (setOp 0x503 .live TableCfg.rsv) q s
    { bad := [(q.h ≠ 0 || c.evict = 3 || c.ageTickMs = 0 || !inR c.ageLimit.toNat 1 32767, .badParam)]
      owns := isSl0 s q, keys := [(.tableCfg, 0)]
      own := [(decide (c.hashSeed ≠ s.tab.cfg.hashSeed) &&
        (s.tab.stations.any (fun (_, e) => e.valid = 1) || s.tab.streams.any (fun (_, e) => e.valid) ||
          decide (s.mainSlots ≠ [])), .busy)]
      eff := { s.ageTicks with tab.cfg := c } }

/-- TABLE_CONFIG_GET (R608). -/
def execTableConfigGet (q : Cmd) (s : State) : Out :=
  runCmd (getOp 0x504 .live) q s
    { bad := [(q.h ≠ 0, .badParam)], owns := clearOk s q 0, keys := [(.tableCfg, 0)], changes := false, eff := s
      replyTiles := 2, tiles := [s.tab.cfg.toTile], data := dat 16 s.tab.now16 }

/-! ## Commands: stations -/

/-- Reserved port codes of R20. -/
def portReserved (p : Nat) : Bool := !(p ≤ 33 || inR p 48 51 || p = 63)
/-- The requester's partition is enabled (R376). -/
def State.tabOn (s : State) (q : Cmd) : Bool := (s.part (s.requester q)).enable = 1
/-- No slot: the device chooses. -/
def anySlot : Nat := 0xFFFFFFFF

/-- STATION_WRITE (R407, R382): a key that is held is replaced in its own slot. -/
def execStationWrite (q : Cmd) (s : State) : Out :=
  let me := s.requester q
  let e := Station.ofTile (q.tile 1)
  let i := q.u32 16
  let held := s.stHeld e.key
  let slot : Option Nat := match held with
    | some n => some n
    | none => if i = anySlot then chooseSlot (s.stCands e.key) s.stFree else if (s.station i).valid = 0 || s.awaits 0 i then some i else none
  let new := { e with age := s.tab.now16 }
  runCmd { opcode := 0x510, modes := .live, minTiles := 2, maxTiles := 2, uses := used 16 4, tileRsv := Station.rsv &&& ((1 <<< 480) - 1) } q s
    { bad := [(q.h ≠ 0, .badParam), (!tileOk (q.tile 1), .badCheck), (portReserved e.port.toNat, .badParam)]
      owns := s.tabOn q && e.owner.toNat = me, keys := [(.station, me)]
      own := [(e.valid = 0 || (i ≠ anySlot && (!(s.stCands e.key).contains i || (held.isSome && held != some i))), .badParam),
        (slot.isNone || (held.isNone && decide (s.stCount me ≥ (s.part me).stQuota.toNat)), .noRoom)]
      eff := match slot with | some n => (s.putStation n new).settle 0 n | none => s
      handle := slot.map (BitVec.ofNat 32) }

/-- The slot that STATION_DELETE and STATION_GET name (R608), when it holds an entry of the requester. -/
def State.stNamed (s : State) (q : Cmd) : Option Nat :=
  let me := s.requester q
  if q.u8 16 = 0 then
    let i := q.u32 20
    if i < 262144 ∧ (s.station i).valid = 1 ∧ (s.station i).owner.toNat = me then some i else none
  else s.stHeld (stKey (BitVec.ofNat 6 me) (q.params.extractLsb' 64 48) (BitVec.ofNat 12 (q.u16 30)))

/-- What the two commands share. -/
def stNamedUses : BitVec 352 := used 16 1 ||| used 20 12

/-- STATION_DELETE (R407). -/
def execStationDelete (q : Cmd) (s : State) : Out :=
  runCmd (actOp 0x511 .live stNamedUses) q s
    { bad := [(q.h ≠ 0 || decide (q.u8 16 > 1) || decide (q.u16 30 ≥ 4096), .badParam)], owns := s.tabOn q
      keys := [(.station, s.requester q)], own := [((s.stNamed q).isNone, .badParam)]
      eff := match s.stNamed q with | some n => s.freeSlot 0 n | none => s }

/-- STATION_FLUSH (R390): a second flush of the slice waits. -/
def execStationFlush (q : Cmd) (s : State) : Out :=
  let me := s.requester q
  let slots := (s.tab.stations.filter fun (n, e) =>
    e.valid = 1 && e.staticV = 0 && e.owner.toNat = me && !s.awaits 0 n &&
      (q.opt 16 0 || e.fid.toNat = q.u16 18) && (q.opt 16 1 || e.port.toNat = q.u8 20)).map (·.1)
  runCmd (actOp 0x512 .live (dat 16 (3 : BitVec 2) ||| used 18 3)) q s
    { bad := [(q.h ≠ 0 || decide (q.u16 18 ≥ 4096) || decide (q.u8 20 ≥ 64) || portReserved (q.u8 20), .badParam)]
      owns := s.tabOn q
      keys := [(.station, me)], hold := s.tab.flushes.any fun f => f.slice = me
      eff := { s with tab.flushes := s.tab.flushes ++ [⟨me, slots⟩] }, wait := some (.stationFlush me) }

/-- STATION_GET (R407). -/
def execStationGet (q : Cmd) (s : State) : Out :=
  runCmd (actOp 0x513 .live stNamedUses) q s
    { bad := [(q.h ≠ 0 || decide (q.u8 16 > 1) || decide (q.u16 30 ≥ 4096), .badParam)], owns := s.tabOn q
      keys := [(.station, s.requester q)], changes := false, replyTiles := 2, eff := s
      own := [((s.stNamed q).isNone, .badParam), ((s.stNamed q).any (s.awaits 0), .busy)]
      tiles := match s.stNamed q with | some n => [(s.station n).toTile] | none => [] }

/-! ## Commands: streams (R395) -/

/-- Reserved bits and values of a stream tile beyond those of its layout (R392, R411, R412). -/
def Stream.badFields (e : Stream) : Bool :=
  e.flags &&& 0xE0 ≠ 0 || e.seqC.src = 3 || e.seqC.userOff = 7 || e.seqCfg &&& 0xC0000000 ≠ 0 ||
    e.seqState.extractLsb' 161 31 ≠ 0

/-- The main slots that a stream command reads are verified (R375, R399): a bad one is reported and enters restoration. -/
def State.seVerified (s : State) (ns : List Nat) : State := s.noteFaults 1 ns []

/-- A stream command verifies the slots that it reads once it comes to them, and goes on with what it finds. -/
def runVerified (info : OpInfo) (q : Cmd) (ns : List Nat) (s : State) (plan : State → Plan) : Out :=
  let s1 := if s.reaches info q (plan s) then s.seVerified ns else s
  ok s (runPlan info q s1 (plan s1))

/-- What STREAM_WRITE does; its OPTS are byte 20, after INDEX. DEDUCED: R594 puts OPTS in byte 16, which INDEX takes (R608). -/
def streamWritePlan (q : Cmd) (s : State) : Plan :=
  let e := Stream.ofTile (q.tile 1)
  let me := s.requester q
  let i := q.u32 16
  let cands := if e.pinned then s.pinCands e.key else s.mainCands e.key
  let held := s.seHeld e.key
  let slot : Option Nat :=
    if i ≠ anySlot then some i
    else match s.seHeldIn cands e.key with
      | some n => some n
      | none => chooseSlot cands s.seFree
  let count := if e.pinned then s.pinCount me else s.mainCount me
  let quota := if e.pinned then (s.part me).sePinQuota.toNat else (s.part me).seMainQuota.toNat
  let inRegion : Bool := match held with | some n => decide (n < mainBase) = e.pinned | none => false
  let eff : State := match slot with
    | none => s
    | some n =>
      let new := match held with
        | some h => if q.opt 20 3 ∨ s.awaits 1 h then e else { e with seqState := (s.stream h).seqState }
        | none => e
      let s1 := match held with | some h => if h = n then s else s.freeSlot 1 h | none => s
      (s1.putStream n new).settle 1 n
  { bad := [(q.h ≠ 0, .badParam), (!tileOk (q.tile 1), .badCheck), (e.badFields, .badParam)]
    owns := s.tabOn q && e.owner.toNat = me, keys := [(.stream, me)]
    own := [(!e.valid || (i ≠ anySlot && (decide (i ≥ 1048576) || e.pinned != decide (i < mainBase) ||
          !cands.contains i)), .badParam),
      (!e.pinned && !s.dramOn, .noRoom),
      (held.isSome && held != slot && !q.opt 20 2, .badParam),
      (decide (i ≠ anySlot) && (s.awaits 1 i || ((s.stream i).valid && (s.stream i).key != e.key)), .busy),
      (slot.isNone || (!inRegion && decide (count ≥ quota)), .noRoom)]
    eff := eff, handle := slot.map (BitVec.ofNat 32) }

/-- STREAM_WRITE (R395). -/
def execStreamWrite (q : Cmd) (s : State) : Out :=
  runVerified { opcode := 0x520, modes := .live, minTiles := 2, maxTiles := 2, uses := used 16 4 ||| dat 20 (0xC : BitVec 8), tileRsv := Stream.rsv &&& ((1 <<< 480) - 1) }
    q (s.mainCands (Stream.ofTile (q.tile 1)).key) s (streamWritePlan q)

/-- The slot that STREAM_DELETE and STREAM_GET name holds an entry of the requester. -/
def State.seNamed (s : State) (q : Cmd) : Bool :=
  let i := q.u32 20
  decide (i < 1048576) && (decide (i < mainBase) || s.dramOn) && (s.stream i).valid &&
    (s.stream i).owner.toNat = s.requester q

/-- STREAM_DELETE (R395). -/
def execStreamDelete (q : Cmd) (s : State) : Out :=
  runVerified (actOp 0x521 .live (used 20 4)) q [q.u32 20] s fun s =>
    { bad := [(q.h ≠ 0, .badParam)], owns := s.tabOn q, keys := [(.stream, s.requester q)]
      own := [(!s.seNamed q, .badParam)], eff := s.freeSlot 1 (q.u32 20) }

/-- STREAM_GET (R395). -/
def execStreamGet (q : Cmd) (s : State) : Out :=
  runVerified (actOp 0x522 .live (used 20 4)) q [q.u32 20] s fun s =>
    { bad := [(q.h ≠ 0, .badParam)], owns := s.tabOn q, keys := [(.stream, s.requester q)], changes := false
      own := [(!s.seNamed q, .badParam), (s.awaits 1 (q.u32 20), .busy)]
      replyTiles := 2, tiles := [(s.stream (q.u32 20)).toTile], eff := s }

/-! ## Commands: routes (R398) -/

/-- Units in use in the whole store. -/
def State.rtAll (s : State) : Nat := (s.tab.routes.map fun (_, e) => e.units).sum

/-- ROUTE_ADD (R398). -/
def execRouteAdd (q : Cmd) (s : State) : Out :=
  let me := s.requester q
  let e := Route.ofTile (q.tile 1)
  let held := s.rtHeld e
  let slot : Option Nat := match held with
    | some n => some n
    | none => firstIdx 131072 fun n => (s.rt n).valid = 0 && !s.awaits 2 n
  runCmd { opcode := 0x530, modes := .live, minTiles := 2, maxTiles := 2, tileRsv := Route.rsv &&& ((1 <<< 480) - 1) } q s
    { bad := [(q.h ≠ 0, .badParam), (!tileOk (q.tile 1), .badCheck), (e.ract = 3 || portReserved e.outPort.toNat, .badParam)]
      owns := s.tabOn q && e.owner.toNat = me, keys := [(.route, me)]
      own := [(e.valid = 0 || !e.shaped, .badParam),
        (held.isNone && (decide (s.rtAll + e.units > 131072) ||
          decide (s.rtUnits me + e.units > (s.part me).rtQuota.toNat) || slot.isNone), .noRoom)]
      eff := match slot with | some n => (s.putRoute n e).settle 2 n | none => s
      handle := slot.map (BitVec.ofNat 32) }

/-- A handle names a route of the requester. -/
def State.rtNamed (s : State) (q : Cmd) : Bool :=
  (s.rt (q.u32 20)).valid = 1 && (s.rt (q.u32 20)).owner.toNat = s.requester q

/-- The tile of ROUTE_DELETE with BY 1: AF, PLEN and PREFIX only. -/
def Route.nameOnly (e : Route) : Bool :=
  decide (e = { af := e.af, plen := e.plen, prefixV := e.prefixV })

/-- ROUTE_DELETE (R398, R608). -/
def execRouteDelete (q : Cmd) (s : State) : Out :=
  let me := s.requester q
  let e := Route.ofTile (q.tile 1)
  let byKey : Bool := q.u8 16 = 1
  let slot : Option Nat := if byKey then s.rtHeld { e with owner := BitVec.ofNat 6 me }
    else if s.rtNamed q then some (q.u32 20) else none
  runCmd { opcode := 0x531, modes := .live, minTiles := 1, maxTiles := 2, uses := used 16 1 ||| used 20 4, tileRsv := Route.rsv &&& ((1 <<< 480) - 1) } q s
    { bad := [(decide (q.cont.length ≠ if byKey then 1 else 0), .badLength),
        (q.h ≠ 0 || decide (q.u8 16 > 1) || (byKey && !e.nameOnly), .badParam)]
      owns := s.tabOn q, keys := [(.route, me)], own := [(slot.isNone, .badParam)]
      eff := match slot with | some n => s.freeSlot 2 n | none => s }

/-- ROUTE_GET (R608). -/
def execRouteGet (q : Cmd) (s : State) : Out :=
  runCmd (actOp 0x532 .live (used 20 4)) q s
    { bad := [(q.h ≠ 0, .badParam)], owns := s.tabOn q, keys := [(.route, s.requester q)], changes := false
      own := [(!s.rtNamed q, .badParam), (s.awaits 2 (q.u32 20), .busy)]
      replyTiles := 2, tiles := [(s.rt (q.u32 20)).toTile], eff := s }

end Sys2Proof.Machine
end

