-- ==== Sys2Proof/Machine/Helpers.lean ====
section
/-!
DEFINITION. Helper requests (chapter 11): how they are sent (R299, R300, R309), served in their order (R311 to R315),
completed (R209, R314), and what each operation does. Locks and channels are those of chapter 12.
-/
namespace Sys2Proof.Machine

/-! ## Requests -/

/-- How many operations a helper has; 0 for a code that names none (R316, R347, R368). -/
def helperOps (code : Nat) : Nat := [0, 4, 2, 2, 1, 2, 5, 4, 3, 5, 2, 4, 3, 1].getD code 0

/-- Whether the instance of a request is still on its thread (R208): a stopped thread still carries it. -/
def State.carries (s : State) (o : HelperOp) : Bool :=
  (s.th o.core o.thread).inst.any fun i => i.task == o.inst.task && i.idx == o.inst.idx && i.epoch == o.inst.epoch

/-- What the instance of a request holds; nothing when it is gone. -/
def State.recdOf (s : State) (o : HelperOp) : Recorded :=
  if s.carries o then ((s.th o.core o.thread).inst.map (·.recd)).getD {} else {}
/-- Change it. -/
def State.modRecd (s : State) (o : HelperOp) (f : Recorded → Recorded) : State :=
  if s.carries o then
    s.modTh o.core o.thread fun h => { h with inst := h.inst.map fun (i : Inst) => { i with recd := f i.recd } }
  else s

/-- The context that holds the sequence record of a request's packet, while the packet has one (R234). -/
def State.recordOf (s : State) (o : HelperOp) : Option Nat :=
  match o.pkt with
  | none => none
  | some p => (s.task.ctxs.find? fun (i, k) => k.pkt == some p && k.recCtx == i && k.record.st != .none).map (·.1)

/-- Bytes of a request's block. -/
def HelperOp.b (o : HelperOp) (off n : Nat) : List Byte := slice o.block off n
/-- A little-endian field of a request's block. -/
def HelperOp.u (o : HelperOp) (off n : Nat) : Nat := leNat (slice o.block off n)
/-- The result fields of a request in local memory, DETAIL among them (R310, R314, and each operation's block). The
HANDLE of a COMPLETE entry is written when the entry is armed (R216) and is none of them. -/
def HelperOp.results (o : HelperOp) : List (Nat × Nat) :=
  let items := 8 * (o.word.blen.toNat - 2)
  let fields : List (Nat × Nat) := match o.word.helper.toNat, o.word.op.toNat with
    | 1, 1 | 1, 2 => [(24, 14)]
    | 1, 3 | 1, 4 => [(16, 4)]
    | 2, 1 => [(20, 3), (24, 2), (28, 4)]
    | 2, 2 => [(28, 4)]
    | 3, 1 | 3, 2 => [(24, 14), (40, 4)]
    | 5, 2 => [(16, 16)]
    | 6, 5 => [(16, 12)]
    | 7, 4 | 9, 2 => [(16, items)]
    | 8, 1 => [(12, 4)]
    | 10, 1 => [(24, 8)]
    | 11, 3 => if o.u 9 1 = 1 then [] else [(32, 2)]
    | 13, 1 => [(20, 4)]
    | _, _ => []
  (((1, 1) :: fields).filter fun r => decide (r.1 + r.2 ≤ 8 * o.word.blen.toNat)).map fun r => (o.addr + r.1, r.2)
/-- The requester's slice. -/
def HelperOp.slice (o : HelperOp) : Nat := o.inst.slice

/-- What serving a request gives: the state, STATUS and DETAIL, the result fields by block offset; `check` for a request
that fails a check of R311, which writes STATUS and TAG only (R314). -/
structure Served where
  state : State
  status : Nat := 0
  detail : Nat := 0
  out : List (Nat × List Byte) := []
  check : Bool := false

/-- A request that fails a check of R311. -/
def refuse (s : State) (status : Nat) : Served := { state := s, status := status, check := true }

/-- A status with which a check of R311 fails, the operation's own ones among them (its order 7): of rings, pools, tasks,
time, locks and channels. The other statuses end an operation that has run. -/
def checkFails (st : Nat) : Bool :=
  [0x04, 0x05, 0x06, 0x07, 0x08, 0x11, 0x12, 0x13, 0x20, 0x21, 0x22, 0x36, 0x37, 0x3C, 0x3D, 0x42, 0x43, 0x44, 0x45, 0x46,
    0x48, 0x49, 0x4A, 0x4B].contains st

/-- The bytes that a completion writes (R310): STATUS and TAG alone where a check has failed (R314). -/
def Served.bytes (r : Served) (o : HelperOp) : List (Nat × List Byte) :=
  let tag := (2, bytesOf (o.tag.setWidth 16) 2)
  if r.check || checkFails r.status then [(0, [BitVec.ofNat 8 r.status]), tag]
  else (0, [BitVec.ofNat 8 r.status, BitVec.ofNat 8 r.detail]) :: tag :: r.out

/-- A request has been served: a counted one waits for its completion; a posted one is over, and counts when it did not
end with OK (R313). -/
def Served.close (r : Served) (o : HelperOp) : State :=
  let s := r.state
  if o.counted then
    { s with weft.ops := s.weft.ops.map fun (x : HelperOp) => if x.id = o.id then { x with done := some (r.bytes o) } else x }
  else
    let s1 := { s with weft.ops := s.weft.ops.filter fun x => x.id ≠ o.id }
    if r.status = 0 then s1 else s1.bump .postedErr o.inst.tg

/-- `req` (R299, R300, R309): the block is copied, and the request sent. A word that names no helper or operation, or
a length that none has, ends at once with its status (R311 checks 1 to 3). -/
def State.sendReq (s : State) (c t : Nat) (a b : BitVec 5) (tag : BitVec 12) (counted : Bool) : State :=
  let h := s.th c t
  let addr := s.rg c t a
  let w := HelperWord.ofTile (s.rg c t b)
  if addr.toNat % 8 ≠ 0 then s.fault c t .align addr
  else match (s.core c).blockAt t (s.sliceOf c t) h.priv addr.toNat (max 8 (w.blen.toNat * 8)), h.inst with
    | some p, some i =>
      let o : HelperOp :=
        { id := s.weft.nextOp, core := c, thread := t, inst := i, counted := counted, tag := tag, word := w, addr := p
          block := s.lmSee c p (w.blen.toNat * 8), pkt := if i.task then none else (s.ctx i.idx).pkt }
      let s1 := ({ s.drawn with weft.ops := s.weft.ops ++ [o], weft.nextOp := s.weft.nextOp + 1 }).modTh c t fun h =>
        if counted then { h.advance with depcnt := h.depcnt + 1, unsettled := h.unsettled ++ o.results } else h.advance
      if helperOps w.helper.toNat = 0 then (refuse s1 0x30).close o
      else if w.op = 0 ∨ w.op.toNat > helperOps w.helper.toNat then (refuse s1 0x31).close o
      else if w.blen = 0 ∨ w.blen.toNat > 68 then (refuse s1 0x32).close o
      else s1
    | _, _ => s.fault c t .access addr

/-- `req.c` (R298): held at issue while the counter stands at 255 or the device is full (R209, R210). -/
def execWReqC (c : Fin 68) (t : Fin 8) (a b : BitVec 5) (tag : BitVec 12) (s : State) : Out :=
  ok s (if s.counterFull c t ∨ s.opsFull then s
    else s.issue c t (.reqC a b tag) fun s => s.sendReq c t a b tag true)

/-- `req.p` (R298, R313). -/
def execWReqP (c : Fin 68) (t : Fin 8) (a b : BitVec 5) (tag : BitVec 12) (s : State) : Out :=
  ok s (if s.opsFull then s else s.issue c t (.reqP a b tag) fun s => s.sendReq c t a b tag false)

/-! ## Service -/

/-- A request may be served now (R312): nothing of its thread for the same helper was sent before it and waits, and no
express request waits at the helper unless it is express itself. -/
def State.mayServe (s : State) (o : HelperOp) : Bool :=
  !s.weft.ops.any fun x => x.done.isNone && !x.parked && x.word.helper == o.word.helper && x.id != o.id &&
    ((x.core == o.core && x.thread == o.thread && x.id < o.id) || (x.thread == 0 && o.thread != 0 && !x.held))

/-- The request that a service command names, when it is one of the operation and may be served. -/
def State.opAt (s : State) (k code op : Nat) : Option HelperOp :=
  s.weft.ops.find? fun o => o.id = k && o.done.isNone && !o.parked && o.word.helper.toNat = code &&
    o.word.op.toNat = op && s.mayServe o

/-- Serve a request (R311 checks 3 and 4, then the operation). -/
def State.serve (s : State) (k code op : Nat) (lens : Nat → Bool) (packet : Bool) (run : State → HelperOp → Served) : State :=
  match s.opAt k code op with
  | none => s
  | some o =>
    (if !lens o.word.blen.toNat then refuse s 0x32
      else if packet && o.inst.task then refuse s 0x31
      else run s o).close o

/-- HELPER_COMPLETION (R208, R209, R314): the result is written, then the counter falls; a completion of an instance
that is gone is discarded and counted. -/
def execHelperCompletion (k : Nat) (s : State) : Out :=
  ok s (match s.weft.ops.find? fun o => o.id = k with
    | none => s
    | some o =>
      match o.done with
      | none => s
      | some out =>
        let s1 := { s with weft.ops := s.weft.ops.erase o }
        if (s.th o.core o.thread).isInst o.inst then
          (out.foldl (fun (s : State) w => s.lmWrite o.core (o.addr + w.1) w.2) s1).modTh o.core o.thread Thread.countDown
        else s1.bump .lateCompletion o.inst.tg)

/-! ## Streams (R320, R321, R393, R413 to R418) -/

/-- FIND and FIND_PINNED. -/
def streamFind (pin : Bool) (fs : List (Nat × SlotFault)) (s : State) (o : HelperOp) : Served :=
  if (s.part o.slice).enable = 0 then refuse s 0x08
  else
    let key := seKey (BitVec.ofNat 6 o.slice) (leBits 48 (o.b 8 6)) (BitVec.ofNat 12 (o.u 16 2)) (BitVec.ofNat 16 (o.u 18 2))
    let (s1, r) := s.seLook o.slice key pin fs
    match r with
    | .hit n =>
      let e := s.stream n
      { state := s1, out := [(24, bytesOf e.flags 4 ++ bytesOf (e.policer.setWidth 32) 4 ++ bytesOf (BitVec.ofNat 32 n) 4 ++
          bytesOf (e.queue.setWidth 16) 2)] }
    | .miss => { state := s1, status := 0x34, out := [(24, List.replicate 14 0)] }
    | .missCheck => { state := s1, status := 0x35, out := [(24, List.replicate 14 0)] }

/-- STREAM_FIND. -/
def execHStreamFind (k : Nat) (fs : List (Nat × SlotFault)) (s : State) : Out :=
  ok s (s.serve k 1 1 (· = 5) false (streamFind false fs))
/-- FIND_PINNED. -/
def execHFindPinned (k : Nat) (fs : List (Nat × SlotFault)) (s : State) : Out :=
  ok s (s.serve k 1 2 (· = 5) false (streamFind true fs))

/-- SEQ_HANDLE (R413): the stream, or the status that ends the request. Nothing is read from a slot that is bad (R399). -/
def seqHandle (fs : List (Nat × SlotFault)) (s : State) (o : HelperOp) : State × Nat :=
  let n := o.u 8 4
  if n ≥ 1048576 then (s, 0x33)
  else if (s.part o.slice).enable = 0 then (s, 0x08)
  else if mainBase ≤ n ∧ !s.dramOn then (s, 0x34)
  else
    let s1 := s.noteFaults 1 [n] fs
    if s.slotFault 1 n (faultAt fs n) == some none then (s1, 0x35)
    else if !(s.stream n).valid then (s1, 0x34)
    else if (s.stream n).owner.toNat ≠ o.slice then (s1, 0x08)
    else (s1, 0)

/-- The sequence number in a packet's key (R413): of the trailer, the HSR tag or USER. -/
def keySeq (key : List Byte) (c : SeqCfg) : Option (BitVec 16) :=
  let at' (n : Nat) : BitVec 16 := beBits 16 (slice key n 2)
  if c.src = 0 then (if (nthByte key 2).getLsbD 7 then some (at' 52) else none)
  else if c.src = 1 then (if (nthByte key 2).getLsbD 6 then some (at' 50) else none)
  else some (at' (120 + c.userOff.toNat))

/-- seq_recv of R414: the new state and DETAIL; 0 to 3 are accepted. -/
def SeqState.recv (q : SeqState) (c : SeqCfg) (n : BitVec 16) (wall : Word) : SeqState × Nat :=
  let w : Nat := 2 ^ c.winLog2.toNat
  let d := (n - q.recovSeq).toInt
  let acc (q : SeqState) : SeqState := { q with lastT := wall.extractLsb' 20 32 }
  if q.takeAny = 1 then (acc { q with recovSeq := n, history := 1, takeAny := 0 }, 3)
  else if c.alg = 1 then
    if d = 0 then ({ q with discards := satInc q.discards }, 4) else (acc { q with recovSeq := n, history := 1 }, 0)
  else if d ≥ (w : Int) ∨ d ≤ -(w : Int) then ({ q with rogue := satInc q.rogue }, 5)
  else if d > 0 then
    (acc { q with history := ((q.history <<< d.toNat) ||| 1) &&& BitVec.ofNat 128 (2 ^ w - 1), recovSeq := n },
      if d = 1 then 0 else 1)
  else if q.history.getLsbD (-d).toNat then ({ q with discards := satInc q.discards }, 4)
  else (acc { q with history := q.history ||| (1 <<< (-d).toNat) }, 2)

/-- The counters of R431 for an outcome of SEQ_RECV. -/
def State.countRecv (s : State) (slice d : Nat) : State :=
  match d with
  | 1 => (s.bump .srAccept slice).bump .srGap slice
  | 2 => (s.bump .srAccept slice).bump .srLate slice
  | 4 => s.bump .srDuplicate slice
  | 5 => s.bump .srRogue slice
  | _ => s.bump .srAccept slice

/-- SEQ_RECV (R413 to R416, R419, R421). -/
def seqRecv (fs : List (Nat × SlotFault)) (s : State) (o : HelperOp) : Served :=
  let (s1, e) := seqHandle fs s o
  if e ≠ 0 then refuse s1 e
  else if (s1.recdOf o).didRecv then refuse s1 0x33
  else
    let s2 := s1.modRecd o fun r => { r with didRecv := true }
    let n := o.u 8 4
    let c := (s2.stream n).seqC
    match s2.recordOf o with
    | none => refuse s2 0x33
    | some r =>
      if c.mode = 0 then refuse s2 0x33
      else match keySeq (bytesOf (s2.ctx r).key 128) c with
        | none => refuse (s2.bump .srNoTag o.slice) 0x33
        | some num =>
          let out := [(16, bytesOf (num.setWidth 32) 4)]
          let old : Option SeqDone := (s2.ctx r).record.seqRecv
          match old.filter fun d => d.handle = n && d.num = num with
          | some d => { state := s2, status := d.status, detail := d.detail, out := out }
          | none =>
            let s3 := s2.seqReset n
            let (q, d) := (s3.stream n).seq.recv c num s3.wall
            let st := if d ≤ 3 then 0x00 else 0x39
            let s4 := (s3.putStream n ((s3.stream n).withSeq q)).countRecv o.slice d
            let x : SeqDone :=
              { handle := n, num := num, status := st, detail := d
                copyB := if c.copyB = 1 ∧ st = 0 then some c.queueB.toNat else none
                strip := st = 0 && c.mode = 1 && c.strip = 1 }
            { state := if old.isSome then s4 else s4.modRec r fun y => { y with seqRecv := some x }
              status := st, detail := d, out := out }

/-- SEQ_RECV. -/
def execHSeqRecv (k : Nat) (fs : List (Nat × SlotFault)) (s : State) : Out :=
  ok s (s.serve k 1 3 (· = 3) true (seqRecv fs))

/-- SEQ_GEN (R413, R416, R418, R419). -/
def seqGen (fs : List (Nat × SlotFault)) (s : State) (o : HelperOp) : Served :=
  let (s1, e) := seqHandle fs s o
  if e ≠ 0 then refuse s1 e
  else if (s1.recdOf o).didGen then refuse s1 0x33
  else
    let s2 := s1.modRecd o fun r => { r with didGen := true }
    let n := o.u 8 4
    let c := (s2.stream n).seqC
    match s2.recordOf o with
    | none => refuse s2 0x33
    | some r =>
      if c.mode = 0 then refuse s2 0x33
      else match (s2.ctx r).record.seqGen with
        | some d => { state := s2, out := [(16, bytesOf (d.num.setWidth 32) 4)] }
        | none =>
          let q := (s2.stream n).seq
          let x : SeqDone :=
            { handle := n, num := q.genSeq, status := 0, detail := 0
              copyB := if c.copyB = 1 then some c.queueB.toNat else none, prp := c.mode = 1 }
          { state := ((s2.putStream n ((s2.stream n).withSeq { q with genSeq := q.genSeq + 1 })).bump .srGen o.slice).modRec r
              fun y => { y with seqGen := some x }
            out := [(16, bytesOf (q.genSeq.setWidth 32) 4)] }

/-- SEQ_GEN. -/
def execHSeqGen (k : Nat) (fs : List (Nat × SlotFault)) (s : State) : Out :=
  ok s (s.serve k 1 4 (· = 3) true (seqGen fs))

/-! ## Stations and routes (R384, R385, R397) -/

/-- STATION FIND. -/
def stationFind (fs : List (Nat × SlotFault)) (s : State) (o : HelperOp) : Served :=
  if (s.part o.slice).enable = 0 then refuse s 0x08
  else
    let (s1, r) := s.stLook o.slice (leBits 48 (o.b 8 6)) (BitVec.ofNat 12 (o.u 14 2)) fs
    match r with
    | .hit n =>
      let e := s.station n
      let s2 := if (nthByte o.block 16).getLsbD 0 && e.staticV = 0 then s1.putStation n { e with age := s1.tab.now16 } else s1
      { state := s2
        out := [(20, bytesOf (e.port.setWidth 8) 1 ++ bytesOf (e.dev.setWidth 8) 1 ++
            bytesOf ((e.qvalid ++ e.dstDrop ++ e.srcDrop ++ e.staticV).setWidth 8) 1),
          (24, bytesOf (e.queue.setWidth 16) 2), (28, bytesOf (BitVec.ofNat 32 n) 4)] }
    | .miss => { state := s1, status := 0x34, out := [(20, [0, 0, 0]), (24, [0, 0]), (28, [0, 0, 0, 0])] }
    | .missCheck => { state := s1, status := 0x35, out := [(20, [0, 0, 0]), (24, [0, 0]), (28, [0, 0, 0, 0])] }

/-- STATION_FIND. -/
def execHStationFind (k : Nat) (fs : List (Nat × SlotFault)) (s : State) : Out :=
  ok s (s.serve k 2 1 (· = 4) false (stationFind fs))

/-- LEARN. The slot number that FULL and QUOTA return is not stated: a free value. -/
def stationLearn (fs : List (Nat × SlotFault)) (s : State) (o : HelperOp) : Served :=
  let port := o.u 16 1
  if port ≥ 64 ∨ portReserved port then refuse s 0x33
  else if (s.part o.slice).enable = 0 then refuse s 0x08
  else
    let mac : BitVec 48 := leBits 48 (o.b 8 6)
    let fid := BitVec.ofNat 12 (o.u 14 2)
    let s1 := s.noteFaults 0 (s.stCands (stKey (BitVec.ofNat 6 o.slice) mac fid)) fs
    let (s2, d, n) := s1.learn o.slice mac fid port
    let none' : Bool := d = 4 || d = 6
    { state := if none' then s2.drawn else s2, detail := d
      out := [(28, bytesOf (if none' then Config.freeWord s2.time.free else BitVec.ofNat 64 n) 4)] }

/-- LEARN. -/
def execHLearn (k : Nat) (fs : List (Nat × SlotFault)) (s : State) : Out :=
  ok s (s.serve k 2 2 (· = 4) false (stationLearn fs))

/-- FIND4 and FIND6. -/
def routeFind (af : BitVec 1) (path entry : Bool) (s : State) (o : HelperOp) : Served :=
  if (s.part o.slice).enable = 0 then refuse s 0x08
  else
    let (s1, r) := s.rtLook o.slice af (leBits 128 (o.b 8 (routeWidth af / 8))) path entry
    let none' := [(24, List.replicate 14 (0 : Byte)), (40, [0, 0, 0, 0])]
    match r with
    | .hit n =>
      let e := s.rt n
      { state := s1
        out := [(24, bytesOf e.nhMac 6 ++ bytesOf (e.nhVid.setWidth 16) 2 ++ bytesOf ((e.qvalid ++ e.queue).setWidth 16) 2 ++
            bytesOf (e.outPort.setWidth 8) 1 ++ bytesOf (e.destDev.setWidth 8) 1 ++ bytesOf (e.ract.setWidth 8) 1 ++
            bytesOf e.plen 1), (40, bytesOf e.rcounter 4)] }
    | .miss => { state := s1, status := 0x34, out := none' }
    | .missCheck => { state := s1, status := 0x35, out := none' }

/-- FIND4. -/
def execHFind4 (k : Nat) (path entry : Bool) (s : State) : Out := ok s (s.serve k 3 1 (· = 6) false (routeFind 0 path entry))
/-- FIND6. -/
def execHFind6 (k : Nat) (path entry : Bool) (s : State) : Out := ok s (s.serve k 3 2 (· = 6) false (routeFind 1 path entry))

/-! ## Policers and counters (R321, R322, R426) -/

/-- METER: a later instance of a packet is not charged (R318); NONCONFORM of a policer that forces the drop is kept with
the packet's record. -/
def meterOp (s : State) (o : HelperOp) : Served :=
  let n := o.u 8 4
  let len := o.u 12 2
  let p := s.policer n
  if n ≥ 16384 ∨ !inR len 1 9600 ∨ p.cfg.enable = 0 then refuse s 0x33
  else if p.cfg.owner.toNat ≠ o.slice then refuse s 0x08
  else if !o.inst.task && o.inst.later then { state := s }
  else
    let (s1, d) := s.meter n len
    let s2 := if d ≠ 0 ∧ p.cfg.dropForce = 1 then
        (match s1.recordOf o with
          | some r => s1.modRec r fun x => { x with forced := some (x.forced.getD n) }
          | none => s1)
      else s1
    { state := s2, status := if d = 0 then 0 else 0x38, detail := d }

/-- METER. -/
def execHMeter (k : Nat) (s : State) : Out := ok s (s.serve k 4 1 (· = 2) false meterOp)

/-- A counter pair lies in a slice's range (R322, R617). -/
def State.ownsPair (s : State) (slice n : Nat) : Bool :=
  let r := Tab.get (0, 0) s.host.ctrRange slice
  decide (r.1 ≤ n) && decide (n < r.1 + r.2)

/-- ADD. -/
def counterAdd (s : State) (o : HelperOp) : Served :=
  let n := o.u 8 4
  if n ≥ 65536 then refuse s 0x33
  else if !s.ownsPair o.slice n then refuse s 0x08
  else if (nthByte o.block 12).getLsbD 0 && !o.inst.task && o.inst.later then { state := s }
  else
    { state := { s with host.pairs := Tab.upd (0, 0) s.host.pairs n fun (p, b) =>
        (satAdd p (o.u 16 4), satAdd b (o.u 20 4)) } }

/-- READ. -/
def counterRead (s : State) (o : HelperOp) : Served :=
  let n := o.u 8 4
  if n ≥ 65536 then refuse s 0x33
  else if !s.ownsPair o.slice n then refuse s 0x08
  else
    let v := Tab.get (0, 0) s.host.pairs n
    { state := if (nthByte o.block 12).getLsbD 1 then { s with host.pairs := Tab.set (0, 0) s.host.pairs n (0, 0) } else s
      out := [(16, bytesOf v.1 8 ++ bytesOf v.2 8)] }

/-- COUNTER_ADD. -/
def execHCounterAdd (k : Nat) (s : State) : Out := ok s (s.serve k 5 1 (· = 3) false counterAdd)
/-- COUNTER_HELPER_READ. -/
def execHCounterHelperRead (k : Nat) (s : State) : Out := ok s (s.serve k 5 2 (· = 4) false counterRead)

/-! ## Locks (R347 to R353) -/

/-- A lock request: its lock in range and enabled, and of the requester's slice. -/
def lockOp (run : State → LockHolder → Nat → HelperOp → Served) (s : State) (o : HelperOp) : Served :=
  let n := o.u 8 2
  if n ≥ 4096 ∨ (s.lk n).cfg.enable = 0 then refuse s 0x33
  else if (s.lk n).cfg.owner.toNat ≠ o.slice then refuse s 0x08
  else run s (o.inst.holder o.core o.thread) n o

/-- A state and a status. -/
def ofPair (x : State × Nat) : Served := { state := x.1, status := x.2 }

/-- LOCK_ACQUIRE of a request whose task is gone still executes (R221), and what it has got passes on at once, since no lock
outlives its task (R343, R358). In HOLD and SAFE nothing is granted (R360). -/
def lateAcquire (s : State) (h : LockHolder) (n : Nat) (o : HelperOp) (x : State × Nat) : Served :=
  if s.carries o ∨ (s.lk n).heldBy h ∨ (s.lk n).waits h then ofPair x
  else if !s.sys.mode.live then { state := s, status := x.2 }
  else ofPair (x.1.leaveLock o.core o.thread n, x.2)

/-- LOCK_ACQUIRE. -/
def execHLockAcquire (k : Nat) (s : State) : Out :=
  ok s (s.serve k 6 1 (· = 2) false (lockOp fun s h n o =>
    lateAcquire s h n o (lockAcquire s h n ((nthByte o.block 10).getLsbD 0) (o.u 11 1 % 8))))
/-- LOCK_RELEASE. -/
def execHLockRelease (k : Nat) (s : State) : Out :=
  ok s (s.serve k 6 2 (· = 2) false (lockOp fun s h n _ => ofPair (lockRelease s h n)))
/-- LOCK_RENEW. -/
def execHLockRenew (k : Nat) (s : State) : Out :=
  ok s (s.serve k 6 3 (· = 2) false (lockOp fun s h n _ => ofPair (lockRenew s h n)))
/-- LOCK_CANCEL. -/
def execHLockCancel (k : Nat) (s : State) : Out :=
  ok s (s.serve k 6 4 (· = 2) false (lockOp fun s h n _ => ofPair (lockCancel s h n)))
/-- LOCK_QUERY. -/
def execHLockQuery (k : Nat) (s : State) : Out :=
  ok s (s.serve k 6 5 (· = 4) false (lockOp fun s _ n _ => { state := s, out := [(16, lockQuery s n)] }))

/-! ## Channels (R368 to R370) -/

/-- A channel request (R311, R368): its ring in range, its block's length as the ring asks, KIND CHANNEL, enabled, of the
requester's slice; `words` is the block's length for a ring. -/
def chanOp (words : State → Nat → Nat) (run : State → HelperOp → Nat → Served) (s : State) (o : HelperOp) : Served :=
  let r := o.u 8 2
  let g := s.ring r
  if r ≥ 4096 then refuse s 0x33
  else if o.word.blen.toNat ≠ words s r then refuse s 0x32
  else if g.cfg.kind ≠ 1 ∨ g.cfg.enable = 0 then refuse s 0x33
  else if g.cfg.owner.toNat ≠ o.slice then refuse s 0x08
  else run s o r

/-- BLEN of a request that holds an item (R316). -/
def itemBlen (n : Nat) : Bool := n = 4 || n = 6 || n = 10
/-- BLEN of a CH_POP: 2 and 1 to 8 items. -/
def popBlen (n : Nat) : Bool := (List.range 8).any fun k => n = 4 + 2 * k || n = 6 + 4 * k || n = 10 + 8 * k

/-- BLEN of an operation that carries items. -/
def itemWords (n : Nat) (s : State) (r : Nat) : Nat := 2 + n * ((s.ring r).itemBytes / 8)

/-- CH_STAGE; what a task that is gone stages is discarded and counted (R371). -/
def execHChStage (k : Nat) (s : State) : Out :=
  ok s (s.serve k 7 1 itemBlen false (chanOp (itemWords 1) fun s o r =>
    let x := chStage s o.core o.thread r (leBits 512 (o.b 16 (s.ring r).itemBytes))
    ofPair (if s.carries o then x.1 else x.1.dropStage o.core o.thread, x.2)))
/-- CH_COMMIT. A task that is gone has nothing staged (R371). -/
def execHChCommit (k : Nat) (s : State) : Out :=
  ok s (s.serve k 7 2 (· = 2) false (chanOp (fun _ _ => 2) fun s o r => ofPair (chCommit s o.core o.thread r)))
/-- CH_ABORT. -/
def execHChAbort (k : Nat) (s : State) : Out :=
  ok s (s.serve k 7 3 (· = 2) false (chanOp (fun _ _ => 2) fun s o r => ofPair (chAbort s o.core o.thread r)))
/-- CH_POP: an empty ring answers idle items for MSG_MAX of them (R370). -/
def execHChPop (k : Nat) (s : State) : Out :=
  ok s (s.serve k 7 4 popBlen false
    (chanOp (fun s r => itemWords (s.chan r).cfg.msgMax.toNat s r) fun s o r =>
      let x := chPop s o.core o.thread r
      let n := (s.ring r).itemBytes
      { state := x.1, status := x.2.1, detail := x.2.2.length
        out := if x.2.1 = 0 then [(16, x.2.2.flatMap fun i => bytesOf i n)]
          else if x.2.1 = 1 then [(16, List.replicate (n * (s.chan r).cfg.msgMax.toNat) 0xFF)] else [] }))

/-! ## Pools (R154, R319, R325) -/

/-- A pool request: its pool in range and enabled. -/
def poolOp (run : State → HelperOp → Nat → Served) (s : State) (o : HelperOp) : Served :=
  let b := o.u 8 1
  if b ≥ 64 ∨ (s.pool b).cfg.enable = 0 then refuse s 0x33 else run s o b

/-- The handle of a request's block. -/
def HelperOp.handleAt (o : HelperOp) (off : Nat) : BitVec 24 := BitVec.ofNat 24 (o.u off 3)

/-- POOL_ALLOC: the instance records the handle; one that is gone holds it no longer (R319). -/
def allocOp (s : State) (o : HelperOp) (b : Nat) : Served :=
  if (s.pool b).cfg.owner.toNat = o.slice ∧ (s.recdOf o).handles.length ≥ 16 then { state := s, status := 0x36 }
  else
    let x := poolAlloc s b o.slice
    let out := [(12, bytesOf (x.2.1.setWidth 32) 4)]
    if x.2.2 = 0 then
      { state := if x.1.carries o then x.1.modRecd o fun r => { r with handles := r.handles ++ [x.2.1] }
          else x.1.dropRef (recOf x.2.1)
        out := out }
    else { state := x.1, status := x.2.2, out := if x.2.2 = 0x10 then out else [], check := x.2.2 = 0x08 }

/-- FREE: a handle that the instance records leaves its record (R319). -/
def freeOp (s : State) (o : HelperOp) (b : Nat) : Served :=
  let h := o.handleAt 12
  let whole : Bool := (nthByte o.block 9).getLsbD 0
  let hs := if whole then (s.chain chainFuel (recOf h)).map handleOf else [h]
  let x := poolFree s b o.slice h whole
  { state := if x.2 = 0 then x.1.modRecd o fun r => { r with handles := hs.foldl (fun l h => l.erase h) r.handles } else x.1
    status := x.2, check := x.2 = 0x08 }

/-- POOL_ALLOC. -/
def execHPoolAlloc (k : Nat) (s : State) : Out := ok s (s.serve k 8 1 (· = 2) false (poolOp allocOp))
/-- REF_ADD. -/
def execHRefAdd (k : Nat) (s : State) : Out :=
  ok s (s.serve k 8 2 (· = 2) false (poolOp fun s o b => ofPair (poolRefAdd s b o.slice (o.handleAt 12))))
/-- FREE. -/
def execHFree (k : Nat) (s : State) : Out := ok s (s.serve k 8 3 (· = 2) false (poolOp freeOp))

/-! ## Rings (R130 to R132, R324) -/

/-- A ring request (R311, R324): its ring in range; with `items`, a block of one item; KIND GENERAL, enabled and its other
fields in range; of the requester's slice. -/
def ringOp (items : Bool) (bad : HelperOp → Bool) (run : State → HelperOp → Nat → Served) (s : State) (o : HelperOp) : Served :=
  let r := o.u 8 2
  let g := s.ring r
  if r ≥ 4096 then refuse s 0x33
  else if items ∧ o.word.blen.toNat ≠ itemWords 1 s r then refuse s 0x32
  else if g.cfg.kind ≠ 0 ∨ g.cfg.enable = 0 ∨ bad o then refuse s 0x33
  else if g.cfg.owner.toNat ≠ o.slice then refuse s 0x08
  else run s o r

/-- No other field to check. -/
def noField (_ : HelperOp) : Bool := false

/-- RING_PUSH. -/
def execHRingPush (k : Nat) (s : State) : Out :=
  ok s (s.serve k 9 1 itemBlen false (ringOp true noField fun s o r => ofPair (ringPush s r (leBits 512 (o.b 16 (s.ring r).itemBytes)))))
/-- RING_POP. -/
def execHRingPop (k : Nat) (s : State) : Out :=
  ok s (s.serve k 9 2 itemBlen false (ringOp true noField fun s _ r =>
    let x := ringPop s r
    { state := x.1, status := x.2.2, out := if x.2.2 = 7 then [] else [(16, bytesOf x.2.1 (s.ring r).itemBytes)] }))
/-- RING_MARK. -/
def execHRingMark (k : Nat) (s : State) : Out :=
  ok s (s.serve k 9 3 (· = 2) false (ringOp false noField fun s _ r => ofPair (ringMark s r)))
/-- RING_REWIND. -/
def execHRingRewind (k : Nat) (s : State) : Out :=
  ok s (s.serve k 9 4 (· = 2) false (ringOp false noField fun s _ r => ofPair (ringRewind s r)))
/-- RING_RELEASE. -/
def execHRingRelease (k : Nat) (s : State) : Out :=
  ok s (s.serve k 9 5 (· = 2) false (ringOp false (fun o => o.u 10 2 = 0) fun s o r =>
    ofPair (ringRelease s r (o.u 10 2))))

/-! ## Time (R74, R78, R327, R328) -/

/-- TS_CONVERT; where there is no conversion, OUT is not stated: a free value. -/
def convertOp (s : State) (o : HelperOp) : Served :=
  let a := o.u 8 1
  let b := o.u 9 1
  if a > 4 ∨ b > 4 then refuse s 0x33
  else
    let c := s.convert a b (o.u 16 8)
    if c.status < 2 then
      { state := s, status := if c.status = 0 then 0 else 0x3A, out := [(24, bytesOf (BitVec.ofNat 64 c.value) 8)] }
    else if c.status = 2 then
      { state := s.drawn, status := 0x3B, out := [(24, bytesOf (Config.freeWord s.time.free) 8)] }
    else refuse s 0x3C

/-- PICK_STEER. -/
def steerOp (s : State) (o : HelperOp) : Served :=
  let c := o.u 8 1
  let k := c - 1
  let p := s.pick k
  let t := o.u 16 8
  let v := s.wallToPick k t
  if !inR c 1 4 then refuse s 0x33
  else if p.cfg.steerSlice.toNat ≠ o.slice then refuse s 0x08
  else if !p.on then { state := s, status := 0x3C }
  else if (p.code true ≠ 5 ∧ p.code false ≠ 5) ∨ t > s.wall.toNat ∨ t + 10000000 < s.wall.toNat ∨ v.status ≥ 2 ∨
      p.lastSteer.any (fun l => t ≤ l) then
    { state := s.modPick k fun p => { p with st.steerStale := satInc p.st.steerStale }, status := 0x3D }
  else
    let ph := o.u 24 4 % 2 ^ 20
    let role (s : State) (pri : Bool) : State :=
      if p.code pri = 5 then s.refEventAt k pri (s.now - (s.wall.toNat - t)) (fun _ => ph) v.value s.now else s
    { state := (role (role s true) false).modPick k fun p => { p with lastSteer := some t } }

/-- TS_CONVERT. -/
def execHTsConvert (k : Nat) (s : State) : Out := ok s (s.serve k 10 1 (· = 4) false convertOp)
/-- PICK_STEER. -/
def execHPickSteer (k : Nat) (s : State) : Out := ok s (s.serve k 10 2 (· = 4) false steerOp)

/-! ## Tasks and delays (R204, R216, R220, R221, R326) -/

/-- A task request: 0x20 BAD_TASK, NOT_OWNER. -/
def taskOp (run : State → HelperOp → Nat → Served) (s : State) (o : HelperOp) : Served :=
  let n := o.u 8 2
  if n ≥ 2048 ∨ !(s.bg n).live then refuse s 0x20
  else if (s.bg n).obj.owner.toNat ≠ o.slice then refuse s 0x08
  else run s o n

/-- TASK_KICK. -/
def execHTaskKickHelper (k : Nat) (s : State) : Out :=
  ok s (s.serve k 11 1 (· = 2) false (taskOp fun s _ n => ofPair (s.kick n)))
/-- TASK_CANCEL. -/
def execHTaskCancelHelper (k : Nat) (s : State) : Out :=
  ok s (s.serve k 11 2 (· = 2) false (taskOp fun s o n => { state := s.cancel n ((nthByte o.block 10).getLsbD 0) }))

/-- The delay that a block asks for: reserved bits of TARGET are ignored (R8). -/
def HelperOp.delayReq (o : HelperOp) : DelayReq :=
  { scale := o.u 8 1, kind := o.u 9 1, target := BitVec.ofNat 32 (o.u 12 4) &&& targetUsed (o.u 9 1), due := BitVec.ofNat 64 (o.u 16 8)
    period := BitVec.ofNat 64 (o.u 24 8) }

/-- The target of a COMPLETE entry (R215): its instance. -/
def Inst.target (i : Inst) : Word32 :=
  put 32 0 (BitVec.ofNat 13 i.idx) ||| put 32 15 (bit i.task) ||| put 32 16 i.epoch

/-- DELAY_ARM by helper: it waits, counted once, while every entry is armed (R214); one of KIND COMPLETE completes when
its entry fires, and its handle is written at once. -/
def State.delayArm (s : State) (o : HelperOp) : State :=
  let r := o.delayReq
  if o.word.blen ≠ 5 then (refuse s 0x32).close o
  else if r.badField ∨ (r.kind = 1 ∧ !o.counted) then (refuse s 0x33).close o
  else if !s.delayOwns o.slice r then (refuse s 0x08).close o
  else if s.badTime r then ({ state := s, status := 0x22 : Served }).close o
  else match s.freeDelay with
    | none =>
      if o.held then s
      else
        { s with weft.ops := s.weft.ops.map fun (x : HelperOp) => if x.id = o.id then { x with held := true } else x }.bump .delayHeld 0
    | some i =>
      if r.kind = 1 then
        let s1 := (s.armDelay o.slice i { r with target := o.inst.target } o.tag (some o.id))
        let s2 := { s1 with weft.ops := s1.weft.ops.map fun (x : HelperOp) => if x.id = o.id then { x with parked := true, held := false } else x }
        if s.carries o then s2.lmWrite o.core (o.addr + 32) (bytesOf (BitVec.ofNat 16 i) 2) else s2
      else
        ({ state := s.armDelay o.slice i r o.tag none, out := [(32, bytesOf (BitVec.ofNat 16 i) 2)] : Served }).close o

/-- DELAY_ARM_HELPER. -/
def execHDelayArmHelper (k : Nat) (s : State) : Out :=
  ok s (match s.opAt k 11 3 with | some o => s.delayArm o | none => s)

/-- DELAY_DISARM_HELPER (R220). -/
def execHDelayDisarmHelper (k : Nat) (s : State) : Out :=
  ok s (s.serve k 11 4 (· = 2) false fun s o =>
    let i := o.u 8 2
    if i ≥ 4096 ∨ (s.delay i).e.valid = 0 then refuse s 0x20
    else if (s.delay i).e.owner.toNat ≠ o.slice then refuse s 0x08
    else { state := s.freeDelayAt i })

/-! ## Frames (R329, R330) -/

/-- The fields of ORIGIN. -/
structure OriginReq where
  od : Nat
  own : Bool
  launch : Bool
  tail : Bool
  fabric : Bool
  tc : Nat
  queue : Nat
  dest : Nat
  port : Nat
  len : Nat
  scale : Nat
  pool : Nat
  handle : BitVec 24
  time : Word
deriving DecidableEq, Repr

/-- The fields of a block. -/
def HelperOp.originReq (o : HelperOp) : OriginReq :=
  let f := nthByte o.block 10
  { od := o.u 8 2, own := f.getLsbD 0, launch := f.getLsbD 1, tail := f.getLsbD 2, fabric := f.getLsbD 3, tc := o.u 11 1
    queue := o.u 12 2, dest := o.u 14 1, port := o.u 15 1, len := o.u 16 2, scale := o.u 18 1, pool := o.u 19 1
    handle := o.handleAt 20, time := BitVec.ofNat 64 (o.u 24 8) }

/-- Values out of range (R330); OWN in an activation. -/
def OriginReq.bad (r : OriginReq) (act : Bool) : Bool :=
  (r.own && act) || decide (r.tc > 7) || decide (r.pool ≥ 64) || (!r.own && !act && decide (r.od ≥ 4096)) ||
  (r.fabric && (decide (r.dest ≥ 64) || decide (r.port ≥ 64) || portReserved r.port)) ||
  (!r.fabric && decide (r.queue ≥ 8192)) || (r.launch && decide (r.scale > 4))

/-- The tail of an origin frame (R330): its cells, or the status of the first that fails: BAD_HANDLE, NOT_OWNER. A chain
never mixes cells and buffers (R152). -/
def State.originTail (s : State) (r : OriginReq) (slice : Nat) : List Nat × Nat :=
  if !r.tail then ([], 0)
  else
    let is := s.chain chainFuel (recOf r.handle)
    let bad (i : Nat) : Nat :=
      let h := handleOf i
      let n := (h.extractLsb' 0 22).toNat
      if h.getLsbD 22 ∨ (if h.getLsbD 23 then n ≥ 4194304 else n ≥ cellCount) then 0x11
      else if h.getLsbD 23 ≠ ((s.pool r.pool).cfg.kind == 1) then 0x11
      else if (s.cell i).alloc = 0 then 0x11
      else if (s.pool (s.cell i).pool.toNat).cfg.owner.toNat ≠ slice then 0x08
      else if (s.cell i).refcnt = 255 then 0x13 else 0
    if r.handle.getLsbD 22 ∨ (s.frameBad r.handle).isSome then ([], 0x11)
    else (is, ((is.map bad).find? (· ≠ 0)).getD 0)

/-- A stored frame takes a tail: its last cell goes on to the tail's first, and each of the tail's cells takes a reference. -/
def State.withTail (s : State) (h : BitVec 24) (tail : List Nat) : State :=
  match tail with
  | [] => s
  | x :: _ => (tail.foldl State.addRef s).modRecord ((s.cellsOf h).getLastD 0) fun c =>
      { c with last := 0, next := BitVec.ofNat 22 x, nextOff := if Tab.get false s.buf.metas x then 64 else 0 }

/-- ORIGIN: cells are allocated and filled, the tail is appended with a reference on each of its cells, and the instance
holds the frame. An instance that is gone holds none. -/
def originOp (s : State) (o : HelperOp) : Served :=
  let r := o.originReq
  let (tail, e) := s.originTail r o.slice
  let total := r.len + (s.frameFrom tail).length
  let data := o.b 32 r.len
  if o.word.blen.toNat ≠ 4 + (r.len + 7) / 8 then refuse s 0x32
  else if !inR r.len 1 512 then refuse s 0x33
  else if r.bad o.inst.task then refuse s 0x33
  else if (s.pool r.pool).cfg.enable = 0 then refuse s 0x33
  else if (s.pool r.pool).cfg.owner.toNat ≠ o.slice then refuse s 0x08
  else if e ≠ 0 then refuse s e
  else if total > 9596 then refuse s 0x33
  else if r.launch ∧ r.scale ≠ 0 ∧ !(s.pick (r.scale - 1)).on then refuse s 0x3C
  else if (s.recdOf o).origins.length ≥ 8 then { state := s, status := 0x37 }
  else match s.storeFrame r.pool (s.metaTile (s.now * 1000) 0) data with
    | none => { state := s.allocFail r.pool, status := 0x10 }
    | some (s1, h) =>
      let s2 := s1.withTail h tail
      let od := if o.inst.task then (s.bg o.inst.idx).obj.originOd.toNat else r.od
      let d : Desc :=
        { typeV := 2, tc := BitVec.ofNat 3 r.tc, inPort := 63, length := BitVec.ofNat 14 (max 60 total + 4), buf := h
          od := BitVec.ofNat 12 od, tsWallLo := s.wall.setWidth 32
          queue := if r.fabric then 0 else BitVec.ofNat 13 r.queue, qvalid := bit !r.fabric
          outPort := if r.fabric then BitVec.ofNat 6 r.port else 63
          destDev := if r.fabric then BitVec.ofNat 6 r.dest else s.devId, fcsMode := 2, action := 1 }
      let x : Origin :=
        { desc := d, launch := if r.launch then some (BitVec.ofNat 3 r.scale, r.time) else none, own := r.own, slice := o.slice }
      { state := if s2.carries o then s2.modRecd o fun c => { c with origins := c.origins ++ [x] } else s2.dropFrame h }

/-- ORIGIN. -/
def execHOrigin (k : Nat) (s : State) : Out := ok s (s.serve k 12 1 (inR · 5 68) false originOp)

/-- LAUNCH_SET (R329). -/
def launchOp (s : State) (o : HelperOp) : Served :=
  let c := o.u 8 1
  if c > 4 then refuse s 0x33
  else if c ≠ 0 ∧ !(s.pick (c - 1)).on then { state := s, status := 0x3C }
  else { state := s.modRecd o fun r => { r with launch := some (BitVec.ofNat 3 c, BitVec.ofNat 64 (o.u 16 8)) } }

/-- HOST_SET (R329). -/
def hostOp (s : State) (o : HelperOp) : Served :=
  let n := o.u 8 2
  if n ≥ 512 then refuse s 0x33
  else if (s.hr n).cfg.owner.toNat ≠ o.slice then refuse s 0x08
  else { state := s.modRecd o fun r => { r with hostRing := some n } }

/-- LAUNCH_SET. -/
def execHLaunchSet (k : Nat) (s : State) : Out := ok s (s.serve k 12 2 (· = 3) true launchOp)
/-- HOST_SET. -/
def execHHostSet (k : Nat) (s : State) : Out := ok s (s.serve k 12 3 (· = 2) true hostOp)

/-! ## CRC_RANGE (R323) -/

/-- Ones'-complement sum of byte pairs in frame order from a starting sum, folded to 16 bits. -/
def onesSum (init : Nat) : List Byte → Nat
  | [] => init
  | [a] => let v := init + a.toNat * 256; v % 65536 + v / 65536
  | a :: b :: r => let v := init + a.toNat * 256 + b.toNat; onesSum (v % 65536 + v / 65536) r

/-- CRC_RANGE over the packet's frame as received. -/
def crcOp (s : State) (o : HelperOp) : Served :=
  let alg := o.u 8 1
  let off := o.u 10 2
  let len := o.u 12 2
  match s.recordOf o with
  | none => refuse s 0x33
  | some r =>
    let d := (s.ctx r).desc
    if alg > 2 ∨ len = 0 ∨ off + len > d.length.toNat - 4 then refuse s 0x33
    else
      let bs := slice (s.frameOf d.buf d.length.toNat) off len
      let init := BitVec.ofNat 32 (o.u 16 4)
      let v := if alg = 0 then crcRun 0x82F63B78 init bs
        else if alg = 1 then crcRun 0xEDB88320 init bs
        else BitVec.ofNat 32 (onesSum (o.u 16 2) bs)
      { state := s, out := [(20, bytesOf v 4)] }

/-- CRC_RANGE. -/
def execHCrcRange (k : Nat) (s : State) : Out := ok s (s.serve k 13 1 (· = 3) true crcOp)

end Sys2Proof.Machine
end

