-- ==== Sys2Proof/Machine/HostCmds.lean ====
section
/-!
DEFINITION. Commands of the device, its slices, host DMA rings and statistics (R553 to R555, R575, R585, R586, R599 to
R601, R610, R617, R618), with a slice's attach, detach and reset.
-/
namespace Sys2Proof.Machine

/-! ## Device -/

/-- DEVICE_CONFIG (R600). -/
def execDeviceConfig (q : Cmd) (s : State) : Out :=
  runCmd (setOp 0x001 .all DevCfg.rsv) q s
    { bad := [(q.h ≠ 0, .badParam)], owns := isSl0 s q, keys := [(.device, 0)]
      eff := { s with host.devCfg := DevCfg.ofTile (q.tile 1) } }

/-- DEVICE_GET (R599). -/
def execDeviceGet (q : Cmd) (s : State) : Out :=
  runCmd (getOp 0x002 .all) q s
    { bad := [(q.h ≠ 0, .badParam)], owns := clearOk s q 0, keys := [(.device, 0)], changes := false, replyTiles := 3
      tiles := [s.host.devCfg.toTile, s.ident.toTile], eff := s }

/-- PING (R599). -/
def execPing (q : Cmd) (s : State) : Out :=
  runCmd (actOp 0x005 .all 0) q s
    { bad := [(q.h ≠ 0, .badParam)], keys := [(.device, 0)], changes := false, eff := s
      data := dat 16 s.host.devGen ||| dat 24 s.wall ||| dat 32 (s.modeCode.setWidth 8) }

/-! ## Slices -/

/-- The host DMA rings of a slice. -/
def State.ringsOf (s : State) (n : Nat) : List Nat :=
  (s.host.rings.filter fun (_, r) => r.cfg.owner.toNat = n).map (·.1)

/-- A delivery ends: its reference drops (R153) and its packet has one leg less (R185). -/
def State.deliveryGone (s : State) (d : Delivery) : State := (s.dropFrame d.buf).legGone d.pkt

/-- The transfers of a ring that are on their way end without their write-back. -/
def State.squash (s : State) (r : Nat) : State :=
  let g := s.hr r
  (g.inFlight.foldl State.deliveryGone s).modHr r fun g => { g with inFlight := [] }

/-- A ring is disabled. -/
def State.disableHr (s : State) (r : Nat) : State :=
  s.modHr r fun g => { g with cfg := { g.cfg with enable := 0 }, ready := [], kick := false, resetting := false }

/-- A slice attaches: ACTIVE with its ring counts and its event count at 0 (R555, R573). -/
def SliceHost.attach (h : SliceHost) : SliceHost :=
  { h with st := { h.st with state := 1, sqHalted := 0, haltCause := 0, sqFetch := 0, cqResv := 0 }
           sqTail := 0, cqHead := 0, evtSeq := 0, resv := [] }

/-- A slice is DETACHED; replies that are still due go to the window only. -/
def SliceHost.detach (h : SliceHost) : SliceHost :=
  { h with st := { h.st with state := 0, sqHalted := 0, haltCause := 0, sqFetch := 0, cqResv := 0 }
           sqTail := 0, cqHead := 0, resv := [], drainEnd := none }

/-- Every SLICE_QUIESCE of a slice that waits completes. -/
def State.endQuiesce (s : State) (n : Nat) (st : Status) : State :=
  let mine (w : Wait) : Bool := match w with | .quiesce m _ => m = n | _ => false
  (s.host.deferred.filter fun d => mine d.wait).foldl (fun (s : State) _ => s.finish mine st 0 []) s

/-- Transfers of the slice's self-draining rings that are on their way. -/
def State.selfDraining (s : State) (n : Nat) : List Nat :=
  (s.ringsOf n).filter fun r => (s.hr r).cfg.selfDrain = 1 && !(s.hr r).inFlight.isEmpty

/-- Steps 2 to 6 of a slice reset (R586), and its replies; then step 7. SL0, which is reset by re-attaching it, takes
the configuration of its command and is ACTIVE again. -/
def State.endReset (s : State) (n : Nat) : State :=
  let s2 := (s.ringsOf n).foldl State.disableHr s
  let s3 := ((s2.task.tasks.filter fun (_, b) => b.live && b.obj.owner.toNat = n).map (·.1)).foldl State.destroy s2
  let s3' := s3.freeDelays fun d => d.e.owner.toNat = n
  let s4 := ((List.range 68).flatMap fun c => (List.range 8).map fun t => (c, t)).foldl (fun (s : State) (x : Nat × Nat) =>
    if ((s.th x.1 x.2).inst.map (·.slice)) = some n then (s.leaveThread x.1 x.2).dropStage x.1 x.2 else s) s3'
  let s5 := ((List.range 68).flatMap fun c => (List.range 8).map fun t => (c, t)).foldl (fun (s : State) (x : Nat × Nat) =>
    if (s.th x.1 x.2).dbg = some n then s.detach x.1 x.2 else s) s4
  let s6 := s5.modSl n fun h => { h with window := [] }
  let cfg : Option SliceCfg := (s6.host.deferred.find? fun d => d.wait = .sliceReset n && d.opcode = 0x101).map fun d =>
    SliceCfg.ofTile (d.cmd.tile 1)
  let s7 := s6.finish (· == .sliceReset n) .ok 0 []
  match cfg with
  | some c => s7.modSl n fun h => { h.detach with cfg := c }.attach
  | none => s7.modSl n fun h => { h.detach with cfg := { h.cfg with enable := 0 } }

/-- A slice reset begins: RESETTING, with 1 ms for the transfers of self-draining rings (R587). -/
def State.beginReset (s : State) (n : Nat) : State :=
  s.modSl n fun h => { h with st := { h.st with state := 4 }, drainEnd := some (s.now + 1000000) }

/-- A reset goes on once no transfer of a self-draining ring is outstanding. -/
def State.tryReset (s : State) (n : Nat) : State :=
  if (s.sl n).st.state = 4 ∧ s.selfDraining n = [] then s.endReset n else s

/-- A command that begins a reset ends it at once when no transfer is outstanding. -/
def resetNow (n : Nat) (s : State) : Out → Out
  | .next t => ok s (if t.host.deferred = s.host.deferred then t else t.tryReset n)
  | o => o

/-- The range checks of R554. -/
def State.sliceBad (s : State) (n : Nat) (c : SliceCfg) : Bool :=
  let win := c.winMib.toNat * 2 ^ 20
  let others := s.host.slices.filter fun (m, h) => m ≠ n && h.cfg.enable = 1
  !inR c.sqLog2.toNat 6 12 || !inR c.cqLog2.toNat 6 12 || c.sqBase.toNat % 4096 ≠ 0 || c.cqBase.toNat % 4096 ≠ 0 ||
  c.evtBase.toNat % 4096 ≠ 0 || decide (c.vecCount.toNat > 64) || c.winBase.toNat % 0x200000 ≠ 0 || decide (c.winCid.toNat < 4) ||
  (c.pasidEn = 1 && others.any fun (_, h) => h.cfg.pasidEn = 1 && h.cfg.pasid = c.pasid) ||
  (c.pasidEn = 0 && c.enable = 1 && n ≠ 0) ||
  decide (c.vecCount ≠ 0 ∧ c.vecBase.toNat + c.vecCount.toNat > 256) ||
  (others.any fun (_, h) => meets c.vecBase.toNat c.vecCount.toNat h.cfg.vecBase.toNat h.cfg.vecCount.toNat) ||
  (win ≠ 0 && (meets c.winBase.toNat win 0 0x10000000 || meets c.winBase.toNat win s.bufBase (s.bufCount * 2048) ||
    decide (c.winBase.toNat + win > s.dramSize))) ||
  (c.evtEn = 1 && (let r := (s.ring c.evtRing.toNat).cfg
    r.enable = 0 || r.owner.toNat ≠ n || r.kind ≠ 3))

/-- PASID and the ring fields of a slice (R554). -/
def SliceCfg.rings (c : SliceCfg) : BitVec 1 × BitVec 20 × BitVec 4 × BitVec 4 × Word × Word × Word × BitVec 12 :=
  (c.pasidEn, c.pasid, c.sqLog2, c.cqLog2, c.sqBase, c.cqBase, c.evtBase, c.evtRing)

/-- A core runs a task of the slice. -/
def State.sliceRuns (s : State) (n : Nat) : Bool :=
  (List.range 68).any fun c => (List.range 8).any fun t => ((s.th c t).inst.map (·.slice)) = some n

/-- SLICE_CONFIG (R553, R554): ENABLE 1 attaches a DETACHED slice, ENABLE 0 detaches it; through the mailbox a change of
SL0's rings re-attaches SL0 (R586). -/
def execSliceConfig (q : Cmd) (s : State) : Out :=
  let c := SliceCfg.ofTile (q.tile 1)
  let h := s.sl q.h
  let o := h.cfg
  let ringsChange : Bool := o.enable = 1 && c.rings ≠ o.rings
  let box : Bool := q.h = 0 && q.path = .mailbox
  let again : Bool := ringsChange && box && h.st.state ≠ 0 && c.enable = 1
  let winChange : Bool := c.winBase ≠ o.winBase || c.winMib ≠ o.winMib || c.winCid ≠ o.winCid
  let s1 := s.modSl q.h fun h => { h with cfg := c }
  resetNow 0 s <| runCmd (setOp 0x101 .all SliceCfg.rsv) q s
    { bad := [(decide (q.h ≥ 64), .badParam)], owns := isSl0 s q, keys := [(.slice, q.h)]
      own := [(c.winMib ≠ 0 && !s.dramOn, .noRoom), (s.sliceBad q.h c, .badParam), (ringsChange && !box, .busy),
        (winChange && s.sliceRuns q.h, .busy)]
      eff := if again then s.beginReset 0
        else if c.enable = 1 ∧ h.st.state = 0 then s1.modSl q.h SliceHost.attach
        else if c.enable = 0 ∧ h.st.state ≠ 0 then (s1.endQuiesce q.h .busy).modSl q.h SliceHost.detach
        else s1
      wait := if again then some (.sliceReset 0) else none }

/-- SLICE_GET (R555). -/
def execSliceGet (q : Cmd) (s : State) : Out :=
  let h := s.sl q.h
  runCmd (getOp 0x102 .all) q s
    { bad := [(decide (q.h ≥ 64), .badParam)], owns := isSl0 s q || decide (s.requester q = q.h), keys := [(.slice, q.h)]
      own := [(q.clear && !isSl0 s q, .notOwner)], changes := false, replyTiles := 3, tiles := [h.cfg.toTile, h.st.toTile]
      eff := if q.clear then s.modSl q.h fun h =>
          { h with st := { h.st with cmdAccepted := 0, cmdReplayed := 0, cmdRejected := 0, replyOrphan := 0, dmaErr := 0
                                     sqHalts := 0, doorbellBad := 0 } }
        else s }

/-- Who may quiesce, resume or reset a slice. -/
def sliceMine (s : State) (q : Cmd) : Bool := isSl0 s q || decide (s.requester q = q.h)

/-- SLICE_QUIESCE (R585). -/
def execSliceQuiesce (q : Cmd) (s : State) : Out :=
  let st := (s.sl q.h).st.state
  runCmd (actOp 0x103 .all 0) q s
    { bad := [(decide (q.h ≥ 64), .badParam)], owns := sliceMine s q, keys := [(.slice, q.h)]
      own := [(st = 0 || st = 4, .busy)]
      eff := s.modSl q.h fun h => { h with st := { h.st with state := if h.st.state = 3 then 3 else 2 } }
      wait := some (.quiesce q.h (s.now + 100000000)) }

/-- SLICE_RESUME (R585). -/
def execSliceResume (q : Cmd) (s : State) : Out :=
  let st := (s.sl q.h).st.state
  runCmd (actOp 0x104 .all 0) q s
    { bad := [(decide (q.h ≥ 64), .badParam)], owns := sliceMine s q, keys := [(.slice, q.h)]
      own := [(st ≠ 2 && st ≠ 3, .busy)]
      eff := s.modSl q.h fun h => { h with st := { h.st with state := 1 } } }

/-- SLICE_RESET (R586): SL0 is reset by re-attaching it. -/
def execSliceReset (q : Cmd) (s : State) : Out :=
  resetNow q.h s <| runCmd (actOp 0x105 .all 0) q s
    { bad := [(decide (q.h ≥ 64) || q.h = 0, .badParam)], owns := sliceMine s q, keys := [(.slice, q.h)]
      own := [((s.sl q.h).st.state ≠ 3, .notQuiesced)], eff := s.beginReset q.h, wait := some (.sliceReset q.h) }

/-! ## Host DMA rings -/

/-- HR_ASSIGN (R610). -/
def execHrAssign (q : Cmd) (s : State) : Out :=
  runCmd (actOp 0x830 .live (used 16 1)) q s
    { bad := [(decide (q.h ≥ 512) || decide (q.u8 16 ≥ 64), .badParam)], owns := isSl0 s q, keys := [(.hr, q.h)]
      own := [((s.hr q.h).cfg.enable = 1, .busy)]
      eff := s.modHr q.h fun g => { g with cfg := { g.cfg with owner := BitVec.ofNat 6 (q.u8 16) } } }

/-- HR_CONFIG (R575): a disable waits for the transfers in progress. -/
def execHrConfig (q : Cmd) (s : State) : Out :=
  let c := HrCfg.ofTile (q.tile 1)
  let g := s.hr q.h
  let o := g.cfg
  let n := (s.sl o.owner.toNat).cfg.vecCount.toNat
  let drains := (s.host.rings.filter fun (r, x) => r ≠ q.h && x.cfg.selfDrain = 1).length
  runCmd (setOp 0x831 .live HrCfg.rsv) q s
    { bad := [(decide (q.h ≥ 512) || !inR c.depthLog2.toNat 4 16 || !inR c.pollUs.toNat 1 1000 || c.base.toNat % 4096 ≠ 0,
        .badParam)]
      owns := s.requester q = o.owner.toNat, keys := [(.hr, q.h)]
      hold := o.enable = 1 && c.enable = 0 && !g.inFlight.isEmpty
      own := [(c.owner ≠ o.owner, .notOwner), (decide (n > 0) && decide (c.vecOff.toNat ≥ n), .badParam),
        (c.selfDrain = 1 && decide (drains ≥ 8), .noRoom),
        (o.enable = 1 && decide ({ c with enable := 1, pollUs := o.pollUs } ≠ o), .busy)]
      eff := s.modHr q.h fun g =>
        if o.enable = 0 ∧ c.enable = 1 then { g with cfg := c, pos := 0, ready := [], kick := false, readAt := 0 }
        else if c.enable = 0 then { g with cfg := c, ready := [], kick := false }
        else { g with cfg := c } }

/-- HR_GET (R610). -/
def execHrGet (q : Cmd) (s : State) : Out :=
  let g := s.hr q.h
  runCmd (getOp 0x832 .live) q s
    { bad := [(decide (q.h ≥ 512), .badParam)], owns := isSl0 s q || s.requester q = g.cfg.owner.toNat, keys := [(.hr, q.h)]
      changes := false, replyTiles := 2, tiles := [g.cfg.toTile], data := dat 16 g.pos, eff := s }

/-- HR_KICK (R576), posted: one read of the next item follows. -/
def execHrKick (q : Cmd) (s : State) : Out :=
  runCmd (actOp 0x833 .live 0) q s
    { bad := [(decide (q.h ≥ 512), .badParam)], owns := s.requester q = (s.hr q.h).cfg.owner.toNat, keys := [(.hr, q.h)]
      changes := false, eff := s.modHr q.h fun g => { g with kick := g.cfg.enable = 1 } }

/-! ## Statistics (R617, R618) -/

/-- The events of the manual's tables, in code order. -/
def eventNames : List (Nat × String) :=
  [(0x0101, "CORE_STOP"), (0x0102, "CORE_RETIRED"), (0x0103, "POISON_PACKET"), (0x0104, "SPARES_EXHAUSTED"),
   (0x0105, "PROGRAM_TILE"), (0x0106, "CORE_RETEST"), (0x0201, "TABLE_PARITY"), (0x0202, "TABLE_CHECK"),
   (0x0203, "TABLE_RESTORED"), (0x0301, "RING_PTR_MISMATCH"), (0x0302, "DESC_CHECK_ERR"), (0x0401, "CACHE_CLEAN_PARITY"),
   (0x0402, "CACHE_DIRTY_PARITY"), (0x0501, "FRONT_LINK_DOWN"), (0x0502, "FABRIC_LINK_DOWN"), (0x0601, "TWIN_TAKEOVER"),
   (0x0602, "DEVICE_SAFE"), (0x0701, "SELVEDGE_WRITE_FAIL"), (0x0801, "PICK_HOLDOVER"), (0x0802, "PICK_FALLBACK"),
   (0x0803, "PICK_FREE"), (0x0804, "PICK_RESTORED"), (0x0805, "WALL_UNSYNC_SET"), (0x0806, "WALL_STEP"),
   (0x0A01, "TABLE_ENTRY_LOST"), (0x0B01, "DRAM_SPEED_REDUCED"), (0x0B02, "DRAM_ABSENT"), (0x0B03, "DRAM_FULL_TRAIN"),
   (0x0C01, "FABRIC_ID_CONFLICT"), (0x0C02, "TWIN_LOST"), (0x0C03, "TWIN_CONFLICT"), (0x0C04, "TWIN_DESYNC"),
   (0x0C05, "FABRIC_ROUTE_LOST"), (0x0C06, "FABRIC_UNREACH"), (0x0D01, "START_DONE"),
   (0x0D03, "STEP_SKIPPED"), (0x0D04, "IMAGE_FALLBACK"), (0x0D05, "MODE_CHANGE"), (0x0D06, "DEVICE_RESET"),
   (0x0D07, "POWER_FAIL"), (0x0D08, "POWER_RESTORED"), (0x0D09, "SELVEDGE_CLEARED"), (0x0D0A, "SELVEDGE_DROPPED"),
   (0x0D0B, "JTAG_UNLOCKED"), (0x0D0C, "CP_WATCHDOG"), (0x0D10, "HOST_RESET")]

/-- The other counters of the device, in the order the spec first names them. -/
def deviceCtrs : List Ctr :=
  [.egressMuted, .modeDrop, .ctxStallNs, .delayMisfire, .delaySkip, .delayParity, .delayHeld, .tmFabqLocal, .tmQDisabled,
   .tmNotOwner, .tmClassErr, .tmEntryFull, .barBadAccess, .mboxOverrun, .mgmtDrop, .tornSeen]
/-- R121. -/
def macCtrs : List Ctr :=
  [.rxFrames, .rxBytes, .rxCodeErr, .rxRunt, .rxOversize, .rxFcsErr, .rxMacCtrl, .rxFragErr, .rxModeDrop, .rxNoBuf,
   .txFrames, .txBytes, .txPreempt, .txOversize, .txLate, .txLaunchBad, .txLinkDown, .tc7Over]
/-- R190. -/
def parseCtrs : List Ctr :=
  [.parseNomatch, .parseErr, .parseDepthStop, .classMiss, .spreadErr, .defDrop, .defToHost, .defForward, .defProfile,
   .defMirror, .mirrorPoliced, .defOdOff]
/-- R472. -/
def egressCtrs : List Ctr := [.fabricNoq, .prefetchStall, .panicNs]
/-- The counters of a port code, where they apply to it. -/
def portCtrs (p : Nat) : List Ctr :=
  if p ≤ 32 then macCtrs ++ parseCtrs ++ egressCtrs
  else if p = 33 then [.rxFcsErr] ++ parseCtrs else [.tc7Over] ++ egressCtrs
/-- R27, R409, R431. -/
def sliceCtrs : List Ctr :=
  [.noAction, .stInsert, .stMove, .stEvict, .stAged, .stFull, .stQuota, .stStaticConflict, .stFlushed, .lookupMissCheck,
   .restored, .lost, .srAccept, .srDuplicate, .srRogue, .srLate, .srGap, .srReset, .srNoTag, .srGen, .srCopyB]
/-- R228, R282, R314. -/
def groupCtrs : List Ctr :=
  [.dispatched, .replayed, .handedBack, .expWait, .tgDeny, .bgRuns, .kickMerged, .lateCompletion, .endWithLock,
   .runLimitHit, .entryBad, .postedErr]
/-- R282. -/
def coreCtrs : List Ctr := [.issued, .squashed, .icacheMiss, .evDrop, .cpLoadBad]
/-- R588. -/
def hostRingCtrs : List Ctr := [.hrFrames, .hrDrop, .hrTooBig, .hrNoItem, .hrSquashed]

/-- A counter that STATS_READ returns: of an event code, or one of the named ones. -/
inductive StatRef where
  | event (code : Nat) (name : String)
  | ctr (c : Ctr) (i : Nat) (name : String)
deriving DecidableEq, Repr

/-- The items of a scope, in their order; none for an index that the scope does not have. -/
def statItems (scope i : Nat) : Option (List StatRef) :=
  let at' (l : List Ctr) := l.map fun c => StatRef.ctr c i c.name
  match scope with
  | 0 => if i = 0 then some ((eventNames.map fun x => .event x.1 x.2) ++ deviceCtrs.map fun c => .ctr c 0 c.name) else none
  | 1 => if i ≤ 33 ∨ (48 ≤ i ∧ i ≤ 51) then some (at' (portCtrs i)) else none
  | 2 => if i < 64 then some (at' sliceCtrs) else none
  | 3 => if i < 16 then some (at' groupCtrs) else none
  | 4 => if i < 68 then some (at' coreCtrs) else none
  | 5 => if i < 512 then some (at' hostRingCtrs) else none
  | 6 => if i < 16 then some [.ctr .cacheHits i "HITS", .ctr .cacheMisses i "MISSES"] else none
  | _ => none

/-- Who reads a scope, and who owns it. -/
def State.statOwner (s : State) (scope i : Nat) : Option Nat :=
  match scope with
  | 2 => some i
  | 3 => some (s.group i).owner.toNat
  | 5 => some (s.hr i).cfg.owner.toNat
  | _ => none
/-- Whether a slice may read a scope (R618). -/
def State.statMay (s : State) (scope i n : Nat) : Bool :=
  match scope with
  | 1 | 4 => true
  | 5 => decide (s.statOwner 5 i = some n)
  | _ => decide (n = 0) || decide (s.statOwner scope i = some n)

/-- ASCII characters of a counter's name. -/
def asciiBytes (t : String) : List Byte := t.toList.map fun c => BitVec.ofNat 8 c.toNat
/-- A name in 22 bytes. -/
def nameBytes (t : String) : List Byte := slice (asciiBytes t) 0 22
/-- An item of 30 bytes. -/
def State.statBytes (s : State) : StatRef → List Byte
  | .event c t => nameBytes t ++ bytesOf (Tab.get 0 s.host.evCtr c) 8
  | .ctr c i t => nameBytes t ++ bytesOf (s.count c i) 8
/-- A counter is cleared. -/
def State.statClear (s : State) : StatRef → State
  | .event c _ => { s with host.evCtr := Tab.set 0 s.host.evCtr c 0 }
  | .ctr c i _ => { s with host.ctr := Tab.set 0 s.host.ctr (ctrKey c i) 0 }

/-- STATS_READ (R617, R618); OPTS follows its parameters, as their offsets take byte 16. -/
def execStatsRead (q : Cmd) (s : State) : Out :=
  let scope := q.u8 16
  let all := (statItems scope q.h).getD []
  let is := (all.drop (q.u16 18)).take 126
  let me := s.requester q
  let clear := q.opt 20 0
  runCmd (actOp 0xE01 .all (used 16 1 ||| used 18 2 ||| dat 20 (1 : BitVec 1))) q s
    { bad := [((statItems scope q.h).isNone || (scope = 1 && s.absorbed q.h), .badParam)], owns := s.statMay scope q.h me, changes := false
      keys := [(.counters, 0)]
      own := [(clear && me ≠ 0 && s.statOwner scope q.h ≠ some me, .notOwner)]
      replyTiles := 1 + (is.length + 1) / 2, tiles := tiles60 (is.flatMap s.statBytes)
      data := dat 16 (BitVec.ofNat 16 all.length) ||| dat 18 (BitVec.ofNat 16 is.length)
      eff := if clear then is.foldl State.statClear s else s }

/-- COUNTER_RANGE_SET (R617). -/
def execCounterRangeSet (q : Cmd) (s : State) : Out :=
  let a := q.u32 16
  let n := q.u32 20
  runCmd (actOp 0xE02 .live (used 16 8)) q s
    { bad := [(decide (q.h ≥ 64) || decide (a + n > 65536), .badParam)], owns := isSl0 s q, keys := [(.counters, q.h)]
      own := [(s.host.ctrRange.any fun (m, r) => m ≠ q.h && meets a n r.1 r.2, .badParam)]
      eff := { s with host.ctrRange := Tab.set (0, 0) s.host.ctrRange q.h (a, n) } }

/-- Three counter pairs to a tile. -/
def pairTile (l : List (Word × Word)) : Tile :=
  let g (i : Nat) : Tile := put 512 (128 * i) (l.getD i (0, 0)).1 ||| put 512 (128 * i + 64) (l.getD i (0, 0)).2
  g 0 ||| g 1 ||| g 2

/-- COUNTER_READ (R617); OPTS follows its parameters. -/
def execCounterRead (q : Cmd) (s : State) : Out :=
  let a := q.u32 16
  let n := q.u8 20
  let me := s.requester q
  let ps := (List.range n).map fun i => Tab.get (0, 0) s.host.pairs (a + i)
  let k := (n + 2) / 3
  runCmd (actOp 0xE03 .live (used 16 5 ||| dat 21 (1 : BitVec 1))) q s
    { bad := [(q.h ≠ 0 || !inR n 1 189, .badParam)], keys := [(.counters, me)], changes := false
      owns := (List.range n).all fun i => s.ownsPair me (a + i)
      replyTiles := 1 + k, tiles := (List.range k).map fun i => pairTile (ps.drop (3 * i) |>.take 3)
      eff := if q.opt 21 0 then
          { s with host.pairs := (List.range n).foldl (fun m i => Tab.set (0, 0) m (a + i) (0, 0)) s.host.pairs }
        else s }

/-- COUNTER_RANGE_GET (R617). -/
def execCounterRangeGet (q : Cmd) (s : State) : Out :=
  let r := Tab.get (0, 0) s.host.ctrRange q.h
  runCmd (getOp 0xE04 .live) q s
    { bad := [(decide (q.h ≥ 64), .badParam)], owns := sliceMine s q, keys := [(.counters, q.h)], changes := false
      own := [(q.clear && !isSl0 s q, .notOwner)], eff := s
      data := dat 16 (BitVec.ofNat 32 r.1) ||| dat 20 (BitVec.ofNat 32 r.2) }

end Sys2Proof.Machine
end

