-- ==== Sys2Proof/Machine/Memory.lean ====
section
/-!
DEFINITION. The DRAM controller and the table cache (chapter 16): what completes and what the background finds, and the
commands of group 0x0B.
-/
namespace Sys2Proof.Machine

/-! ## Fills and write-backs (R500 to R502) -/

/-- Insert into a list by a key, after equal keys. -/
def insertBy {α : Type} (key : α → Nat) (x : α) : List α → List α
  | [] => [x]
  | y :: r => if key x < key y then x :: y :: r else y :: insertBy key x r

/-- Threads that wait for a line, in arrival order. -/
def State.waitLine (s : State) (p : Attach → Bool) : List (Nat × Nat) :=
  let l := (List.range (68 * 8)).filterMap fun i => match (s.th (i / 8) (i % 8)).attach with
    | some x => if p x then some (i / 8, i % 8, x.at') else none
    | none => none
  (l.foldl (fun m x => insertBy (fun (y : Nat × Nat × Nat) => y.2.2) x m) []).map fun x => (x.1, x.2.1)

/-- Every access that a test names is served. -/
def State.serveLines (s : State) (p : Attach → Bool) : State :=
  (s.waitLine p).foldl (fun s x => s.attachDone x.1 x.2) s

/-- CACHE_FILL_DONE (R500). -/
def execCacheFillDone (i : Fin 262144) (s : State) : Out :=
  ok s (match Tab.get none s.dram.lines i with
    | some l =>
      if l.filling then (s.setLine i (some { l with filling := false })).serveLines fun x => x.line = l.line else s
    | none => s)

/-- A line is dropped with its dirty data: DRAM's own bytes are read again. -/
def State.revert (s : State) (l : CacheLine) : State :=
  if l.dirty then { s with dram.mem := Mem.write s.dram.mem (l.line * 64) (bytesOf l.old 64) } else s

/-- Handle-free report of a line. -/
def linePayload (l : CacheLine) : BitVec 288 := put 288 0 (BitVec.ofNat 64 (l.line * 64))

/-- A bad clean line: invalidated; `refetch` reads it again at once (R503). -/
def State.cleanFault (s : State) (i : Nat) (l : CacheLine) (refetch : Bool) : State :=
  let s1 := s.setLine i (if refetch then some { l with bad := none } else none)
  { s1 with dram.cacheSt.cleanParity := satInc s1.dram.cacheSt.cleanParity }.reportDev 0x0401 0 (linePayload l)

/-- A bad dirty line: its data is lost, and the fault is fatal (R55, R503). -/
def State.dirtyFault (s : State) (i : Nat) (l : CacheLine) : State :=
  ((s.setLine i none).revert l).fatal 0x0402 0 (linePayload l)

/-- What a read of a line does with what it finds (R503). -/
def State.lineFault (s : State) (i : Nat) (f : LineFault) : State :=
  match Tab.get none s.dram.lines i with
  | none => s
  | some l =>
    if l.dirty ∨ f = .dirtyCopies then s.dirtyFault i l
    else s.cleanFault i l (f = .data)

/-- The faulty lines that accesses have met: a clean one, refetched since, is reported; a dirty one is fatal (R503). -/
def State.tickMet (s : State) : State :=
  s.dram.met.foldl (fun (s : State) x =>
      if x.2.dirty ∨ x.2.bad = some .dirtyCopies then
        (if (Tab.get none s.dram.lines x.1).any fun l => l.line == x.2.line then s.setLine x.1 none else s).revert x.2
          |>.fatal 0x0402 0 (linePayload x.2)
      else { s with dram.cacheSt.cleanParity := satInc s.dram.cacheSt.cleanParity }.reportDev 0x0401 0 (linePayload x.2))
    { s with dram.met := [] }

/-- WRITEBACK_DONE (R502): the oldest eviction entry; a bad word in it is that of a dirty line (R503). -/
def execWritebackDone (bad : Bool) (s : State) : Out :=
  ok s (match s.dram.evb with
    | [] => s
    | l :: r => if bad || l.bad.isSome then ({ s with dram.evb := r }.revert l).fatal 0x0402 0 (linePayload l) else s.evbRetire)

/-- LINE_CLEAN (R501): a line that has been dirty for CLEAN_US is written back. -/
def execLineClean (i : Fin 262144) (bad : Bool) (s : State) : Out :=
  ok s (match Tab.get none s.dram.lines i with
    | none => s
    | some l =>
      let us := s.dram.cacheCfg.cleanUs.toNat
      if !l.dirty ∨ us = 0 ∨ s.now - l.since < us * 1000 ∨ s.dram.cacheSt.state ≠ 0 then s
      else if bad || l.bad.isSome then s.dirtyFault i l
      else
        { s.setLine i (some { l with dirty := false, since := 0, old := 0 }) with
          dram.cacheSt.writebacks := satInc s.dram.cacheSt.writebacks })

/-- What the line in a way is known to hold wrong. -/
def State.lineBad (s : State) (i : Nat) : Option LineFault := (Tab.get none s.dram.lines i).bind (·.bad)

/-- CACHE_SCRUB (R501, R503): what the scrubber finds, by its operand or by what has failed in the line. -/
def execCacheScrub (i : Fin 262144) (f : Option LineFault) (s : State) : Out :=
  ok s (match f.or (s.lineBad i) with | some e => if s.dram.cacheSt.state = 2 then s else s.lineFault i e | none => s)

/-! ## Maintenance (R504, R507) -/

/-- A line lies in a maintenance range. -/
def Maint.covers (m : Maint) (line : Nat) : Bool :=
  match m.range with | none => true | some (a, n) => decide (a ≤ line) && decide (line < a + n)

/-- One line handled: what stays of it, and the state. -/
def State.maintLine (s : State) (m : Maint) (l : CacheLine) : State × Option CacheLine :=
  if m.op = 1 then
    (if l.dirty then { s.revert l with dram.cacheSt.discardedDirty := satInc s.dram.cacheSt.discardedDirty } else s, none)
  else
    (if l.dirty then { s with dram.cacheSt.writebacks := satInc s.dram.cacheSt.writebacks } else s,
      if m.op = 0 then some { l with dirty := false, since := 0, old := 0 } else none)

/-- Every line of the range handled, the eviction buffer's among them. -/
def State.maintain (s : State) (m : Maint) : State :=
  let s1 := (s.dram.lines.filterMap fun (i, l) => l.map fun l => (i, l)).foldl (fun (s : State) x =>
    if m.covers x.2.line then let (s1, l) := s.maintLine m x.2; s1.setLine x.1 l else s) s
  (s1.dram.evb.filter fun l => m.covers l.line).foldl (fun (s : State) l =>
    { (s.maintLine m l).1 with dram.evb := s.dram.evb.erase l }) s1

/-- A bad line that maintenance meets (R503, R507). -/
def State.maintFault (s : State) (m : Maint) (i : Nat) : State :=
  match Tab.get none s.dram.lines i with
  | none => s
  | some l => if !m.covers l.line then s else if m.op = 1 then s.cleanFault i l true else s.lineFault i (l.bad.getD .data)

/-- Ways whose line is known to be bad. -/
def State.badWays (s : State) : List Nat := (s.dram.lines.filter fun (_, l) => l.any (·.bad.isSome)).map (·.1)

/-- CACHE_MAINT_DONE (R504): a line under fill is waited for (R507). -/
def execCacheMaintDone (bad : List (Fin 262144)) (s : State) : Out :=
  ok s (match s.dram.maint with
    | [] => s
    | m :: r =>
      if s.dram.lines.any fun (_, l) => l.any fun l => l.filling && m.covers l.line then s
      else
        State.finish { ((bad.map (·.val) ++ s.badWays).foldl (fun (s : State) i => s.maintFault m i) s).maintain m with
            dram.maint := r }
          (· == .cacheMaint) .ok 0 [])

/-- Every line and entry is gone, and the cache is disabled (R506). -/
def State.cacheOff (s : State) : State :=
  ({ s.cleanCache with dram.lines := [], dram.cacheSt.state := 2 }).serveLines fun _ => true

/-- CACHE_FLUSH_DONE (R506 step 4). -/
def execCacheFlushDone (s : State) : Out :=
  ok s (if s.dram.cacheSt.state = 1 then s.cacheOff.finish (· == .cacheFlush) .ok 0 [] else s)

/-! ## The controller (R485 to R487, R491) -/

/-- The controller is ACTIVE. -/
def State.dramActive (s : State) : Bool := s.dram.st.state = 2

/-- REQUEST_AGED. -/
def execRequestAged (s : State) : Out :=
  ok s (if s.dramActive then { s with dram.st.agedReq := satInc s.dram.st.agedReq } else s)
/-- REFRESH_DEADLINE. -/
def execRefreshDeadline (s : State) : Out :=
  ok s (if s.dramActive then { s with dram.st.refForced := satInc s.dram.st.refForced } else s)
/-- REFRESH_RATE_READ: the ranks' registers are read once in 64 ms (R486). -/
def execRefreshRateRead (hot : Bool) (s : State) : Out :=
  ok s (if s.dramActive ∧ s.dram.rateAt ≤ s.now then
    { s with dram.st.hotRefresh := bit hot, dram.rateAt := s.now + 64000000 } else s)
/-- Ranks of the board, in all its subchannels (R475, R476). -/
def State.ranks (s : State) : Nat :=
  let b := DramBoard.ofTile s.dram.board
  (if b.chMask = 3 then 4 else 2) * (1 + b.ranks.toNat)
/-- DRIFT_TRACK: the next rank's drift; every rank has one turn in 64 ms (R491). -/
def execDriftTrack (s : State) : Out :=
  ok s (if s.dramActive ∧ s.dram.trackAt ≤ s.now then
    let last : Bool := decide (s.ranks ≤ s.dram.trackRank + 1)
    { s with dram.st.trackUpdates := satInc s.dram.st.trackUpdates
             dram.trackRank := if last then 0 else s.dram.trackRank + 1
             dram.trackAt := if last then s.now + 64000000 else s.dram.trackAt } else s)
/-- ECS_READ: the counts of the subchannels that the board has, once in 3,600 s (R487). -/
def execEcsRead (counts : BitVec 64) (s : State) : Out :=
  let four : Bool := (DramBoard.ofTile s.dram.board).chMask = 3
  ok s (if s.dramActive ∧ s.dram.ecsAt ≤ s.now then
    { s with dram.st.ecsCounts := if four then counts else counts &&& 0xFFFFFFFF, dram.ecsAt := s.now + 3600000000000 }
    else s)

/-! ## Commands (R480, R499, R505, R506) -/

/-- DRAM_GET. -/
def execDramGet (q : Cmd) (s : State) : Out :=
  runCmd (getOp 0xB01 .all) q s
    { bad := [(q.h ≠ 0, .badParam)], owns := clearOk s q 0, keys := [(.dram, 0)], changes := false
      replyTiles := 4, tiles := [s.dram.board, s.dram.layout.toTile, s.dram.st.toTile]
      eff := if q.clear then
          { s with dram.st := { s.dram.st with refForced := 0, panicActiveNs := 0, trackUpdates := 0, agedReq := 0 } }
        else s }

/-- DRAM_LAYOUT_SET. -/
def execDramLayoutSet (q : Cmd) (s : State) : Out :=
  let c := DramLayout.ofTile (q.tile 1)
  let base := c.bufBase.toNat
  let n := c.bufCount.toNat
  runCmd (setOp 0xB02 .live DramLayout.rsv) q s
    { bad := [(q.h ≠ 0 || decide (n > 4194304) || decide (base % 0x200000 ≠ 0) || (decide (n = 0) && decide (base ≠ 0)) ||
        (decide (n ≠ 0) && decide (base < 0x10000000)), .badParam)]
      owns := isSl0 s q, keys := [(.dram, 0)]
      own := [(!s.dramOn, .wrongMode), (decide (base + n * 2048 > s.dramSize), .badParam),
        (s.buf.pools.any fun (_, p) => p.cfg.enable = 1 && p.cfg.kind = 1, .busy)]
      eff := { s with dram.layout := c } }

/-- CACHE_CONFIG. -/
def execCacheConfig (q : Cmd) (s : State) : Out :=
  let c := CacheCfg.ofTile (q.tile 1)
  let o := s.dram.cacheCfg
  let on : Bool := s.dramOn && o.enable = 1
  let change : Bool := (c.enable = 1) != on
  let dirty : Bool := s.dram.lines.any (fun (_, l) => l.any (·.dirty)) || !s.dram.evb.isEmpty
  let off : Bool := on && c.enable = 0
  let flush : Bool := off && dirty && q.opt 16 1
  let s1 := { s with dram.cacheCfg := c }
  runCmd { setOp 0xB10 .live CacheCfg.rsv with uses := dat 16 (2 : BitVec 2) } q s
    { bad := [(q.h ≠ 0 || inR c.cleanUs.toNat 1 9 || c.mask 0 = 0 || c.mask 1 = 0, .badParam)]
      owns := isSl0 s q, keys := [(.cache, 0)], hold := s.dram.cacheSt.state = 1
      own := [(change && (s.sys.mode != .commission || !s.dramOn), .wrongMode), (off && dirty && !q.opt 16 1, .dirtyPresent)]
      eff := if flush then { s1 with dram.cacheSt.state := 1 }
        else if off then s1.cacheOff
        else if change then { s1 with dram.lines := [], dram.evb := [], dram.cacheSt.state := 0 }
        else s1
      wait := if flush then some .cacheFlush else none }

/-- CACHE_GET. -/
def execCacheGet (q : Cmd) (s : State) : Out :=
  let c := if s.dramOn then s.dram.cacheCfg else { s.dram.cacheCfg with enable := 0 }
  runCmd (getOp 0xB11 .live) q s
    { bad := [(q.h ≠ 0, .badParam)], owns := clearOk s q 0, keys := [(.cache, 0)], changes := false
      replyTiles := 3, tiles := [c.toTile, s.cacheStatus.toTile]
      eff := if q.clear then
          { s with dram.cacheSt := { s.dram.cacheSt with writebacks := 0, evbHits := 0, evbStall := 0, cleanParity := 0
                                                         discardedDirty := 0 } }
        else s }

/-- CACHE_MAINT. -/
def execCacheMaint (q : Cmd) (s : State) : Out :=
  let op := q.u8 16
  let all := q.opt 17 0
  let a := (q.u64 24).toNat
  let n := (q.u64 32).toNat
  let w := s.window (s.requester q)
  let badRange : Bool := a % 64 ≠ 0 || n % 64 ≠ 0 || decide (n < 64) || decide (a + n > s.dramSize) ||
    (op = 1 && decide (a < 0x10000000))
  runCmd (actOp 0xB12 .live (used 16 1 ||| dat 17 (1 : BitVec 1) ||| used 24 16)) q s
    { bad := [(q.h ≠ 0 || decide (op > 2) || (all && (decide (a ≠ 0) || decide (n ≠ 0) || decide (op = 1))) ||
        (!all && s.dramOn && badRange), .badParam)]
      owns := isSl0 s q || (!all && decide (w.1 ≤ a) && decide (a + n ≤ w.1 + w.2)), keys := [(.cache, 0)], changes := false
      own := [(!s.dramOn || s.dram.cacheSt.state = 2, .wrongMode)]
      eff := { s with dram.maint := s.dram.maint ++ [⟨op, if all then none else some (a / 64, n / 64)⟩] }
      wait := some .cacheMaint }

end Sys2Proof.Machine
end

