-- ==== Sys2Proof/Machine/Selvedge.lean ====
section
/-!
DEFINITION. The Selvedge record, chapter 20: the writer with its order and its two phases (R642 to R645), the fatal
snapshot area (R647), reading (R649), and the power-fail warning (R648).
-/
namespace Sys2Proof.Machine

/-! ## Entries (R642) -/

/-- An entry as it lies in the MRAM once it is committed. -/
def selvTile (seq : Word32) (startNo : Word32) (e : SelvEntry) : Tile :=
  sealTile (put 512 0 seq ||| put 512 32 e.code ||| put 512 48 (0xA5 : BitVec 8) ||| put 512 56 e.mode.code |||
    put 512 64 e.wall ||| put 512 128 startNo ||| put 512 160 e.handle ||| put 512 192 e.payload)

/-- An entry is valid: COMMIT and CHECK are right (R642, R644). -/
def selvGood (t : Tile) : Bool := t.extractLsb' 48 8 == 0xA5 && tileOk t
/-- SEQ of an entry. -/
def selvSeq (t : Tile) : Word32 := t.extractLsb' 0 32
/-- CODE of an entry. -/
def selvCode (t : Tile) : BitVec 16 := t.extractLsb' 32 16
/-- WALL of an entry. -/
def selvWall (t : Tile) : Word := t.extractLsb' 64 64

/-- An interruption between the phases of a write: the old word 0 stands with the new words (R643). -/
def tornTile (old new : Tile) : Tile := put 512 0 (old.extractLsb' 0 64) ||| ((new >>> 64) <<< 64)

/-- What a slot holds after a write whose read-back differs: nothing fixes it. -/
def State.badTile (s : State) : Tile :=
  put 512 0 (Config.random s.time.free) ||| put 512 256 (Config.random (s.time.free + 1))

/-! ## The writer (R645) -/

/-- The area whose entry the writer takes next: fatal snapshot, start-up, events. -/
def Selvedge.nextArea (v : Selvedge) : Option Nat := [2, 1, 0].find? fun a => v.queue.any fun e => e.area = a

/-- The entry that the writer takes next. -/
def Selvedge.nextEntry (v : Selvedge) : Option SelvEntry :=
  v.nextArea.bind fun a => v.queue.find? fun e => e.area = a

/-- A tile goes to the next slot of a ring. -/
def Selvedge.putRing (v : Selvedge) (area : Nat) (t : Tile) : Selvedge :=
  if area = 0 then
    { v with events := Tab.set 0 v.events v.evHead t, evHead := (v.evHead + 1) % 16384, evSeq := v.evSeq + 1 }
  else { v with startup := Tab.set 0 v.startup v.suHead t, suHead := (v.suHead + 1) % 4096, suSeq := v.suSeq + 1 }

/-- A tile goes to the snapshot slot that is being written; the header ends it (R647). -/
def Selvedge.putSnap (v : Selvedge) (slot : Nat) (header : Bool) (t : Tile) : Selvedge :=
  let i := Tab.get 0 v.snapLen slot
  let w := { v with snap := Tab.set 0 v.snap (slot * 2048 + i) t, snapLen := Tab.set 0 v.snapLen slot (i + 1)
                    snSeq := v.snSeq + 1 }
  if header then { w with snapWhole := Tab.set false w.snapWhole slot true, snapNow := none } else w

/-- The tile of an entry, with the sequence number of its area. -/
def State.recordTile (s : State) (e : SelvEntry) : Tile :=
  let v := s.selv
  match e.raw with
  | some t => t
  | none => selvTile (if e.area = 0 then v.evSeq else if e.area = 1 then v.suSeq else v.snSeq) s.sys.startNo e

/-! ## Persistent records (R646) -/

/-- What the records hold now. -/
def Selvedge.records (v : Selvedge) : Persist :=
  { startCount := v.startCount, resetCause := v.resetCause, safeStarts := v.safeStarts, stepLevel := v.stepLevel
    failCount := v.failCount, activeSlot := v.activeSlot, retired := v.retired, stopCount := v.stopCount
    stopWalls := v.stopWalls, trained := v.trained, fabricId := v.fabricId }

/-- The records take what a copy holds. -/
def Selvedge.takeRecords (v : Selvedge) (p : Persist) : Selvedge :=
  { v with startCount := p.startCount, resetCause := p.resetCause, safeStarts := p.safeStarts, stepLevel := p.stepLevel
           failCount := p.failCount, activeSlot := p.activeSlot, retired := p.retired, stopCount := p.stopCount
           stopWalls := p.stopWalls, trained := p.trained, fabricId := p.fabricId }

/-- Records that have changed are written over the older copy, with the next record sequence. -/
def Selvedge.saved (v : Selvedge) : Selvedge :=
  if v.stopped ∨ v.records = v.recNew then v
  else { v with recOld := v.recNew, oldBad := v.newBad, recNew := v.records, newBad := false, recSeq := v.recSeq + 1 }

/-- A start takes the copy of the higher record sequence whose tiles are all good; with no good copy the records are
those of a first start (log entry 78). -/
def Selvedge.recovered (v : Selvedge) : Selvedge :=
  if !v.newBad then v.takeRecords v.recNew
  else if !v.oldBad then v.takeRecords v.recOld
  else v.takeRecords {}

/-- An entry's slot receives a tile. -/
def State.storeEntry (s : State) (e : SelvEntry) (t : Tile) : State :=
  if e.area = 2 then
    match s.selv.snapNow with
    | some (slot, _) => { s with selv := s.selv.putSnap slot (e.code = 0x0D0D) t }
    | none => s
  else { s with selv := s.selv.putRing e.area t }

/-- The count of dropped event entries is written once the queue is below 64 (R645). -/
def State.droppedNote (s : State) : State :=
  if s.selv.droppedSince ∧ s.selv.queue.length < 64 then
    { s with selv.droppedSince := false, selv.dropped := 0 }.reportDev 0x0D0A 0 (put 288 0 (satNat 32 s.selv.dropped))
  else s

/-- A SELVEDGE_CLEAR replies once its record is written (R615). -/
def State.clearedNote (s : State) (e : SelvEntry) : State :=
  if e.code = 0x0D09 ∧ !(s.selv.queue.any fun x => x.code = 0x0D09) then s.finish (· == .selvedgeClear) .ok 0 [] else s

/-- A snapshot that a write failure stops: its tiles leave the queue, its slot keeps no header. -/
def Selvedge.dropSnap (v : Selvedge) : Selvedge :=
  { v with queue := v.queue.filter fun e => e.area ≠ 2, snapNow := none }

/-- SELVEDGE_WRITE (R643, R645, R647): the next entry is written in two phases. `good` says that what was read back is
what was written; otherwise the write has failed, which is device fatal, except for the snapshot of such a failure,
which is abandoned. The writer takes one entry every 2 µs. -/
def execSelvedgeWrite (good : Bool) (s : State) : Out :=
  ok s (if s.selv.stopped ∨ !s.selv.opened ∨ s.now < s.selv.writeAt then s
    else match s.selv.nextEntry with
    | none => s
    | some e =>
      let s1 := { s with selv.queue := s.selv.queue.erase e, selv.writeAt := s.now + 2000 }
      if good then ((s1.storeEntry e (s1.recordTile e)).clearedNote e).droppedNote
      else
        let s2 := (s1.storeEntry { e with code := 0 } s1.badTile).drawn.drawn
        if e.area = 2 ∧ s.selv.snapNow.any (fun x => x.2 = 0x0701) then { s2 with selv := s2.selv.dropSnap }
        else (s2.clearedNote e).fatal 0x0701 0 0)

/-! ## Power (R648) -/

/-- POWER_FAIL: the entry in progress is complete, POWER_FAIL is written with the mode, DEV_GEN and the number of entries
abandoned, and writing stops. A SELVEDGE_CLEAR whose record is abandoned ends INTERNAL. -/
def execPowerFail (s : State) : Out :=
  ok s (if s.selv.stopped ∨ !s.selv.opened then s
    else
      let pay : BitVec 288 := put 288 0 s.sys.mode.code ||| put 288 32 s.host.devGen |||
        put 288 64 (satNat 32 s.selv.queue.length)
      let e : SelvEntry := { area := 0, code := 0x0D07, mode := s.sys.mode, wall := s.wall, handle := 0, payload := pay }
      let s1 := { s with selv := { s.selv.dropSnap.putRing 0 (s.recordTile e) with queue := [], stopped := true } }
      let s2 := { s1 with host.evCtr := Tab.upd 0 s1.host.evCtr 0x0D07 satInc }
      State.finish (s2.postItem 0 0x0D07 0 0 pay) (· == .selvedgeClear) .internal 0 [])

/-- POWER_RESTORED: PFW_N has stayed high for 100 µs; writing resumes. -/
def execPowerRestored (s : State) : Out :=
  ok s (if s.selv.stopped then { s with selv.stopped := false }.reportDev 0x0D08 0 0 else s)

/-! ## Reading (R649) -/

/-- The valid entries of a ring with their sequence numbers, oldest first. -/
def Selvedge.ringEntries (v : Selvedge) (area : Nat) : List (Word32 × Tile) :=
  let (m, h) := if area = 0 then (v.events, v.evHead) else (v.startup, v.suHead)
  let (new, old) := (m.partition fun p => p.1 < h)
  ((old ++ new).filter fun p => selvGood p.2).map fun p => (selvSeq p.2, p.2)

/-- The entry that reports a snapshot slot without a header. -/
def Selvedge.incomplete (v : Selvedge) (slot : Nat) (seq : Word32) (startNo : Word32) (mode : Mode) : Tile :=
  let first := Tab.get 0 v.snap (slot * 2048)
  selvTile seq startNo { area := 2, code := 0x0D0D, mode := mode, wall := selvWall first, handle := 0
                         payload := put 288 0 (BitVec.ofNat 8 slot) ||| put 288 8 (1 : BitVec 8) }

/-- The tiles of a snapshot slot with their sequence numbers. -/
def State.snapEntries (s : State) (slot : Nat) : List (Word32 × Tile) :=
  let v := s.selv
  let n := Tab.get 0 v.snapLen slot
  let base := selvSeq (Tab.get 0 v.snap (slot * 2048))
  if n = 0 then []
  else
    (((List.range n).map fun i => (base + BitVec.ofNat 32 i, Tab.get 0 v.snap (slot * 2048 + i))).filter fun p =>
      tileOk p.2) ++
    if Tab.get false v.snapWhole slot then []
    else [(base + BitVec.ofNat 32 (n - 1), v.incomplete slot (base + BitVec.ofNat 32 (n - 1)) s.sys.startNo s.sys.mode)]

/-- Serial comparison (R229): a is before b. -/
def serialLt (a b : Word32) : Bool := (b - a) ≠ 0 && decide ((b - a).toNat < 2 ^ 31)

/-- Snapshot slots in the order of their sequence numbers. -/
def State.snapOrder (s : State) : List Nat :=
  let key (i : Nat) : Word32 := selvSeq (Tab.get 0 s.selv.snap (i * 2048))
  (List.range 4).insertionSort fun a b => serialLt (key b) (key a) = false

/-- The entries of an area in SEQ order. -/
def State.selvEntries (s : State) (area : Nat) : List (Word32 × Tile) :=
  if area = 2 then s.snapOrder.flatMap s.snapEntries else s.selv.ringEntries area

/-- SEQ of the next entry of an area. -/
def Selvedge.nextSeq (v : Selvedge) (area : Nat) : Word32 :=
  if area = 0 then v.evSeq else if area = 1 then v.suSeq else v.snSeq

end Sys2Proof.Machine
end

