-- ==== Sys2Proof/Machine/SelvCmds.lean ====
section
/-!
DEFINITION. Commands of the Selvedge record, the boot images and JTAG (R615, R616, R619, R649, R650, R652), and the
verification of an image (R623 to R625).
-/
namespace Sys2Proof.Machine

/-! ## Boot images -/

/-- A unit of a slot of the boot flash (R623). -/
def State.unit (s : State) (slot u : Nat) : Tile := Tab.get 0 s.sys.flash (slot * 131072 + u)

/-- The fields of the image header (R624). -/
structure ImageHdr where
  fwVer : Word32
  rollback : Nat
  units : Nat
  sig : Nat
  cp : Nat
  cpLen : Nat
  weft : Nat
  weftLen : Nat
  script : Nat
  scriptCmds : Nat
deriving DecidableEq, Repr

/-- The header of a unit 0, when MAGIC, FORMAT and the ranges are those of R624. -/
def ImageHdr.ofTile (t : Tile) : Option ImageHdr :=
  let f (o : Nat) : Nat := (t.extractLsb' (8 * o) 32).toNat
  let h : ImageHdr := ⟨t.extractLsb' 64 32, f 12, f 16, f 20, f 24, f 28, f 32, f 36, f 40, f 44⟩
  if f 0 = 0x4D566464 ∧ f 4 = 1 ∧ h.rollback ≤ 63 ∧ 8 ≤ h.units ∧ h.units ≤ 131072 ∧ h.scriptCmds ≤ 4096 then some h
  else none

/-- Units of a script from a unit on: each command has one tile, and a continuation tile for SET forms (R634). -/
def State.scriptUnits (s : State) (slot : Nat) : Nat → Nat → Nat
  | 0, _ => 0
  | n + 1, u =>
    let t := ((s.unit slot u).extractLsb' 40 8).toNat
    t + s.scriptUnits slot n (u + t)

/-- The sections of an image as first unit and length: header units, signature block, firmwares, script. -/
def State.sections (s : State) (slot : Nat) (h : ImageHdr) : List (Nat × Nat) :=
  [(0, 4), (h.sig, 5), (h.cp, h.cpLen), (h.weft, h.weftLen)] ++
    if h.script = 0 then [] else [(h.script, s.scriptUnits slot h.scriptCmds h.script)]

/-- No two sections meet. -/
def apart : List (Nat × Nat) → Bool
  | [] => true
  | (a, n) :: r => r.all (fun p => decide (a + n ≤ p.1) || decide (p.1 + p.2 ≤ a)) && apart r

/-- The checks of R625. -/
def State.imageOk (s : State) (slot : Nat) : Option ImageHdr :=
  match ImageHdr.ofTile (s.unit slot 0) with
  | none => none
  | some h =>
    let secs := s.sections slot h
    if (secs.all fun p => decide (p.1 + p.2 ≤ h.units)) && apart secs && decide (s.selv.fuseLevel ≤ h.rollback) &&
        ((List.range h.units).all fun u => tileOk (s.unit slot u)) &&
        Config.signatureOk ((List.range (h.sig + 5)).map fun u => s.unit slot u) then some h
    else none

/-- An image has been loaded in this start (ST05), from a slot. -/
def State.loadedFrom (s : State) (slot : Nat) : Bool :=
  (decide (s.sys.step > 5) || decide (s.sys.step = 5 ∧ s.sys.outcome = 1)) && s.sys.imageSlot.toNat = slot

/-- IMAGE_WRITE (R615, R623): each continuation tile is a unit. -/
def execImageWrite (q : Cmd) (s : State) : Out :=
  let u := q.u32 16
  runCmd { opcode := 0xD20, modes := .live, minTiles := 2, maxTiles := 64, uses := used 16 4 } q s
    { bad := [(decide (q.h ≥ 2) || decide (u + q.cont.length > 131072), .badParam)], owns := isSl0 s q
      keys := [(.image, q.h)], own := [(s.loadedFrom q.h, .busy)]
      eff := (q.cont.zipIdx).foldl (fun (s : State) (p : Tile × Nat) =>
        let t := sealTile p.1
        { s with sys.flash := Tab.set 0 s.sys.flash (q.h * 131072 + u + p.2) t }.emit (.flash q.h (u + p.2) t)) s }

/-- IMAGE_COMMIT (R615, R625, R630): a slot whose image is verified becomes ACTIVE_SLOT. -/
def execImageCommit (q : Cmd) (s : State) : Out :=
  let n := q.u32 16
  runCmd (actOp 0xD21 .live (used 16 4)) q s
    { bad := [(decide (q.h ≥ 2) || !inR n 8 131072, .badParam)], owns := isSl0 s q, keys := [(.image, q.h)]
      own := [(s.loadedFrom q.h, .busy), (((s.imageOk q.h).map (·.units)) ≠ some n, .badCheck)]
      eff := { s with selv.activeSlot := BitVec.ofNat 1 q.h } }

/-! ## Selvedge -/

/-- SELVEDGE_READ (R615, R649): a device whose ST02 has failed answers INTERNAL (R632). -/
def execSelvedgeRead (q : Cmd) (s : State) : Out :=
  let area := q.u8 16
  let all := s.selvEntries area
  let next := s.selv.nextSeq area
  let oldest := (all.head?.map (·.1)).getD next
  let first : Word32 := BitVec.ofNat 32 (q.u32 20)
  let from' := if serialLt first oldest then oldest else first
  let out := ((all.filter fun p => !serialLt p.1 from').take (q.u8 24)).map (·.2)
  runCmd (actOp 0xD01 .all (used 16 1 ||| used 20 5)) q s
    { bad := [(q.h ≠ 0 || decide (area > 2) || !inR (q.u8 24) 1 63, .badParam)], owns := isSl0 s q
      keys := [(.selvedge, 0)], changes := false, own := [(s.sys.st02Failed, .internal)]
      replyTiles := 1 + out.length, tiles := out, data := dat 16 oldest ||| dat 20 next, eff := s }

/-- SELVEDGE_CLEAR_ARM (R616): a token for one clear; it replaces an earlier one. -/
def execSelvedgeClearArm (q : Cmd) (s : State) : Out :=
  let tok : Word32 := (Config.random s.time.free).setWidth 32
  let scope := q.u8 16
  runCmd (actOp 0xD02 .comm (used 16 1)) q s
    { bad := [(q.h ≠ 0 || decide (scope ≥ 4), .badParam)], owns := isSl0 s q, keys := [(.selvedge, 0)], changes := false
      data := dat 16 tok, eff := { s.drawn with host.clearArm := some (tok, BitVec.ofNat 8 scope, s.now, q.path) } }

/-- The entries that record a clearing, first in each cleared ring (R650), and its report (R651). -/
def State.recordClear (s : State) (scope : Nat) (path : Path) : State :=
  let pay : BitVec 288 := put 288 0 (BitVec.ofNat 8 scope) |||
    put 288 8 (match path with | .mailbox => (0 : BitVec 8) | _ => 1)
  let e (area : Nat) : SelvEntry :=
    { area := area, code := 0x0D09, mode := s.sys.mode, wall := s.wall, handle := 0, payload := pay }
  let es := (if scope.testBit 0 then [e 0] else []) ++ (if scope.testBit 1 then [e 1] else [])
  let s1 := { s with selv.queue := es ++ s.selv.queue, host.evCtr := Tab.upd 0 s.host.evCtr 0x0D09 satInc }
  s1.postItem 0 0x0D09 0 0 pay

/-- SELVEDGE_CLEAR (R616, R650): it takes the token of the latest arm, its scope and its path, within 1 s and with no
other command of SL0 between. -/
def execSelvedgeClear (q : Cmd) (s : State) : Out :=
  let scope := q.u8 16
  let v := s.selv
  let v1 := if scope.testBit 0 then { v with events := [] } else v
  let v2 := if scope.testBit 1 then { v1 with startup := [], stepLevel := [], stepHung := [], failCount := [] } else v1
  let armed := match s.host.clearArm with
    | some (tok, sc, t, p) => decide (tok.toNat = q.u32 20 ∧ sc.toNat = scope ∧ s.now ≤ t + 1000000000 ∧ p = q.path)
    | none => false
  let byPath := match q.path with | .mailbox => true | .sq n => n = 0 | _ => false
  let eff := { { s with selv := v2 }.recordClear scope q.path with host.clearArm := none }
  runCmd (actOp 0xD03 .comm (used 16 1 ||| used 20 4)) q s
    { bad := [(q.h ≠ 0 || decide (scope ≥ 4), .badParam)], owns := isSl0 s q, keys := [(.selvedge, 0)]
      own := [(!armed || !byPath, .badParam)], eff := eff
      wait := if scope = 0 then none else some .selvedgeClear }

/-! ## JTAG (R652) -/

/-- JTAG_CHALLENGE: 16 random bytes, valid for 60 s and for one response. -/
def execJtagChallenge (q : Cmd) (s : State) : Out :=
  let c : BitVec 128 := (Config.random s.time.free).setWidth 128
  runCmd (actOp 0xF10 .all 0) q s
    { bad := [(q.h ≠ 0, .badParam)], owns := isSl0 s q, keys := [(.jtag, 0)], changes := false, data := dat 16 c
      eff := { s.drawn with sys.jtagChallenge := some (c, s.now + 60000000000) } }

/-- The response that opens JTAG for a challenge. -/
def jtagAnswer (c : BitVec 128) : List Byte := hmacSha256 Config.unlockKey (bytesOf c 16 ++ bytesOf Config.serial 8)

/-- JTAG_UNLOCK: the right response in time opens JTAG; a wrong one is counted, and after three no response is taken. -/
def execJtagUnlock (q : Cmd) (s : State) : Out :=
  let resp := bytesOf (q.params.extractLsb' 0 256) 32
  let right := match s.sys.jtagChallenge with | some (c, _) => decide (jtagAnswer c = resp) | none => false
  let late := match s.sys.jtagChallenge with | some (_, t) => decide (t < s.now) | none => false
  let s1 := { s with sys.jtagChallenge := none }
  runCmd (actOp 0xF11 .all (used 16 32)) q s
    { bad := [(q.h ≠ 0, .badParam)], owns := isSl0 s q, keys := [(.jtag, 0)], changes := false
      own := [(decide (s.sys.jtagWrong ≥ 3), .busy)]
      status := if right && !late then .ok else .badCheck
      eff := if !right then { s1 with sys.jtagWrong := s.sys.jtagWrong + 1 }
        else if late then s1
        else { s1 with sys.jtagOpen := true }.reportDev 0x0D0B 0 0 }

end Sys2Proof.Machine
end

