-- ==== Sys2Proof/Machine/TmCmds.lean ====
section
/-!
DEFINITION. The commands of group 0x07 (R609): queues, shapers, port scheduling, treadle lists.
-/
namespace Sys2Proof.Machine

/-! ## Queues -/

/-- The configuration as QUEUE_GET shows it: TC of a fabric queue is fixed (R434). -/
def State.queueCfg (s : State) (n : Nat) : QueueCfg :=
  { (s.queue n).cfg with tc := BitVec.ofNat 3 ((s.queue n).tc n) }

/-- Ranges of R434 and R435 that the tile alone decides. -/
def QueueCfg.bad (c : QueueCfg) : Bool :=
  c.port.toNat > 32 || c.sampleLog2.toNat > 20 || c.quantum.toNat < 64 || !inR c.maxFrames.toNat 1 4194304
  || c.maxBytes.toNat < 1518 || !inR c.spillBytes.toNat 9600 50331648 || !inR c.spillLog2.toNat 10 22
  || c.spillBase.toNat % (2 ^ c.spillLog2.toNat * 64) ≠ 0
  || (c.launch = 1 && c.port = 32)
  || (c.spill = 1 && (c.launch = 1 || c.tc.toNat ≥ 4 || 2 ^ c.spillLog2.toNat < c.maxFrames.toNat))

/-- The BAD_PARAM cases of R435 that other objects decide. -/
def State.queueBad (s : State) (c : QueueCfg) : Bool :=
  (c.spill = 1 && (!s.dramOn ||
    (let b := (s.pool c.spillPool.toNat).cfg; b.enable = 0 || b.kind = 0 || b.owner ≠ c.owner))) ||
  (c.telemEn = 1 && (let r := (s.ring c.telemRing.toNat).cfg; r.enable = 0 || r.kind ≠ 2 || r.owner ≠ c.owner))

/-- The fields that R435 does not let change while ENABLE is 1. -/
def QueueCfg.fixedSame (c o : QueueCfg) : Bool :=
  c.launch == o.launch && c.spill == o.spill && c.spillPool == o.spillPool && c.spillLog2 == o.spillLog2
  && c.spillBase == o.spillBase

/-- The configuration that QUEUE_ASSIGN makes of a queue's present one. -/
def QueueCfg.assigned (c : QueueCfg) (q : Cmd) : QueueCfg :=
  { c with owner := BitVec.ofNat 6 (q.u8 16), port := BitVec.ofNat 6 (q.u8 17), tc := BitVec.ofNat 3 (q.u8 18) }

/-- QUEUE_ASSIGN (R434, R609): what R435 rejects in the configuration that it makes is BAD_PARAM. -/
def execQueueAssign (q : Cmd) (s : State) : Out :=
  let c := (s.queue q.h).cfg.assigned q
  runCmd (actOp 0x701 .live (used 16 3)) q s
    { bad := [(q.h ≥ 7680 || q.u8 16 ≥ 64 || q.u8 17 > 32 || q.u8 18 > 7 || s.absorbed (q.u8 17), .badParam)]
      owns := isSl0 s q, keys := [(.queue, q.h)]
      own := [(c.bad || s.queueBad c, .badParam), (decide ((s.queue q.h).cfg.enable = 1), .busy)]
      eff := s.modQueue q.h fun u => { u with cfg := u.cfg.assigned q } }

/-- A queue takes a configuration: one that turns sampling on makes the next period's boundary the first sample; while
sampling is on the fields take effect at the next sample (R435, R469). -/
def Queue.configure (u : Queue) (c : QueueCfg) (now : Nat) : Queue :=
  { u with cfg := c, sampleAt := if u.cfg.telemEn = 0 then c.nextSample now else u.sampleAt }

/-- QUEUE_CONFIG (R434, R435): OWNER, PORT and TC hold their present values. -/
def execQueueConfig (q : Cmd) (s : State) : Out :=
  let c := QueueCfg.ofTile (q.tile 1)
  let o := s.queueCfg q.h
  runCmd (setOp 0x702 .live QueueCfg.rsv) q s
    { bad := [(q.h ≥ 8192, .badParam), (c.bad, .badParam),
              (q.h ≥ 7680 && (c.port ≠ 0 || decide (c.tc ≠ o.tc)), .badParam)]
      owns := s.requester q = o.owner.toNat && decide (c.owner = o.owner ∧ c.port = o.port ∧ c.tc = o.tc)
      keys := [(.queue, q.h)]
      own := [(s.queueBad c, .badParam),
              (o.enable = 1 && (!c.fixedSame o || (c.enable = 0 && !(s.queue q.h).ents.isEmpty)), .busy)]
      eff := s.modQueue q.h fun u => u.configure (if q.h ≥ 7680 then { c with tc := 0 } else c) s.now }

/-- The status of R471. -/
def State.queueStatus (s : State) (u : Queue) : QueueSt :=
  { u.st with depthFrames := satNat 32 u.ents.length, depthBytes := satNat 32 u.bytes
              dramFrames := satNat 32 u.dram.length, headAgeNs := satNat 32 (s.headAge u) }

/-- QUEUE_GET (R471). -/
def execQueueGet (q : Cmd) (s : State) : Out :=
  let u := s.queue q.h
  runCmd (getOp 0x703 .live) q s
    { bad := [(q.h ≥ 8192, .badParam)], owns := clearOk s q u.cfg.owner.toNat, keys := [(.queue, q.h)], changes := false
      replyTiles := 3, tiles := [(s.queueCfg q.h).toTile, (s.queueStatus u).toTile]
      eff := if q.clear then s.modQueue q.h fun u => { u with st := { deficit := u.st.deficit } } else s }

/-! ## Shapers -/

/-- A shaper handle of R595: the shaper's index, and for a port/class shaper its port and class. -/
def shaperOf (h : Nat) : Option (Nat × Option (Nat × Option Nat)) :=
  let n := h % 65536
  if h < 8192 then some (n, none)
  else if h / 65536 ≠ 32768 ∨ n ≥ 1024 then none
  else
    let p := if n < 512 then n / 8 else n - 512
    if !egressPort p ∨ (n < 512 ∧ n % 8 = 7) then none
    else some (8192 + n, some (p, if n < 512 then some (n % 8) else none))

/-- A handle that names no shaper: reserved, or one of a port that does not exist (R13, R444). -/
def State.noShaper (s : State) (h : Nat) : Bool :=
  match shaperOf h with
  | none => true
  | some (_, none) => false
  | some (_, some (p, _)) => s.absorbed p

/-- The owner of a shaper (R444). -/
def State.shaperOwner (s : State) (i : Nat) : Nat := if i < 8192 then (s.queue i).cfg.owner.toNat else 0

/-- Ranges of R445 and R447. -/
def ShaperCfg.bad (c : ShaperCfg) : Bool :=
  c.rate.toNat > 100000000 || c.burst.toNat > 16777216 || (c.enable = 1 && (c.rate = 0 || c.burst.toNat < 64))

/-- A shaper that must not hold its frames (R447). -/
def State.shaperTc7 (s : State) (i : Nat) (pc : Option (Nat × Option Nat)) : Bool :=
  match pc with
  | none => (s.queue i).tc i = 7
  | some (_, some _) => false
  | some (p, none) => p ≥ 48 || s.tm.queues.any fun (n, u) => n < 7680 && u.cfg.port.toNat = p && u.cfg.tc = 7

/-- SHAPER_CONFIG (R445, R447): refreshed under the old settings, then TOKENS by RESET_FILL. -/
def execShaperConfig (q : Cmd) (s : State) : Out :=
  let c := ShaperCfg.ofTile (q.tile 1)
  let h := shaperOf q.h
  let i := (h.map (·.1)).getD 0
  runCmd (setOp 0x710 .live ShaperCfg.rsv) q s
    { bad := [(s.noShaper q.h, .badParam), (c.bad, .badParam)], owns := s.requester q = s.shaperOwner i
      keys := [(.shaper, i)]
      own := [(c.enable = 1 && s.shaperTc7 i ((h.map (·.2)).getD none), .badParam)]
      eff := s.modShaper i fun _ =>
        { cfg := c, tok := if c.resetFill = 1 then c.burst.toNat * 8000000 else 0, last := s.now } }

/-- SHAPER_GET (R445). -/
def execShaperGet (q : Cmd) (s : State) : Out :=
  let i := ((shaperOf q.h).map (·.1)).getD 0
  let h := s.shaper i
  runCmd (getOp 0x711 .live) q s
    { bad := [(s.noShaper q.h, .badParam)], owns := clearOk s q (s.shaperOwner i), keys := [(.shaper, i)]
      changes := false, eff := s, replyTiles := 2, tiles := [h.cfg.toTile]
      data := dat 16 (BitVec.ofInt 64 (h.at s.now / 8000000)) ||| dat 24 (bit (h.eligible s.now)) }

/-! ## Port scheduling -/

/-- Ranges of R443. -/
def PortSched.bad (c : PortSched) (p : Nat) : Bool :=
  (List.range 7).any (fun k => decide (c.quantum k < 64 ∨ (c.classQuantums.extractLsb' (16 * k + 14) 2) ≠ 0))
  || c.fabQbase.toNat % 8 ≠ 0 || !inR c.prefetchLow.toNat 1024 32768
  || (p ≥ 48 && (c.fabQbase ≠ 0 || c.fabQen = 1))

/-- FAB_QEN with a queue that is not a general queue of the port and the class (R443). -/
def State.fabQBad (s : State) (c : PortSched) (p : Nat) : Bool :=
  c.fabQen = 1 && (List.range 8).any fun k =>
    let n := c.fabQbase.toNat + k
    n ≥ 7680 || decide ((s.queue n).cfg.port.toNat ≠ p ∨ (s.queue n).cfg.tc.toNat ≠ k)

/-- A handle that names an egress port (R443, R595). -/
def State.schedPort (s : State) (h : Nat) : Bool := egressPort h && !s.absorbed h

/-- PORT_SCHED_CONFIG (R443). -/
def execPortSchedConfig (q : Cmd) (s : State) : Out :=
  let c := PortSched.ofTile (q.tile 1)
  runCmd (setOp 0x720 .live PortSched.rsv) q s
    { bad := [(!s.schedPort q.h, .badParam), (c.bad q.h, .badParam)], owns := isSl0 s q, keys := [(.sched, q.h)]
      own := [(s.fabQBad c q.h, .badParam)], eff := s.modPortTm q.h fun t => { t with sched := c } }

/-- PORT_SCHED_GET (R443). -/
def execPortSchedGet (q : Cmd) (s : State) : Out :=
  runCmd (getOp 0x721 .live) q s
    { bad := [(!s.schedPort q.h, .badParam)], owns := clearOk s q 0, keys := [(.sched, q.h)], changes := false, eff := s
      replyTiles := 2, tiles := [(s.portTm q.h).sched.toTile] }

/-! ## Treadle lists -/

/-- A handle that names a port with a treadle list (R451). -/
def State.treadlePort (s : State) (h : Nat) : Bool := h ≤ 32 && !s.absorbed h

/-- TREADLE_CONFIG: the header of the pending copy (R453). -/
def execTreadleConfig (q : Cmd) (s : State) : Out :=
  runCmd (setOp 0x730 .live TreadleHdr.rsv) q s
    { bad := [(!s.treadlePort q.h || (TreadleHdr.ofTile (q.tile 1)).scale.toNat ≥ 5, .badParam)], owns := isSl0 s q
      keys := [(.treadle, q.h)], eff := s.modTreadle q.h fun d => { d with pendHdr := TreadleHdr.ofTile (q.tile 1) } }

/-- Entry `i` of a load, five to a tile (R452). -/
def cmdEntry12 (q : Cmd) (i : Nat) : BitVec 96 := (q.tile (i / 5 + 1)).extractLsb' (96 * (i % 5)) 96

/-- TREADLE_WRITE (R451, R452, R609). -/
def execTreadleWrite (q : Cmd) (s : State) : Out :=
  let n := q.u16 18
  let f := q.u16 16
  runCmd { opcode := 0x731, modes := .live, minTiles := 2, maxTiles := 64, uses := used 16 4 } q s
    { bad := [(!inR n 1 315 || decide (q.cont.length ≠ (n + 4) / 5), .badLength), (!s.treadlePort q.h, .badParam),
              (f + n > 1024, .badParam),
              ((List.range n).any (fun i => decide (cmdEntry12 q i &&& TreadleEntry.rsv ≠ 0 ∨
                (TreadleEntry.ofTile (cmdEntry12 q i)).floorNs.toNat > 1000000000)), .badParam),
              ((List.range (5 * q.cont.length)).any (fun i => i ≥ n && decide (cmdEntry12 q i ≠ 0)), .badParam)]
      owns := isSl0 s q, keys := [(.treadle, q.h)], own := [(decide ((s.treadle q.h).st.pending ≠ 0), .busy)]
      eff := s.modTreadle q.h fun d => { d with pend := (List.range n).foldl (fun m i =>
        Tab.set {} m (f + i) (TreadleEntry.ofTile (cmdEntry12 q i))) d.pend } }

/-- The BAD_PARAM cases of a commit with ENABLE 1 (R454). -/
def State.commitBad (s : State) (d : Treadle) : Bool :=
  let h := d.pendHdr
  let wall := h.scale = 0
  let n := h.count.toNat
  h.enable = 1 &&
    (h.scale.toNat ≥ 5 || (!wall && !(s.pick (h.scale.toNat - 1)).on) || !inR n 1 1024
    || !(if wall then inR h.cycleTime.toNat 10000 1000000000 else inR h.cycleTime.toNat 0x1000 0x10000000)
    || (List.range n).any (fun i =>
        let e := Tab.get {} d.pend i
        decide (e.duration.toNat < if wall then 100 else 16) || (wall && decide (e.duration < e.floorNs)))
    || decide (durSum d.pend n > h.cycleTime.toNat))

/-- S of R455. -/
def State.startOf (s : State) (h : TreadleHdr) : Nat :=
  let t := s.scaleNow h.scale.toNat + if h.scale = 0 then 2000 else 4096
  let c := max 1 h.cycleTime.toNat
  h.baseTime.toNat + (t - h.baseTime.toNat + c - 1) / c * c

/-- TREADLE_COMMIT (R454, R455). -/
def execTreadleCommit (q : Cmd) (s : State) : Out :=
  let d := s.treadle q.h
  let on := d.pendHdr.enable = 1
  let t := BitVec.ofNat 64 (s.startOf d.pendHdr)
  runCmd (actOp 0x732 .live 0) q s
    { bad := [(!s.treadlePort q.h, .badParam)], owns := isSl0 s q, keys := [(.treadle, q.h)], needGen := true
      own := [(decide (d.st.pending ≠ 0), .busy), (s.commitBad d, .badParam)]
      data := if on then dat 16 t else 0
      eff := s.modTreadle q.h fun d =>
        if on then { d with st.pending := 1, st.pendingStart := t }
        else if d.st.active = 1 then { d with st.pending := 1, removing := true } else d }

/-- TREADLE_ABORT (R454). -/
def execTreadleAbort (q : Cmd) (s : State) : Out :=
  runCmd (actOp 0x733 .live 0) q s
    { bad := [(!s.treadlePort q.h, .badParam)], owns := isSl0 s q, keys := [(.treadle, q.h)]
      own := [(decide ((s.treadle q.h).st.pending ≠ 1), .badParam)]
      eff := s.modTreadle q.h fun d => { d with st.pending := 0, st.pendingStart := 0, removing := false } }

/-- Treadle entries laid into tiles, five to a tile. -/
def tiles12 (n : Nat) (f : Nat → BitVec 96) : List Tile :=
  (List.range ((n + 4) / 5)).map fun k => (List.range 5).foldl (fun t i =>
    if 5 * k + i < n then t ||| put 512 (96 * i) (f (5 * k + i)) else t) 0

/-- The counters of R461 at zero. -/
def Treadle.cleared (d : Treadle) : Treadle :=
  { d with st.floorExtend := 0, st.treadleSkip := 0, st.treadleCut := 0, st.treadleStep := 0, st.gateOverrun := 0 }

/-- TREADLE_GET (R461, R609). OPTS CLEAR, which follows its parameters, clears the counters, by SL0 only (log entry 94). -/
def execTreadleGet (q : Cmd) (s : State) : Out :=
  let d := s.treadle q.h
  let n := q.u16 20
  let m := if q.u8 16 = 0 then d.act else d.pend
  let h := if q.u8 16 = 0 then d.actHdr else d.pendHdr
  runCmd (actOp 0x734 .live (used 16 1 ||| used 18 4 ||| dat 22 (1 : BitVec 1))) q s
    { bad := [(!s.treadlePort q.h, .badParam), (q.u8 16 > 1 || n > 305 || q.u16 18 + n > 1024, .badParam)]
      owns := !q.opt 22 0 || isSl0 s q
      keys := [(.treadle, q.h)], changes := false
      eff := if q.opt 22 0 then s.modTreadle q.h Treadle.cleared else s, replyTiles := 3 + (n + 4) / 5
      tiles := [d.st.toTile, h.toTile] ++ tiles12 n fun i => (Tab.get {} m (q.u16 18 + i)).toTile }

end Sys2Proof.Machine
end

