-- ==== Sys2Proof/Machine/Snapshot.lean ====
section
/-!
DEFINITION. SNAPSHOT (R581 to R583): the records of every object in scope, each with the tiles its GET returns, the
staging copy, the live table and counter records, and the header that ends it.
-/
namespace Sys2Proof.Machine

/-- The GET commands by opcode. -/
def getTable : List (Nat × (Cmd → State → Out)) :=
  [(0x002, execDeviceGet), (0x102, execSliceGet), (0x202, execPortGet), (0x302, execPickGet), (0x311, execWallGet),
   (0x322, execPtpGet), (0x412, execRulesetGet), (0x413, execRulesetRead), (0x414, execRuleGet), (0x422, execItGet),
   (0x431, execHashKeyGet), (0x502, execTablePartGet), (0x504, execTableConfigGet), (0x602, execPolicerGet)] ++
  [(0x703, execQueueGet), (0x711, execShaperGet), (0x721, execPortSchedGet), (0x734, execTreadleGet),
   (0x802, execRingGet), (0x804, execChanGet), (0x811, execWarpGet), (0x821, execPoolGet), (0x832, execHrGet),
   (0x902, execCoreGet), (0x912, execProgGet), (0x921, execTgGet), (0x923, execDispatchGet), (0x936, execTaskGet)] ++
  [(0x942, execDelayGet), (0x951, execOdGet), (0xA02, execLockGet), (0xA11, execLockUnitGet), (0xB01, execDramGet),
   (0xB11, execCacheGet), (0xC02, execFabricGet), (0xC04, execFabricLinkGet), (0xC20, execFabricRouteGet),
   (0xC31, execFabricTwinGet), (0xE01, execStatsRead), (0xE03, execCounterRead), (0xE04, execCounterRangeGet)]

/-- The reply that a GET would return to a slice at this instant, when it succeeds. The state is as before. -/
def State.getReply (s : State) (n : Nat) (op : Nat) (handle : Nat) (params : BitVec 352) : Option Reply :=
  let q : Cmd := { path := .script, slice := BitVec.ofNat 8 n, device := s.devId.setWidth 8
                   handle := BitVec.ofNat 32 handle, params := params }
  match getTable.find? fun e => e.1 = op with
  | none => none
  | some (_, f) =>
    match f q { s with host.held := [], host.snapshot := none, sys.lastReply := none, sys.recovery := false } with
    | .next t => t.sys.lastReply.filter fun r => r.status == .ok
    | _ => none

/-- An object of the configuration: its GET, its handle and the parameters of the GET. -/
structure SnapObj where
  op : Nat
  handle : Nat
  params : BitVec 352 := 0
deriving DecidableEq, Repr

/-- The objects of one GET with handles 0 to n − 1. -/
def snapRun (op n : Nat) : List SnapObj := (List.range n).map fun h => ⟨op, h, 0⟩

/-- Every configuration object of the device, in the order of the opcodes. A number that names no object has no record.
A ruleset tile is read in the current bank; an indirection table and a treadle list are read in pieces that fit 64
tiles. -/
def snapObjects : List SnapObj :=
  snapRun 0x002 1 ++ snapRun 0x102 64 ++ snapRun 0x202 33 ++ snapRun 0x302 4 ++ snapRun 0x311 1 ++ snapRun 0x322 33 ++
  snapRun 0x412 1 ++
  ([(0, 48), (1, 1), (2, 34), (3, 64), (5, 1024)].flatMap fun (k, n) =>
    (List.range n).map fun h => ⟨0x413, h, dat 17 (BitVec.ofNat 8 k)⟩) ++
  snapRun 0x414 8192 ++ ((List.range 64).map fun h => ⟨0x422, h, dat 18 (256 : BitVec 16)⟩) ++ snapRun 0x431 1 ++
  snapRun 0x502 64 ++ snapRun 0x504 1 ++ snapRun 0x602 16384 ++ snapRun 0x703 8192 ++ snapRun 0x711 8192 ++
  ((List.range 1024).map fun h => ⟨0x711, 2 ^ 31 + h, 0⟩) ++ snapRun 0x721 52 ++
  ((List.range 33).flatMap fun h => [0, 1].flatMap fun c => [(0, 305), (305, 305), (610, 305), (915, 109)].map fun (f, n) =>
    ⟨0x734, h, dat 16 (BitVec.ofNat 8 c) ||| dat 18 (BitVec.ofNat 16 f) ||| dat 20 (BitVec.ofNat 16 n)⟩) ++
  snapRun 0x802 4096 ++ snapRun 0x804 4096 ++ snapRun 0x811 34 ++ snapRun 0x821 64 ++ snapRun 0x832 512 ++
  snapRun 0x902 68 ++ snapRun 0x912 64 ++ snapRun 0x921 16 ++ snapRun 0x923 1 ++ snapRun 0x936 2048 ++
  snapRun 0x942 4096 ++ snapRun 0x951 4096 ++ snapRun 0xA02 4096 ++ snapRun 0xA11 1 ++ snapRun 0xB01 1 ++
  snapRun 0xB11 1 ++ snapRun 0xC02 1 ++ snapRun 0xC04 4 ++ snapRun 0xC20 1 ++ snapRun 0xC31 1 ++ snapRun 0xE04 64

/-- The slice that owns an object; none for device scope (R584). -/
def State.snapOwner (s : State) (o : SnapObj) : Option Nat :=
  let h := o.handle
  let own (l : List (Nat × RuleRange)) (f : RuleRange → Bool) : Option Nat := (l.find? fun p => f p.2).map (·.1)
  match o.op with
  | 0x414 => own s.curBank.ranges fun r => r.hasRule h
  | 0x422 => some (s.it h).owner.toNat
  | 0x602 => some (s.policer h).cfg.owner.toNat
  | 0x703 => some (s.queue h).cfg.owner.toNat
  | 0x711 => if h < 8192 then some (s.queue h).cfg.owner.toNat else none
  | 0x802 | 0x804 => some (s.ring h).cfg.owner.toNat
  | 0x821 => some (s.pool h).cfg.owner.toNat
  | 0x832 => some (s.hr h).cfg.owner.toNat
  | 0x912 => some h
  | 0x921 => some (s.group h).owner.toNat
  | 0x936 => some (s.bg h).obj.owner.toNat
  | 0x942 => some (s.delay h).e.owner.toNat
  | 0xA02 => some (s.lk h).cfg.owner.toNat
  | _ => none

/-- A record's header tile (R583). -/
def snapHeader (op tiles : Nat) (handle : Word32) (gen : Word32) (owner : Nat) (live : Bool) : Tile :=
  sealTile (put 512 0 (BitVec.ofNat 16 op) ||| put 512 16 (BitVec.ofNat 16 tiles) ||| put 512 32 handle |||
    put 512 64 gen ||| put 512 96 (BitVec.ofNat 8 owner) ||| put 512 104 (bit live))

/-- A record: its header tile and its object tiles. -/
def snapRecord (op : Nat) (handle gen : Word32) (owner : Nat) (live : Bool) (ts : List Tile) : List Tile :=
  snapHeader op ts.length handle gen owner live :: ts.map sealTile

/-- The configuration records of a requester's scope: the whole device for SL0; for another slice its own objects and the
device-scope objects that it may read (R582). A reply has 63 tiles after tile 0 at most (R561). -/
def State.snapConfig (s : State) (n : Nat) : List (List Tile) :=
  snapObjects.filterMap fun o =>
    let ow := s.snapOwner o
    if n ≠ 0 ∧ ow.isSome ∧ ow ≠ some n then none
    else (s.getReply n o.op o.handle o.params).map fun r =>
      snapRecord o.op (BitVec.ofNat 32 o.handle) r.gen (ow.getD 0) false (r.tiles.take 63)

/-- The slices whose table space and counters are in a requester's scope. -/
def snapSlices (n : Nat) : List Nat := if n = 0 then List.range 64 else [n]

/-- The quotas of a slice's partition: station, stream and route records that its table space holds. -/
def TablePart.room (p : TablePart) : Nat :=
  if p.enable = 1 then p.stQuota.toNat + p.sePinQuota.toNat + p.seMainQuota.toNat + p.rtQuota.toNat else 0

/-- The table records of a slice, in the space its quotas give: two tiles for each entry in use, and records of TILES 0
over the unused space. -/
def State.snapTable (s : State) (n : Nat) : List (List Tile) :=
  let rec' (op i : Nat) (g : Word32) (t : Tile) := snapRecord op (BitVec.ofNat 32 i) g n true [t]
  let st := (s.tab.stations.filter fun (_, e) => e.valid = 1 && e.owner.toNat = n).map fun (i, e) =>
    rec' 0x513 i (s.gen (.station, n)) e.toTile
  let pin := (s.tab.streams.filter fun (_, e) => e.valid && e.owner.toNat = n).map fun (i, e) =>
    rec' 0x522 i (s.gen (.stream, n)) e.toTile
  let main := (s.mainSlots.filter fun i => (s.stream i).owner.toNat = n && !s.checkBad i).map fun i =>
    rec' 0x522 i (s.gen (.stream, n)) (s.stream i).toTile
  let rt := (s.tab.routes.filter fun (_, e) => e.valid = 1 && e.owner.toNat = n).map fun (i, e) =>
    rec' 0x532 i (s.gen (.route, n)) e.toTile
  let used := st ++ pin ++ main ++ rt
  used ++ List.replicate (2 * (s.part n).room - 2 * used.length) (snapRecord 0x513 0 0 n true [])

/-- The counter records of a scope: counter pairs in pieces of 189, then the statistics of each scope of R618, named by
scope × 2^24 + index. -/
def State.snapCounters (s : State) (n : Nat) : List (List Tile) :=
  let live (op h me owner : Nat) (ps : BitVec 352) : Option (List Tile) :=
    (s.getReply me op (h % 2 ^ 24) ps).map fun r => snapRecord op (BitVec.ofNat 32 h) r.gen owner true r.tiles
  let pairs := (snapSlices n).flatMap fun m =>
    let (f, c) := Tab.get (0, 0) s.host.ctrRange m
    (List.range ((c + 188) / 189)).filterMap fun i =>
      live 0xE03 0 m m (dat 16 (BitVec.ofNat 32 (f + 189 * i)) ||| dat 20 (BitVec.ofNat 8 (min 189 (c - 189 * i))))
  let stats := [(0, 1), (1, 52), (2, 64), (3, 16), (4, 68), (5, 512), (6, 16)].flatMap fun (sc, k) =>
    (List.range k).filterMap fun i =>
      let ow := s.statOwner sc i
      if n ≠ 0 ∧ ow.isSome ∧ ow ≠ some n then none
      else live 0xE01 (sc * 2 ^ 24 + i) (ow.getD n) (ow.getD 0) (dat 16 (BitVec.ofNat 8 sc))
  pairs ++ stats

/-- Tiles that a snapshot takes with its header (R582 step 1). -/
def State.snapSize (s : State) (n : Nat) (flags : BitVec 8) : Nat :=
  1 + ((s.snapConfig n).map List.length).sum +
    (if flags.getLsbD 0 then ((snapSlices n).map fun m => 2 * (s.part m).room).sum else 0) +
    (if flags.getLsbD 1 then ((s.snapCounters n).map List.length).sum else 0)

/-- SNAPSHOT (R582): its size is checked and its staging copy begins; a second one waits for the first. -/
def execSnapshot (q : Cmd) (s : State) : Out :=
  let n := s.requester q
  let addr := q.u64 16
  let len := q.u64 24
  let flags : BitVec 8 := BitVec.ofNat 8 (q.u8 32)
  let need := 64 * s.snapSize n flags
  let recs := s.snapConfig n
  runCmd (actOp 0x004 .live (used 16 17)) q s
    { bad := [(len.toNat % 64 ≠ 0, .badLength), (q.h ≠ 0 || addr.toNat % 64 ≠ 0 || flags &&& 0xFC ≠ 0, .badParam)]
      keys := [(.device, 0)], changes := false, hold := s.host.snapshot.isSome
      own := [(decide (len.toNat < need), .noRoom)], failData := dat 16 (BitVec.ofNat 64 need)
      eff := { s with host.snapshot := some ⟨n, addr, flags, true, s.host.devGen, s.wall, recs.flatten, recs.length⟩ }
      wait := some .snapshot }

/-- SNAPSHOT_COPY_DONE: the staging copy is complete and held commands may run; without DRAM the hold lasts for the whole
SNAPSHOT (R582 step 2). -/
def execSnapshotCopyDone (s : State) : Out :=
  ok s (match s.host.snapshot with
    | some n => if s.dramOn then { s with host.snapshot := some { n with staging := false } } else s
    | none => s)

/-- SNAPSHOT_DONE (R582 steps 3 and 4, R583): the records are in the buffer, table and counter records as they read now,
and the header is written last. -/
def execSnapshotDone (s : State) : Out :=
  ok s (match s.host.snapshot with
    | none => s
    | some n =>
      let live := (if n.flags.getLsbD 0 then (snapSlices n.slice).flatMap s.snapTable else []) ++
        (if n.flags.getLsbD 1 then s.snapCounters n.slice else [])
      let body := n.tiles ++ live.flatten
      let count := body.length + 1
      let head := sealTile (put 512 0 (1 : BitVec 16) ||| put 512 16 n.flags ||| put 512 32 n.devGen |||
        put 512 64 n.wall ||| put 512 128 Config.serial ||| put 512 192 (BitVec.ofNat 32 (n.records + live.length)) |||
        put 512 224 (BitVec.ofNat 32 count) ||| put 512 256 (BitVec.ofNat 8 n.slice))
      let s1 := (body.zipIdx).foldl (fun (s : State) (p : Tile × Nat) =>
        s.emit (.hostTile n.slice (n.addr + BitVec.ofNat 64 (64 * (p.2 + 1))) p.1)) s
      let s2 := { s1.emit (.hostTile n.slice n.addr head) with host.snapshot := none }
      s2.finish (· == .snapshot) .ok (dat 16 n.devGen ||| dat 20 (BitVec.ofNat 32 count)) [])

end Sys2Proof.Machine
end

