-- ==== Sys2Proof/Machine/HostDispatch.lean ====
section
/-!
DEFINITION. Acceptance of command packets (R565 checks 1 to 6, R570 to R572), their dispatch by opcode, and held commands
(R568).
-/
namespace Sys2Proof.Machine

/-- The commands by opcode (R590, R599 to R619). -/
def hostTable : List (Nat × (Cmd → State → Out)) :=
  [(0x001, execDeviceConfig), (0x002, execDeviceGet), (0x003, execModeSet), (0x004, execSnapshot), (0x005, execPing),
   (0x101, execSliceConfig), (0x102, execSliceGet), (0x103, execSliceQuiesce), (0x104, execSliceResume),
   (0x105, execSliceReset), (0x201, execPortConfig), (0x202, execPortGet)] ++
  [(0x301, execPickConfig), (0x302, execPickGet), (0x303, execPickSelect), (0x304, execPickConvert),
   (0x310, execWallConfig), (0x311, execWallGet), (0x312, execWallSet), (0x320, execPtpClockConfig),
   (0x321, execPtpPortConfig), (0x322, execPtpGet), (0x401, execHeddleWrite), (0x402, execKeyselWrite)] ++
  [(0x403, execParsePortWrite), (0x404, execRuleRangeSet), (0x405, execRuleWrite), (0x406, execProfileWrite),
   (0x410, execCommitRuleset), (0x411, execRulesetDiscard), (0x412, execRulesetGet), (0x413, execRulesetRead),
   (0x414, execRuleGet), (0x420, execItConfig), (0x421, execItWrite), (0x422, execItGet)] ++
  [(0x430, execHashKeySet), (0x431, execHashKeyGet), (0x501, execTablePartSet), (0x502, execTablePartGet),
   (0x503, execTableConfig), (0x504, execTableConfigGet), (0x510, execStationWrite), (0x511, execStationDelete),
   (0x512, execStationFlush), (0x513, execStationGet), (0x520, execStreamWrite), (0x521, execStreamDelete)] ++
  [(0x522, execStreamGet), (0x530, execRouteAdd), (0x531, execRouteDelete), (0x532, execRouteGet),
   (0x601, execPolicerConfig), (0x602, execPolicerGet), (0x701, execQueueAssign), (0x702, execQueueConfig),
   (0x703, execQueueGet), (0x710, execShaperConfig), (0x711, execShaperGet), (0x720, execPortSchedConfig)] ++
  [(0x721, execPortSchedGet), (0x730, execTreadleConfig), (0x731, execTreadleWrite), (0x732, execTreadleCommit),
   (0x733, execTreadleAbort), (0x734, execTreadleGet), (0x801, execRingConfig), (0x802, execRingGet),
   (0x803, execChanConfig), (0x804, execChanGet), (0x810, execWarpConfig), (0x811, execWarpGet)] ++
  [(0x820, execPoolConfig), (0x821, execPoolGet), (0x830, execHrAssign), (0x831, execHrConfig), (0x832, execHrGet),
   (0x833, execHrKick), (0x901, execCoreConfig), (0x902, execCoreGet), (0x903, execCoreRetest),
   (0x910, execProgRegionSet), (0x911, execProgConfig), (0x912, execProgGet)] ++
  [(0x913, execProgramLoad), (0x914, execProgCommit), (0x920, execTgConfig), (0x921, execTgGet),
   (0x922, execDispatchConfig), (0x923, execDispatchGet), (0x930, execTaskCreate), (0x931, execTaskConfig),
   (0x932, execTaskKick), (0x933, execTaskCancel), (0x934, execTaskReset), (0x935, execTaskDestroy)] ++
  [(0x936, execTaskGet), (0x940, execDelayArm), (0x941, execDelayDisarm), (0x942, execDelayGet),
   (0x950, execOdConfig), (0x951, execOdGet), (0xA01, execLockConfig), (0xA02, execLockGet), (0xA03, execLockBreak),
   (0xA10, execLockUnitConfig), (0xA11, execLockUnitGet), (0xB01, execDramGet)] ++
  [(0xB02, execDramLayoutSet), (0xB10, execCacheConfig), (0xB11, execCacheGet), (0xB12, execCacheMaint),
   (0xC01, execFabricConfig), (0xC02, execFabricGet), (0xC03, execFabricLinkConfig), (0xC04, execFabricLinkGet),
   (0xC10, execFabricDiscover), (0xC11, execFabricIdSet), (0xC20, execFabricRouteGet), (0xC21, execRoutePin)] ++
  [(0xC22, execRouteUnpin), (0xC30, execFabricTwinConfig), (0xC31, execFabricTwinGet), (0xD01, execSelvedgeRead),
   (0xD02, execSelvedgeClearArm), (0xD03, execSelvedgeClear), (0xD20, execImageWrite), (0xD21, execImageCommit),
   (0xE01, execStatsRead), (0xE02, execCounterRangeSet), (0xE03, execCounterRead), (0xE04, execCounterRangeGet)] ++
  [(0xF01, execDebugAttach), (0xF02, execDebugDetach), (0xF03, execDebugHalt), (0xF04, execDebugResume),
   (0xF05, execDebugStep), (0xF06, execDebugBreak), (0xF07, execDebugRead), (0xF08, execDebugWrite),
   (0xF10, execJtagChallenge), (0xF11, execJtagUnlock)]

/-- A command's meaning by its opcode. -/
def hostExec (op : Nat) : Option (Cmd → State → Out) := (hostTable.find? fun e => e.1 = op).map (·.2)

/-- A packet whose OPCODE names no command: check 5 comes first, and bits 15:12 belong to it (R560, R565). -/
def State.badOpcode (s : State) (op : BitVec 16) (q : Cmd) : State :=
  let info : OpInfo := { opcode := op.setWidth 12, modes := .all, maxTiles := 64, uses := BitVec.allOnes 352 }
  runPlan info q s
    { bad := [(op.extractLsb' 12 4 ≠ 0, .badParam), (true, .badOpcode)], changes := false, eff := s }

/-- An accepted command executes. -/
def State.runHost (s : State) (op : BitVec 16) (q : Cmd) : State :=
  if op.extractLsb' 12 4 ≠ 0 then s.badOpcode op q
  else match hostExec op.toNat with
    | none => s.badOpcode op q
    | some f => match f q s with
      | .next t => t
      | _ => s

/-- A command enters a window of 256 (R570). -/
def enterWindow (w : List WinEntry) (q : Cmd) : List WinEntry :=
  (w ++ [({ seq := q.seq, check := q.check, reply := none } : WinEntry)]).drop (w.length + 1 - 256)

/-- The window of a submission path (R570, R534). -/
def State.windowOf (s : State) (q : Cmd) : List WinEntry :=
  match q.path with
  | .mailbox | .script => (s.sl 0).window
  | .sq n => (s.sl n.val).window
  | .m0 => s.host.m0Window
  | .fabric _ src => Tab.get [] s.fab.windows (windowKey src.val q.slice.toNat)
  | .twin .. | .jtag => []

/-- A command accepted at check 4 stands in its window. -/
def State.entered (s : State) (q : Cmd) : State :=
  match q.path with
  | .mailbox | .script => s.modSl 0 fun h => { h with window := enterWindow h.window q }
  | .sq n => s.modSl n.val fun h => { h with window := enterWindow h.window q }
  | .m0 => { s with host.m0Window := enterWindow s.host.m0Window q }
  | .fabric _ src =>
    { s with fab.windows := Tab.upd [] s.fab.windows (windowKey src.val q.slice.toNat) fun w => enterWindow w q }
  | .twin .. | .jtag => s

/-- A repeated command is counted (R571). -/
def State.replayed (s : State) (q : Cmd) : State :=
  s.modSl (s.requester q) fun h => { h with st := { h.st with cmdReplayed := satInc h.st.cmdReplayed } }

/-- A command of M0 that does not enter the window is answered at once, to the sender of its frame (R580). -/
def State.mgmtAnswer (s : State) (bs : List Byte) : State :=
  let dst := (s.host.m0Peers.getLast?.map (·.2)).getD s.host.devCfg.mgmtPeer
  { s with host.m0Peers := s.host.m0Peers.dropLast }.sendOwn 32 (mgmtFrame dst s.m0Addr bs)

/-- A one-tile reply that does not enter a window: checks 1 to 3, and a used number (R565, R572). -/
def State.refuse (s : State) (op : BitVec 16) (q : Cmd) (st : Status) : State :=
  let r : Reply := { opcode := op.setWidth 12, status := st, device := s.devId.setWidth 8, seq := q.seq, handle := q.handle }
  let s1 := s.modSl (s.requester q) fun h => { h with st := { h.st with cmdRejected := satInc h.st.cmdRejected } }
  match q.path with
  | .mailbox => { s1 with host.mboxOut := r.tile0 r.status 1 false false true, host.mboxPending := false }
  | .sq n =>
    let s2 := s1.reserve n.val q.seq 1 false
    match (s2.sl n.val).resv.getLast? with
    | some v =>
      let s3 := (s2.writeSlots n.val v r).modSl n.val fun h => { h with resv := h.resv.dropLast }
      if q.flags.getLsbD 1 then s3 else s3.signal n.val 0
    | none => s2
  | .m0 => s1.mgmtAnswer (r.bytes 1)
  | .fabric _ src => s1.fabricSend q src.val 1 r
  | .script | .twin .. => { s1 with sys.lastReply := some r }
  | .jtag => s1.emit (.jtag (r.bytes 1))

/-- A command whose SEQ stands in the window with the same CHECK: the saved reply is given again, with REPLAY 1; while it
is pending, the slots wait for it, and M0 is told PENDING at once (R571, R580). -/
def State.replaySaved (s0 : State) (q : Cmd) (e : WinEntry) : State :=
  let s := s0.replayed q
  match e.reply with
  | some r =>
    let t0 := r.tile0 (replayStatus r.status) e.tiles true false true
    let bs := bytesOf t0 64 ++ (r.bytes e.tiles).drop 64
    (match q.path with
      | .mailbox => { s with host.mboxOut := t0, host.mboxPending := false }
      | .sq n =>
        let s1 := s.reserve n.val q.seq e.tiles true
        match (s1.sl n.val).resv.getLast? with
        | some v =>
          let s2 := (s1.writeSlots n.val v r).modSl n.val fun h => { h with resv := h.resv.dropLast }
          if q.flags.getLsbD 1 then s2 else s2.signal n.val 0
        | none => s1
      | .m0 => s.mgmtAnswer bs
      | .fabric _ src =>
        match s.cmdOut (BitVec.ofNat 6 src.val) with
        | some l => s.linkSend l { kind := 2, dest := BitVec.ofNat 6 src.val, port := 63, src := s.devId
                                   extra := sliceByte q, payload := bs }
        | none => s
      | .script => { s with sys.lastReply := some { r with status := replayStatus r.status } }
      | .twin .. | .jtag => s)
  | none =>
    match q.path with
    | .sq n =>
      let k := (((s.sl n.val).resv.find? fun v => v.seq = q.seq).map (·.tiles)).getD 1
      s.reserve n.val q.seq k true
    | .m0 => s.mgmtAnswer (bytesOf (pendingTile q.seq false) 64)
    | _ => s

/-- Acceptance from check 3 on: the tiles of one command, of which tile 0 has passed checks 1 and 2. -/
def State.accept (s : State) (path : Path) (t0 : Tile) (cont : List Tile) : State :=
  let (op, q) := cmdOf path t0 cont
  if cont.any fun t => !tileOk t then s.refuse op q .badCheck
  else match (s.windowOf q).find? fun e => e.seq = q.seq with
    | some e => if e.check = q.check then s.replaySaved q e else s.refuse op q .badParam
    | none => (s.entered q).runHost op q

/-- HELD_COMMAND_EXECUTE: a held command runs again from check 5; those held before it stay ahead of it (R568). -/
def execHeldCommandExecute (n : Nat) (s : State) : Out :=
  ok s (match s.host.held[n]? with
    | none => s
    | some h =>
      let s1 := { s with host.held := s.host.held.take n }
      let s2 := s1.runHost (h.opcode.setWidth 16) h.cmd
      { s2 with host.held := s2.host.held ++ s.host.held.drop (n + 1) })

end Sys2Proof.Machine
end

