-- ==== Sys2Proof/Machine/Fabric.lean ====
section
/-!
DEFINITION. What arrives on the Kubridex links and what their timers do: delivery on a link (R513 to R518), the order of
streams at the destination (R520), transit (R530, R531), HELLO, DISCOVER, ANSWER and LSA frames (R522 to R526), COMMAND and
REPLY frames (R533 to R535), TIME frames (R536) and heartbeats (R538 to R540).
-/
namespace Sys2Proof.Machine

/-! ## A frame arrives (R516) -/

/-- A frame fails its LINK_CRC, its header's length, or its FEC: counted, and answered by a NAK that names the expected
LINK_SEQ. -/
def State.badLinkFrame (s : State) (k : Nat) (fec crc : Bool) : State :=
  let s1 := s.modLink k fun l =>
    { l with st := { l.st with fecUncorrected := if fec then satInc l.st.fecUncorrected else l.st.fecUncorrected
                               linkCrcErr := if crc then satInc l.st.linkCrcErr else l.st.linkCrcErr } }
  s1.emit (.linkCtl k true (s.link k).rxSeq)

/-- LINK_CRC and PLEN of a received frame are right (R513, R514). -/
def frameOk (bs : List Byte) : Bool :=
  decide (20 ≤ bs.length) && crc32c (bs.take (bs.length - 4)) = leBits 32 (slice bs (bs.length - 4) 4) &&
    decide (beNat (slice bs 8 2) + 20 = bs.length)

/-- A frame arrives on a link in HELLO or UP: accepted only in LINK_SEQ order, each acceptance acknowledged; in HELLO only
HELLO frames, which carry no number of the order. A reserved KIND is discarded and counted (R514, R516). -/
def State.linkTake (s : State) (k : Nat) (x : LinkRx) : State × Option FabFrame :=
  let l := s.link k
  let f := FabFrame.ofBytes (slice x.bytes 0 16) (slice x.bytes 16 (x.bytes.length - 20))
  if l.st.state.toNat < 2 then (s, none)
  else if x.fecBad ∨ !frameOk x.bytes then (s.badLinkFrame k x.fecBad (!frameOk x.bytes), none)
  else if f.kind = 3 then (s, some f)
  else if l.st.state ≠ 3 ∨ x.seq.toNat ≠ l.rxSeq then (s, none)
  else
    let s1 := (s.modLink k fun l => { l with rxSeq := (l.rxSeq + 1) % 4096 }).emit (.linkCtl k false l.rxSeq)
    if 9 ≤ f.kind then (s1.modLink k fun l => { l with st.linkCrcErr := satInc l.st.linkCrcErr }, none)
    else (s1, some f)

/-- A frame of one kind arrives: delivery on the link, then what the device does with it. A good frame of another kind is
another command's. -/
def State.receive (s : State) (k : Nat) (x : LinkRx) (kind : Nat) (act : FabFrame → State → State) : State :=
  match s.linkTake k x with
  | (s1, none) => s1
  | (s1, some f) => if f.kind = kind then act f s1 else s

/-! ## Resending (R517, R518) -/

/-- Every kept frame from the n-th on is sent again, and counted. -/
def State.resend (s : State) (k n : Nat) : State :=
  let l := s.link k
  let again := l.retry.drop n
  let s1 := s.modLink k fun l =>
    { l with st.resends := satAdd l.st.resends again.length
             retry := l.retry.take n ++ again.map fun e => { e with sends := e.sends + 1, sentAt := s.now } }
  again.foldl (fun (s : State) e => s.emit (.link k e.frame.kind e.frame.bytes)) s1

/-- Acknowledged frames leave the retry buffer: the first n. -/
def State.acked (s : State) (k n : Nat) : State :=
  if n = 0 then s else s.modLink k fun l => { l with retry := l.retry.drop n, ackAt := s.now }

/-- LINK_ACK_RECEIVE: an ACK names the last accepted frame, a NAK the expected one, from which the sender sends again
(R516, R517). -/
def execLinkAckReceive (k : Fin 4) (nak : Bool) (seq : BitVec 12) (s : State) : Out :=
  let l := s.link k
  let d := match l.retry with
    | [] => 0
    | e :: _ => (seq.toNat + 4096 - e.seq) % 4096
  let n := if nak then d else d + 1
  ok s (if l.retry = [] ∨ l.retry.length < n then s
    else if nak then (s.acked k n).resend k 0 else s.acked k n)

/-- RETRY_TIMEOUT: a frame unacknowledged for 2 µs, and those behind it, are sent again (R517). -/
def execRetryTimeout (k : Fin 4) (s : State) : Out :=
  ok s (match (s.link k).retry with
    | e :: _ => if e.sentAt + 2000 ≤ s.now ∧ (s.link k).st.state = 3 then s.resend k 0 else s
    | [] => s)

/-- FABRIC_LINK_DOWN (R518, R522). -/
def execFabricLinkDown (k : Fin 4) (why : LinkLoss) (s : State) : Out :=
  let l := s.link k
  let lost : Bool := match why with
    | .alignment => l.lock
    | .noAck => !l.retry.isEmpty && decide (l.ackAt + 1000 ≤ s.now)
    | .fourth => l.retry.any fun e => decide (4 ≤ e.sends)
    | .hello => decide (l.st.state = 3 ∧ l.helloAt + 30000 ≤ s.now)
  ok s (if lost then s.linkFail k else s)

/-- FABRIC_BLOCK_LOCK: an enabled link, whose clock runs, has block lock and lane alignment, after its training where it
has one (R510, R522). -/
def execFabricBlockLock (k : Fin 4) (s : State) : Out :=
  let l := s.link k
  ok s (if l.cfg.enable = 1 ∧ l.st.state.toNat < 2 ∧ !Tab.get false s.sys.refLost 2 then
    s.modLink k fun l => { l with st.state := 2, lock := true, helloRun := 0, helloAt := s.now }
    else s)

/-! ## DATA frames (R520, R530, R531, R438) -/

/-- A frame for this device is offered to the queue of its port and class (R438). Its descriptor has no ingress timestamp
(TS_WALL_LO is 0) and names no pool (BUF is the null handle: its bytes stand in the entry), as the spec gives a fabric
arrival neither (DESIGN CHOICE, log entry 88). -/
def State.offerArrival (s : State) (k : Nat) (f : FabFrame) : State :=
  let p := f.port.toNat
  let g := (s.portTm p).sched
  let d : Desc :=
    { typeV := 3, tc := f.cls, express := bit (f.cls = 7), inPort := BitVec.ofNat 6 (48 + k)
      length := BitVec.ofNat 14 f.payload.length, buf := nullHandle, queue := g.fabQbase + f.cls.setWidth 13, qvalid := 1
      outPort := f.port, destDev := f.dest, flowHash := f.hash }
  if g.fabQen = 0 then s.bump .fabricNoq p
  else s.offer { e := { desc := d.toTile }, arrived := some f.payload } none

/-- A stream at this destination. -/
def State.rx (s : State) (i : Nat) : FabStream := Tab.get {} s.fab.rxStreams i
/-- Change a stream. -/
def State.modRx (s : State) (i : Nat) (f : FabStream → FabStream) : State :=
  { s with fab.rxStreams := Tab.upd {} s.fab.rxStreams i f }

/-- Held frames that have become due are offered in their order; a stream without held frames holds no longer. -/
def State.drainStream (i : Nat) : Nat → State → State
  | 0, s => s
  | n + 1, s =>
    match (s.rx i).e, (s.rx i).held.find? fun h => some h.frame.seq = (s.rx i).e with
    | some e, some h =>
      State.drainStream i n ((s.modRx i fun r => { r with e := some (e + 1), held := r.held.erase h }).offerArrival h.link
        h.frame)
    | _, _ => s.modRx i fun r => { r with holding := r.holding && !r.held.isEmpty }

/-- How far a number lies ahead of E. -/
def FabStream.ahead (r : FabStream) (seq : BitVec 16) : Int := (seq - r.e.getD seq).toInt

/-- The lowest held number. -/
def FabStream.lowest (r : FabStream) : Option (BitVec 16) :=
  r.held.foldl (fun (b : Option (BitVec 16)) h => match b with
    | none => some h.frame.seq
    | some q => if r.ahead h.frame.seq < r.ahead q then some h.frame.seq else some q) none

/-- A stream's hold ends: the missing numbers below the lowest held one are skipped (R520). -/
def State.endHold (s : State) (i : Nat) : State :=
  let r := s.rx i
  match r.lowest with
  | none => s.modRx i fun r => { r with holding := false }
  | some q =>
    let s1 := { s with fab.st.fabSkip := satAdd s.fab.st.fabSkip (r.ahead q).toNat }
    let s2 := State.drainStream i (r.held.length + 1) (s1.modRx i fun r => { r with e := some q })
    if (s2.rx i).held.isEmpty then s2 else s2.modRx i fun r => { r with t0 := s.now }

/-- The stream with the oldest held frame. -/
def State.oldestHold (s : State) : Option Nat :=
  (s.fab.rxStreams.foldl (fun (b : Option (Nat × Nat)) p =>
    match p.2.held with
    | [] => b
    | h :: _ => match b with
      | none => some (p.1, h.at')
      | some (j, t) => if h.at' < t then some (p.1, h.at') else some (j, t)) none).map (·.1)

/-- fabric_receive of R520 once E is set: the frame is discarded, offered, held, or reveals a loss. -/
def State.streamStep (s : State) (k i : Nat) (f : FabFrame) : State :=
  let r := s.rx i
  let d := r.ahead f.seq
  if d < 0 ∨ r.held.any (fun h => h.frame.seq = f.seq) then { s with fab.st.fabDup := satInc s.fab.st.fabDup }
  else if d = 0 then
    State.drainStream i (r.held.length + 1) ((s.modRx i fun r => { r with e := some (f.seq + 1) }).offerArrival k f)
  else if f.rerouted ∨ r.holding then
    s.modRx i fun r => { r with held := r.held ++ [⟨f, k, s.now⟩], holding := true, t0 := if r.holding then r.t0 else s.now }
  else
    ({ s with fab.st.fabGap := satAdd s.fab.st.fabGap d.toNat }.modRx i fun r => { r with e := some (f.seq + 1) }).offerArrival k f

/-- A DATA frame addressed to this device (R520): FIRST, and the first frame of a stream, set E. When the reorder store of
1,024 frames is full, the stream with the oldest held frame ends its hold. -/
def State.streamReceive (s : State) (k : Nat) (f : FabFrame) : State :=
  let i := streamKey f.src.toNat f.cls.toNat f.fpath.toNat
  let s1 := if f.first ∨ (s.rx i).e.isNone then s.modRx i fun r => { r with e := some f.seq } else s
  let r := s1.rx i
  let holds : Bool := decide (0 < r.ahead f.seq) && (f.rerouted || r.holding)
  let full : Bool := decide (1024 ≤ (s1.fab.rxStreams.map fun (_, x) => x.held.length).sum)
  match if holds && full then s1.oldestHold else none with
  | some j => (s1.endHold j).streamStep k i f
  | none => s1.streamStep k i f

/-- A frame in transit joins the fabric queue of its destination, one device further (R433, R530, R531). -/
def State.transit (s : State) (k : Nat) (f : FabFrame) : State :=
  if f.hops ≥ 7 then { s with fab.st.fabHops := satInc s.fab.st.fabHops }
  else
    let g := { f with hops := f.hops + 1 }
    let d : Desc :=
      { typeV := 3, tc := f.cls, express := bit (f.cls = 7), inPort := BitVec.ofNat 6 (48 + k)
        length := BitVec.ofNat 14 f.payload.length, buf := nullHandle, outPort := f.port, destDev := f.dest, flowHash := f.hash }
    s.offer { e := { desc := d.toTile }, fpath := f.fpath, transit := some (leBits 128 g.header), arrived := some f.payload } none

/-- A DATA frame: for this device, in transit, or dropped where no device accepts it (R530, R34). -/
def State.dataArrive (s : State) (k : Nat) (f : FabFrame) : State :=
  if !s.fabOn then s
  else if s.accepts.contains f.dest then s.streamReceive k f
  else if s.sys.mode = .run ∨ s.sys.mode = .commission then s.transit k f
  else s.unreach f.src.toNat f.dest.toNat

/-- FABRIC_DATA_RECEIVE (R520). -/
def execFabricDataReceive (k : Fin 4) (x : LinkRx) (s : State) : Out := ok s (s.receive k x 0 fun f s => s.dataArrive k f)

/-- FAB_HOLD_EXPIRY (R520). -/
def execFabHoldExpiry (n : Fin 2048) (s : State) : Out :=
  ok s (if (s.rx n).holding ∧ (s.rx n).t0 + s.fab.cfg.fabHoldNs.toNat ≤ s.now then s.endHold n else s)

/-! ## COMMAND and REPLY frames (R533 to R535) -/

/-- A COMMAND or REPLY frame for another device goes on. -/
def State.forwardCtl (s : State) (f : FabFrame) : State :=
  if ¬(s.sys.mode = .run ∨ s.sys.mode = .commission) then s.unreachCmd f.src.toNat f.dest.toNat
  else if f.hops ≥ 7 then { s with fab.st.fabHops := satInc s.fab.st.fabHops }
  else match s.cmdLink f.dest.toNat with
    | some l => s.linkSend l { f with hops := f.hops + 1 }
    | none => s.unreachCmd f.src.toNat f.dest.toNat

/-- The tiles of a payload. -/
def tilesOfBytes (bs : List Byte) : List Tile := (List.range (bs.length / 64)).map fun i => leBits 512 (slice bs (64 * i) 64)

/-- A command that the other device of a paired twin has executed and copies: its DEVICE byte names the sender, and its
EXP_GEN the generation that the sender has reached (R535; the form of the copy is the model's). -/
def State.isTwinCopy (s : State) (f : FabFrame) (q : Cmd) : Bool :=
  s.fab.twin.twinEn = 1 && f.src = twinOf s.devId && q.device = f.src.setWidth 8

/-- A command from the fabric is checked and executed (R533, R565). -/
def State.commandArrive (s : State) (k : Fin 4) (f : FabFrame) : State :=
  if !s.fabOn ∨ !s.cmdMode then s
  else if f.dest ≠ s.devId then s.forwardCtl f
  else match tilesOfBytes f.payload with
  | [] => s
  | t0 :: cont =>
    let src : Fin 64 := f.src.toFin
    let (op, q) := cmdOf (.fabric k src) t0 cont
    if !tileOk t0 then s.refuse op q .badCheck
    else if tilesOf t0 = 0 ∨ 64 < tilesOf t0 ∨ f.payload.length ≠ 64 * tilesOf t0 then s.refuse op q .badLength
    else if s.isTwinCopy f q then
      s.runHost op { q with path := .twin k src q.expGen, device := s.devId.setWidth 8, expGen := 0xFFFFFFFF }
    else s.accept (.fabric k src) t0 cont

/-- FABRIC_COMMAND_RECEIVE (R533). -/
def execFabricCommandReceive (k : Fin 4) (x : LinkRx) (s : State) : Out :=
  ok s (s.receive k x 1 fun f s => s.commandArrive k f)

/-- The status that a code names (R598); a code of no status reads INTERNAL. -/
def Status.ofCode (v : BitVec 16) : Status :=
  ([Status.ok, .pending, .replayed, .badOpcode, .badCheck, .badLength, .badParam, .notOwner, .staleGeneration, .wrongMode,
    .notQuiesced, .noRoom, .busy, .dirtyPresent, .unreachable, .timeout, .internal].find? fun e => e.code = v).getD .internal

/-- A reply read from its tiles (R561). -/
def replyOf (t0 : Tile) (tiles : List Tile) : Reply :=
  { opcode := t0.extractLsb' 0 12, status := Status.ofCode (t0.extractLsb' 16 16), device := t0.extractLsb' 32 8
    seq := t0.extractLsb' 48 16, gen := t0.extractLsb' 64 32, handle := t0.extractLsb' 96 32, data := t0.extractLsb' 128 352
    tiles := tiles.map fun t => t.extractLsb' 0 480 |>.setWidth 512 }

/-- A command sent to another device completes at this one with the reply that has come (R533). -/
def State.remoteDone (s : State) (e : RemoteCmd) (r : Reply) : State :=
  let n := s.requester e.cmd
  let s1 := s.modSl n fun h =>
    if r.status.code.toNat ≥ 0x100 then { h with st.cmdRejected := satInc h.st.cmdRejected }
    else { h with st.cmdAccepted := satInc h.st.cmdAccepted }
  s1.deliver e.cmd e.replyTiles r

/-- A reply ends the command that waits for it; a twin's report is compared with the reply that waits, which it does not
change (R535). A reply that nothing waits for is late (R534). -/
def State.replyArrive (s : State) (f : FabFrame) : State :=
  if !s.fabOn ∨ !s.cmdMode then s
  else if f.dest ≠ s.devId then s.forwardCtl f
  else match tilesOfBytes f.payload with
  | [] => s
  | t0 :: cont =>
    let r := replyOf t0 cont
    let mine (e : RemoteCmd) : Bool :=
      e.cmd.seq = r.seq && e.target = f.src && e.cmd.slice = f.extra.extractLsb' 32 8 && e.opcode = r.opcode
    match s.fab.remote.find? mine with
    | none => { s with fab.st.cmdLateReply := satInc s.fab.st.cmdLateReply }
    | some e =>
      let s1 := { s with fab.remote := s.fab.remote.erase e }
      match e.twin with
      | some w => (if r.status ≠ w.status ∨ r.gen ≠ w.gen then s1.desync else s1).deliver e.cmd e.replyTiles w
      | none => s1.remoteDone e r

/-- FABRIC_REPLY_RECEIVE (R533). -/
def execFabricReplyReceive (k : Fin 4) (x : LinkRx) (s : State) : Out := ok s (s.receive k x 2 fun f s => s.replyArrive f)

/-- CMD_TIMEOUT_EXPIRY: the oldest command whose time is over completes with TIMEOUT; a twin that does not report sets
TWIN_DESYNC (R534, R535). -/
def execCmdTimeoutExpiry (s : State) : Out :=
  ok s (match s.fab.remote.find? fun e => decide (e.due ≤ s.now) with
    | none => s
    | some e =>
      let s1 := { s with fab.remote := s.fab.remote.erase e }
      match e.twin with
      | some w => s1.desync.deliver e.cmd e.replyTiles w
      | none => s1.remoteDone e
          { opcode := e.opcode, status := .timeout, device := s.devId.setWidth 8, seq := e.cmd.seq, handle := e.cmd.handle })

/-! ## HELLO (R522) -/

/-- The HELLO of a link: link number, mode and ID state in its header; the payload holds this device's serial and the one
that this link hears, by which the device reports its neighbour (the model's layout). -/
def State.hello (s : State) (k : Nat) : FabFrame :=
  let l := s.link k
  { kind := 3, dest := 63, port := 63, src := s.devId
    extra := put 40 32 (BitVec.ofNat 2 k) ||| put 40 24 s.modeCode ||| put 40 27 s.fab.st.idState
    payload := beBytes Config.serial 8 ++ beBytes (if 0 < l.helloRun then l.helloSerial else 0) 8 }

/-- HELLO_SEND: on every enabled link with block lock, in every mode, every 10 µs. -/
def execHelloSend (s : State) : Out :=
  ok s (if s.now < s.fab.helloDue then s
    else (List.range 4).foldl (fun (s : State) k =>
      if (s.link k).cfg.enable = 1 ∧ (s.link k).lock then s.linkSend k (s.hello k) else s)
      { s with fab.helloDue := s.now + 10000 })

/-- The NEIGH fields of R512 from a HELLO. -/
def FabLink.heard (l : FabLink) (f : FabFrame) : FabLink :=
  { l with st := { l.st with
      neighId := f.src, neighLink := f.extra.extractLsb' 32 2, neighMode := f.extra.extractLsb' 24 3
      neighSerial := beBits 64 (slice f.payload 0 8) } }

/-- A HELLO: three in a row from one serial that hears this device bring the link UP; another serial takes an UP link
DOWN. -/
def State.helloArrive (s : State) (k : Nat) (f : FabFrame) : State :=
  let l := s.link k
  let serial : Word := beBits 64 (slice f.payload 0 8)
  if l.st.state = 3 ∧ serial ≠ l.st.neighSerial then s.linkFail k
  else
    let run := if 0 < l.helloRun ∧ serial = l.helloSerial then l.helloRun + 1 else 1
    let s1 := s.modLink k fun l => { l with helloRun := run, helloSerial := serial, helloAt := s.now }
    if l.st.state = 3 then s1.modLink k fun l => l.heard f
    else if 3 ≤ run ∧ beBits 64 (slice f.payload 8 8) = Config.serial then
      let s2 := s1.modLink k fun l => { l.heard f with st := { (l.heard f).st with state := 3 } }
      (s2.noteRoutes s1).floodLsa
    else s1

/-- HELLO_RECEIVE. -/
def execHelloReceive (k : Fin 4) (x : LinkRx) (s : State) : Out := ok s (s.receive k x 3 fun f s => s.helloArrive k f)

/-! ## DISCOVER and ANSWER (R523, R524) -/

/-- A flood is known by its root, its number, and whether it asks for answers or sets an ID. -/
def floodKey (f : FabFrame) : Word × Nat :=
  (beBits 64 (slice f.payload 0 8), beNat (slice f.payload 8 4) + if nthByte f.payload 12 = 0 then 0 else 2 ^ 32)

/-- A frame of a flood goes on, with HOPS counted as in R531. -/
def State.relay (s : State) (k : Nat) (f : FabFrame) : State :=
  if f.hops ≥ 7 then { s with fab.st.fabHops := satInc s.fab.st.fabHops }
  else s.flood { f with hops := f.hops + 1 } (some k)

/-- An ANSWER to a flood: root, number and kind as they came, and this device's answer. -/
def State.answerTo (s : State) (f : FabFrame) : FabFrame :=
  { kind := 5, dest := 63, port := 63, src := s.devId, payload := slice f.payload 0 13 ++ bytesOf (s.answerTile f.hops) 64 }

/-- A DISCOVER of another device: forwarded once, its first link recorded, answered. One that sets an ID acts at the
device with the serial that it names. A second root is counted. -/
def State.discoverArrive (s : State) (k : Nat) (f : FabFrame) : State :=
  let (root, n) := floodKey f
  if !s.sys.mode.live ∨ root = Config.serial ∨ s.fab.disc.seen.any (fun x => x.1 = root && x.2.1 = n) then s
  else
    let second : Bool := decide (n < 2 ^ 32) &&
      (s.fab.cfg.root = 1 || s.fab.disc.seen.any fun x => x.1 ≠ root && decide (x.2.1 < 2 ^ 32))
    let s1 := { s with fab.disc.seen := (root, n, k) :: s.fab.disc.seen
                       fab.st.rootConflict := if second then satInc s.fab.st.rootConflict else s.fab.st.rootConflict }
    let s2 := s1.relay k f
    if n < 2 ^ 32 then s2.linkSend k (s2.answerTo f)
    else if beBits 64 (slice f.payload 13 8) = Config.serial then
      let s3 := s2.takeId (if nthByte f.payload 22 = 1 then none else some ((nthByte f.payload 21).setWidth 6))
      s3.linkSend k (s3.answerTo f)
    else s2

/-- DISCOVER_RECEIVE. -/
def execDiscoverReceive (k : Fin 4) (x : LinkRx) (s : State) : Out :=
  ok s (s.receive k x 4 fun f s => s.discoverArrive k f)

/-- An ANSWER: collected at the root, or relayed on the link on which its DISCOVER came. -/
def State.answerArrive (s : State) (f : FabFrame) : State :=
  let (root, n) := floodKey f
  let t : Tile := leBits 512 (slice f.payload 13 64)
  if !s.sys.mode.live then s
  else if root = Config.serial then
    if n < 2 ^ 32 then
      if s.fab.disc.until'.isSome ∧ s.fab.disc.answers.length < 63 then
        { s with fab.disc.answers := s.fab.disc.answers ++ [t] } else s
    else if s.fab.idSet.any fun p => p.1 = t.extractLsb' 0 64 then
      { s with fab.idSet := none }.finish (fun w => w == Wait.idSet) .ok 0 []
    else s
  else match s.fab.disc.seen.find? fun x => x.1 = root && x.2.1 = n with
    | some x => if f.hops ≥ 7 then { s with fab.st.fabHops := satInc s.fab.st.fabHops }
        else s.linkSend x.2.2 { f with hops := f.hops + 1 }
    | none => s

/-- ANSWER_RECEIVE. -/
def execAnswerReceive (k : Fin 4) (x : LinkRx) (s : State) : Out := ok s (s.receive k x 5 fun f s => s.answerArrive f)

/-- DISCOVER_WINDOW_END: FABRIC_DISCOVER replies with the answers of devices FIRST and upward, in ID order (R614). -/
def execDiscoverWindowEnd (s : State) : Out :=
  ok s (match s.fab.disc.until' with
    | none => s
    | some t =>
      if s.now < t then s
      else
        let first := ((s.host.deferred.find? fun d => d.wait = .discover).map fun d => d.cmd.u8 16).getD 0
        let ts := (List.range 64).flatMap fun i =>
          if i < first then [] else s.fab.disc.answers.filter fun a => a.extractLsb' 72 8 = BitVec.ofNat 8 i
        { s with fab.disc.until' := none, fab.disc.answers := [] }.finish (fun w => w == Wait.discover) .ok
          (dat 16 (BitVec.ofNat 8 s.fab.disc.answers.length)) ts)

/-- FABRIC_ID_SET_TIMEOUT (R524). -/
def execFabricIdSetTimeout (s : State) : Out :=
  ok s (if s.fab.idSet.any fun p => decide (p.2 ≤ s.now) then
    { s with fab.idSet := none }.finish (fun w => w == Wait.idSet) .unreachable 0 [] else s)

/-! ## Link-state advertisements (R525 to R527) -/

/-- An LSA read from its payload. -/
def Lsa.ofBytes (bs : List Byte) : Lsa :=
  let b (i : Nat) : Byte := nthByte bs i
  let n := (b 14).toNat
  { id := (b 0).setWidth 6, serial := beBits 64 (slice bs 1 8), mode := (b 9).setWidth 3, seq := beBits 32 (slice bs 10 4)
    links := (List.range n).map fun i => ((b (15 + 2 * i)).setWidth 2, (b (16 + 2 * i)).setWidth 6)
    accepts := (List.range (b (15 + 2 * n)).toNat).map fun i => (b (16 + 2 * n + i)).setWidth 6 }

/-- A number follows another, or belongs to a device that has started anew. -/
def lsaNewer (new old : Word32) : Bool :=
  let d := (new - old).toInt
  decide (0 < d) || decide (d < -1024)

/-- An LSA of another device is kept and relayed once; this device's ID under another serial is a conflict, which a device
in CONFLICT watches and does not relay. -/
def State.lsaArrive (s : State) (k : Nat) (f : FabFrame) : State :=
  let l := Lsa.ofBytes f.payload
  let known : Bool := match s.lsa l.serial with | some o => !lsaNewer l.seq o.seq | none => false
  if l.serial = Config.serial ∨ known ∨ (s.sys.mode = .boot ∧ !s.sys.hostReady) then s
  else
    let s1 := { s with fab.lsas := Tab.set none s.fab.lsas l.serial.toNat (some l) }
    let s2 := if l.id = s.devId then { s1 with fab.conflictAt := s.now } else s1
    let s3 := if l.id = s.devId ∧ s.fab.st.idState ≠ 2 then
        { s2 with fab.st.idState := 2 }.reportDev 0x0C01 s.devId.toNat (put 288 0 l.serial)
      else s2
    if s.fab.st.idState = 2 then s3 else s3.flood f (some k)

/-- LSA_RECEIVE. -/
def execLsaReceive (k : Fin 4) (x : LinkRx) (s : State) : Out := ok s (s.receive k x 6 fun f s => s.lsaArrive k f)

/-- LSA_FLOOD: 1 ms after the last flood (R526). -/
def execLsaFlood (s : State) : Out := ok s (if s.fab.lsaDue ≤ s.now then s.floodLsa else s)

/-- ID_CONFLICT_CLEAR: for 10 ms no other serial has advertised the device's ID (R525). -/
def execIdConflictClear (s : State) : Out :=
  ok s (if s.fab.st.idState = 2 ∧ s.fab.conflictAt + 10000000 ≤ s.now then
    { s with fab.st.idState := if s.selv.fabricId.isSome then 1 else 0 }.floodLsa else s)

/-- ROUTE_RECOMPUTE (R527). -/
def execRouteRecompute (s : State) : Out := ok s s.recompute

/-! ## TIME (R536) -/

/-- The link on which this device's own time arrives; 7 for none. -/
def State.timeLink (s : State) : BitVec 3 := if s.time.cfg.source = 3 then s.fab.cfg.wallLink.setWidth 3 else 7

/-- TIME_SEND: a TIME frame on every UP link, once in 1 ms; a device in CONFLICT sends none (R525). -/
def execTimeSend (s : State) : Out :=
  let f : FabFrame := { kind := 8, dest := 63, port := 63, src := s.devId
                        extra := put 40 32 s.time.st.wallUnsync ||| put 40 33 s.timeLink }
  ok s (if s.fab.timeDue ≤ s.now ∧ s.fab.st.idState ≠ 2 then
    { s with fab.timeDue := s.now + 1000000 }.flood f none else s)

/-- A TIME frame gives the link's delay and this device's offset from the neighbour; on WALL_LINK, under SOURCE FABRIC, the
wall servo follows it unless the neighbour is unsynchronised or takes its time from this device. -/
def State.timeArrive (s : State) (k : Nat) (delay off : Int) (f : FabFrame) : State :=
  if s.fab.st.idState = 2 then s else
  let un : Bool := f.extra.getLsbD 32
  let from' := (f.extra.extractLsb' 33 3).toNat
  let s1 := s.modLink k fun l => { l with delayNs := delay, offsetNs := off, neighUnsync := un, neighWallLink := from' }
  if s.time.cfg.source = 3 ∧ s.fab.cfg.wallLink.toNat = k then
    if un ∨ from' = (s.link k).st.neighLink.toNat then s1.setUnsync else s1.wallOffset off true
  else s1

/-- TIME_RECEIVE: with what the four timestamps give, delay and offset in ns. -/
def execTimeReceive (k : Fin 4) (x : LinkRx) (delay off : Int) (s : State) : Out :=
  ok s (s.receive k x 8 fun f s => s.timeArrive k delay off f)

/-! ## Twins (R538 to R540) -/

/-- A twinned device in COMMISSION, RUN or SHADOW sends heartbeats every 1 µs. -/
def execHeartbeatSend (s : State) : Out :=
  ok s (if s.sys.mode.live ∧ s.fab.hbDue ≤ s.now then { s with fab.hbDue := s.now + 1000 }.heartbeats false else s)

/-- A heartbeat at the end of its path: it holds the path; TAKEOVER makes a shadow take over, and two devices in RUN
conflict. -/
def State.heartbeatHere (s : State) (f : FabFrame) : State :=
  if s.fab.twin.twinEn = 0 ∨ f.src ≠ twinOf s.devId then { s with fab.st.fabHbMisroute := satInc s.fab.st.fabHbMisroute }
  else
    let p := (f.extra.extractLsb' 0 8).toNat
    let mode : BitVec 3 := (nthByte f.payload 1).setWidth 3
    let s1 := { s with fab.hb := Tab.set {} s.fab.hb p { held := true, at' := s.now } }.pairHeard mode
    if nthByte f.payload 6 = 1 then s1.takeover
    else if mode = 2 then s1.twinConflict
    else s1

/-- A heartbeat goes on along its path, or has reached its end. -/
def State.heartbeatArrive (s : State) (f : FabFrame) : State :=
  let path : BitVec 32 := f.extra.extractLsb' 8 32
  if !s.sys.mode.live ∨ s.fab.st.idState = 2 then s
  else if f.hops + 1 < hbHops path then
    let l := hbLink path (f.hops + 1)
    if (s.link l).st.state = 3 then s.linkSend l { f with hops := f.hops + 1 } else s
  else s.heartbeatHere f

/-- HEARTBEAT_RECEIVE. -/
def execHeartbeatReceive (k : Fin 4) (x : LinkRx) (s : State) : Out := ok s (s.receive k x 7 fun f s => s.heartbeatArrive f)

/-- HEARTBEAT_PATH_LOSS: 8 µs without a heartbeat; with the last path a shadow takes over, and a device in RUN is LOST
(R538, R539). -/
def execHeartbeatPathLoss (p : Fin 4) (s : State) : Out :=
  let h := Tab.get ({} : HbPath) s.fab.hb p
  ok s (if h.held ∧ h.at' + 8000 ≤ s.now then
    let s1 := { s with fab.hb := Tab.set {} s.fab.hb p {} }
    if (List.range 4).any s1.pathHeld then s1
    else if s1.sys.mode = .shadow then s1.takeover
    else if s1.sys.mode = .run then { s1 with fab.st.twinState := 2 }.reportDev 0x0C02 0 0
    else s1
    else s)

end Sys2Proof.Machine
end

