-- ==== Sys2Proof/Machine/Startup.lean ====
section
/-!
DEFINITION. Reset and start-up, chapters 20 and 21: the resets and what survives them (R621, R622), the 24 steps with
their records, levels, limits and alternates (R627 to R634), automatic restart (R640), reference clocks (R661) and
thermal outputs (R673).
-/
namespace Sys2Proof.Machine

/-! ## Reset (R621, R622) -/

/-- A step left at START counts as a failure of its start, unless this start has counted it already (R631). -/
def State.failOnce (s : State) (n : Nat) : State :=
  if s.sys.failedNow.contains n ∨ !s.selv.opened then s
  else { s with sys.failedNow := n :: s.sys.failedNow, selv.failCount := Tab.upd 0 s.selv.failCount n (· + 1) }

/-- The persistent part of Selvedge (R646): rings, snapshot area and records. -/
def Selvedge.kept (v : Selvedge) (cause : Nat) : Selvedge :=
  { v with snapNow := none, queue := [], dropped := 0, droppedSince := false, writeAt := 0, stopped := false, opened := false
           stepHung := [], resetCause := BitVec.ofNat 8 cause }

/-- A device reset with its RESET_CAUSE: everything is as after reset, but for the fuses, the boot flash, the persistent
records, the sampled straps, the present state of the reference clocks, and the thermal latch. A step that was in
progress is known to the next start (R630). The start finds the records as their copies hold them (R646). The model's own record of outputs, of what CP2's areas hold (R340), its queue
and its count of free values go on. -/
def State.afterReset (s : State) (cause : Nat) : State :=
  let v := s.selv.saved.recovered
  let s1 := (v.stepHung.map (·.1)).foldl State.failOnce { s with selv := v }
  let hung : Tab (Option Nat) := v.stepHung.map fun p => (p.1, some (Tab.get 0 v.stepLevel p.1))
  { State.reset with
    time.free := s.time.free, out := s.out, pending := s.pending, selv := s1.selv.kept cause
    weft.saved := s.weft.saved
    sys := { State.reset.sys with
      flash := s.sys.flash, idSel := s.sys.idSel, refLost := s.sys.refLost, thermAlert := s.sys.thermAlert
      thermTrip := s.sys.thermTrip, prevHung := hung } }

/-- The writer takes every queued entry (R645). -/
def State.drainSelv : Nat → State → State
  | 0, s => s
  | n + 1, s =>
    match s.selv.nextEntry with
    | none => s
    | some e =>
      let s1 := { s with selv.queue := s.selv.queue.erase e }
      State.drainSelv n (s1.storeEntry e (s1.recordTile e))

/-- A DEV_RESET or an AUTO_RESTART writes DEVICE_RESET before it acts (R550, R621). -/
def State.deviceReset (s : State) (cause : Nat) : State :=
  if s.selv.opened ∧ !s.selv.stopped then
    let s1 := State.drainSelv s.selv.queue.length s
    let s2 := s1.reportDev 0x0D06 0 0
    (State.drainSelv s2.selv.queue.length s2).afterReset cause
  else s.afterReset cause

/-! ## The steps (R627) -/

/-- The limit of a step in ns. -/
def stepLimit (n : Nat) : Nat :=
  1000000 * (([10, 50, 20, 10, 500, 5, 5, 200, 100, 50, 100, 20] ++
    [11000, 100, 10, 100, 5, 100, 1, 20, 50, 1000, 1, 5]).getD (n - 1) 0)
/-- The last level of a step. -/
def stepLast (n : Nat) : Nat := if n = 13 then 2 else if n = 4 ∨ n = 5 ∨ n = 8 ∨ n = 16 ∨ n = 18 then 1 else 0
/-- A step of kind OPT. -/
def stepOpt (n : Nat) : Bool := n = 8 || n = 9 || n = 16 || n = 18 || n = 22

/-- A STEP_RECORD entry (R628); `us` is the time since the step's START. -/
def State.stepRecord (s : State) (n out level detail us : Nat) : State :=
  if s.selv.opened then
    s.queueSelv { area := 1, code := 0x0D02, mode := s.sys.mode, wall := s.wall, handle := 0
                  payload := put 288 0 (BitVec.ofNat 8 n) ||| put 288 8 (BitVec.ofNat 8 out) |||
                    put 288 16 (BitVec.ofNat 8 level) ||| (if n = 1 then put 288 24 s.selv.resetCause else 0) |||
                    put 288 32 (satNat 32 us) ||| put 288 64 (BitVec.ofNat 32 detail) }
  else s

/-- Time since the START of the present step in µs. -/
def State.stepUs (s : State) : Nat := (s.now - s.sys.stepStart) / 1000

/-- The board carries DRAM (R476). -/
def State.board (s : State) : DramBoard := DramBoard.ofTile s.dram.board
/-- The DRAM board record is refused (R477); its reserved bits are ignored (R8). -/
def State.boardBad (s : State) : Bool :=
  let b := s.board
  !tileOk s.dram.board || (b.chMask ≠ 1 && b.chMask ≠ 3) ||
    decide (b.speedMax.toNat > 4) || (b.width = 0 && b.density = 1 && b.ranks = 1)
/-- DRAM size in MiB (R477). -/
def DramBoard.sizeMib (b : DramBoard) : Nat :=
  4096 * (if b.width = 0 then 2 else 1) * (if b.density = 1 then 2 else 1) * (if b.ranks = 1 then 2 else 1) *
    (if b.chMask = 3 then 4 else 2)

/-- A step begins at a level: BOOT_STEP and the start-up ring show START (R628, R549). ST13 begins to train; ST22 enters
COMMISSION, and ST23 begins the change to RUN, as R634 gives. -/
def State.startStep (s : State) (n level : Nat) : State :=
  let s1 := { s with sys.step := n, sys.outcome := 0, sys.level := level, sys.stepStart := s.now }
  let s2 := if s1.selv.opened then { s1 with selv.stepHung := Tab.set false s1.selv.stepHung n true
                                             selv.stepLevel := Tab.set 0 s1.selv.stepLevel n level } else s1
  let s3 := s2.stepRecord n 0 level 0 0
  if n = 13 ∧ level < 2 then { s3 with dram.st.state := 1 }
  else if n = 22 ∧ s3.sys.boot.targetMode ≠ 0 then s3.enterMode .commission false
  else if n = 23 ∧ s3.sys.boot.targetMode = 2 ∧ s3.sys.scriptOk ∧ s3.sys.mode = .commission ∧ !s3.modeBusy ∧
      s3.modeReady .commission .run then s3.beginMode .run
  else s3

/-- A step ends DONE, FAIL or SKIPPED: its record, and what the STEPS record keeps (R628, R631). -/
def State.closeStep (s : State) (out detail : Nat) : State :=
  let n := s.sys.step
  let s1 := { s with sys.outcome := BitVec.ofNat 2 out }.stepRecord n out s.sys.level detail s.stepUs
  let s2 := { s1 with selv.stepHung := Tab.set false s1.selv.stepHung n false }
  if out = 1 ∧ s2.selv.opened then { s2 with selv.failCount := Tab.set 0 s2.selv.failCount n 0 } else s2

/-- A step is not run: its record says SKIPPED. -/
def State.skipStep (s : State) (n : Nat) : State :=
  { s with sys.step := n, sys.level := 0, sys.stepStart := s.now, sys.scriptOk := s.sys.scriptOk && n ≠ 22 }.closeStep 3 0

/-- The device runs without DRAM (R492): ST13 ends DONE at level 2. -/
def State.noDram (s : State) : State :=
  let s1 := { s with dram.st.state := 0, dram.st.sizeMib := 0, sys.dramSpeed := 0xFF }
  let s2 := if s1.board.dramEn = 1 then s1.reportDev 0x0B02 0 0 else s1
  (if s2.sys.level = 2 then s2 else s2.startStep 13 2).closeStep 1 0xFF

/-- The first level of a step in this start (R630). -/
def State.firstLevel (s : State) (n : Nat) : Nat :=
  match Tab.get none s.sys.prevHung n with
  | some l => if l < stepLast n then l + 1 else 0
  | none => 0

/-- The steps from a number on: those that do not run are recorded, and the first that runs begins. -/
def State.beginStep : Nat → Nat → State → State
  | 0, _, s => s
  | fuel + 1, n, s =>
    if n > 24 then s
    else if n = 13 ∧ (s.board.dramEn = 0 ∨ s.boardBad) then State.beginStep fuel 14 (s.startStep 13 2).noDram
    else if (n = 14 ∨ n = 15) ∧ !s.dramOn then State.beginStep fuel (n + 1) (s.skipStep n)
    else if stepOpt n ∧ Tab.get 0 s.selv.failCount n ≥ 3 then
      State.beginStep fuel (n + 1) ((s.skipStep n).reportDev 0x0D03 0 (put 288 0 (BitVec.ofNat 8 n)))
    else s.startStep n (s.firstLevel n)

/-- The next step. -/
def State.nextStep (s : State) : State := State.beginStep 24 (s.sys.step + 1) s

/-- The present step ends DONE, and the next begins. -/
def State.stepDone (s : State) (detail : Nat) : State := (s.closeStep 1 detail).nextStep

/-- The device goes to SAFE with the recovery firmware (R632). -/
def State.recover (s : State) : State :=
  let s1 := s.enterMode .safe false
  let s2 := if s1.selv.opened then { s1 with selv.safeStarts := s1.selv.safeStarts + 1 } else s1
  { s2 with sys := { s2.sys with started := true, recovery := true, hostReady := true, safeSince := some s2.now
                                 autoRestart := true, st02Failed := s.sys.step = 2 } }

/-- The present step fails: its next level at once, else what its kind gives (R630 to R632). ST13 goes on without DRAM
and never fails; a DRAM step that fails leaves the device without DRAM. -/
def State.stepFailed (s : State) (detail : Nat) : State :=
  let n := s.sys.step
  if n = 13 then (if s.sys.level = 0 then s.startStep 13 1 else s.noDram.nextStep)
  else
    let s1 := ((if n = 22 then { s with sys.scriptOk := false } else s).failOnce n).closeStep 2 detail
    if s.sys.level < stepLast n then s1.startStep n (s.sys.level + 1)
    else if stepOpt n then s1.nextStep
    else if n = 14 ∨ n = 15 then
      ({ s1 with dram.st.state := 0, dram.st.sizeMib := 0, sys.dramSpeed := 0xFF }.reportDev 0x0B02 0 0).nextStep
    else if n = 1 ∨ n = 3 then { s1 with sys.stopped := true }
    else s1.recover

/-! ## What each step does -/

/-- The newest valid entry of a ring by serial comparison: slot and tile (R644). -/
def newestEntry (t : Tab Tile) : Option (Nat × Tile) :=
  (t.filter fun p => selvGood p.2).foldl (fun (b : Option (Nat × Tile)) p =>
    match b with
    | none => some p
    | some q => if serialLt (selvSeq q.2) (selvSeq p.2) then some p else some q) none

/-- ST02: both rings are scanned; heads, sequence numbers, START_NO and TORN_SEEN follow, and the entries of ST01 and ST02
are written (R628, R644). -/
def State.openSelv (s : State) : State :=
  let v := s.selv
  let ev := newestEntry v.events
  let su := newestEntry v.startup
  let good (t : Tab Tile) : Nat := (t.filter fun p => selvGood p.2).length
  let v1 := match ev with | some (i, t) => { v with evHead := (i + 1) % 16384, evSeq := selvSeq t + 1 } | none => v
  let v2 := match su with | some (i, t) => { v1 with suHead := (i + 1) % 4096, suSeq := selvSeq t + 1 } | none => v1
  let wall (x : Option (Nat × Tile)) : Word := match x with | some (_, t) => selvWall t | none => 0
  let newest := if (wall ev).toNat < (wall su).toNat then wall su else wall ev
  let s1 := { s with selv := { v2 with opened := true, startCount := v2.startCount + 1 }
                     sys := { s.sys with startNo := v2.startCount + 1, lastWall := newest } }
  let s2 := s1.bumpBy .tornSeen 0 (16384 + 4096 - good v.events - good v.startup)
  (((s2.stepRecord 1 0 0 0 0).stepRecord 1 1 0 0 (s.sys.stepStart / 1000)).stepRecord 2 0 0 0 0).stepDone 0

/-- ST05: the slot of the level is verified (R625, R630). -/
def State.loadImage (s : State) : State :=
  let slot : BitVec 1 := if s.sys.level = 0 then s.selv.activeSlot else ~~~ s.selv.activeSlot
  match s.imageOk slot.toNat with
  | none => s.stepFailed slot.toNat
  | some h =>
    let s1 := { s with sys := { s.sys with fwVer := h.fwVer, imageSlot := slot, imageRollback := h.rollback }
                       selv.activeSlot := slot }
    (if s.sys.level = 1 then s1.reportDev 0x0D04 0 (put 288 0 (slot.setWidth 8)) else s1).stepDone slot.toNat

/-- ST06: boot record and DRAM board record; a reserved TARGET_MODE is refused (R7, R626). -/
def State.readBoard (s : State) : State :=
  let b := BootRec.ofTile (s.unit s.sys.imageSlot.toNat 1)
  let s1 := { s with dram.board := s.unit s.sys.imageSlot.toNat 2 }
  if b.targetMode.toNat > 2 then s.stepFailed 0
  else { s1 with sys.boot := b, sys.bootRead := true }.stepDone 0

/-- ST10: retired cores stay RETIRED, those that fail join them; the 64 lowest that pass are ACTIVE from the first live
mode on, the others SPARE (R278, R279). -/
def State.testCores (s : State) (bad : List (Fin 68)) : State :=
  let lost := bad.filter fun c => !s.selv.retired.contains c.val
  let s1 := { s with selv.retired := s.selv.retired ++ lost.map (·.val) }
  let good := (List.range 68).filter fun c => !s1.selv.retired.contains c
  let s2 := (List.range 68).foldl (fun (s : State) c => s.modCore c fun k =>
    if good.contains c then { k with st := { k.st with state := 6 }, wasSpare := !(good.take 64).contains c, recover := false }
    else { k with st := { k.st with state := 5 } }) s1
  let s3 := lost.foldl (fun (s : State) c => s.reportDev 0x0102 c.val 0) s2
  (if good.length < 64 then s3.reportDev 0x0104 0 0 else s3).stepDone good.length

/-- ST13 ends with DRAM at a speed code (R488 to R490). -/
def State.dramDone (s : State) (speed falls : Nat) (stored : Bool) : State :=
  let d := { s.dram.st with state := 2, speed := BitVec.ofNat 3 speed, trainSrc := bit stored
                            fallbacks := BitVec.ofNat 3 falls, sizeMib := BitVec.ofNat 32 s.board.sizeMib }
  let s1 := { s with dram.st := d, sys.dramSpeed := BitVec.ofNat 8 speed }
  (if 0 < falls then s1.reportDev 0x0B01 0 (put 288 0 (BitVec.ofNat 8 speed)) else s1).stepDone speed

/-- ST13: stored values at level 0, when the record fits and the previous start's DRAM step came to its end; a full
training at level 1, at the highest speed that passes (R489, R490). -/
def State.trainDram (s : State) (e : StepEnd) : State :=
  let crc := crc32c (bytesOf s.dram.board 60)
  let max := s.board.speedMax.toNat
  if s.sys.level = 0 then
    let fits : Bool := match s.selv.trained with
      | some (_, b, i) => decide (b = crc ∧ i = e.identity) && (Tab.get none s.sys.prevHung 13).isNone
      | none => false
    if fits ∧ e.pass then
      let sp := (s.selv.trained.map (·.1.toNat)).getD 0
      s.dramDone sp (sp - max) true
    else (if s.selv.trained.isSome then s.reportDev 0x0B03 0 0 else s).startStep 13 1
  else match if e.pass then e.fallbacks else none with
    | some f =>
      if max + f ≤ 4 then
        { s with selv.trained := some (BitVec.ofNat 8 (max + f), crc, e.identity) }.dramDone (max + f) f false
      else s.noDram.nextStep
    | none => s.noDram.nextStep

/-- ST18: the links of LINK_EN are enabled with the preset of the level (R626). -/
def State.raiseLinks (s : State) : State :=
  let b := s.sys.boot
  let p := if s.sys.level = 0 then b.fabPreset else b.fabAltPreset
  ((List.range 4).foldl (fun (s : State) k =>
    if b.linkEn.getLsbD k then s.modLink k fun l =>
      { l with cfg := { l.cfg with enable := 1, eqPreset := p.extractLsb' (3 * k) 3 } }
    else s) s).stepDone 0

/-- One command of the script from a unit on: the state after it, the next unit, and whether it has failed (R634). It
executes as a command of SL0; one whose reply is still due goes on by itself. -/
def State.scriptCmd (s : State) (slot u : Nat) : State × Nat × Bool :=
  let t0 := s.unit slot u
  let k := tilesOf t0
  let (op, q) := cmdOf .script t0 ((List.range (k - 1)).map fun i => s.unit slot (u + 1 + i))
  if k = 0 ∨ 2 < k then (s, u, true)
  else
    let s1 := { s with sys.lastReply := none }
    let s2 := if q.slice ≠ 0 then s1.refuse op q .badParam else s1.accept .script t0 q.cont
    (s2, u + k, s2.sys.lastReply.any fun r => r.status ≠ .ok)

/-- The script runs to its end or to its first failing command, whose index is given. -/
def State.script (slot : Nat) : Nat → Nat → Nat → State → State × Option Nat
  | 0, _, _, s => (s, none)
  | n + 1, i, u, s =>
    let (s1, u1, bad) := s.scriptCmd slot u
    if bad then (s1, some i) else State.script slot n (i + 1) u1 s1

/-- ST22: the start-up script (R634). -/
def State.runScript (s : State) : State :=
  let slot := s.sys.imageSlot.toNat
  match ImageHdr.ofTile (s.unit slot 0) with
  | none => s.stepDone 0
  | some h =>
    if h.script = 0 then s.stepDone 0
    else match State.script slot h.scriptCmds 0 h.script s with
      | (s1, none) => s1.stepDone 0
      | (s1, some i) => s1.stepFailed i

/-- ST24: the persistent records, and START_DONE (R625, R646, R651). -/
def State.startDone (s : State) : State :=
  let s1 := { s with sys.started := true, selv.safeStarts := if s.sys.mode = Mode.safe then s.selv.safeStarts else 0 }
  let s2 := if s1.sys.mode = .run ∧ s1.selv.fuseLevel < s1.sys.imageRollback then
      { s1 with selv.fuseLevel := s1.sys.imageRollback } else s1
  (s2.closeStep 1 0).reportDev 0x0D01 0
    (put 288 0 s.sys.startNo ||| put 288 32 s.sys.mode.code ||| put 288 40 s.sys.dramSpeed)

/-- The method of the present step has succeeded. -/
def State.stepPassed (s : State) (e : StepEnd) : State :=
  match s.sys.step with
  | 1 => { s with sys.vid := some Config.vidCode }.stepDone 0
  | 2 => s.openSelv
  | 5 => s.loadImage
  | 6 => s.readBoard
  | 10 => s.testCores e.badCores
  | 17 => (s.takeId s.selv.fabricId).stepDone 0
  | 18 => s.raiseLinks
  | 19 => { s with time.wall := s.sys.lastWall + BitVec.ofNat 64 s.now, time.st.wallUnsync := 1 }.stepDone 0
  | 21 => { s with sys.hostReady := true }.stepDone 0
  | 22 => s.runScript
  | 23 =>
    if s.modeBusy then s
    else s.stepDone (if s.sys.boot.targetMode = 2 ∧ s.sys.mode = .commission then 1 else 0)
  | 24 => s.startDone
  | _ => s.stepDone 0

/-- Start-up still runs. -/
def State.starting (s : State) : Bool := !s.sys.started && !s.sys.stopped

/-- STARTUP_STEP_DONE (R627 to R634): the method of the present step ends. -/
def execStartupStepDone (e : StepEnd) (s : State) : Out :=
  ok s (if !s.starting then s
    else if s.sys.step = 13 then s.trainDram e
    else if e.pass then s.stepPassed e
    else s.stepFailed 0)

/-- STEP_LIMIT_EXPIRY (R629): the present step has passed its limit while the command processor runs. -/
def execStepLimitExpiry (s : State) : Out :=
  ok s (if s.starting ∧ s.sys.stepStart + stepLimit s.sys.step ≤ s.now then s.stepFailed 0 else s)

/-- BOOT_WDG (R629): the present step has passed twice its limit; the device resets and the step stays at START. -/
def execBootWdg (s : State) : Out :=
  ok s (if s.starting ∧ s.sys.stepStart + 2 * stepLimit s.sys.step ≤ s.now then s.afterReset 3 else s)

/-- AUTO_RESTART (R640). -/
def execAutoRestart (s : State) : Out := ok s (if s.restartDue then s.deviceReset 4 else s)

/-! ## Pins -/

/-- An entry that a brown-out interrupts stays torn in its slot (R643, R659); so does the copy of the records that was
being written, and the other stands (R646). -/
def State.tear (s : State) : State :=
  if s.selv.stopped ∨ !s.selv.opened then s
  else if s.selv.records ≠ s.selv.recNew then { s with selv := { s.selv with oldBad := true }.recovered }
  else match s.selv.nextEntry with
  | none => s
  | some e =>
    let t := s.recordTile e
    if e.area = 0 then { s with selv.events := Tab.upd 0 s.selv.events s.selv.evHead (tornTile · t) }
    else if e.area = 1 then { s with selv.startup := Tab.upd 0 s.selv.startup s.selv.suHead (tornTile · t) }
    else match s.selv.snapNow with
      | some (slot, _) =>
        { s with selv.snap := Tab.upd 0 s.selv.snap (slot * 2048 + Tab.get 0 s.selv.snapLen slot) (tornTile · t) }
      | none => s

/-- RESET (R621, R659, R664): it acts on a stopped device too. Supplies that come up clear the thermal latch and find the
reference clocks running (R657, R673). While TEST_N is low the device stays in reset; its release counts as the pin's
reset. -/
def execReset (src : ResetSrc) (s : State) : Out :=
  .next (match src with
    | .powerOn straps =>
      let t := s.afterReset 0
      { t with sys := { t.sys with idSel := straps, thermTrip := false, thermAlert := false, refLost := [] } }
    | .resetN straps => if s.sys.testN then { s.afterReset 1 with sys.idSel := straps } else s
    | .brownOut torn => (if torn then s.tear else s).afterReset 0
    | .testN low =>
      let t := s.afterReset 1
      if low then { t with sys := { t.sys with testN := false, stopped := true } }
      else if s.sys.testN then s else t)

/-- THERM_ALERT (R673): a sensor reaches 105 °C, or all are below 100 °C. -/
def execThermAlert (hot : Bool) (s : State) : Out :=
  ok s (if s.sys.thermAlert = hot then s else { s with sys.thermAlert := hot }.emit (.thermAlert hot))

/-- THERM_TRIP (R673): latched until the next power-on. -/
def execThermTrip (s : State) : Out :=
  ok s (if s.sys.thermTrip then s else { s with sys.thermTrip := true }.emit .thermTrip)

/-- SYS_XIN_LOSS (R661): the device stops without a Selvedge entry. -/
def execSysXinLoss (s : State) : Out := ok s { s with sys := { s.sys with xinLost := true, stopped := true } }

end Sys2Proof.Machine
end

