-- ==== Sys2Proof/Machine/Transport.lean ====
section
/-!
DEFINITION. How commands and data cross the host interface: BAR0 (R546 to R552), the doorbells and rings of a slice (R557
to R559, R566), event items (R574), host DMA rings (R576 to R578), the management port (R579, R580), the resets of the host
interface (R545), the ends of a quiesce and of a slice reset (R585, R587), pointer resets (R139, R146) and the reference
clocks (R661).
-/
namespace Sys2Proof.Machine

/-! ## BAR0 -/

/-- BOOT_STEP (R549). -/
def State.bootStep (s : State) : BootStep :=
  { step := BitVec.ofNat 5 s.sys.step, outcome := s.sys.outcome, alt := bit (decide (0 < s.sys.level)), mode := s.modeCode
    hostReady := bit s.sys.hostReady }

/-- The doorbell word SQ_TAIL_n as it reads (R558). -/
def SliceHost.sqWord (h : SliceHost) : Word32 :=
  put 32 0 h.sqTail ||| put 32 16 h.st.sqFetch ||| put 32 31 h.st.sqHalted
/-- The doorbell word CQ_HEAD_n as it reads (R558). -/
def SliceHost.cqWord (h : SliceHost) : Word32 := put 32 0 h.cqHead ||| put 32 16 h.st.cqResv

/-- An access of BAR0 that R547 does not allow: only the MSI-X table takes 64-bit ones. -/
def barBad (a size : Nat) : Bool :=
  !((size = 4 && a % 4 = 0) || (size = 8 && a % 8 = 0 && decide (0x8000 ≤ a ∧ a < 0x9000)))

/-- Four bytes of BAR0 (R546). -/
def State.barWord (s : State) (a : Nat) : Word32 :=
  if a < 0x40 then s.host.identLatch.extractLsb' (8 * a) 32
  else if a = 0x40 then s.bootStep.toTile
  else if a = 0x48 then s.host.irq.setWidth 32
  else if a = 0x4C then s.host.irq.extractLsb' 32 32
  else if 0x140 ≤ a ∧ a < 0x180 then s.host.mboxOut.extractLsb' (8 * (a - 0x140)) 32
  else if 0x8000 ≤ a ∧ a < 0x9000 then leBits 32 ((List.range 4).map fun i => s.msixByte (a - 0x8000 + i))
  else if 0x9000 ≤ a ∧ a < 0x9020 then s.host.pba.extractLsb' (8 * (a - 0x9000)) 32
  else if 0x10000 ≤ a ∧ a < 0x50000 then
    let h := s.sl ((a - 0x10000) / 0x1000)
    if a % 0x1000 = 0 then h.sqWord else if a % 0x1000 = 4 then h.cqWord else 0
  else 0

/-- IDENT_READ: a read of BAR0 (R546 to R549); that of IDENT's first word latches all of it (R548). -/
def execIdentRead (addr : BitVec 19) (size : Nat) (s : State) : Out :=
  let a := addr.toNat
  let s1 : State := if a = 0 then { s with host.identLatch := s.ident.toTile } else s
  ok s (if barBad a size then (s.bump .barBadAccess 0).emit (.barRead a 0xFFFFFFFF)
    else s1.emit (.barRead a (if size = 8 then s1.barWord (a + 4) ++ s1.barWord a else (s1.barWord a).setWidth 64)))

/-- Bytes of the MSI-X table are written; a vector that is pending and no longer masked is signalled (R546, R556). -/
def State.msixWrite (s : State) (a : Nat) (bs : List Byte) : State :=
  let stored : List Byte := (List.range bs.length).map fun i => nthByte bs i ^^^ (if (a + i) % 16 = 12 then 1 else 0)
  let s1 : State := { s with host.msix := Mem.write s.host.msix a stored }
  let v := a / 16
  if s1.host.pba.getLsbD v && !(s1.msixByte (16 * v + 12)).getLsbD 0 then
    { s1 with host.pba := s1.host.pba &&& ~~~ ((1 : BitVec 256) <<< v) }.emit (.msix v)
  else s1

/-- A write of DEV_RESET (R550): it arms, acts or disarms. -/
def State.writeDevReset (s : State) (v : Word32) : State :=
  if v = 0xA5A5 then { s with host.resetArm := some (s.now + 1000000) }
  else if v = 0x5A5A ∧ s.host.resetArm.any (fun t => decide (s.now ≤ t)) then s.deviceReset 2
  else { s with host.resetArm := none }

/-- DEV_RESET_WRITE (R550). -/
def execDevResetWrite (v : BitVec 32) (s : State) : Out := ok s (s.writeDevReset v)

/-- DEV_RESET_ARM_EXPIRY (R550). -/
def execDevResetArmExpiry (s : State) : Out :=
  ok s (if s.host.resetArm.any fun t => decide (t < s.now) then { s with host.resetArm := none } else s)

/-- Half of IRQ_STATUS, 0 the low one, is written: ones clear (R551). -/
def State.writeIrq (s : State) (hi : Bool) (v : Word32) : State :=
  { s with host.irq := s.host.irq &&& ~~~ (put 64 (if hi then 32 else 0) v) }

/-- IRQ_STATUS_WRITE (R551). -/
def execIrqStatusWrite (hi : Bool) (v : BitVec 32) (s : State) : Out := ok s (s.writeIrq hi v)

/-- Four bytes of MBOX_IN. -/
def State.mboxStore (s : State) (o : Nat) (v : Word32) : State :=
  { s with host.mboxIn := put 512 (8 * o) v ||| (s.host.mboxIn &&& ~~~ put 512 (8 * o) (BitVec.allOnes 32)) }

/-- The write of bytes 60 to 63 of MBOX_IN submits a command once HOST_READY is 1 (R552, R549): while one is pending it is
ignored and counted. -/
def State.mboxSubmit (s : State) (v : Word32) : State :=
  let s1 := s.mboxStore 60 v
  if !s.sys.hostReady then s1
  else if s.host.mboxPending then s1.bump .mboxOverrun 0
  else
    let t0 := s1.host.mboxIn
    let (op, q) := cmdOf .mailbox t0 []
    let s2 : State := { s1 with host.mboxOut := pendingTile q.seq false, host.mboxPending := true }
    if !tileOk t0 then s2.refuse op q .badCheck
    else if tilesOf t0 ≠ 1 then s2.refuse op q .badLength
    else s2.accept .mailbox t0 []

/-- MBOX_IN_WRITE (R552). -/
def execMboxInWrite (v : BitVec 32) (s : State) : Out := ok s (s.mboxSubmit v)

/-! ## Doorbells (R558) -/

/-- A doorbell write that is ignored. -/
def State.badDoorbell (s : State) (n : Nat) : State :=
  s.modSl n fun h => { h with st := { h.st with doorbellBad := satInc h.st.doorbellBad } }

/-- A count minus another modulo 2D. -/
def countDiff (a b d : Nat) : Nat := (a + 2 * d - b % (2 * d)) % (2 * d)

/-- A write of SQ_TAIL_n: with RESYNC it resumes a halted ring at FETCH_SET (R566). -/
def State.writeTail (s : State) (n : Nat) (v : Word32) : State :=
  let h := s.sl n
  let re := v.getLsbD 31
  let fetch : BitVec 13 := if re then v.extractLsb' 16 13 else h.st.sqFetch
  if h.st.state = 0 ∨ h.st.state = 4 ∨ v &&& 0x6000E000 ≠ 0 ∨ (re ∧ h.st.sqHalted = 0) ∨
      h.sqDepth < countDiff (v.extractLsb' 0 13).toNat fetch.toNat h.sqDepth then s.badDoorbell n
  else s.modSl n fun h =>
    { h with sqTail := v.extractLsb' 0 13
             st := if re then { h.st with sqFetch := BitVec.ofNat 13 (fetch.toNat % (2 * h.sqDepth)), sqHalted := 0 } else h.st }

/-- SQ_TAIL_WRITE (R558). -/
def execSqTailWrite (n : Fin 64) (v : BitVec 32) (s : State) : Out := ok s (s.writeTail n v)

/-- A write of CQ_HEAD_n frees reply slots. -/
def State.writeHead (s : State) (n : Nat) (v : Word32) : State :=
  let h := s.sl n
  if h.st.state = 0 ∨ h.st.state = 4 ∨ v &&& 0xE000E000 ≠ 0 ∨
      h.cqDepth < countDiff h.st.cqResv.toNat (v.extractLsb' 0 13).toNat h.cqDepth then s.badDoorbell n
  else s.modSl n fun h => { h with cqHead := v.extractLsb' 0 13 }

/-- CQ_HEAD_WRITE (R558). -/
def execCqHeadWrite (n : Fin 64) (v : BitVec 32) (s : State) : Out := ok s (s.writeHead n v)

/-- BAR_REGISTER_WRITE (R546, R547): any write of BAR0; one to a register of the rows above acts as that row. -/
def execBarRegisterWrite (addr : BitVec 19) (size : Nat) (v : BitVec 64) (s : State) : Out :=
  let a := addr.toNat
  let w : Word32 := v.setWidth 32
  ok s (if barBad a size then s.bump .barBadAccess 0
    else if a = 0x44 then s.writeDevReset w
    else if a = 0x48 then s.writeIrq false w
    else if a = 0x4C then s.writeIrq true w
    else if 0x100 ≤ a ∧ a < 0x13C then s.mboxStore (a - 0x100) w
    else if a = 0x13C then s.mboxSubmit w
    else if 0x8000 ≤ a ∧ a < 0x9000 then s.msixWrite (a - 0x8000) (bytesOf v size)
    else if 0x10000 ≤ a ∧ a < 0x50000 ∧ a % 0x1000 = 0 then s.writeTail ((a - 0x10000) / 0x1000) w
    else if 0x10000 ≤ a ∧ a < 0x50000 ∧ a % 0x1000 = 4 then s.writeHead ((a - 0x10000) / 0x1000) w
    else s)

/-! ## Fetching commands (R559, R566) -/

/-- A submission ring halts with its cause, and SL's SQ_HALT notice. -/
def State.haltSq (s : State) (n : Nat) (cause : BitVec 2) : State :=
  let s1 := s.modSl n fun h =>
    { h with st := { h.st with sqHalted := 1, haltCause := cause, sqHalts := satInc h.st.sqHalts } }
  s1.notice n 0x0006 n (put 64 0 cause ||| put 64 32 (s1.sl n).st.sqFetch)

/-- Host DMA requests of a slice that end with an error (R555). -/
def State.dmaErr (s : State) (n : Nat) : State :=
  s.modSl n fun h => { h with st := { h.st with dmaErr := satInc h.st.dmaErr } }

/-- The replies reserved do not exceed the ring: a fetch that would exceed it waits (R559). -/
def State.cqRoom (s t : State) (n : Nat) : State := if (t.sl n).cqUsed ≤ (t.sl n).cqDepth then t else s

/-- The tiles at SQ_FETCH have been read: one command is checked, accepted and executed. -/
def State.fetchSq (s : State) (n : Fin 64) (ts : List Tile) : State :=
  match ts with
  | [] => s
  | t0 :: rest =>
    let h := s.sl n
    let k := tilesOf t0
    let (op, q) := cmdOf (.sq n) t0 (rest.take (k - 1))
    if !tileOk t0 then s.cqRoom ((s.refuse op q .badCheck).haltSq n 0) n
    else if k = 0 ∨ 64 < k then s.cqRoom ((s.refuse op q .badLength).haltSq n 1) n
    else if countDiff h.sqTail.toNat h.st.sqFetch.toNat h.sqDepth < k ∨ rest.length + 1 < k then s
    else
      let s1 := s.modSl n fun h =>
        { h with st := { h.st with sqFetch := BitVec.ofNat 13 ((h.st.sqFetch.toNat + k) % (2 * h.sqDepth)) } }
      s.cqRoom (s1.accept (.sq n) t0 q.cont) n

/-- The slice's submission ring is fetched: ACTIVE, not halted, with tiles before TAIL; not in BOOT nor under the recovery
firmware, where only the mailbox and M0 serve commands (R635, R632). -/
def State.fetches (s : State) (n : Nat) : Bool :=
  let h := s.sl n
  h.st.state = 1 && h.st.sqHalted = 0 && decide (countDiff h.sqTail.toNat h.st.sqFetch.toNat h.sqDepth ≠ 0) &&
    s.sys.mode != .boot && !s.sys.recovery

/-- SQ_FETCH (R559): the tiles that the DMA read has brought, or its error, which halts the ring. -/
def execSqFetch (n : Fin 64) (tiles : Option (List (BitVec 512))) (s : State) : Out :=
  ok s (if s.fetches n then
    match tiles with
    | none => (s.dmaErr n).haltSq n 2
    | some ts => s.fetchSq n ts
    else s)

/-! ## Events (R574) -/

/-- EVENT_ITEM_COPY (R574, R556). -/
def execEventItemCopy (n : Fin 64) (s : State) : Out :=
  let h := s.sl n
  let r := h.cfg.evtRing.toNat
  ok s (if h.st.state = 0 ∨ h.cfg.evtEn = 0 then s
    else match ringPop s r with
      | (s1, it, 0) =>
        let q := (it.extractLsb' 32 32).toNat % (s.ring r).depth
        (s1.emit (.hostTile n (h.cfg.evtBase + BitVec.ofNat 64 (64 * q)) it)).signal n (if h.cfg.vecCount = 1 then 0 else 1)
      | _ => s)

/-! ## The management port (R579, R580, R633) -/

/-- MGMT_COMMAND_FRAME: a whole frame, FCS last. One that is not
accepted, from another address than MGMT_PEER or while MGMT_EN is 0, is counted in MGMT_DROP; in BOOT only the mailbox serves
commands (R635). -/
def execMgmtCommandFrame (bs : List (BitVec 8)) (s : State) : Out :=
  let n := bs.length
  let body := slice bs 18 (n - 22)
  let t0 : Tile := leBits 512 (slice body 0 64)
  let src : BitVec 48 := leBits 48 (slice bs 6 6)
  let c := s.host.devCfg
  let allowed : Bool := s.sys.recovery || (c.mgmtEn = 1 && src = c.mgmtPeer && s.sys.mode != .boot)
  let whole : Bool := decide (64 ≤ n ∧ n ≤ (s.port 32).cfg.maxFrame.toNat) &&
    crc32 (bs.take (n - 4)) = leBits 32 (slice bs (n - 4) 4)
  let ours : Bool := leBits 48 (slice bs 0 6) = s.m0Addr && slice bs 12 2 = [0x88, 0xB5] && slice bs 14 2 = [1, 0]
  ok s (if !whole || !ours then s
    else if !allowed ∨ n < 22 + 64 ∨ body.length ≠ 64 * tilesOf t0 ∨ !tileOk t0 ∨ tilesOf t0 = 0 ∨ 64 < tilesOf t0 then s.bump .mgmtDrop 0
    else
      let cont : List Tile := (List.range (tilesOf t0 - 1)).map fun i => leBits 512 (slice body (64 * (i + 1)) 64)
      { s with host.m0Peers := s.host.m0Peers ++ [((cmdOf .m0 t0 cont).2.seq, src)] }.accept .m0 t0 cont)

/-! ## Host DMA rings (R576 to R578) -/

/-- A ring runs: enabled, and its slice attached. -/
def State.hrRuns (s : State) (r : Nat) : Bool :=
  (s.hr r).cfg.enable = 1 && decide ((s.sl (s.hr r).cfg.owner.toNat).st.state ≠ 0)

/-- Items of a ring. -/
def HostRing.depth (g : HostRing) : Nat := 2 ^ g.cfg.depthLog2.toNat

/-- The ring's next item is read now: a kick has asked for it, the poll interval is over, or the last item read was owned
by the device, which reads ahead (R576). -/
def State.hrReads (s : State) (r : Nat) : Bool :=
  let g := s.hr r
  s.hrRuns r && !g.resetting && decide ((s.sl g.cfg.owner.toNat).st.state = 1) && (g.kick || decide (g.readAt ≤ s.now))

/-- An item has been read: after one with OWN 1 the next is read at once, else after POLL_US. -/
def HostRing.read (g : HostRing) (now : Nat) (own : Bool) : HostRing :=
  { g with kick := false, readAt := if own then now else now + g.cfg.pollUs.toNat * 1000 }

/-- HR_POLL (R576): the next item is read; an RX item that the device owns is kept for a frame. -/
def execHrPoll (r : Fin 512) (item : Option (BitVec 128)) (s : State) : Out :=
  let g := s.hr r
  ok s (if !s.hrReads r then s
    else match item with
    | none => (s.modHr r fun g => g.read s.now false).dmaErr g.cfg.owner.toNat
    | some it =>
      let own := it.getLsbD 120 && (g.cfg.dir = 0 || decide (g.ready.length + g.inFlight.length < g.depth))
      s.modHr r fun g => { g.read s.now own with ready := if own ∧ g.cfg.dir = 1 then g.ready ++ [it] else g.ready })

/-- An item goes back to the host, after the data it describes, and the ring's vector is signalled. -/
def State.writeItem (s : State) (r : Nat) (it : BitVec 128) : State :=
  let g := s.hr r
  let n := g.cfg.owner.toNat
  let a := g.cfg.base + BitVec.ofNat 64 (16 * (g.pos.toNat % g.depth))
  (((s.emit (.hostBytes n a (bytesOf it 16))).modHr r fun g => { g with pos := g.pos + 1 }).signal n g.cfg.vecOff.toNat)

/-- How a TX item's frame fares: its STATUS, and the state once the frame is in H0's warp ring (R577, R109). -/
def State.takeTx (s : State) (r : Nat) (it : BitVec 128) (frame : Option (List Byte)) : State × Nat :=
  let len := (it.extractLsb' 64 16).toNat
  let tc := (it.extractLsb' 81 3).toNat
  if len < 64 ∨ 9600 < len then (s, 1)
  else match frame with
  | none => (s.dmaErr (s.hr r).cfg.owner.toNat, 3)
  | some bs =>
    let f0 := slice bs 0 (len - 4)
    let f := if it.getLsbD 80 then f0 ++ bytesOf (crc32 f0) 4 else slice bs 0 len
    if crc32 f0 ≠ leBits 32 (slice f (len - 4) 4) then (s.bump .rxFcsErr 33, 2)
    else if !s.sys.mode.live then (s, 6)
    else match s.intake 1 33 tc (s.now * 1000) (s.now * 1000) f with
      | some s1 => (s1, 0)
      | none => (s.allocFail ((if tc = 7 then (s.warp 33).cfg.rxPoolX else (s.warp 33).cfg.rxPool).toNat), 4)

/-- HR_TX_ITEM (R577): an item that the device owns and its frame have been read; the item returns with its STATUS. -/
def execHrTxItem (r : Fin 512) (item : BitVec 128) (frame : Option (List (BitVec 8))) (s : State) : Out :=
  let g := s.hr r
  let n := g.cfg.owner.toNat
  ok s (if !s.hrReads r ∨ g.cfg.dir = 1 ∨ !item.getLsbD 120 then s
    else
      let (s1, st) := (s.modHr r fun g => g.read s.now true).takeTx r item frame
      let s2 := if st = 0 then s1.bump .hrFrames r
        else (s1.bump .hrDrop r).notice n 0x0007 r (put 64 0 (BitVec.ofNat 8 st) ||| put 64 32 g.pos)
      s2.writeItem r (put 128 0 (item.extractLsb' 0 112) ||| put 128 112 (BitVec.ofNat 8 st)))

/-- HR_RX_WRITEBACK (R578): the oldest frame on its way and its item reach host memory; its references drop (R153). A slice
reset that waited for it goes on. -/
def execHrRxWriteback (r : Fin 512) (s : State) : Out :=
  let n := (s.hr r).cfg.owner.toNat
  ok s (if (s.hr r).resetting then s
    else match (s.hr r).inFlight with
    | [] => s
    | d :: rest =>
      let s1 := (s.emit (.hostBytes n (d.item.extractLsb' 0 64) d.bytes)).modHr r fun g => { g with inFlight := rest }
      ((((s1.writeItem r d.item).bump .hrFrames r).deliveryGone d).tryReset n))

/-! ## Quiesce and reset (R585, R587) -/

/-- SELF_DRAIN_EXPIRY: after 1 ms every transfer of a self-draining ring still outstanding is squashed (R587). -/
def execSelfDrainExpiry (n : Fin 64) (s : State) : Out :=
  let h := s.sl n
  ok s (if h.st.state = 4 ∧ h.drainEnd.any (fun t => decide (t ≤ s.now)) then
    (((s.selfDraining n).foldl (fun (s : State) r => (s.bumpBy .hrSquashed r (s.hr r).inFlight.length).squash r) s).endReset n)
    else s)

/-- QUIESCE_TIMEOUT: 100 ms have passed; the slice stays QUIESCING (R585). -/
def execQuiesceTimeout (n : Fin 64) (s : State) : Out :=
  let late (w : Wait) : Bool := match w with | .quiesce m due => m = n.val && decide (due ≤ s.now) | _ => false
  ok s ((s.host.deferred.filter fun d => late d.wait).foldl (fun (s : State) _ => s.finish late .busy 0 []) s)

/-- No command of the slice executes or is held, SLICE_QUIESCE of the slice apart, and no transfer of its rings is
outstanding, but for self-draining ones. -/
def State.idle (s : State) (n : Nat) : Bool :=
  !(s.host.deferred.any fun d => s.requester d.cmd = n && (match d.wait with | .quiesce m _ => m ≠ n | _ => true)) &&
  !(s.host.held.any fun d => s.requester d.cmd = n) && !(s.fab.remote.any fun d => s.requester d.cmd = n) &&
  (s.ringsOf n).all fun r => (s.hr r).cfg.selfDrain = 1 || (s.hr r).inFlight.isEmpty

/-- QUIESCE_DONE (R585). -/
def execQuiesceDone (n : Fin 64) (s : State) : Out :=
  let st := (s.sl n).st.state
  ok s (if (st = 2 ∨ st = 3) ∧ s.idle n then
    (s.modSl n fun h => { h with st := { h.st with state := 3 } }).endQuiesce n .ok
    else s)

/-! ## Resets of the host interface (R545) -/

/-- Commands of the mailbox whose reply is still due. -/
def State.mboxDue (s : State) : List (BitVec 16) :=
  let box (q : Cmd) : Bool := q.path = .mailbox
  ((s.host.deferred.filter fun d => box d.cmd).map (·.cmd.seq)) ++ ((s.host.held.filter fun d => box d.cmd).map (·.cmd.seq)) ++
    ((s.fab.remote.filter fun d => box d.cmd).map (·.cmd.seq))

/-- Every slice DETACHED, every host DMA ring disabled, the mailbox cleared. A slice reset in progress ends; a
SLICE_QUIESCE and a SNAPSHOT end with BUSY; what is still due is answered into the windows only. -/
def State.hostReset (s : State) : State :=
  let slices := List.range 64
  let resetting := slices.filter fun n => (s.sl n).st.state = 4
  let detachAll (s : State) : State := slices.foldl (fun (s : State) n => s.modSl n SliceHost.detach) s
  let s1 : State := { s with host.mboxGone := s.host.mboxGone ++ s.mboxDue, host.mboxIn := 0, host.mboxOut := 0
                             host.mboxPending := false }
  let s2 := (s1.host.rings.map (·.1)).foldl (fun (s : State) r => (s.squash r).disableHr r) (detachAll s1)
  let s3 := detachAll (resetting.foldl State.endReset s2)
  let s4 := slices.foldl (fun (s : State) n => s.endQuiesce n .busy) s3
  let s5 := if s4.host.snapshot.isSome then { s4 with host.snapshot := none }.finish (fun w => w == Wait.snapshot) .busy 0 [] else s4
  s5.reportDev 0x0D10 0 0

/-- HOST_RESET: a function-level reset, a hot reset and a link-down act alike (R545). -/
def execHostReset (k : HostLoss) (s : State) : Out := ok s (match k with | .flr | .hotReset | .linkDown => s.hostReset)

/-! ## Pointer resets (R139, R146) -/

/-- RING_POINTER_MISMATCH: a ring access finds its pointer copies apart; `lo` and `hi` say by how much the lower L copy and
the higher W copy differ from the good ones (R146 step 3). -/
def execRingPointerMismatch (r : RingRef) (lo hi : Nat) (s : State) : Out :=
  ok s (match r with
    | .general n => if (s.ring n).cfg.enable = 1 then s.modRing n fun g => { g with resetting := true } else s
    | .host n => if (s.hr n).cfg.enable = 1 then s.modHr n fun g => { g with resetting := true } else s
    | .warp p x =>
      let n := (s.warp p).n x
      s.modWarpRing p x fun w =>
        if w.resetting then w
        else { w with resetting := true, resetRange := some (w.l - lo, min (w.w + hi) (w.l - lo + n)) })

/-- A slot of the range that fails its CHECK: discarded under R21, its packet's mark lost; a packet that is parsed and not
yet dispatched keeps its frame. -/
def State.badSlot (s : State) (p : Nat) (x : Bool) (i : Nat) : State :=
  let s1 := match s.ctxOfSlot p x i with | some c => s.takeRef c | none => s
  ((s1.unmark p x i).badDesc (s.warpSlot p x i).desc).modSlot p x i fun _ => {}

/-- A descriptor carries a SEQ: the fields that dispatch completes are not all zero, as the MAC wrote them (R142; DEDUCED, log
entry 89). -/
def Desc.numbered (d : Desc) : Bool := d.seq ≠ 0 || d.od ≠ 0 || d.tg ≠ 0 || d.rsver ≠ 0

/-- The state in which the scan takes a slot (R146): one whose release waits, or whose descriptor is IDLE (R19), is IDLE;
copies that disagree are resolved by the descriptor. -/
def WarpSlot.resolved (sl : WarpSlot) : SlotState :=
  if sl.released ∨ idleDesc sl.desc then .idle
  else if sl.split then (if (Desc.ofTile sl.desc).numbered then .held else .written) else sl.state

/-- A packet that has been parsed and not dispatched is abandoned, as its slot goes back to the parser (R146, R185): its bank
counts it no more, and the number that it has taken is passed over (DEDUCED, log entry 89). -/
def State.abandonParse (s : State) (c : Nat) : State :=
  let k := s.ctx c
  if k.state = .ready ∨ k.state = .ended then
    (((((s.unready false c).discardEnd c).dropInstance c).modCtx c fun k =>
      { k with state := .ended, live := false, markValid := false, pkt := none
               record := { k.record with st := .done, endRec := none } }).legGone k.pkt).tryFree c
  else s.modCtx c fun k => { k with markValid := false }

/-- The scan of a reset visits one slot: the state, the first position kept, and the descriptors that are new arrivals. -/
def scanSlot (p : Nat) (x : Bool) (bad : List Nat) (a : State × Option Nat × List (BitVec 256)) (pos : Nat) :
    State × Option Nat × List (BitVec 256) :=
  let (s, kept, new) := a
  let i := pos % (s.warp p).n x
  let sl := s.warpSlot p x i
  let clear (s : State) := s.modSlot p x i fun _ => {}
  if sl = {} then a
  else match sl.resolved with
  | .idle => (clear (if sl.released then s.dropFrame (Desc.ofTile sl.desc).buf else s.unmark p x i), kept, new)
  | st =>
    if bad.contains i ∨ (goodDesc sl.desc).isNone then (s.badSlot p x i, kept, new)
    else if st = .held then
      let s0 := s.modSlot p x i fun t => { t with state := .held, split := false }
      match s0.ctxOfSlot p x i with
      | some c =>
        let h : Handback := ⟨(s0.ctx c).recCtx, p, x, i⟩
        let s1 := s0.holdFrame (Desc.ofTile sl.desc).buf
        (if s0.canHold (Desc.ofTile sl.desc).buf then { s1 with task.handbacks := s1.task.handbacks ++ [h] } else s1,
          kept.or (some pos), new)
      | none => (s0, kept.or (some pos), new)
    else
      (clear (match s.ctxOfSlot p x i with | some c => s.abandonParse c | none => s), kept, new ++ [sl.desc])

/-- The end of a warp ring's reset: the range is scanned, the pointers rebuilt, the depth kept (R135), and new
arrivals and staged frames written in their order. -/
def State.warpResetDone (s : State) (p : Nat) (x : Bool) (bad : List Nat) : State :=
  match ((s.warp p).ring x).resetRange with
  | none => s
  | some (lo, hi) =>
    let (s1, kept, new) := ((List.range (hi - lo)).map (· + lo)).foldl (scanSlot p x bad) (s, none, [])
    let s2 := s1.modWarpRing p x fun w =>
      { w with resetting := false, resetRange := none, l := kept.getD hi, p := hi, w := hi, ptrResets := satInc w.ptrResets }
    let s3 := (s2.warpTrim p x (2 ^ (s2.warp p).log2 x) (hi - lo)).reportDev 0x0301 p (put 288 0 (bit x))
    let mine (t : Staged) : Bool := (Desc.ofTile t.desc).express = bit x
    let staged := ((s3.port p).staging.filter mine).map (·.desc)
    let s4 := s3.modPort p fun t => { t with staging := t.staging.filter fun d => !mine d }
    (new ++ staged).foldl (fun (s : State) d => s.warpWrite p x d) s4

/-- A host DMA ring is rebuilt from the items in host memory from its first item that is not on its way (R53): those that the
device owns are taken again, in order. -/
def State.hostRingReset (s : State) (n : Nat) (items : List (BitVec 128)) : State :=
  let g := s.hr n
  if !g.resetting then s
  else
    let own := (items.take (g.depth - g.inFlight.length)).takeWhile fun it => it.getLsbD 120
    (s.modHr n fun g => { g with resetting := false, ready := if g.cfg.dir = 1 then own else [] }).report 0x0301
      (BitVec.ofNat 32 n) 0 g.cfg.owner.toNat

/-- RING_RESET_DONE: the reset completes (R139, R146); `bad` names the warp slots whose CHECK fails, `items` what a host DMA
ring's memory holds. -/
def execRingResetDone (r : RingRef) (bad : List Nat) (items : List (BitVec 128)) (s : State) : Out :=
  ok s (match r with
    | .general n =>
      if (s.ring n).resetting then
        ((s.modRing n fun g => { g.discard with resetting := false, ptrResets := satInc g.ptrResets }).noMessages n).report
          0x0301 (BitVec.ofNat 32 n) 0 (s.ring n).cfg.owner.toNat
      else s
    | .host n => s.hostRingReset n items
    | .warp p x => s.warpResetDone p x bad)

/-! ## Reference clocks (R661) -/

/-- The front lanes and M0's of a reference clock (R660). -/
def refPorts : RefClk → List Nat
  | .f0 => List.range 16
  | .f1 => (List.range 17).map (· + 16)
  | _ => []

/-- Which entry of the lost clocks a reference is. -/
def refIdx : RefClk → Nat
  | .f0 => 0 | .f1 => 1 | .k => 2 | .pcie => 3

/-- REFCLK_LOSS: ports and links of the reference go DOWN under R119 and R518; PCIe's is a link-down of R545. -/
def execRefclkLoss (c : RefClk) (s : State) : Out :=
  let s1 : State := { s with sys.refLost := Tab.set false s.sys.refLost (refIdx c) true }
  ok s (if Tab.get false s.sys.refLost (refIdx c) then s
    else match c with
      | .pcie => s1.hostReset
      | .k => (List.range 4).foldl (fun (s : State) k => if (s.link k).cfg.enable = 1 then s.linkFail k else s) s1
      | c => ((refPorts c).filter fun p => (s.port p).cfg.enable = 1).foldl (fun (s : State) p => s.linkDown p) s1)

/-- REFCLK_RESTORE: the lanes start again; their locks follow by rows of their own. -/
def execRefclkRestore (c : RefClk) (s : State) : Out :=
  ok s { s with sys.refLost := Tab.set false s.sys.refLost (refIdx c) false }

end Sys2Proof.Machine
end

