-- ==== Sys2Proof/Machine/Dispatch.lean ====
section
/-!
DEFINITION. The dispatch: one arm for each command of the opcode table.
-/
namespace Sys2Proof.Machine

def exec (i : Instr) (s : State) : Host.Outcome State Fault Refusal :=
  match i with
  | .deviceConfig q => Sys2Proof.Machine.execDeviceConfig q s
  | .deviceGet q => Sys2Proof.Machine.execDeviceGet q s
  | .modeSet q => Sys2Proof.Machine.execModeSet q s
  | .snapshot q => Sys2Proof.Machine.execSnapshot q s
  | .ping q => Sys2Proof.Machine.execPing q s
  | .sliceConfig q => Sys2Proof.Machine.execSliceConfig q s
  | .sliceGet q => Sys2Proof.Machine.execSliceGet q s
  | .sliceQuiesce q => Sys2Proof.Machine.execSliceQuiesce q s
  | .sliceResume q => Sys2Proof.Machine.execSliceResume q s
  | .sliceReset q => Sys2Proof.Machine.execSliceReset q s
  | .portConfig q => Sys2Proof.Machine.execPortConfig q s
  | .portGet q => Sys2Proof.Machine.execPortGet q s
  | .pickConfig q => Sys2Proof.Machine.execPickConfig q s
  | .pickGet q => Sys2Proof.Machine.execPickGet q s
  | .pickSelect q => Sys2Proof.Machine.execPickSelect q s
  | .pickConvert q => Sys2Proof.Machine.execPickConvert q s
  | .wallConfig q => Sys2Proof.Machine.execWallConfig q s
  | .wallGet q => Sys2Proof.Machine.execWallGet q s
  | .wallSet q => Sys2Proof.Machine.execWallSet q s
  | .ptpClockConfig q => Sys2Proof.Machine.execPtpClockConfig q s
  | .ptpPortConfig q => Sys2Proof.Machine.execPtpPortConfig q s
  | .ptpGet q => Sys2Proof.Machine.execPtpGet q s
  | .heddleWrite q => Sys2Proof.Machine.execHeddleWrite q s
  | .keyselWrite q => Sys2Proof.Machine.execKeyselWrite q s
  | .parsePortWrite q => Sys2Proof.Machine.execParsePortWrite q s
  | .ruleRangeSet q => Sys2Proof.Machine.execRuleRangeSet q s
  | .ruleWrite q => Sys2Proof.Machine.execRuleWrite q s
  | .profileWrite q => Sys2Proof.Machine.execProfileWrite q s
  | .commitRuleset q => Sys2Proof.Machine.execCommitRuleset q s
  | .rulesetDiscard q => Sys2Proof.Machine.execRulesetDiscard q s
  | .rulesetGet q => Sys2Proof.Machine.execRulesetGet q s
  | .rulesetRead q => Sys2Proof.Machine.execRulesetRead q s
  | .ruleGet q => Sys2Proof.Machine.execRuleGet q s
  | .itConfig q => Sys2Proof.Machine.execItConfig q s
  | .itWrite q => Sys2Proof.Machine.execItWrite q s
  | .itGet q => Sys2Proof.Machine.execItGet q s
  | .hashKeySet q => Sys2Proof.Machine.execHashKeySet q s
  | .hashKeyGet q => Sys2Proof.Machine.execHashKeyGet q s
  | .tablePartSet q => Sys2Proof.Machine.execTablePartSet q s
  | .tablePartGet q => Sys2Proof.Machine.execTablePartGet q s
  | .tableConfig q => Sys2Proof.Machine.execTableConfig q s
  | .tableConfigGet q => Sys2Proof.Machine.execTableConfigGet q s
  | .stationWrite q => Sys2Proof.Machine.execStationWrite q s
  | .stationDelete q => Sys2Proof.Machine.execStationDelete q s
  | .stationFlush q => Sys2Proof.Machine.execStationFlush q s
  | .stationGet q => Sys2Proof.Machine.execStationGet q s
  | .streamWrite q => Sys2Proof.Machine.execStreamWrite q s
  | .streamDelete q => Sys2Proof.Machine.execStreamDelete q s
  | .streamGet q => Sys2Proof.Machine.execStreamGet q s
  | .routeAdd q => Sys2Proof.Machine.execRouteAdd q s
  | .routeDelete q => Sys2Proof.Machine.execRouteDelete q s
  | .routeGet q => Sys2Proof.Machine.execRouteGet q s
  | .policerConfig q => Sys2Proof.Machine.execPolicerConfig q s
  | .policerGet q => Sys2Proof.Machine.execPolicerGet q s
  | .queueAssign q => Sys2Proof.Machine.execQueueAssign q s
  | .queueConfig q => Sys2Proof.Machine.execQueueConfig q s
  | .queueGet q => Sys2Proof.Machine.execQueueGet q s
  | .shaperConfig q => Sys2Proof.Machine.execShaperConfig q s
  | .shaperGet q => Sys2Proof.Machine.execShaperGet q s
  | .portSchedConfig q => Sys2Proof.Machine.execPortSchedConfig q s
  | .portSchedGet q => Sys2Proof.Machine.execPortSchedGet q s
  | .treadleConfig q => Sys2Proof.Machine.execTreadleConfig q s
  | .treadleWrite q => Sys2Proof.Machine.execTreadleWrite q s
  | .treadleCommit q => Sys2Proof.Machine.execTreadleCommit q s
  | .treadleAbort q => Sys2Proof.Machine.execTreadleAbort q s
  | .treadleGet q => Sys2Proof.Machine.execTreadleGet q s
  | .ringConfig q => Sys2Proof.Machine.execRingConfig q s
  | .ringGet q => Sys2Proof.Machine.execRingGet q s
  | .chanConfig q => Sys2Proof.Machine.execChanConfig q s
  | .chanGet q => Sys2Proof.Machine.execChanGet q s
  | .warpConfig q => Sys2Proof.Machine.execWarpConfig q s
  | .warpGet q => Sys2Proof.Machine.execWarpGet q s
  | .poolConfig q => Sys2Proof.Machine.execPoolConfig q s
  | .poolGet q => Sys2Proof.Machine.execPoolGet q s
  | .hrAssign q => Sys2Proof.Machine.execHrAssign q s
  | .hrConfig q => Sys2Proof.Machine.execHrConfig q s
  | .hrGet q => Sys2Proof.Machine.execHrGet q s
  | .hrKick q => Sys2Proof.Machine.execHrKick q s
  | .coreConfig q => Sys2Proof.Machine.execCoreConfig q s
  | .coreGet q => Sys2Proof.Machine.execCoreGet q s
  | .coreRetest q => Sys2Proof.Machine.execCoreRetest q s
  | .progRegionSet q => Sys2Proof.Machine.execProgRegionSet q s
  | .progConfig q => Sys2Proof.Machine.execProgConfig q s
  | .progGet q => Sys2Proof.Machine.execProgGet q s
  | .programLoad q => Sys2Proof.Machine.execProgramLoad q s
  | .progCommit q => Sys2Proof.Machine.execProgCommit q s
  | .tgConfig q => Sys2Proof.Machine.execTgConfig q s
  | .tgGet q => Sys2Proof.Machine.execTgGet q s
  | .dispatchConfig q => Sys2Proof.Machine.execDispatchConfig q s
  | .dispatchGet q => Sys2Proof.Machine.execDispatchGet q s
  | .taskCreate q => Sys2Proof.Machine.execTaskCreate q s
  | .taskConfig q => Sys2Proof.Machine.execTaskConfig q s
  | .taskKick q => Sys2Proof.Machine.execTaskKick q s
  | .taskCancel q => Sys2Proof.Machine.execTaskCancel q s
  | .taskReset q => Sys2Proof.Machine.execTaskReset q s
  | .taskDestroy q => Sys2Proof.Machine.execTaskDestroy q s
  | .taskGet q => Sys2Proof.Machine.execTaskGet q s
  | .delayArm q => Sys2Proof.Machine.execDelayArm q s
  | .delayDisarm q => Sys2Proof.Machine.execDelayDisarm q s
  | .delayGet q => Sys2Proof.Machine.execDelayGet q s
  | .odConfig q => Sys2Proof.Machine.execOdConfig q s
  | .odGet q => Sys2Proof.Machine.execOdGet q s
  | .lockConfig q => Sys2Proof.Machine.execLockConfig q s
  | .lockGet q => Sys2Proof.Machine.execLockGet q s
  | .lockBreak q => Sys2Proof.Machine.execLockBreak q s
  | .lockUnitConfig q => Sys2Proof.Machine.execLockUnitConfig q s
  | .lockUnitGet q => Sys2Proof.Machine.execLockUnitGet q s
  | .dramGet q => Sys2Proof.Machine.execDramGet q s
  | .dramLayoutSet q => Sys2Proof.Machine.execDramLayoutSet q s
  | .cacheConfig q => Sys2Proof.Machine.execCacheConfig q s
  | .cacheGet q => Sys2Proof.Machine.execCacheGet q s
  | .cacheMaint q => Sys2Proof.Machine.execCacheMaint q s
  | .fabricConfig q => Sys2Proof.Machine.execFabricConfig q s
  | .fabricGet q => Sys2Proof.Machine.execFabricGet q s
  | .fabricLinkConfig q => Sys2Proof.Machine.execFabricLinkConfig q s
  | .fabricLinkGet q => Sys2Proof.Machine.execFabricLinkGet q s
  | .fabricDiscover q => Sys2Proof.Machine.execFabricDiscover q s
  | .fabricIdSet q => Sys2Proof.Machine.execFabricIdSet q s
  | .fabricRouteGet q => Sys2Proof.Machine.execFabricRouteGet q s
  | .routePin q => Sys2Proof.Machine.execRoutePin q s
  | .routeUnpin q => Sys2Proof.Machine.execRouteUnpin q s
  | .fabricTwinConfig q => Sys2Proof.Machine.execFabricTwinConfig q s
  | .fabricTwinGet q => Sys2Proof.Machine.execFabricTwinGet q s
  | .selvedgeRead q => Sys2Proof.Machine.execSelvedgeRead q s
  | .selvedgeClearArm q => Sys2Proof.Machine.execSelvedgeClearArm q s
  | .selvedgeClear q => Sys2Proof.Machine.execSelvedgeClear q s
  | .imageWrite q => Sys2Proof.Machine.execImageWrite q s
  | .imageCommit q => Sys2Proof.Machine.execImageCommit q s
  | .statsRead q => Sys2Proof.Machine.execStatsRead q s
  | .counterRangeSet q => Sys2Proof.Machine.execCounterRangeSet q s
  | .counterRead q => Sys2Proof.Machine.execCounterRead q s
  | .counterRangeGet q => Sys2Proof.Machine.execCounterRangeGet q s
  | .debugAttach q => Sys2Proof.Machine.execDebugAttach q s
  | .debugDetach q => Sys2Proof.Machine.execDebugDetach q s
  | .debugHalt q => Sys2Proof.Machine.execDebugHalt q s
  | .debugResume q => Sys2Proof.Machine.execDebugResume q s
  | .debugStep q => Sys2Proof.Machine.execDebugStep q s
  | .debugBreak q => Sys2Proof.Machine.execDebugBreak q s
  | .debugRead q => Sys2Proof.Machine.execDebugRead q s
  | .debugWrite q => Sys2Proof.Machine.execDebugWrite q s
  | .jtagChallenge q => Sys2Proof.Machine.execJtagChallenge q s
  | .jtagUnlock q => Sys2Proof.Machine.execJtagUnlock q s
  | .heldCommandExecute n => Sys2Proof.Machine.execHeldCommandExecute n s
  | .identRead addr size => Sys2Proof.Machine.execIdentRead addr size s
  | .devResetWrite v => Sys2Proof.Machine.execDevResetWrite v s
  | .devResetArmExpiry => Sys2Proof.Machine.execDevResetArmExpiry s
  | .irqStatusWrite hi v => Sys2Proof.Machine.execIrqStatusWrite hi v s
  | .mboxInWrite v => Sys2Proof.Machine.execMboxInWrite v s
  | .sqTailWrite n v => Sys2Proof.Machine.execSqTailWrite n v s
  | .cqHeadWrite n v => Sys2Proof.Machine.execCqHeadWrite n v s
  | .barRegisterWrite addr size v => Sys2Proof.Machine.execBarRegisterWrite addr size v s
  | .hostReset k => Sys2Proof.Machine.execHostReset k s
  | .sqFetch n tiles => Sys2Proof.Machine.execSqFetch n tiles s
  | .eventItemCopy n => Sys2Proof.Machine.execEventItemCopy n s
  | .mgmtCommandFrame bs => Sys2Proof.Machine.execMgmtCommandFrame bs s
  | .hrPoll r item => Sys2Proof.Machine.execHrPoll r item s
  | .hrTxItem r item frame => Sys2Proof.Machine.execHrTxItem r item frame s
  | .hrRxWriteback r => Sys2Proof.Machine.execHrRxWriteback r s
  | .selfDrainExpiry n => Sys2Proof.Machine.execSelfDrainExpiry n s
  | .quiesceTimeout n => Sys2Proof.Machine.execQuiesceTimeout n s
  | .quiesceDone n => Sys2Proof.Machine.execQuiesceDone n s
  | .frameReceive p f line age => Sys2Proof.Machine.execFrameReceive p f line age s
  | .preemptVerifySend p => Sys2Proof.Machine.execPreemptVerifySend p s
  | .preemptVerifyResponse p => Sys2Proof.Machine.execPreemptVerifyResponse p s
  | .pcsLockLoss p why => Sys2Proof.Machine.execPcsLockLoss p why s
  | .tsCalibrationDone p => Sys2Proof.Machine.execTsCalibrationDone p s
  | .linkUpDeclare p => Sys2Proof.Machine.execLinkUpDeclare p s
  | .ptpMessageReceive p m => Sys2Proof.Machine.execPtpMessageReceive p m s
  | .ptpAnnounceTimeout p => Sys2Proof.Machine.execPtpAnnounceTimeout p s
  | .ppsInEdge => Sys2Proof.Machine.execPpsInEdge s
  | .ppsInTimeout => Sys2Proof.Machine.execPpsInTimeout s
  | .ppsOutPulse => Sys2Proof.Machine.execPpsOutPulse s
  | .phaseEdge input rising held => Sys2Proof.Machine.execPhaseEdge input rising held s
  | .phaseMissed k pri => Sys2Proof.Machine.execPhaseMissed k pri s
  | .encZPulse enc => Sys2Proof.Machine.execEncZPulse enc s
  | .encoderUpdate k pri => Sys2Proof.Machine.execEncoderUpdate k pri s
  | .encZTimeout k pri => Sys2Proof.Machine.execEncZTimeout k pri s
  | .synthUpdate k pri => Sys2Proof.Machine.execSynthUpdate k pri s
  | .steerMiss k pri => Sys2Proof.Machine.execSteerMiss k pri s
  | .holdLimitExpiry k => Sys2Proof.Machine.execHoldLimitExpiry k s
  | .parseStart => Sys2Proof.Machine.execParseStart s
  | .dispatch express bad => Sys2Proof.Machine.execDispatch express bad s
  | .entryTileRewrite tile => Sys2Proof.Machine.execEntryTileRewrite tile s
  | .runLimitExpiry c t => Sys2Proof.Machine.execRunLimitExpiry c t s
  | .taskEndAccept c t => Sys2Proof.Machine.execTaskEndAccept c t s
  | .reedCommit od => Sys2Proof.Machine.execReedCommit od s
  | .orderSkip od => Sys2Proof.Machine.execOrderSkip od s
  | .watchdogVisit c => Sys2Proof.Machine.execWatchdogVisit c s
  | .coreSelftestDone c pass => Sys2Proof.Machine.execCoreSelftestDone c pass s
  | .coreJoinDone c => Sys2Proof.Machine.execCoreJoinDone c s
  | .spareTest result => Sys2Proof.Machine.execSpareTest result s
  | .programTileRewrite tile => Sys2Proof.Machine.execProgramTileRewrite tile s
  | .icacheFillDone c tile bad => Sys2Proof.Machine.execIcacheFillDone c tile bad s
  | .programStoreScrub tile bad => Sys2Proof.Machine.execProgramStoreScrub tile bad s
  | .progDrainEnd n => Sys2Proof.Machine.execProgDrainEnd n s
  | .rulesetDrainEnd => Sys2Proof.Machine.execRulesetDrainEnd s
  | .rulesetCopyDone => Sys2Proof.Machine.execRulesetCopyDone s
  | .ruleScrub found => Sys2Proof.Machine.execRuleScrub found s
  | .rulesetTileRewrite b kind idx => Sys2Proof.Machine.execRulesetTileRewrite b kind idx s
  | .delayFire ix bad => Sys2Proof.Machine.execDelayFire ix bad s
  | .helperCompletion k => Sys2Proof.Machine.execHelperCompletion k s
  | .coprocessorCompletion c cp => Sys2Proof.Machine.execCoprocessorCompletion c cp s
  | .breakpointHit c t => Sys2Proof.Machine.execBreakpointHit c t s
  | .leaseExpiry n => Sys2Proof.Machine.execLeaseExpiry n s
  | .ringPointerMismatch r lo hi => Sys2Proof.Machine.execRingPointerMismatch r lo hi s
  | .ringResetDone r bad items => Sys2Proof.Machine.execRingResetDone r bad items s
  | .portSelect p bad => Sys2Proof.Machine.execPortSelect p bad s
  | .txComplete p => Sys2Proof.Machine.execTxComplete p s
  | .launchDue q => Sys2Proof.Machine.execLaunchDue q s
  | .spillRefill q bad => Sys2Proof.Machine.execSpillRefill q bad s
  | .prefetchComplete p => Sys2Proof.Machine.execPrefetchComplete p s
  | .telemetrySample q => Sys2Proof.Machine.execTelemetrySample q s
  | .treadleEntryBegin p => Sys2Proof.Machine.execTreadleEntryBegin p s
  | .treadleSwitch p => Sys2Proof.Machine.execTreadleSwitch p s
  | .treadleCopyDone p => Sys2Proof.Machine.execTreadleCopyDone p s
  | .treadleEntryRewrite p ix => Sys2Proof.Machine.execTreadleEntryRewrite p ix s
  | .treadleReposition p => Sys2Proof.Machine.execTreadleReposition p s
  | .ageTick => Sys2Proof.Machine.execAgeTick s
  | .stationAgerVisit n => Sys2Proof.Machine.execStationAgerVisit n s
  | .flushWalkEnd n => Sys2Proof.Machine.execFlushWalkEnd n s
  | .tableScrub w f => Sys2Proof.Machine.execTableScrub w f s
  | .mirrorRepair n => Sys2Proof.Machine.execMirrorRepair n s
  | .tableRestoreDone tb n copy => Sys2Proof.Machine.execTableRestoreDone tb n copy s
  | .routeRebuild => Sys2Proof.Machine.execRouteRebuild s
  | .cacheFillDone ix => Sys2Proof.Machine.execCacheFillDone ix s
  | .writebackDone bad => Sys2Proof.Machine.execWritebackDone bad s
  | .lineClean ix bad => Sys2Proof.Machine.execLineClean ix bad s
  | .cacheScrub ix f => Sys2Proof.Machine.execCacheScrub ix f s
  | .cacheMaintDone bad => Sys2Proof.Machine.execCacheMaintDone bad s
  | .cacheFlushDone => Sys2Proof.Machine.execCacheFlushDone s
  | .requestAged => Sys2Proof.Machine.execRequestAged s
  | .refreshDeadline => Sys2Proof.Machine.execRefreshDeadline s
  | .refreshRateRead hot => Sys2Proof.Machine.execRefreshRateRead hot s
  | .driftTrack => Sys2Proof.Machine.execDriftTrack s
  | .ecsRead counts => Sys2Proof.Machine.execEcsRead counts s
  | .fabricDataReceive k x => Sys2Proof.Machine.execFabricDataReceive k x s
  | .fabricCommandReceive k x => Sys2Proof.Machine.execFabricCommandReceive k x s
  | .fabricReplyReceive k x => Sys2Proof.Machine.execFabricReplyReceive k x s
  | .helloReceive k x => Sys2Proof.Machine.execHelloReceive k x s
  | .helloSend => Sys2Proof.Machine.execHelloSend s
  | .discoverReceive k x => Sys2Proof.Machine.execDiscoverReceive k x s
  | .answerReceive k x => Sys2Proof.Machine.execAnswerReceive k x s
  | .discoverWindowEnd => Sys2Proof.Machine.execDiscoverWindowEnd s
  | .fabricIdSetTimeout => Sys2Proof.Machine.execFabricIdSetTimeout s
  | .lsaReceive k x => Sys2Proof.Machine.execLsaReceive k x s
  | .lsaFlood => Sys2Proof.Machine.execLsaFlood s
  | .idConflictClear => Sys2Proof.Machine.execIdConflictClear s
  | .routeRecompute => Sys2Proof.Machine.execRouteRecompute s
  | .linkAckReceive k nak seq => Sys2Proof.Machine.execLinkAckReceive k nak seq s
  | .retryTimeout k => Sys2Proof.Machine.execRetryTimeout k s
  | .fabricLinkDown k why => Sys2Proof.Machine.execFabricLinkDown k why s
  | .fabHoldExpiry n => Sys2Proof.Machine.execFabHoldExpiry n s
  | .heartbeatSend => Sys2Proof.Machine.execHeartbeatSend s
  | .heartbeatReceive k x => Sys2Proof.Machine.execHeartbeatReceive k x s
  | .heartbeatPathLoss p => Sys2Proof.Machine.execHeartbeatPathLoss p s
  | .timeSend => Sys2Proof.Machine.execTimeSend s
  | .timeReceive k x delay off => Sys2Proof.Machine.execTimeReceive k x delay off s
  | .cmdTimeoutExpiry => Sys2Proof.Machine.execCmdTimeoutExpiry s
  | .twinListenEnd => Sys2Proof.Machine.execTwinListenEnd s
  | .modeChangeDone => Sys2Proof.Machine.execModeChangeDone s
  | .cpWatchdog => Sys2Proof.Machine.execCpWatchdog s
  | .selvedgeWrite good => Sys2Proof.Machine.execSelvedgeWrite good s
  | .powerFail => Sys2Proof.Machine.execPowerFail s
  | .powerRestored => Sys2Proof.Machine.execPowerRestored s
  | .reset src => Sys2Proof.Machine.execReset src s
  | .startupStepDone e => Sys2Proof.Machine.execStartupStepDone e s
  | .stepLimitExpiry => Sys2Proof.Machine.execStepLimitExpiry s
  | .bootWdg => Sys2Proof.Machine.execBootWdg s
  | .autoRestart => Sys2Proof.Machine.execAutoRestart s
  | .refclkLoss c => Sys2Proof.Machine.execRefclkLoss c s
  | .thermAlert hot => Sys2Proof.Machine.execThermAlert hot s
  | .thermTrip => Sys2Proof.Machine.execThermTrip s
  | .hStreamFind k fs => Sys2Proof.Machine.execHStreamFind k fs s
  | .hFindPinned k fs => Sys2Proof.Machine.execHFindPinned k fs s
  | .hSeqRecv k fs => Sys2Proof.Machine.execHSeqRecv k fs s
  | .hSeqGen k fs => Sys2Proof.Machine.execHSeqGen k fs s
  | .hStationFind k fs => Sys2Proof.Machine.execHStationFind k fs s
  | .hLearn k fs => Sys2Proof.Machine.execHLearn k fs s
  | .hFind4 k path entry => Sys2Proof.Machine.execHFind4 k path entry s
  | .hFind6 k path entry => Sys2Proof.Machine.execHFind6 k path entry s
  | .hMeter k => Sys2Proof.Machine.execHMeter k s
  | .hCounterAdd k => Sys2Proof.Machine.execHCounterAdd k s
  | .hCounterHelperRead k => Sys2Proof.Machine.execHCounterHelperRead k s
  | .hLockAcquire k => Sys2Proof.Machine.execHLockAcquire k s
  | .hLockRelease k => Sys2Proof.Machine.execHLockRelease k s
  | .hLockRenew k => Sys2Proof.Machine.execHLockRenew k s
  | .hLockCancel k => Sys2Proof.Machine.execHLockCancel k s
  | .hLockQuery k => Sys2Proof.Machine.execHLockQuery k s
  | .hChStage k => Sys2Proof.Machine.execHChStage k s
  | .hChCommit k => Sys2Proof.Machine.execHChCommit k s
  | .hChAbort k => Sys2Proof.Machine.execHChAbort k s
  | .hChPop k => Sys2Proof.Machine.execHChPop k s
  | .hPoolAlloc k => Sys2Proof.Machine.execHPoolAlloc k s
  | .hRefAdd k => Sys2Proof.Machine.execHRefAdd k s
  | .hFree k => Sys2Proof.Machine.execHFree k s
  | .hRingPush k => Sys2Proof.Machine.execHRingPush k s
  | .hRingPop k => Sys2Proof.Machine.execHRingPop k s
  | .hRingMark k => Sys2Proof.Machine.execHRingMark k s
  | .hRingRewind k => Sys2Proof.Machine.execHRingRewind k s
  | .hRingRelease k => Sys2Proof.Machine.execHRingRelease k s
  | .hTsConvert k => Sys2Proof.Machine.execHTsConvert k s
  | .hPickSteer k => Sys2Proof.Machine.execHPickSteer k s
  | .hTaskKickHelper k => Sys2Proof.Machine.execHTaskKickHelper k s
  | .hTaskCancelHelper k => Sys2Proof.Machine.execHTaskCancelHelper k s
  | .hDelayArmHelper k => Sys2Proof.Machine.execHDelayArmHelper k s
  | .hDelayDisarmHelper k => Sys2Proof.Machine.execHDelayDisarmHelper k s
  | .hOrigin k => Sys2Proof.Machine.execHOrigin k s
  | .hLaunchSet k => Sys2Proof.Machine.execHLaunchSet k s
  | .hHostSet k => Sys2Proof.Machine.execHHostSet k s
  | .hCrcRange k => Sys2Proof.Machine.execHCrcRange k s
  | .wAdd c t a b d => Sys2Proof.Machine.execWAdd c t a b d s
  | .wSub c t a b d => Sys2Proof.Machine.execWSub c t a b d s
  | .wAnd c t a b d => Sys2Proof.Machine.execWAnd c t a b d s
  | .wOr c t a b d => Sys2Proof.Machine.execWOr c t a b d s
  | .wXor c t a b d => Sys2Proof.Machine.execWXor c t a b d s
  | .wAndn c t a b d => Sys2Proof.Machine.execWAndn c t a b d s
  | .wSll c t a b d => Sys2Proof.Machine.execWSll c t a b d s
  | .wSrl c t a b d => Sys2Proof.Machine.execWSrl c t a b d s
  | .wSra c t a b d => Sys2Proof.Machine.execWSra c t a b d s
  | .wRol c t a b d => Sys2Proof.Machine.execWRol c t a b d s
  | .wSlt c t a b d => Sys2Proof.Machine.execWSlt c t a b d s
  | .wSltu c t a b d => Sys2Proof.Machine.execWSltu c t a b d s
  | .wSeq c t a b d => Sys2Proof.Machine.execWSeq c t a b d s
  | .wMin c t a b d => Sys2Proof.Machine.execWMin c t a b d s
  | .wMax c t a b d => Sys2Proof.Machine.execWMax c t a b d s
  | .wMinu c t a b d => Sys2Proof.Machine.execWMinu c t a b d s
  | .wMaxu c t a b d => Sys2Proof.Machine.execWMaxu c t a b d s
  | .wMul c t a b d => Sys2Proof.Machine.execWMul c t a b d s
  | .wMulh c t a b d => Sys2Proof.Machine.execWMulh c t a b d s
  | .wMulhu c t a b d => Sys2Proof.Machine.execWMulhu c t a b d s
  | .wAddi c t a b imm => Sys2Proof.Machine.execWAddi c t a b imm s
  | .wAndi c t a b imm => Sys2Proof.Machine.execWAndi c t a b imm s
  | .wOri c t a b imm => Sys2Proof.Machine.execWOri c t a b imm s
  | .wXori c t a b imm => Sys2Proof.Machine.execWXori c t a b imm s
  | .wSlli c t a b n => Sys2Proof.Machine.execWSlli c t a b n s
  | .wSrli c t a b n => Sys2Proof.Machine.execWSrli c t a b n s
  | .wSrai c t a b n => Sys2Proof.Machine.execWSrai c t a b n s
  | .wRoli c t a b n => Sys2Proof.Machine.execWRoli c t a b n s
  | .wExt c t a b pos lenM1 => Sys2Proof.Machine.execWExt c t a b pos lenM1 s
  | .wExts c t a b pos lenM1 => Sys2Proof.Machine.execWExts c t a b pos lenM1 s
  | .wIns c t a b pos lenM1 => Sys2Proof.Machine.execWIns c t a b pos lenM1 s
  | .wLi c t a hw imm => Sys2Proof.Machine.execWLi c t a hw imm s
  | .wLik c t a hw imm => Sys2Proof.Machine.execWLik c t a hw imm s
  | .wBsw16 c t a b => Sys2Proof.Machine.execWBsw16 c t a b s
  | .wBsw32 c t a b => Sys2Proof.Machine.execWBsw32 c t a b s
  | .wBsw64 c t a b => Sys2Proof.Machine.execWBsw64 c t a b s
  | .wClz c t a b => Sys2Proof.Machine.execWClz c t a b s
  | .wCtz c t a b => Sys2Proof.Machine.execWCtz c t a b s
  | .wPopc c t a b => Sys2Proof.Machine.execWPopc c t a b s
  | .wLdb c t a b imm => Sys2Proof.Machine.execWLdb c t a b imm s
  | .wLdh c t a b imm => Sys2Proof.Machine.execWLdh c t a b imm s
  | .wLdw c t a b imm => Sys2Proof.Machine.execWLdw c t a b imm s
  | .wLdd c t a b imm => Sys2Proof.Machine.execWLdd c t a b imm s
  | .wLdbs c t a b imm => Sys2Proof.Machine.execWLdbs c t a b imm s
  | .wLdhs c t a b imm => Sys2Proof.Machine.execWLdhs c t a b imm s
  | .wLdws c t a b imm => Sys2Proof.Machine.execWLdws c t a b imm s
  | .wStb c t a b imm => Sys2Proof.Machine.execWStb c t a b imm s
  | .wSth c t a b imm => Sys2Proof.Machine.execWSth c t a b imm s
  | .wStw c t a b imm => Sys2Proof.Machine.execWStw c t a b imm s
  | .wStd c t a b imm => Sys2Proof.Machine.execWStd c t a b imm s
  | .wLdhn c t a b imm => Sys2Proof.Machine.execWLdhn c t a b imm s
  | .wLdwn c t a b imm => Sys2Proof.Machine.execWLdwn c t a b imm s
  | .wSthn c t a b imm => Sys2Proof.Machine.execWSthn c t a b imm s
  | .wStwn c t a b imm => Sys2Proof.Machine.execWStwn c t a b imm s
  | .wCsrd c t a n => Sys2Proof.Machine.execWCsrd c t a n s
  | .wCsswp c t a b n => Sys2Proof.Machine.execWCsswp c t a b n s
  | .wCsadd c t a b n => Sys2Proof.Machine.execWCsadd c t a b n s
  | .wCsand c t a b n => Sys2Proof.Machine.execWCsand c t a b n s
  | .wCsor c t a b n => Sys2Proof.Machine.execWCsor c t a b n s
  | .wCscas c t a b d n => Sys2Proof.Machine.execWCscas c t a b d n s
  | .wCbeq c t a b off => Sys2Proof.Machine.execWCbeq c t a b off s
  | .wCbne c t a b off => Sys2Proof.Machine.execWCbne c t a b off s
  | .wCblt c t a b off => Sys2Proof.Machine.execWCblt c t a b off s
  | .wCbge c t a b off => Sys2Proof.Machine.execWCbge c t a b off s
  | .wCbltu c t a b off => Sys2Proof.Machine.execWCbltu c t a b off s
  | .wCbgeu c t a b off => Sys2Proof.Machine.execWCbgeu c t a b off s
  | .wCbeqi c t a imm off => Sys2Proof.Machine.execWCbeqi c t a imm off s
  | .wCbnei c t a imm off => Sys2Proof.Machine.execWCbnei c t a imm off s
  | .wCblti c t a imm off => Sys2Proof.Machine.execWCblti c t a imm off s
  | .wCbgei c t a imm off => Sys2Proof.Machine.execWCbgei c t a imm off s
  | .wCbltui c t a imm off => Sys2Proof.Machine.execWCbltui c t a imm off s
  | .wCbgeui c t a imm off => Sys2Proof.Machine.execWCbgeui c t a imm off s
  | .wJ c t a off => Sys2Proof.Machine.execWJ c t a off s
  | .wJr c t a b imm => Sys2Proof.Machine.execWJr c t a b imm s
  | .wLoop c t b endOff => Sys2Proof.Machine.execWLoop c t b endOff s
  | .wLoopi c t n endOff => Sys2Proof.Machine.execWLoopi c t n endOff s
  | .wReqC c t a b tag => Sys2Proof.Machine.execWReqC c t a b tag s
  | .wReqP c t a b tag => Sys2Proof.Machine.execWReqP c t a b tag s
  | .wWait c t => Sys2Proof.Machine.execWWait c t s
  | .wEvwait c t a mask => Sys2Proof.Machine.execWEvwait c t a mask s
  | .wEvsend c t line dst => Sys2Proof.Machine.execWEvsend c t line dst s
  | .wEnd c t => Sys2Proof.Machine.execWEnd c t s
  | .wFault c t code => Sys2Proof.Machine.execWFault c t code s
  | .wScall c t n => Sys2Proof.Machine.execWScall c t n s
  | .wSret c t => Sys2Proof.Machine.execWSret c t s
  | .wMfcr c t a cr => Sys2Proof.Machine.execWMfcr c t a cr s
  | .wMtcr c t b cr => Sys2Proof.Machine.execWMtcr c t b cr s
  | .wCrcc c t a b d sz => Sys2Proof.Machine.execWCrcc c t a b d sz s
  | .wCrce c t a b d sz => Sys2Proof.Machine.execWCrce c t a b d sz s
  | .wCrcz c t a b d => Sys2Proof.Machine.execWCrcz c t a b d s
  | .wHmix c t a b d => Sys2Proof.Machine.execWHmix c t a b d s
  | .wGkey c t b => Sys2Proof.Machine.execWGkey c t b s
  | .wGiv c t b => Sys2Proof.Machine.execWGiv c t b s
  | .wGaad c t b => Sys2Proof.Machine.execWGaad c t b s
  | .wGenc c t b => Sys2Proof.Machine.execWGenc c t b s
  | .wGdec c t b => Sys2Proof.Machine.execWGdec c t b s
  | .wGtag c t b => Sys2Proof.Machine.execWGtag c t b s
  | .wGver c t b => Sys2Proof.Machine.execWGver c t b s
  | .wPfeed c t b d => Sys2Proof.Machine.execWPfeed c t b d s
  | .wPre c t a d => Sys2Proof.Machine.execWPre c t a d s
  | .wPim c t a d => Sys2Proof.Machine.execWPim c t a d s
  | .wPmag c t a d => Sys2Proof.Machine.execWPmag c t a d s
  | .wPang c t a d => Sys2Proof.Machine.execWPang c t a d s
  | .wPcfg c t b => Sys2Proof.Machine.execWPcfg c t b s
  | .wPfeedm c t b d => Sys2Proof.Machine.execWPfeedm c t b d s
  | .wPgetm c t b => Sys2Proof.Machine.execWPgetm c t b s
  | .wCpacq c t cp a => Sys2Proof.Machine.execWCpacq c t cp a s
  | .wCprel c t cp => Sys2Proof.Machine.execWCprel c t cp s
  | .wCpsave c t cp b => Sys2Proof.Machine.execWCpsave c t cp b s
  | .wCpload c t cp b => Sys2Proof.Machine.execWCpload c t cp b s
  | .pcsLockAcquire p => Sys2Proof.Machine.execPcsLockAcquire p s
  | .autonegDone p => Sys2Proof.Machine.execAutonegDone p s
  | .linkTrainingDone p => Sys2Proof.Machine.execLinkTrainingDone p s
  | .fabricBlockLock k => Sys2Proof.Machine.execFabricBlockLock k s
  | .encCountEdge enc up => Sys2Proof.Machine.execEncCountEdge enc up s
  | .ppsOutFall => Sys2Proof.Machine.execPpsOutFall s
  | .ptpMessageSend p k => Sys2Proof.Machine.execPtpMessageSend p k s
  | .memTimeout c t => Sys2Proof.Machine.execMemTimeout c t s
  | .snapshotCopyDone => Sys2Proof.Machine.execSnapshotCopyDone s
  | .snapshotDone => Sys2Proof.Machine.execSnapshotDone s
  | .coreRetestDone c pass => Sys2Proof.Machine.execCoreRetestDone c pass s
  | .sysXinLoss => Sys2Proof.Machine.execSysXinLoss s
  | .refclkRestore c => Sys2Proof.Machine.execRefclkRestore c s

end Sys2Proof.Machine
end

