-- ==== Sys2Proof/Machine/Tick.lean ====
section
/-!
DEFINITION. One nanosecond of local time, which passes when no command waits: the clocks, the counters that integrate time
(R195, R468, R484, R517), frozen leases (R357), the cores' PROGRESS (R276) and bars (R252), the persistent records
(R646), and what fails in the stores.
-/
namespace Sys2Proof.Machine

/-- Egress port codes (R443). -/
def egressPorts : List Nat := List.range 33 ++ [48, 49, 50, 51]

/-- Ports in panic: their time counts, and that of any of them (R468, R484). -/
def State.tickPanic (s : State) : State :=
  match egressPorts.filter s.panics with
  | [] => s
  | ps => ps.foldl (fun (s : State) p => s.bump .panicNs p)
      { s with dram.st.panicActiveNs := satInc s.dram.st.panicActiveNs }

/-- A frame waits for a link whose retry buffer refuses it (R517). -/
def State.retryFull (s : State) (k : Nat) : Bool :=
  (s.link k).st.state = 3 && (s.link k).tx.isNone &&
    (s.portQueues (48 + k)).any fun n => (s.headOf n).isSome && !s.linkTakes (48 + k) n

/-- Links that refuse frames: their time counts. -/
def State.tickRetry (s : State) : State :=
  ((List.range 4).filter s.retryFull).foldl (fun (s : State) k =>
    s.modLink k fun l => { l with st.retryFullNs := satInc l.st.retryFullNs }) s

/-- A normal descriptor waits for a context (R195). -/
def State.stalled (s : State) : Bool :=
  s.sys.mode.live && !s.canTake false && (List.range 34).any fun p => s.parseable p false
/-- The time of held intakes counts. -/
def State.tickStall (s : State) : State := if s.stalled then s.bump .ctxStallNs 0 else s

/-- Under LEASE_FREEZE the lease of a holder whose thread is HALTED pauses (R357). -/
def State.tickLeases (s : State) : State :=
  if s.lock.freeze = 0 then s
  else { s with lock.locks := s.lock.locks.map fun (e : Nat × Lock) =>
      match e.2.holder with
      | some h => if (s.th h.core h.thread).st = .halted then (e.1, { e.2 with leaseEnd := e.2.leaseEnd + 1 }) else e
      | none => e }

/-- Active cores without a running thread, or whose running threads are all excused, make progress (R276). -/
def State.tickCores (s : State) : State :=
  ((s.weft.cores.filter fun e => e.2.active && !e.2.progress && s.idleProgress e.1).map (·.1)).foldl
    (fun (s : State) c => s.modCore c fun k => { k with progress := true }) s

/-- A thread of the core is barred. -/
def Core.barred (k : Core) : Bool := k.threads.any fun (_, h) => decide (0 < h.bar)
/-- The cycles of bars run down, two in a nanosecond at the most (R252). -/
def Core.unbar (k : Core) : Core :=
  { k with threads := (List.range 8).foldl (fun (m : Tab Thread) i => Tab.upd {} m i fun h => { h with bar := h.bar - 2 }) k.threads }
/-- Those of every core with a barred thread. -/
def State.tickBars (s : State) : State :=
  ((s.weft.cores.filter fun e => e.2.barred).map (·.1)).foldl (fun (s : State) c => s.modCore c Core.unbar) s

/-- A list of failed places takes one more. -/
def markBad (l : List Nat) (i : Nat) : List Nat := if l.contains i then l else l ++ [i]

/-- Something fails in a store: it stays so until it is written, or found. What does not exist does not fail. -/
def State.strike (s : State) : Config.Upset → State
  | .none => s
  | .localWord c w => if c < 68 ∧ inR w 0x1000 0x2FFF then s.modCore c fun k => { k with badWords := markBad k.badWords w } else s
  | .register c t r => if c < 68 ∧ t < 8 ∧ inR r 1 31 then s.modTh c t fun h => { h with badRegs := markBad h.badRegs r } else s
  | .shared c r => if c < 68 ∧ r < 16 then s.modCore c fun k => { k with badCs := markBad k.badCs r } else s
  | .cellRec i => if i < cellCount then { s with buf.badRecs := markBad s.buf.badRecs i } else s
  | .rule b i => if i < 8192 then s.modBank b fun k => { k with badRules := markBad k.badRules i } else s
  | .treadleEntry p i =>
    if p < 33 ∧ (s.treadle p).st.active = 1 ∧ i < hdrCount (s.treadle p).actHdr then
      s.modTreadle p fun d => { d with badEnts := markBad d.badEnts i } else s
  | .slotState p x i => if p < 34 ∧ i < (s.warp p).n x then s.modSlot p x i fun t => { t with split := true } else s
  | .slotDesc p x i b =>
    if p < 34 ∧ i < (s.warp p).n x ∧ b < 256 then s.modSlot p x i fun t => { t with desc := t.desc ^^^ (1 <<< b) } else s
  | .dramByte a m =>
    if s.dramOn ∧ a < s.dramSize then
      { s with dram.mem := Mem.write s.dram.mem a [Mem.byte s.dram.mem a ^^^ m] }
    else s
  | .record newer => if newer then { s with selv.newBad := true } else { s with selv.oldBad := true }
  | .cacheLine i k =>
    match Tab.get none s.dram.lines i with
    | some l => s.setLine i (some { l with bad := some (if k = 0 then .data else if k = 1 then .tag else .dirtyCopies) })
    | none => s

/-- Persistent records that have changed are written (R646). -/
def State.tickRecords (s : State) : State := { s with selv := s.selv.saved }

/-- The tick: one nanosecond of the local oscillator, unless the device has stopped, with what fails in it (log entry 5)
the persistent records (R646), and the cache faults that accesses have met (R503). -/
def State.tickAll (s : State) : State :=
  if s.sys.stopped then s
  else
    let s1 := { (s.strike (Config.upset s.time.free)).tickBars.tickCores.tickLeases.tickStall.tickRetry.tickPanic.tickRecords with
      time := { s.time.noted.advance 1 with free := s.time.free + 1 } }
    if s1.dram.met = [] then s1 else s1.tickMet

end Sys2Proof.Machine
end

