-- ==== Sys2Proof/Machine/Step.lean ====
section
/-!
DEFINITION. One step of the block: the command at the front of its queue, or a tick of local time when none waits.
-/
namespace Sys2Proof.Machine

/-- One step: the front command runs with the rest of the queue; on an empty queue local time passes. -/
def step (s : State) : Host.Outcome State Fault Refusal :=
  match s.pending with
  | [] => .next s.tickAll
  | i :: r => exec i { s with pending := r }

/-- The state with the command that a table word spells at the front of its queue: the table gives no row bits, so the
state itself. -/
def State.withFetchWord (s : State) (nbits w : Nat) : State :=
  match Sys2Proof.decodeTableWord nbits w with
  | some i => { s with pending := i :: s.pending }
  | none => s

end Sys2Proof.Machine
end

