-- ==== Sys2Proof/Safety.lean ====
section
/-!
DEFINITION. What a safe run is, and when a command packet is admitted: the terms in which statements speak.
-/
namespace Sys2Proof

/-- A step that answers a next state. -/
def Advances (s : Machine.State) : Prop := ∃ t, Machine.step s = .next t

end Sys2Proof

namespace Sys2Proof.Machine

/-- A command names a generation (R597); a twin's copy need not. -/
def named (q : Cmd) : Bool := q.expGen != 0xFFFFFFFF || (match q.path with | .twin .. => true | _ => false)

/-- A command that a mode and its state admit (R565): its slice is its sender's, its flags, length and reserved bits are
good, it is for this device, the mode serves it, nothing holds it back, and EXP_GEN is none or its object's; on JTAG it is
a debugger's command on an unlocked port. `changes`:
it changes an object; `k`: the tiles of its reply. What the object itself asks is each command's own condition. -/
def State.admits (s : State) (info : OpInfo) (q : Cmd) (keys : List ObjKey) (changes : Bool) (k : Nat) : Bool :=
  !s.sys.stopped &&
  (match q.path with
    | .jtag => decide (q.slice.toNat < 64) && s.sys.jtagOpen && debugOps.contains info.opcode
    | .fabric .. => decide (q.slice.toNat < 64) | .twin .. => decide (q.slice.toNat < 64)
    | _ => decide (q.slice.toNat = s.requester q)) &&
  decide (q.flags.toNat < 4) && decide (q.device = s.devId.setWidth 8) &&
  decide (info.minTiles ≤ q.cont.length + 1) && decide (q.cont.length + 1 ≤ info.maxTiles) &&
  (q.path != .mailbox || (decide (q.cont = []) && k == 1)) &&
  decide (q.params &&& ~~~ info.uses = 0) && (decide (q.cont = []) || decide (q.cont.getLastD 0 &&& info.tileRsv = 0)) &&
  info.modes.allows s.sys.mode && (!s.sys.recovery || recoveryOps.contains info.opcode) &&
  !(changes && (match s.host.snapshot with | some sn => sn.staging | none => false)) &&
  !(s.host.held.any fun h => (h.cmd.path = q.path || (changes && keys.contains (.ruleset, 0))) && sameObject h.keys keys) &&
  !(s.fab.remote.any fun r => r.twin.isSome && r.cmd.path = q.path && sameObject r.keys keys) &&
  (q.expGen == 0xFFFFFFFF || q.expGen == (keys.head?.map s.gen).getD 0)

/-! ## Where each command completes, on the state and the operands alone

`Can.x` is where the command of constructor `x` has its own effect; a second name for one constructor (`x_y`) is another
of its forms. -/

/-! ### The rows as commands -/

/-- The command packets by opcode (R590, R599 to R619). -/
def hostRows : List (Nat × (Cmd → Instr)) :=
  [(0x001, Instr.deviceConfig), (0x002, Instr.deviceGet), (0x003, Instr.modeSet), (0x004, Instr.snapshot), (0x005, Instr.ping),
   (0x101, Instr.sliceConfig), (0x102, Instr.sliceGet), (0x103, Instr.sliceQuiesce), (0x104, Instr.sliceResume), (0x105, Instr.sliceReset),
   (0x201, Instr.portConfig), (0x202, Instr.portGet), (0x301, Instr.pickConfig), (0x302, Instr.pickGet), (0x303, Instr.pickSelect),
   (0x304, Instr.pickConvert)] ++
  [(0x310, Instr.wallConfig), (0x311, Instr.wallGet), (0x312, Instr.wallSet), (0x320, Instr.ptpClockConfig), (0x321, Instr.ptpPortConfig),
   (0x322, Instr.ptpGet), (0x401, Instr.heddleWrite), (0x402, Instr.keyselWrite), (0x403, Instr.parsePortWrite), (0x404, Instr.ruleRangeSet),
   (0x405, Instr.ruleWrite), (0x406, Instr.profileWrite), (0x410, Instr.commitRuleset), (0x411, Instr.rulesetDiscard),
   (0x412, Instr.rulesetGet), (0x413, Instr.rulesetRead)] ++
  [(0x414, Instr.ruleGet), (0x420, Instr.itConfig), (0x421, Instr.itWrite), (0x422, Instr.itGet), (0x430, Instr.hashKeySet),
   (0x431, Instr.hashKeyGet), (0x501, Instr.tablePartSet), (0x502, Instr.tablePartGet), (0x503, Instr.tableConfig),
   (0x504, Instr.tableConfigGet), (0x510, Instr.stationWrite), (0x511, Instr.stationDelete), (0x512, Instr.stationFlush),
   (0x513, Instr.stationGet), (0x520, Instr.streamWrite), (0x521, Instr.streamDelete)] ++
  [(0x522, Instr.streamGet), (0x530, Instr.routeAdd), (0x531, Instr.routeDelete), (0x532, Instr.routeGet), (0x601, Instr.policerConfig),
   (0x602, Instr.policerGet), (0x701, Instr.queueAssign), (0x702, Instr.queueConfig), (0x703, Instr.queueGet), (0x710, Instr.shaperConfig),
   (0x711, Instr.shaperGet), (0x720, Instr.portSchedConfig), (0x721, Instr.portSchedGet), (0x730, Instr.treadleConfig),
   (0x731, Instr.treadleWrite), (0x732, Instr.treadleCommit)] ++
  [(0x733, Instr.treadleAbort), (0x734, Instr.treadleGet), (0x801, Instr.ringConfig), (0x802, Instr.ringGet), (0x803, Instr.chanConfig),
   (0x804, Instr.chanGet), (0x810, Instr.warpConfig), (0x811, Instr.warpGet), (0x820, Instr.poolConfig), (0x821, Instr.poolGet),
   (0x830, Instr.hrAssign), (0x831, Instr.hrConfig), (0x832, Instr.hrGet), (0x833, Instr.hrKick), (0x901, Instr.coreConfig), (0x902, Instr.coreGet)] ++
  [(0x903, Instr.coreRetest), (0x910, Instr.progRegionSet), (0x911, Instr.progConfig), (0x912, Instr.progGet), (0x913, Instr.programLoad),
   (0x914, Instr.progCommit), (0x920, Instr.tgConfig), (0x921, Instr.tgGet), (0x922, Instr.dispatchConfig), (0x923, Instr.dispatchGet),
   (0x930, Instr.taskCreate), (0x931, Instr.taskConfig), (0x932, Instr.taskKick), (0x933, Instr.taskCancel), (0x934, Instr.taskReset),
   (0x935, Instr.taskDestroy)] ++
  [(0x936, Instr.taskGet), (0x940, Instr.delayArm), (0x941, Instr.delayDisarm), (0x942, Instr.delayGet), (0x950, Instr.odConfig),
   (0x951, Instr.odGet), (0xA01, Instr.lockConfig), (0xA02, Instr.lockGet), (0xA03, Instr.lockBreak), (0xA10, Instr.lockUnitConfig),
   (0xA11, Instr.lockUnitGet), (0xB01, Instr.dramGet), (0xB02, Instr.dramLayoutSet), (0xB10, Instr.cacheConfig), (0xB11, Instr.cacheGet),
   (0xB12, Instr.cacheMaint)] ++
  [(0xC01, Instr.fabricConfig), (0xC02, Instr.fabricGet), (0xC03, Instr.fabricLinkConfig), (0xC04, Instr.fabricLinkGet),
   (0xC10, Instr.fabricDiscover), (0xC11, Instr.fabricIdSet), (0xC20, Instr.fabricRouteGet), (0xC21, Instr.routePin),
   (0xC22, Instr.routeUnpin), (0xC30, Instr.fabricTwinConfig), (0xC31, Instr.fabricTwinGet), (0xD01, Instr.selvedgeRead),
   (0xD02, Instr.selvedgeClearArm), (0xD03, Instr.selvedgeClear), (0xD20, Instr.imageWrite), (0xD21, Instr.imageCommit)] ++
  [(0xE01, Instr.statsRead), (0xE02, Instr.counterRangeSet), (0xE03, Instr.counterRead), (0xE04, Instr.counterRangeGet),
   (0xF01, Instr.debugAttach), (0xF02, Instr.debugDetach), (0xF03, Instr.debugHalt), (0xF04, Instr.debugResume), (0xF05, Instr.debugStep),
   (0xF06, Instr.debugBreak), (0xF07, Instr.debugRead), (0xF08, Instr.debugWrite), (0xF10, Instr.jtagChallenge), (0xF11, Instr.jtagUnlock)]

/-- The Weft instruction that a row issues, with its core and thread; none of the other rows is one. -/
def Instr.weft : Instr → Option (Fin 68 × Fin 8 × WeftOp)
  | .wAdd c t a b d => some (c, t, .add a b d)
  | .wSub c t a b d => some (c, t, .sub a b d)
  | .wAnd c t a b d => some (c, t, .and a b d)
  | .wOr c t a b d => some (c, t, .or a b d)
  | .wXor c t a b d => some (c, t, .xor a b d)
  | .wAndn c t a b d => some (c, t, .andn a b d)
  | .wSll c t a b d => some (c, t, .sll a b d)
  | .wSrl c t a b d => some (c, t, .srl a b d)
  | .wSra c t a b d => some (c, t, .sra a b d)
  | .wRol c t a b d => some (c, t, .rol a b d)
  | .wSlt c t a b d => some (c, t, .slt a b d)
  | .wSltu c t a b d => some (c, t, .sltu a b d)
  | .wSeq c t a b d => some (c, t, .seq a b d)
  | .wMin c t a b d => some (c, t, .min a b d)
  | .wMax c t a b d => some (c, t, .max a b d)
  | .wMinu c t a b d => some (c, t, .minu a b d)
  | .wMaxu c t a b d => some (c, t, .maxu a b d)
  | .wMul c t a b d => some (c, t, .mul a b d)
  | .wMulh c t a b d => some (c, t, .mulh a b d)
  | .wMulhu c t a b d => some (c, t, .mulhu a b d)
  | .wAddi c t a b imm => some (c, t, .addi a b imm)
  | .wAndi c t a b imm => some (c, t, .andi a b imm)
  | .wOri c t a b imm => some (c, t, .ori a b imm)
  | .wXori c t a b imm => some (c, t, .xori a b imm)
  | .wSlli c t a b n => some (c, t, .slli a b n)
  | .wSrli c t a b n => some (c, t, .srli a b n)
  | .wSrai c t a b n => some (c, t, .srai a b n)
  | .wRoli c t a b n => some (c, t, .roli a b n)
  | .wExt c t a b pos lenM1 => some (c, t, .ext a b pos lenM1)
  | .wExts c t a b pos lenM1 => some (c, t, .exts a b pos lenM1)
  | .wIns c t a b pos lenM1 => some (c, t, .ins a b pos lenM1)
  | .wLi c t a hw imm => some (c, t, .li a hw imm)
  | .wLik c t a hw imm => some (c, t, .lik a hw imm)
  | .wBsw16 c t a b => some (c, t, .bsw16 a b)
  | .wBsw32 c t a b => some (c, t, .bsw32 a b)
  | .wBsw64 c t a b => some (c, t, .bsw64 a b)
  | .wClz c t a b => some (c, t, .clz a b)
  | .wCtz c t a b => some (c, t, .ctz a b)
  | .wPopc c t a b => some (c, t, .popc a b)
  | .wLdb c t a b imm => some (c, t, .ldb a b imm)
  | .wLdh c t a b imm => some (c, t, .ldh a b imm)
  | .wLdw c t a b imm => some (c, t, .ldw a b imm)
  | .wLdd c t a b imm => some (c, t, .ldd a b imm)
  | .wLdbs c t a b imm => some (c, t, .ldbs a b imm)
  | .wLdhs c t a b imm => some (c, t, .ldhs a b imm)
  | .wLdws c t a b imm => some (c, t, .ldws a b imm)
  | .wStb c t a b imm => some (c, t, .stb a b imm)
  | .wSth c t a b imm => some (c, t, .sth a b imm)
  | .wStw c t a b imm => some (c, t, .stw a b imm)
  | .wStd c t a b imm => some (c, t, .std a b imm)
  | .wLdhn c t a b imm => some (c, t, .ldhn a b imm)
  | .wLdwn c t a b imm => some (c, t, .ldwn a b imm)
  | .wSthn c t a b imm => some (c, t, .sthn a b imm)
  | .wStwn c t a b imm => some (c, t, .stwn a b imm)
  | .wCsrd c t a n => some (c, t, .csrd a n)
  | .wCsswp c t a b n => some (c, t, .csswp a b n)
  | .wCsadd c t a b n => some (c, t, .csadd a b n)
  | .wCsand c t a b n => some (c, t, .csand a b n)
  | .wCsor c t a b n => some (c, t, .csor a b n)
  | .wCscas c t a b d n => some (c, t, .cscas a b d n)
  | .wCbeq c t a b off => some (c, t, .cbeq a b off)
  | .wCbne c t a b off => some (c, t, .cbne a b off)
  | .wCblt c t a b off => some (c, t, .cblt a b off)
  | .wCbge c t a b off => some (c, t, .cbge a b off)
  | .wCbltu c t a b off => some (c, t, .cbltu a b off)
  | .wCbgeu c t a b off => some (c, t, .cbgeu a b off)
  | .wCbeqi c t a imm off => some (c, t, .cbeqi a imm off)
  | .wCbnei c t a imm off => some (c, t, .cbnei a imm off)
  | .wCblti c t a imm off => some (c, t, .cblti a imm off)
  | .wCbgei c t a imm off => some (c, t, .cbgei a imm off)
  | .wCbltui c t a imm off => some (c, t, .cbltui a imm off)
  | .wCbgeui c t a imm off => some (c, t, .cbgeui a imm off)
  | .wJ c t a off => some (c, t, .j a off)
  | .wJr c t a b imm => some (c, t, .jr a b imm)
  | .wLoop c t b endOff => some (c, t, .loop b endOff)
  | .wLoopi c t n endOff => some (c, t, .loopi n endOff)
  | .wReqC c t a b tag => some (c, t, .reqC a b tag)
  | .wReqP c t a b tag => some (c, t, .reqP a b tag)
  | .wWait c t => some (c, t, .wait)
  | .wEvwait c t a mask => some (c, t, .evwait a mask)
  | .wEvsend c t line dst => some (c, t, .evsend line dst)
  | .wEnd c t => some (c, t, .endTask)
  | .wFault c t code => some (c, t, .fault code)
  | .wScall c t n => some (c, t, .scall n)
  | .wSret c t => some (c, t, .sret)
  | .wMfcr c t a cr => some (c, t, .mfcr a cr)
  | .wMtcr c t b cr => some (c, t, .mtcr b cr)
  | .wCrcc c t a b d sz => some (c, t, .crcc a b d sz)
  | .wCrce c t a b d sz => some (c, t, .crce a b d sz)
  | .wCrcz c t a b d => some (c, t, .crcz a b d)
  | .wHmix c t a b d => some (c, t, .hmix a b d)
  | .wGkey c t b => some (c, t, .gkey b)
  | .wGiv c t b => some (c, t, .giv b)
  | .wGaad c t b => some (c, t, .gaad b)
  | .wGenc c t b => some (c, t, .genc b)
  | .wGdec c t b => some (c, t, .gdec b)
  | .wGtag c t b => some (c, t, .gtag b)
  | .wGver c t b => some (c, t, .gver b)
  | .wPfeed c t b d => some (c, t, .pfeed b d)
  | .wPre c t a d => some (c, t, .pre a d)
  | .wPim c t a d => some (c, t, .pim a d)
  | .wPmag c t a d => some (c, t, .pmag a d)
  | .wPang c t a d => some (c, t, .pang a d)
  | .wPcfg c t b => some (c, t, .pcfg b)
  | .wPfeedm c t b d => some (c, t, .pfeedm b d)
  | .wPgetm c t b => some (c, t, .pgetm b)
  | .wCpacq c t cp a => some (c, t, .cpacq cp a)
  | .wCprel c t cp => some (c, t, .cprel cp)
  | .wCpsave c t cp b => some (c, t, .cpsave cp b)
  | .wCpload c t cp b => some (c, t, .cpload cp b)
  | _ => none

/-! ### Parts of the state -/

/-- The device's objects are the same in two states (R565, R567): all state but that of replies (windows, rings of
replies, interrupts, the record of outputs), of links, of the counters, of the start-up script's replies and of drawn
free values. -/
def SameObjects (s t : State) : Prop :=
  { t.time with free := s.time.free } = s.time ∧ t.selv = s.selv ∧ t.ports = s.ports ∧ t.buf = s.buf ∧
  t.task = s.task ∧ t.rules = s.rules ∧ t.weft = s.weft ∧ t.tm = s.tm ∧ t.lock = s.lock ∧ t.tab = s.tab ∧
  t.dram = s.dram ∧ t.pending = s.pending ∧ t.sys.mode = s.sys.mode ∧ t.sys.flash = s.sys.flash ∧
  t.host.gens = s.host.gens ∧ t.host.devGen = s.host.devGen ∧ t.host.devCfg = s.host.devCfg ∧
  t.host.rings = s.host.rings ∧ t.host.ctrRange = s.host.ctrRange ∧ t.host.pairs = s.host.pairs ∧
  t.host.deferred = s.host.deferred ∧ t.fab.cfg = s.fab.cfg ∧ t.fab.twin = s.fab.twin ∧ t.fab.routes = s.fab.routes ∧
  (Tab.wf ({} : SliceHost) s.host.slices = true →
    Tab.wf ({} : SliceHost) t.host.slices = true ∧ ∀ n, (t.sl n).cfg = (s.sl n).cfg)

/-- An address at which an instruction may stand (R283): a multiple of 4 that is not the last word of its tile. -/
def goodPc (pc : Nat) : Bool := pc % 4 == 0 && pc % 64 != 60

/-- A thread in good order: its PC and the ends of its loops are instruction addresses (R283, R293), at most three levels
are active (R295), and its registers are in canonical form. -/
def Thread.good (h : Thread) : Bool :=
  goodPc h.pc && h.loops.all (fun l => goodPc l.ls && goodPc l.le) && decide (h.loops.length ≤ 3) &&
    Tab.wf (0 : Word) h.regs

/-- A core in good order: each thread is, and its tables are in canonical form. -/
def Core.good (k : Core) : Bool :=
  Tab.wf ({} : Thread) k.threads && k.threads.all (fun p => p.2.good) && Tab.wf (0 : Word) k.cs && Tab.wf (0 : Byte) k.lmem

/-- The cores and DRAM in good order. -/
def State.weftGood (s : State) : Bool :=
  Tab.wf ({} : Core) s.weft.cores && s.weft.cores.all (fun p => p.2.good) && Tab.wf (0 : Byte) s.dram.mem

/-- A service command names a request of this helper and operation that may be served now (R312). -/
def State.asked (s : State) (k code op : Nat) (o : HelperOp) : Bool := !s.sys.stopped && s.opAt k code op == some o

/-! ### Weft instructions -/

/-- What issuing alone changes: the cache's order, the turn and the bars of the core's threads (R251, R252), the progress
mark, ISSUED, and the mark that a breakpoint has held the thread. -/
def State.issued (s : State) (c t : Nat) : State :=
  ((s.modCore c fun k =>
    { (k.useTile ((s.th c t).pc / 64)).cycle t (((s.atPc c t).map opBar).getD 0) with progress := true }).bump .issued c).modTh
      c t fun h => { h with skipBp := false }

/-- The instruction at a thread's PC issues: the thread is the one its core selects (R251, R252, R281), its PC may be
fetched and its tile is cached (R267, R269), the word there encodes the instruction (R285), it may stand where it stands
in a loop (R296), and what it reads has good parity (R678). -/
def State.issues (s : State) (c t : Nat) (op : WeftOp) : Bool :=
  let h := s.th c t
  !s.sys.stopped && s.selected c == some t && s.goodTarget c t (BitVec.ofNat 64 h.pc) &&
    (s.core c).cached (h.pc / 64) && s.atPc c t == some op && !(h.onEnd && noLoopEnd op) &&
    (s.issued c t).parityFault c t op == none

/-- The state after an instruction that has issued: its effect, then the debugger's part (R281). -/
def State.does (s : State) (c t : Nat) (f : State → State) : State := (f (s.issued c t)).afterStep c t

/-- A task may use a core-shared register at its level (R259). -/
def State.mayShare (s : State) (c t : Nat) (n : BitVec 4) : Bool :=
  let k := s.core c
  let h := s.th c t
  h.priv == .m || (k.cfg.csEn.getLsbD n.toNat && (k.cfg.csOwner.extractLsb' (6 * n.toNat) 6).toNat == s.sliceOf c t &&
    (h.priv == .s || !k.cfg.csSupv.getLsbD n.toNat))

/-- An active level whose body holds the present address ends after the new end (R295). -/
def Thread.nests (h : Thread) (le : Nat) : Bool :=
  !(h.loops.any fun l => l.ls ≤ h.pc && h.pc ≤ l.le && l.le ≤ le)

end Sys2Proof.Machine
namespace Sys2Proof

/-- The general register that an instruction writes. -/
def WeftOp.dest : WeftOp → Option (BitVec 5)
  | .add a _ _ | .sub a _ _ | .and a _ _ | .or a _ _ | .xor a _ _ | .andn a _ _ | .sll a _ _ | .srl a _ _ | .sra a _ _
  | .rol a _ _ | .slt a _ _ | .sltu a _ _ | .seq a _ _ | .min a _ _ | .max a _ _ | .minu a _ _ | .maxu a _ _ | .mul a _ _
  | .mulh a _ _ | .mulhu a _ _ | .addi a _ _ | .andi a _ _ | .ori a _ _ | .xori a _ _ | .slli a _ _ | .srli a _ _
  | .srai a _ _ | .roli a _ _ | .ext a _ _ _ | .exts a _ _ _ | .ins a _ _ _ | .li a _ _ | .lik a _ _ | .bsw16 a _
  | .bsw32 a _ | .bsw64 a _ | .clz a _ | .ctz a _ | .popc a _ | .ldb a _ _ | .ldh a _ _ | .ldw a _ _ | .ldd a _ _
  | .ldbs a _ _ | .ldhs a _ _ | .ldws a _ _ | .ldhn a _ _ | .ldwn a _ _ | .csrd a _ | .csswp a _ _ | .csadd a _ _
  | .csand a _ _ | .csor a _ _ | .cscas a _ _ _ | .j a _ | .jr a _ _ | .evwait a _ | .mfcr a _ | .crcc a _ _ _
  | .crce a _ _ _ | .crcz a _ _ | .hmix a _ _ | .pre a _ | .pim a _ | .pmag a _ | .pang a _ | .cpacq _ a => some a
  | .stb .. | .sth .. | .stw .. | .std .. | .sthn .. | .stwn .. | .cbeq .. | .cbne .. | .cblt .. | .cbge .. | .cbltu ..
  | .cbgeu .. | .cbeqi .. | .cbnei .. | .cblti .. | .cbgei .. | .cbltui .. | .cbgeui .. | .loop .. | .loopi .. | .reqC ..
  | .reqP .. | .wait | .evsend .. | .endTask | .fault .. | .scall .. | .sret | .mtcr .. | .gkey .. | .giv .. | .gaad ..
  | .genc .. | .gdec .. | .gtag .. | .gver .. | .pfeed .. | .pcfg .. | .pfeedm .. | .pgetm .. | .cprel .. | .cpsave ..
  | .cpload .. => none

/-- The base register, the offset and the bytes of a load or a store (R289). -/
def WeftOp.access : WeftOp → Option (BitVec 5 × BitVec 15 × Nat)
  | .ldb _ b o | .ldbs _ b o | .stb _ b o => some (b, o, 1)
  | .ldh _ b o | .ldhs _ b o | .ldhn _ b o | .sth _ b o | .sthn _ b o => some (b, o, 2)
  | .ldw _ b o | .ldws _ b o | .ldwn _ b o | .stw _ b o | .stwn _ b o => some (b, o, 4)
  | .ldd _ b o | .std _ b o => some (b, o, 8)
  | _ => none

/-- An instruction that stores to memory when it issues (R289). -/
def WeftOp.isStore : WeftOp → Bool
  | .stb .. | .sth .. | .stw .. | .std .. | .sthn .. | .stwn .. => true
  | _ => false

/-- An instruction that writes a core-shared register (R290). -/
def WeftOp.writesShared : WeftOp → Bool
  | .csswp .. | .csadd .. | .csand .. | .csor .. | .cscas .. => true
  | _ => false

end Sys2Proof
namespace Sys2Proof.Machine

/-- DEVICE_CONFIG: the packet is admitted (R565) and what the command itself asks holds. -/
def Can.deviceConfig (q : Cmd) (s : State) : Bool :=
  s.admits (setOp 0x001 .all DevCfg.rsv) q [(.device, 0)] true 1 &&
    q.h = 0 &&
    isSl0 s q

/-- DEVICE_GET: the packet is admitted (R565) and what the command itself asks holds. -/
def Can.deviceGet (q : Cmd) (s : State) : Bool :=
  s.admits (getOp 0x002 .all) q [(.device, 0)] false 3 &&
    q.h = 0 &&
    clearOk s q 0

/-- MODE_SET: the packet is admitted (R565) and what the command itself asks holds. -/
def Can.modeSet (q : Cmd) (s : State) : Bool :=
  let old := s.sys.mode
  s.admits (actOp 0x003 .all (used 16 1)) q [(.mode, 0)] false 1 &&
    q.h = 0 && isSl0 s q && !s.modeBusy && !(s.host.snapshot.any (·.staging)) &&
    (match Mode.ofCode (q.u8 16) with
      | some m => modeRow old m && !decide (old = .boot ∧ m = .commission ∧ !s.sys.hostReady) && s.modeReady old m
      | none => false)

/-- SNAPSHOT: the packet is admitted (R565) and what the command itself asks holds. -/
def Can.snapshot (q : Cmd) (s : State) : Bool :=
  let n := s.requester q
  let addr := q.u64 16
  let len := q.u64 24
  let flags : BitVec 8 := BitVec.ofNat 8 (q.u8 32)
  let need := 64 * s.snapSize n flags
  s.admits (actOp 0x004 .live (used 16 17)) q [(.device, 0)] false 1 &&
    !(len.toNat % 64 ≠ 0) &&
    q.h = 0 &&
    !(addr.toNat % 64 ≠ 0) &&
    !(flags &&& 0xFC ≠ 0) &&
    !(len.toNat < need) &&
    !(s.host.snapshot.isSome)

/-- PING: the packet is admitted (R565) and what the command itself asks holds. -/
def Can.ping (q : Cmd) (s : State) : Bool :=
  s.admits (actOp 0x005 .all 0) q [(.device, 0)] false 1 &&
    q.h = 0

/-- SLICE_CONFIG: the packet is admitted (R565) and what the command itself asks holds. -/
def Can.sliceConfig (q : Cmd) (s : State) : Bool :=
  let c := SliceCfg.ofTile (q.tile 1)
  let o := (s.sl q.h).cfg
  let ringsChange : Bool := o.enable = 1 && c.rings ≠ o.rings
  let box : Bool := q.h = 0 && q.path = .mailbox
  let winChange : Bool := c.winBase ≠ o.winBase || c.winMib ≠ o.winMib || c.winCid ≠ o.winCid
  s.admits (setOp 0x101 .all SliceCfg.rsv) q [(.slice, q.h)] true 1 &&
    q.h < 64 && isSl0 s q && !(c.winMib ≠ 0 && !s.dramOn) && !s.sliceBad q.h c && !(ringsChange && !box) &&
    !(winChange && s.sliceRuns q.h)

/-- SLICE_GET: the packet is admitted (R565) and what the command itself asks holds. -/
def Can.sliceGet (q : Cmd) (s : State) : Bool :=
  s.admits (getOp 0x102 .all) q [(.slice, q.h)] false 3 &&
    q.h < 64 &&
    (isSl0 s q || decide (s.requester q = q.h)) &&
    !(q.clear && !isSl0 s q)

/-- SLICE_QUIESCE: the packet is admitted (R565) and what the command itself asks holds. -/
def Can.sliceQuiesce (q : Cmd) (s : State) : Bool :=
  let st := (s.sl q.h).st.state
  s.admits (actOp 0x103 .all 0) q [(.slice, q.h)] true 1 &&
    q.h < 64 &&
    sliceMine s q &&
    !(st = 0) &&
    !(st = 4)

/-- SLICE_RESUME: the packet is admitted (R565) and what the command itself asks holds. -/
def Can.sliceResume (q : Cmd) (s : State) : Bool :=
  let st := (s.sl q.h).st.state
  s.admits (actOp 0x104 .all 0) q [(.slice, q.h)] true 1 &&
    q.h < 64 &&
    sliceMine s q &&
    !(st ≠ 2 && st ≠ 3)

/-- SLICE_RESET: the packet is admitted (R565) and what the command itself asks holds. -/
def Can.sliceReset (q : Cmd) (s : State) : Bool :=
  s.admits (actOp 0x105 .all 0) q [(.slice, q.h)] true 1 && q.h < 64 && !(q.h = 0) && sliceMine s q &&
    (s.sl q.h).st.state = 3

/-- PORT_CONFIG: the packet is admitted (R565) and what the command itself asks holds. -/
def Can.portConfig (q : Cmd) (s : State) : Bool :=
  let c := PortCfg.ofTile (q.tile 1)
  let o := (s.port q.h).cfg
  let base := q.h / 4 * 4
  s.admits (setOp 0x201 .live PortCfg.rsv) q [(.port, q.h)] true 1 &&
    q.h ≤ 32 &&
    !(s.absorbed q.h) &&
    !(c.bad q.h) &&
    isSl0 s q &&
    !(fourLane c.mode && c.enable = 1 && [1, 2, 3].any (fun k => decide ((s.port (base + k)).cfg.enable = 1))) &&
    !(o.enable = 1 && !c.fixedSame o)

/-- PORT_GET: the packet is admitted (R565) and what the command itself asks holds. -/
def Can.portGet (q : Cmd) (s : State) : Bool :=
  s.admits (getOp 0x202 .live) q [(.port, q.h)] false 3 &&
    q.h ≤ 32 &&
    !(s.absorbed q.h) &&
    clearOk s q 0

/-- PICK_CONFIG: the packet is admitted (R565) and what the command itself asks holds. -/
def Can.pickConfig (q : Cmd) (s : State) : Bool :=
  let c := PickCfg.ofTile (q.tile 1)
  let o := (s.pick q.h).set
  s.admits (setOp 0x301 .live PickCfg.rsv) q [(.pick, q.h)] true 1 &&
    q.h < 4 &&
    !(c.bad) &&
    isSl0 s q &&
    !(o.enable = 1 && (c.nomFreq ≠ o.nomFreq || c.synthFreq ≠ o.synthFreq || c.encCpr ≠ o.encCpr)) &&
    !(o.enable = 1 && c.enable = 0 && s.pickNamed q.h)

/-- PICK_GET: the packet is admitted (R565) and what the command itself asks holds. -/
def Can.pickGet (q : Cmd) (s : State) : Bool :=
  s.admits (getOp 0x302 .live) q [(.pick, q.h)] false 3 &&
    q.h < 4 &&
    clearOk s q 0

/-- PICK_SELECT: the packet is admitted (R565) and what the command itself asks holds. -/
def Can.pickSelect (q : Cmd) (s : State) : Bool :=
  let p := s.pick q.h
  let pri := q.u8 16 = 0
  s.admits (actOp 0x303 .live (used 16 1)) q [(.pick, q.h)] true 1 &&
    q.h < 4 &&
    q.u8 16 < 2 &&
    isSl0 s q &&
    !(p.st.state = 0) &&
    !(p.st.state = 1) &&
    !(!p.valid pri (p.at s.now))

/-- PICK_CONVERT: the packet is admitted (R565) and what the command itself asks holds. -/
def Can.pickConvert (q : Cmd) (s : State) : Bool :=
  s.admits (actOp 0x304 .live (used 16 2 ||| used 24 8)) q [] false 1 &&
    q.h = 0 &&
    q.u8 16 < 5 &&
    q.u8 17 < 5

/-- WALL_CONFIG: the packet is admitted (R565) and what the command itself asks holds. -/
def Can.wallConfig (q : Cmd) (s : State) : Bool :=
  let c := WallCfg.ofTile (q.tile 1)
  s.admits (setOp 0x310 .live WallCfg.rsv) q [(.wall, 0)] true 1 &&
    q.h = 0 &&
    !(c.bad) &&
    isSl0 s q

/-- WALL_GET: the packet is admitted (R565) and what the command itself asks holds. -/
def Can.wallGet (q : Cmd) (s : State) : Bool :=
  s.admits (getOp 0x311 .live) q [(.wall, 0)] false 3 &&
    q.h = 0 &&
    clearOk s q 0

/-- WALL_SET: the packet is admitted (R565) and what the command itself asks holds. -/
def Can.wallSet (q : Cmd) (s : State) : Bool :=
  s.admits (actOp 0x312 .chs (used 16 8)) q [(.wall, 0)] true 1 &&
    q.h = 0 &&
    isSl0 s q

/-- PTP_CLOCK_CONFIG: the packet is admitted (R565) and what the command itself asks holds. -/
def Can.ptpClockConfig (q : Cmd) (s : State) : Bool :=
  let c := PtpClock.ofTile (q.tile 1)
  s.admits (setOp 0x320 .live PtpClock.rsv) q [(.ptpClock, 0)] true 1 &&
    q.h = 0 &&
    c.clockType.toNat < 5 &&
    inR c.announceTimeout.toNat 2 10 &&
    isSl0 s q

/-- PTP_PORT_CONFIG: the packet is admitted (R565) and what the command itself asks holds. -/
def Can.ptpPortConfig (q : Cmd) (s : State) : Bool :=
  let c := PtpPort.ofTile (q.tile 1)
  s.admits (setOp 0x321 .live PtpPort.rsv) q [(.ptpPort, q.h)] true 1 &&
    q.h ≤ 32 &&
    !(s.absorbed q.h) &&
    !(c.transport = 3) &&
    sByteIn c.logSync (-7) 4 &&
    sByteIn c.logPdelay (-7) 4 &&
    sByteIn c.logAnnounce (-3) 4 &&
    isSl0 s q

/-- PTP_GET: the packet is admitted (R565) and what the command itself asks holds. -/
def Can.ptpGet (q : Cmd) (s : State) : Bool :=
  s.admits (getOp 0x322 .live) q [(.ptpPort, q.h)] false 4 &&
    q.h ≤ 32 &&
    !(s.absorbed q.h) &&
    clearOk s q 0

/-- HEDDLE_WRITE: the packet is admitted (R565) and what the command itself asks holds. -/
def Can.heddleWrite (q : Cmd) (s : State) : Bool :=
  let d := Heddle.ofTile (q.tile 1)
  s.admits (setOp 0x401 .live Heddle.rsv) q [(.ruleset, 0)] true 1 &&
    q.h < 48 &&
    !(d.bad) &&
    isSl0 s q &&
    !(s.rulesBusy)

/-- KEYSEL_WRITE: the packet is admitted (R565) and what the command itself asks holds. -/
def Can.keyselWrite (q : Cmd) (s : State) : Bool :=
  s.admits (setOp 0x402 .live (put 512 448 (BitVec.allOnes 32))) q [(.ruleset, 0)] true 1 &&
    q.h = 0 &&
    isSl0 s q &&
    !(s.rulesBusy)

/-- PARSE_PORT_WRITE: the packet is admitted (R565) and what the command itself asks holds. -/
def Can.parsePortWrite (q : Cmd) (s : State) : Bool :=
  let c := ParsePort.ofTile (q.tile 1)
  s.admits (setOp 0x403 .live ParsePort.rsv) q [(.ruleset, 0)] true 1 &&
    q.h < 34 &&
    !(s.absorbed q.h) &&
    !(c.bad) &&
    isSl0 s q &&
    !(s.rulesBusy)

/-- RULE_RANGE_SET: the packet is admitted (R565) and what the command itself asks holds. -/
def Can.ruleRangeSet (q : Cmd) (s : State) : Bool :=
  let r : RuleRange := ⟨q.u16 16, q.u16 18, q.u16 20, q.u16 22⟩
  s.admits (actOp 0x404 .live (used 16 8)) q [(.ruleset, 0)] true 1 &&
    q.h < 64 &&
    !(r.ruleFirst + r.ruleCount > 8192) &&
    !(r.profFirst + r.profCount > 1024) &&
    isSl0 s q &&
    !(s.staged.ranges.any (fun (k, o) => k ≠ q.h && (meets r.ruleFirst r.ruleCount o.ruleFirst o.ruleCount || meets r.profFirst r.profCount o.profFirst o.profCount))) &&
    !(s.rulesBusy)

/-- RULE_WRITE: the packet is admitted (R565) and what the command itself asks holds. -/
def Can.ruleWrite (q : Cmd) (s : State) : Bool :=
  let v := ruleRecord q
  let r : Rule := { value := v.extractLsb' 0 512, mask := v.extractLsb' 512 512, valid := v.extractLsb' 1024 1
                    profile := v.extractLsb' 1025 10, countEn := v.extractLsb' 1035 1 }
  let me := s.requester q
  s.admits { opcode := 0x405, modes := .live, minTiles := 4, maxTiles := 4, tileRsv := put 512 76 (BitVec.allOnes 404) } q [(.ruleset, 0)] true 1 &&
    q.h < 8192 &&
    !(r.value &&& ~~~ r.mask ≠ 0) &&
    (s.staged.range me).hasRule q.h && (s.staged.range me).hasProfile r.profile.toNat &&
    !(s.rulesBusy)

/-- PROFILE_WRITE: the packet is admitted (R565) and what the command itself asks holds. -/
def Can.profileWrite (q : Cmd) (s : State) : Bool :=
  let c := Profile.ofTile (q.tile 1)
  let me := s.requester q
  s.admits (setOp 0x406 .live Profile.rsv) q [(.ruleset, 0)] true 1 &&
    q.h < 1024 &&
    (s.staged.range me).hasProfile q.h &&
    !(c.valid = 1 && c.owner.toNat ≠ me) &&
    !(s.rulesBusy)

/-- COMMIT_RULESET: the packet is admitted (R565) and what the command itself asks holds. -/
def Can.commitRuleset (q : Cmd) (s : State) : Bool :=
  let x := s.staged.offence
  s.admits (actOp 0x410 .live 0) q [(.ruleset, 0)] true 1 &&
    named q &&
    q.h = 0 &&
    isSl0 s q &&
    !(x.isSome) &&
    !(s.rulesBusy)

/-- RULESET_DISCARD: the packet is admitted (R565) and what the command itself asks holds. -/
def Can.rulesetDiscard (q : Cmd) (s : State) : Bool :=
  s.admits (actOp 0x411 .live 0) q [(.ruleset, 0)] true 1 &&
    q.h = 0 &&
    isSl0 s q &&
    !(s.rulesBusy)

/-- RULESET_GET: the packet is admitted (R565) and what the command itself asks holds. -/
def Can.rulesetGet (q : Cmd) (s : State) : Bool :=
  s.admits (getOp 0x412 .live) q [(.ruleset, 0)] false 1 &&
    q.h = 0 &&
    clearOk s q 0

/-- RULESET_READ: the packet is admitted (R565) and what the command itself asks holds. -/
def Can.rulesetRead (q : Cmd) (s : State) : Bool :=
  let b := if q.u8 16 = 0 then s.curBank else s.staged
  let k := q.u8 17
  let me := s.requester q
  let lim := match k with | 0 => 48 | 1 => 1 | 2 => 34 | 3 => 64 | 4 => 8192 | _ => 1024
  s.admits (actOp 0x413 .live (used 16 2)) q [(.ruleset, 0)] false (if k = 3 then 1 else if k = 4 then 4 else 2) &&
    q.u8 16 < 2 &&
    k < 6 &&
    q.h < lim &&
    !(k = 2 && s.absorbed q.h) &&
    (me = 0 || (k = 3 && me = q.h) || (k = 4 && (b.range me).hasRule q.h) || (k = 5 && (b.range me).hasProfile q.h))

/-- RULE_GET: the packet is admitted (R565) and what the command itself asks holds. -/
def Can.ruleGet (q : Cmd) (s : State) : Bool :=
  s.admits (getOp 0x414 .live) q [(.ruleset, 0)] false 4 &&
    q.h < 8192 &&
    (isSl0 s q || (s.curBank.range (s.requester q)).hasRule q.h)

/-- IT_CONFIG: the packet is admitted (R565) and what the command itself asks holds. -/
def Can.itConfig (q : Cmd) (s : State) : Bool :=
  s.admits (actOp 0x420 .live (used 16 1)) q [(.it, q.h)] true 1 &&
    q.h < 64 &&
    q.u8 16 < 64 &&
    isSl0 s q

/-- IT_WRITE: the packet is admitted (R565) and what the command itself asks holds. -/
def Can.itWrite (q : Cmd) (s : State) : Bool :=
  let n := q.u16 18
  s.admits { opcode := 0x421, modes := .live, minTiles := 2, maxTiles := 38, uses := used 16 1 ||| used 18 2 } q
      [(.it, q.h)] true 1 &&
    !decide (n ≤ 256 ∧ q.cont.length ≠ (n + 6) / 7) && (itRange q).all (!·.1) &&
    !((List.range n).any fun i => cmdEntry8 q i >>> 33 ≠ 0) &&
    !((List.range (7 * q.cont.length)).any fun i => i ≥ n && cmdEntry8 q i ≠ 0) &&
    !(q.cont.any fun t => t.extractLsb' 448 32 ≠ 0) && s.requester q = (s.it q.h).owner.toNat

/-- IT_GET: the packet is admitted (R565) and what the command itself asks holds. -/
def Can.itGet (q : Cmd) (s : State) : Bool :=
  let n := q.u16 18
  s.admits (actOp 0x422 .live (used 16 1 ||| used 18 2)) q [(.it, q.h)] false (1 + (n + 6) / 7) &&
    (itRange q).all (!·.1) && (isSl0 s q || s.requester q = (s.it q.h).owner.toNat)

/-- HASH_KEY_SET: the packet is admitted (R565) and what the command itself asks holds. -/
def Can.hashKeySet (q : Cmd) (s : State) : Bool :=
  s.admits { opcode := 0x430, modes := .live, minTiles := 4, maxTiles := 4, tileRsv := put 512 96 (BitVec.allOnes 384) } q [(.hashKey, 0)] true 1 &&
    q.h = 0 &&
    isSl0 s q

/-- HASH_KEY_GET: the packet is admitted (R565) and what the command itself asks holds. -/
def Can.hashKeyGet (q : Cmd) (s : State) : Bool :=
  s.admits (getOp 0x431 .live) q [(.hashKey, 0)] false 1 &&
    q.h = 0 &&
    isSl0 s q

/-- TABLE_PART_SET: the packet is admitted (R565) and what the command itself asks holds. -/
def Can.tablePartSet (q : Cmd) (s : State) : Bool :=
  let p := TablePart.ofTile (q.tile 1)
  let g := s.ring p.lrnRing.toNat
  s.admits (setOp 0x501 .live TablePart.rsv) q [(.tablePart, q.h)] true 1 &&
    q.h < 64 &&
    !(p.bad) &&
    isSl0 s q &&
    !(p.lrnEn = 1 && !(g.cfg.enable = 1 && g.cfg.owner.toNat = q.h && g.cfg.kind = 0 && g.cfg.itemSize = 0)) &&
    !((s.part q.h).enable = 1 && p.enable = 0 && s.holdsEntries q.h)

/-- TABLE_PART_GET: the packet is admitted (R565) and what the command itself asks holds. -/
def Can.tablePartGet (q : Cmd) (s : State) : Bool :=
  let n := q.h
  s.admits (getOp 0x502 .live) q [(.tablePart, n)] false 2 &&
    n < 64 &&
    ((isSl0 s q || s.requester q = n) && clearOk s q 0)

/-- TABLE_CONFIG: the packet is admitted (R565) and what the command itself asks holds. -/
def Can.tableConfig (q : Cmd) (s : State) : Bool :=
  let c := TableCfg.ofTile (q.tile 1)
  s.admits (setOp 0x503 .live TableCfg.rsv) q [(.tableCfg, 0)] true 1 &&
    q.h = 0 &&
    !(c.evict = 3) &&
    !(c.ageTickMs = 0) &&
    inR c.ageLimit.toNat 1 32767 &&
    isSl0 s q &&
    !(decide (c.hashSeed ≠ s.tab.cfg.hashSeed) && (s.tab.stations.any (fun (_, e) => e.valid = 1) || s.tab.streams.any (fun (_, e) => e.valid) || decide (s.mainSlots ≠ [])))

/-- TABLE_CONFIG_GET: the packet is admitted (R565) and what the command itself asks holds. -/
def Can.tableConfigGet (q : Cmd) (s : State) : Bool :=
  s.admits (getOp 0x504 .live) q [(.tableCfg, 0)] false 2 &&
    q.h = 0 &&
    clearOk s q 0

/-- STATION_WRITE: the packet is admitted (R565) and what the command itself asks holds. -/
def Can.stationWrite (q : Cmd) (s : State) : Bool :=
  let me := s.requester q
  let e := Station.ofTile (q.tile 1)
  let i := q.u32 16
  let held := s.stHeld e.key
  let slot : Option Nat := match held with
    | some n => some n
    | none => if i = anySlot then chooseSlot (s.stCands e.key) s.stFree else if (s.station i).valid = 0 || s.awaits 0 i then some i else none
  s.admits { opcode := 0x510, modes := .live, minTiles := 2, maxTiles := 2, uses := used 16 4, tileRsv := Station.rsv &&& ((1 <<< 480) - 1) } q [(.station, me)] true 1 &&
    q.h = 0 &&
    tileOk (q.tile 1) &&
    !(portReserved e.port.toNat) &&
    s.tabOn q && e.owner.toNat = me &&
    !(e.valid = 0) &&
    !((i ≠ anySlot && (!(s.stCands e.key).contains i || (held.isSome && held != some i)))) &&
    !(slot.isNone) &&
    !((held.isNone && decide (s.stCount me ≥ (s.part me).stQuota.toNat)))

/-- STATION_DELETE: the packet is admitted (R565) and what the command itself asks holds. -/
def Can.stationDelete (q : Cmd) (s : State) : Bool :=
  s.admits (actOp 0x511 .live stNamedUses) q [(.station, s.requester q)] true 1 &&
    q.h = 0 &&
    q.u8 16 ≤ 1 &&
    q.u16 30 < 4096 &&
    s.tabOn q &&
    !((s.stNamed q).isNone)

/-- STATION_FLUSH: the packet is admitted (R565) and what the command itself asks holds. -/
def Can.stationFlush (q : Cmd) (s : State) : Bool :=
  let me := s.requester q
  s.admits (actOp 0x512 .live (dat 16 (3 : BitVec 2) ||| used 18 3)) q [(.station, me)] true 1 &&
    q.h = 0 &&
    q.u16 18 < 4096 &&
    q.u8 20 < 64 &&
    !(portReserved (q.u8 20)) &&
    s.tabOn q &&
    !(s.tab.flushes.any fun f => f.slice = me)

/-- STATION_GET: the packet is admitted (R565) and what the command itself asks holds. -/
def Can.stationGet (q : Cmd) (s : State) : Bool :=
  s.admits (actOp 0x513 .live stNamedUses) q [(.station, s.requester q)] false 2 &&
    q.h = 0 &&
    q.u8 16 ≤ 1 &&
    q.u16 30 < 4096 &&
    s.tabOn q &&
    !((s.stNamed q).isNone) &&
    !((s.stNamed q).any (s.awaits 0))

/-- STREAM_WRITE: the packet is admitted (R565) and what the command itself asks holds. -/
def Can.streamWrite (q : Cmd) (s0 : State) : Bool :=
  let e := Stream.ofTile (q.tile 1)
  let s := s0.seVerified (s0.mainCands e.key)
  let me := s.requester q
  let i := q.u32 16
  let cands := if e.pinned then s.pinCands e.key else s.mainCands e.key
  let held := s.seHeld e.key
  let slot : Option Nat :=
    if i ≠ anySlot then some i
    else match s.seHeldIn cands e.key with
      | some n => some n
      | none => chooseSlot cands s.seFree
  let count := if e.pinned then s.pinCount me else s.mainCount me
  let quota := if e.pinned then (s.part me).sePinQuota.toNat else (s.part me).seMainQuota.toNat
  let inRegion : Bool := match held with | some n => decide (n < mainBase) = e.pinned | none => false
  s0.admits { opcode := 0x520, modes := .live, minTiles := 2, maxTiles := 2, uses := used 16 4 ||| dat 20 (0xC : BitVec 8), tileRsv := Stream.rsv &&& ((1 <<< 480) - 1) } q [(.stream, s0.requester q)] true 1 &&
    s0.tabOn q && e.owner.toNat = s0.requester q &&
    s.admits { opcode := 0x520, modes := .live, minTiles := 2, maxTiles := 2, uses := used 16 4 ||| dat 20 (0xC : BitVec 8), tileRsv := Stream.rsv &&& ((1 <<< 480) - 1) } q [(.stream, me)] true 1 &&
    q.h = 0 &&
    tileOk (q.tile 1) &&
    s.tabOn q && e.owner.toNat = me &&
    e.valid &&
    !(e.badFields) &&
    !((i ≠ anySlot && (decide (i ≥ 1048576) || e.pinned != decide (i < mainBase) || !cands.contains i))) &&
    !(!e.pinned && !s.dramOn) &&
    !(held.isSome && held != slot && !q.opt 20 2) &&
    !(decide (i ≠ anySlot) && (s.awaits 1 i || ((s.stream i).valid && (s.stream i).key != e.key))) &&
    !(slot.isNone) &&
    !((!inRegion && decide (count ≥ quota)))

/-- STREAM_DELETE: the packet is admitted (R565) and what the command itself asks holds. -/
def Can.streamDelete (q : Cmd) (s0 : State) : Bool :=
  let s := s0.seVerified [q.u32 20]
  s0.admits (actOp 0x521 .live (used 20 4)) q [(.stream, s0.requester q)] true 1 &&
    s0.tabOn q &&
    s.admits (actOp 0x521 .live (used 20 4)) q [(.stream, s.requester q)] true 1 &&
    q.h = 0 &&
    s.tabOn q &&
    s.seNamed q

/-- STREAM_GET: the packet is admitted (R565) and what the command itself asks holds. -/
def Can.streamGet (q : Cmd) (s0 : State) : Bool :=
  let s := s0.seVerified [q.u32 20]
  s0.admits (actOp 0x522 .live (used 20 4)) q [(.stream, s0.requester q)] false 2 &&
    s0.tabOn q &&
    s.admits (actOp 0x522 .live (used 20 4)) q [(.stream, s.requester q)] false 2 &&
    q.h = 0 &&
    s.tabOn q &&
    s.seNamed q &&
    !(s.awaits 1 (q.u32 20))

/-- ROUTE_ADD: the packet is admitted (R565) and what the command itself asks holds. -/
def Can.routeAdd (q : Cmd) (s : State) : Bool :=
  let me := s.requester q
  let e := Route.ofTile (q.tile 1)
  let held := s.rtHeld e
  let slot : Option Nat := match held with
    | some n => some n
    | none => firstIdx 131072 fun n => (s.rt n).valid = 0 && !s.awaits 2 n
  s.admits { opcode := 0x530, modes := .live, minTiles := 2, maxTiles := 2, tileRsv := Route.rsv &&& ((1 <<< 480) - 1) } q [(.route, me)] true 1 &&
    q.h = 0 &&
    tileOk (q.tile 1) &&
    s.tabOn q && e.owner.toNat = me &&
    !(e.valid = 0) &&
    !(e.ract = 3) &&
    !(portReserved e.outPort.toNat) &&
    e.shaped &&
    !(held.isNone && (decide (s.rtAll + e.units > 131072) || decide (s.rtUnits me + e.units > (s.part me).rtQuota.toNat) || slot.isNone))

/-- ROUTE_DELETE: the packet is admitted (R565) and what the command itself asks holds. -/
def Can.routeDelete (q : Cmd) (s : State) : Bool :=
  let me := s.requester q
  let e := Route.ofTile (q.tile 1)
  let byKey : Bool := q.u8 16 = 1
  let slot : Option Nat := if byKey then s.rtHeld { e with owner := BitVec.ofNat 6 me }
    else if s.rtNamed q then some (q.u32 20) else none
  s.admits { opcode := 0x531, modes := .live, minTiles := 1, maxTiles := 2, uses := used 16 1 ||| used 20 4, tileRsv := Route.rsv &&& ((1 <<< 480) - 1) } q [(.route, me)] true 1 &&
    q.cont.length = (if byKey then 1 else 0) &&
    q.h = 0 &&
    q.u8 16 ≤ 1 &&
    !((byKey && !e.nameOnly)) &&
    s.tabOn q &&
    !(slot.isNone)

/-- ROUTE_GET: the packet is admitted (R565) and what the command itself asks holds. -/
def Can.routeGet (q : Cmd) (s : State) : Bool :=
  s.admits (actOp 0x532 .live (used 20 4)) q [(.route, s.requester q)] false 2 &&
    q.h = 0 &&
    s.tabOn q &&
    s.rtNamed q &&
    !(s.awaits 2 (q.u32 20))

/-- POLICER_CONFIG: the packet is admitted (R565) and what the command itself asks holds. -/
def Can.policerConfig (q : Cmd) (s : State) : Bool :=
  let c := PolicerCfg.ofTile (q.tile 1)
  let o := (s.policer q.h).cfg
  s.admits (setOp 0x601 .live PolicerCfg.rsv) q [(.policer, q.h)] true 1 &&
    q.h < 16384 &&
    !(c.bad) &&
    ownerSet (s.requester q) o.owner.toNat c.owner.toNat ({ c with owner := o.owner } = o)

/-- POLICER_GET: the packet is admitted (R565) and what the command itself asks holds. -/
def Can.policerGet (q : Cmd) (s : State) : Bool :=
  let p := (s.policer q.h).refill s.now
  s.admits (getOp 0x602 .live) q [(.policer, q.h)] false 3 &&
    q.h < 16384 &&
    (isSl0 s q || s.requester q = p.cfg.owner.toNat)

/-- QUEUE_ASSIGN: the packet is admitted (R565) and what the command itself asks holds. -/
def Can.queueAssign (q : Cmd) (s : State) : Bool :=
  s.admits (actOp 0x701 .live (used 16 3)) q [(.queue, q.h)] true 1 &&
    q.h < 7680 &&
    q.u8 16 < 64 &&
    q.u8 17 ≤ 32 &&
    q.u8 18 ≤ 7 &&
    !(s.absorbed (q.u8 17)) &&
    !(((s.queue q.h).cfg.assigned q).bad) &&
    !(s.queueBad ((s.queue q.h).cfg.assigned q)) &&
    isSl0 s q &&
    !(decide ((s.queue q.h).cfg.enable = 1))

/-- QUEUE_CONFIG: the packet is admitted (R565) and what the command itself asks holds. -/
def Can.queueConfig (q : Cmd) (s : State) : Bool :=
  let c := QueueCfg.ofTile (q.tile 1)
  let o := s.queueCfg q.h
  s.admits (setOp 0x702 .live QueueCfg.rsv) q [(.queue, q.h)] true 1 &&
    q.h < 8192 &&
    !(c.bad) &&
    !(q.h ≥ 7680 && (c.port ≠ 0 || decide (c.tc ≠ o.tc))) &&
    s.requester q = o.owner.toNat && decide (c.owner = o.owner ∧ c.port = o.port ∧ c.tc = o.tc) &&
    !(s.queueBad c) &&
    !(o.enable = 1 && (!c.fixedSame o || (c.enable = 0 && !(s.queue q.h).ents.isEmpty)))

/-- QUEUE_GET: the packet is admitted (R565) and what the command itself asks holds. -/
def Can.queueGet (q : Cmd) (s : State) : Bool :=
  let u := s.queue q.h
  s.admits (getOp 0x703 .live) q [(.queue, q.h)] false 3 &&
    q.h < 8192 &&
    clearOk s q u.cfg.owner.toNat

/-- SHAPER_CONFIG: the packet is admitted (R565) and what the command itself asks holds. -/
def Can.shaperConfig (q : Cmd) (s : State) : Bool :=
  let c := ShaperCfg.ofTile (q.tile 1)
  let h := shaperOf q.h
  let i := (h.map (·.1)).getD 0
  s.admits (setOp 0x710 .live ShaperCfg.rsv) q [(.shaper, i)] true 1 &&
    !(s.noShaper q.h) &&
    !(c.bad) &&
    s.requester q = s.shaperOwner i &&
    !(c.enable = 1 && s.shaperTc7 i ((h.map (·.2)).getD none))

/-- SHAPER_GET: the packet is admitted (R565) and what the command itself asks holds. -/
def Can.shaperGet (q : Cmd) (s : State) : Bool :=
  let i := ((shaperOf q.h).map (·.1)).getD 0
  s.admits (getOp 0x711 .live) q [(.shaper, i)] false 2 &&
    !(s.noShaper q.h) &&
    clearOk s q (s.shaperOwner i)

/-- PORT_SCHED_CONFIG: the packet is admitted (R565) and what the command itself asks holds. -/
def Can.portSchedConfig (q : Cmd) (s : State) : Bool :=
  let c := PortSched.ofTile (q.tile 1)
  s.admits (setOp 0x720 .live PortSched.rsv) q [(.sched, q.h)] true 1 &&
    s.schedPort q.h &&
    !(c.bad q.h) &&
    isSl0 s q &&
    !(s.fabQBad c q.h)

/-- PORT_SCHED_GET: the packet is admitted (R565) and what the command itself asks holds. -/
def Can.portSchedGet (q : Cmd) (s : State) : Bool :=
  s.admits (getOp 0x721 .live) q [(.sched, q.h)] false 2 &&
    s.schedPort q.h &&
    clearOk s q 0

/-- TREADLE_CONFIG: the packet is admitted (R565) and what the command itself asks holds. -/
def Can.treadleConfig (q : Cmd) (s : State) : Bool :=
  s.admits (setOp 0x730 .live TreadleHdr.rsv) q [(.treadle, q.h)] true 1 &&
    s.treadlePort q.h &&
    decide ((TreadleHdr.ofTile (q.tile 1)).scale.toNat < 5) &&
    isSl0 s q

/-- TREADLE_WRITE: the packet is admitted (R565) and what the command itself asks holds. -/
def Can.treadleWrite (q : Cmd) (s : State) : Bool :=
  let n := q.u16 18
  let f := q.u16 16
  s.admits { opcode := 0x731, modes := .live, minTiles := 2, maxTiles := 64, uses := used 16 4 } q [(.treadle, q.h)] true 1 &&
    inR n 1 315 &&
    !(decide (q.cont.length ≠ (n + 4) / 5)) &&
    s.treadlePort q.h &&
    !(f + n > 1024) &&
    !((List.range n).any (fun i => decide (cmdEntry12 q i &&& TreadleEntry.rsv ≠ 0 ∨ (TreadleEntry.ofTile (cmdEntry12 q i)).floorNs.toNat > 1000000000))) &&
    !((List.range (5 * q.cont.length)).any (fun i => i ≥ n && decide (cmdEntry12 q i ≠ 0))) &&
    isSl0 s q &&
    !(decide ((s.treadle q.h).st.pending ≠ 0))

/-- TREADLE_COMMIT: the packet is admitted (R565) and what the command itself asks holds. -/
def Can.treadleCommit (q : Cmd) (s : State) : Bool :=
  let d := s.treadle q.h
  s.admits (actOp 0x732 .live 0) q [(.treadle, q.h)] true 1 &&
    named q &&
    s.treadlePort q.h &&
    isSl0 s q &&
    d.st.pending = 0 &&
    !(s.commitBad d)

/-- TREADLE_ABORT: the packet is admitted (R565) and what the command itself asks holds. -/
def Can.treadleAbort (q : Cmd) (s : State) : Bool :=
  s.admits (actOp 0x733 .live 0) q [(.treadle, q.h)] true 1 &&
    s.treadlePort q.h &&
    isSl0 s q &&
    !(decide ((s.treadle q.h).st.pending ≠ 1))

/-- TREADLE_GET: the packet is admitted (R565) and what the command itself asks holds. -/
def Can.treadleGet (q : Cmd) (s : State) : Bool :=
  let n := q.u16 20
  s.admits (actOp 0x734 .live (used 16 1 ||| used 18 4 ||| dat 22 (1 : BitVec 1))) q [(.treadle, q.h)] false (3 + (n + 4) / 5) &&
    s.treadlePort q.h &&
    (!q.opt 22 0 || isSl0 s q) &&
    q.u8 16 ≤ 1 &&
    n ≤ 305 &&
    !(q.u16 18 + n > 1024)

/-- RING_CONFIG: the packet is admitted (R565) and what the command itself asks holds. -/
def Can.ringConfig (q : Cmd) (s : State) : Bool :=
  let c := RingCfg.ofTile (q.tile 1)
  let o := (s.ring q.h).cfg
  let me := s.requester q
  s.admits (setOp 0x801 .live RingCfg.rsv) q [(.ring, q.h)] true 1 &&
    q.h < 4096 &&
    !(c.bad) &&
    !(c.store = 1 && s.dramOn && decide (c.base.toNat + ringBytes c > s.dramSize)) &&
    ownerSet me o.owner.toNat c.owner.toNat ({ c with owner := o.owner } = o) &&
    !(c.enable = 1 && c.store = 0 && decide (s.ringStore q.h + ringBytes c > 2097152)) &&
    !(c.enable = 1 && c.store = 1 && !s.dramOn) &&
    !(o.enable = 1 && ({ c with enable := o.enable, neEvEn := o.neEvEn, neCore := o.neCore, neThread := o.neThread, neLine := o.neLine } ≠ o))

/-- RING_GET: the packet is admitted (R565) and what the command itself asks holds. -/
def Can.ringGet (q : Cmd) (s : State) : Bool :=
  let g := s.ring q.h
  s.admits (getOp 0x802 .live) q [(.ring, q.h)] false 3 &&
    q.h < 4096 &&
    (isSl0 s q || s.requester q = g.cfg.owner.toNat)

/-- CHAN_CONFIG: the packet is admitted (R565) and what the command itself asks holds. -/
def Can.chanConfig (q : Cmd) (s : State) : Bool :=
  let c := ChanCfg.ofTile (q.tile 1)
  let g := s.ring q.h
  s.admits (setOp 0x803 .live ChanCfg.rsv) q [(.chan, q.h)] true 1 &&
    q.h < 4096 &&
    c.prodCore.toNat ≤ 67 &&
    c.consCore.toNat ≤ 67 &&
    inR c.msgMax.toNat 1 8 &&
    g.cfg.kind = 1 &&
    c.msgMax.toNat ≤ g.depth &&
    s.requester q = g.cfg.owner.toNat &&
    !(g.cfg.enable = 1)

/-- CHAN_GET: the packet is admitted (R565) and what the command itself asks holds. -/
def Can.chanGet (q : Cmd) (s : State) : Bool :=
  let g := s.ring q.h
  s.admits (getOp 0x804 .live) q [(.chan, q.h)] false 3 &&
    q.h < 4096 &&
    g.cfg.kind = 1 &&
    (isSl0 s q || s.requester q = g.cfg.owner.toNat)

/-- WARP_CONFIG: the packet is admitted (R565) and what the command itself asks holds. -/
def Can.warpConfig (q : Cmd) (s : State) : Bool :=
  let c := WarpCfg.ofTile (q.tile 1)
  let o := s.warp q.h
  let poolOk (b : BitVec 6) : Bool := (s.pool b.toNat).cfg.enable = 1 && (s.pool b.toNat).cfg.kind = 0
  s.admits (setOp 0x810 .all WarpCfg.rsv) q [(.warp, q.h)] true 1 &&
    q.h < 34 &&
    !(s.absorbed q.h) &&
    inR c.expDepthLog2.toNat 4 14 &&
    inR c.normDepthLog2.toNat 4 14 &&
    isSl0 s q &&
    poolOk c.rxPool &&
    poolOk c.rxPoolX &&
    !(s.warpStore q.h + warpSlots c > 131072) &&
    !(q.h < 33 && (s.port q.h).cfg.enable = 1) &&
    !(q.h = 33 && s.sys.mode ≠ .commission && s.sys.mode ≠ .boot) &&
    !(c.expDepthLog2 ≠ o.cfg.expDepthLog2 && o.exp.w ≠ o.exp.l) &&
    !(c.normDepthLog2 ≠ o.cfg.normDepthLog2 && o.norm.w ≠ o.norm.l)

/-- WARP_GET: the packet is admitted (R565) and what the command itself asks holds. -/
def Can.warpGet (q : Cmd) (s : State) : Bool :=
  s.admits (getOp 0x811 .all) q [(.warp, q.h)] false 4 &&
    q.h < 34 &&
    !(s.absorbed q.h) &&
    clearOk s q 0

/-- POOL_CONFIG: the packet is admitted (R565) and what the command itself asks holds. -/
def Can.poolConfig (q : Cmd) (s : State) : Bool :=
  let c := PoolCfg.ofTile (q.tile 1)
  let p := s.pool q.h
  let o := p.cfg
  s.admits (setOp 0x820 .live PoolCfg.rsv) q [(.pool, q.h)] true 1 &&
    q.h < 64 &&
    !(c.bad) &&
    isSl0 s q &&
    !(c.kind = 1 && s.bufOverlap q.h c) &&
    !(c.enable = 1 && c.kind = 0 && decide (s.reserved - (if o.enable = 1 ∧ o.kind = 0 then o.reserve.toNat else 0) + c.reserve.toNat > cellCount)) &&
    !(c.kind = 1 && decide (c.first.toNat + c.limit.toNat > s.bufCount)) &&
    !(o.enable = 1 && (c.kind ≠ o.kind || c.first ≠ o.first || (o.kind = 1 && c.limit ≠ o.limit))) &&
    !(o.enable = 1 && c.enable = 0 && p.st.held ≠ p.st.lostBuf)

/-- POOL_GET: the packet is admitted (R565) and what the command itself asks holds. -/
def Can.poolGet (q : Cmd) (s : State) : Bool :=
  let p := s.pool q.h
  s.admits (getOp 0x821 .live) q [(.pool, q.h)] false 3 &&
    q.h < 64 &&
    (isSl0 s q || s.requester q = p.cfg.owner.toNat)

/-- HR_ASSIGN: the packet is admitted (R565) and what the command itself asks holds. -/
def Can.hrAssign (q : Cmd) (s : State) : Bool :=
  s.admits (actOp 0x830 .live (used 16 1)) q [(.hr, q.h)] true 1 &&
    q.h < 512 &&
    q.u8 16 < 64 &&
    isSl0 s q &&
    !((s.hr q.h).cfg.enable = 1)

/-- HR_CONFIG: the packet is admitted (R565) and what the command itself asks holds. -/
def Can.hrConfig (q : Cmd) (s : State) : Bool :=
  let c := HrCfg.ofTile (q.tile 1)
  let g := s.hr q.h
  let o := g.cfg
  let n := (s.sl o.owner.toNat).cfg.vecCount.toNat
  let drains := (s.host.rings.filter fun (r, x) => r ≠ q.h && x.cfg.selfDrain = 1).length
  s.admits (setOp 0x831 .live HrCfg.rsv) q [(.hr, q.h)] true 1 &&
    q.h < 512 && inR c.depthLog2.toNat 4 16 && inR c.pollUs.toNat 1 1000 && c.base.toNat % 4096 = 0 &&
    s.requester q = o.owner.toNat && c.owner = o.owner && !(decide (n > 0) && decide (c.vecOff.toNat ≥ n)) &&
    !(c.selfDrain = 1 && decide (drains ≥ 8)) &&
    !(o.enable = 1 && decide ({ c with enable := 1, pollUs := o.pollUs } ≠ o)) &&
    !(o.enable = 1 && c.enable = 0 && !g.inFlight.isEmpty)

/-- HR_GET: the packet is admitted (R565) and what the command itself asks holds. -/
def Can.hrGet (q : Cmd) (s : State) : Bool :=
  let g := s.hr q.h
  s.admits (getOp 0x832 .live) q [(.hr, q.h)] false 2 &&
    q.h < 512 &&
    (isSl0 s q || s.requester q = g.cfg.owner.toNat)

/-- HR_KICK: the packet is admitted (R565) and what the command itself asks holds. -/
def Can.hrKick (q : Cmd) (s : State) : Bool :=
  s.admits (actOp 0x833 .live 0) q [(.hr, q.h)] false 1 &&
    q.h < 512 &&
    s.requester q = (s.hr q.h).cfg.owner.toNat

/-- CORE_CONFIG: the packet is admitted (R565) and what the command itself asks holds. -/
def Can.coreConfig (q : Cmd) (s : State) : Bool :=
  s.admits (setOp 0x901 .live CoreCfg.rsv) q [(.core, q.h)] true 1 &&
    q.h < 68 &&
    isSl0 s q

/-- CORE_GET: the packet is admitted (R565) and what the command itself asks holds. -/
def Can.coreGet (q : Cmd) (s : State) : Bool :=
  s.admits (getOp 0x902 .live) q [(.core, q.h)] false 3 &&
    q.h < 68 &&
    clearOk s q 0

/-- CORE_RETEST: the packet is admitted (R565) and what the command itself asks holds. -/
def Can.coreRetest (q : Cmd) (s : State) : Bool :=
  s.admits (actOp 0x903 .comm 0) q [(.core, q.h)] false 1 &&
    q.h < 68 &&
    isSl0 s q &&
    (s.core q.h).st.state = 5

/-- PROG_REGION_SET: the packet is admitted (R565) and what the command itself asks holds. -/
def Can.progRegionSet (q : Cmd) (s : State) : Bool :=
  let eb := q.u8 17
  let et := q.u8 18
  let pb := q.u32 20
  let pt := q.u32 24
  let meets := s.weft.progs.any fun (n, p) => n ≠ q.h && p.enable = 1 &&
    (runsMeet pb pt p.progBase.toNat p.progTiles.toNat || runsMeet eb et p.expBase.toNat p.expTiles.toNat)
  s.admits (actOp 0x910 .live (used 16 3 ||| used 20 8)) q [(.prog, q.h)] true 1 &&
    q.h < 64 &&
    q.u8 16 ≤ 1 &&
    eb ≤ 127 &&
    et ≤ 128 &&
    inR pb 128 131071 &&
    pt ≤ 130944 &&
    isSl0 s q &&
    !(eb + et > 128) &&
    !(pb + pt > 131072) &&
    !(meets)

/-- PROG_CONFIG: the packet is admitted (R565) and what the command itself asks holds. -/
def Can.progConfig (q : Cmd) (s : State) : Bool :=
  let o := s.progCfg q.h
  let c : ProgCfg := { ProgCfg.ofTile (q.tile 1) with activeTable := o.activeTable, draining := o.draining }
  let region := decide (c.enable = o.enable) && decide (c.progBase = o.progBase) && decide (c.progTiles = o.progTiles) &&
    decide (c.expBase = o.expBase) && decide (c.expTiles = o.expTiles)
  let cur := if o.activeTable = 0 then decide (c.entryTab0 ≠ o.entryTab0 ∨ c.entryCount0 ≠ o.entryCount0)
    else decide (c.entryTab1 ≠ o.entryTab1 ∨ c.entryCount1 ≠ o.entryCount1)
  s.admits (setOp 0x911 .live ProgCfg.rsv) q [(.prog, q.h)] true 1 &&
    q.h < 64 &&
    c.entryCount0.toNat ≤ 4096 &&
    c.entryCount1.toNat ≤ 4096 &&
    s.requester q = q.h &&
    region &&
    !(c.tabOut c.entryTab0.toNat c.entryCount0.toNat) &&
    !(c.tabOut c.entryTab1.toNat c.entryCount1.toNat) &&
    !(cur) &&
    !((decide (o.draining = 1) && decide (c ≠ o)))

/-- PROG_GET: the packet is admitted (R565) and what the command itself asks holds. -/
def Can.progGet (q : Cmd) (s : State) : Bool :=
  s.admits (getOp 0x912 .live) q [(.prog, q.h)] false 2 &&
    q.h < 64 &&
    (isSl0 s q || s.requester q = q.h)

/-- PROGRAM_LOAD: the packet is admitted (R565) and what the command itself asks holds. -/
def Can.programLoad (q : Cmd) (s : State) : Bool :=
  let p := s.progCfg q.h
  let a := q.u32 16
  s.admits { opcode := 0x913, modes := .live, minTiles := 2, maxTiles := 64, uses := used 16 4 } q [(.prog, q.h)] true 1 &&
    q.h < 64 &&
    a < 131072 &&
    s.requester q = q.h &&
    !((List.range q.cont.length).any fun i => !p.inProg (a + i) && !p.inExp (a + i))

/-- PROG_COMMIT: the packet is admitted (R565) and what the command itself asks holds. -/
def Can.progCommit (q : Cmd) (s : State) : Bool :=
  s.admits (actOp 0x914 .live 0) q [(.prog, q.h)] true 1 &&
    q.h < 64 &&
    s.requester q = q.h &&
    !((s.progCfg q.h).draining = 1)

/-- TG_CONFIG: the packet is admitted (R565) and what the command itself asks holds. -/
def Can.tgConfig (q : Cmd) (s : State) : Bool :=
  let c := TgCfg.ofTile (q.tile 1)
  s.admits (setOp 0x920 .live TgCfg.rsv) q [(.tg, q.h)] true 1 &&
    q.h < 16 &&
    inR c.runLimitPkt.toNat 1 1000 &&
    c.runLimitBg.toNat ≤ 1000000 &&
    isSl0 s q &&
    !(decide ((s.group q.h).enable = 1 ∧ c.enable = 0) && s.groupBusy q.h)

/-- TG_GET: the packet is admitted (R565) and what the command itself asks holds. -/
def Can.tgGet (q : Cmd) (s : State) : Bool :=
  s.admits (getOp 0x921 .live) q [(.tg, q.h)] false 2 &&
    q.h < 16 &&
    (isSl0 s q || s.requester q = (s.group q.h).owner.toNat)

/-- DISPATCH_CONFIG: the packet is admitted (R565) and what the command itself asks holds. -/
def Can.dispatchConfig (q : Cmd) (s : State) : Bool :=
  let c := DispatchCfg.ofTile (q.tile 1)
  let used (k : Nat) : Bool := s.task.delays.any fun (_, d) => d.e.valid = 1 && d.e.scale.toNat = k
  s.admits (setOp 0x922 .live DispatchCfg.rsv) q [(.dispatch, 0)] true 1 &&
    q.h = 0 &&
    inR c.expReserve.toNat 64 2048 &&
    c.pkTickLog20.toNat ≤ 20 &&
    c.pkTickLog21.toNat ≤ 20 &&
    c.pkTickLog22.toNat ≤ 20 &&
    c.pkTickLog23.toNat ≤ 20 &&
    isSl0 s q &&
    !((List.range 4).any (fun k => used (k + 1) && decide (c.tick (k + 1) ≠ s.task.cfg.tick (k + 1))))

/-- DISPATCH_GET: the packet is admitted (R565) and what the command itself asks holds. -/
def Can.dispatchGet (q : Cmd) (s : State) : Bool :=
  s.admits (getOp 0x923 .live) q [(.dispatch, 0)] false 2 &&
    q.h = 0 &&
    clearOk s q 0

/-- TASK_CREATE: the packet is admitted (R565) and what the command itself asks holds. -/
def Can.taskCreate (q : Cmd) (s : State) : Bool :=
  let me := s.requester q
  let n := s.freeTask
  s.admits (actOp 0x930 .live (used 16 6 ||| used 24 8)) q [(.task, n.getD 0)] true 1 &&
    q.h = 0 &&
    q.u8 16 < 16 &&
    q.u8 17 < 8 &&
    q.u16 20 < 4096 &&
    me = (s.group (q.u8 16)).owner.toNat &&
    !(n.isNone)

/-- TASK_CONFIG: the packet is admitted (R565) and what the command itself asks holds. -/
def Can.taskConfig (q : Cmd) (s : State) : Bool :=
  let c := TaskObj.ofTile (q.tile 1)
  let o := (s.bg q.h).obj
  s.admits (setOp 0x931 .live TaskObj.rsv) q [(.task, q.h)] true 1 &&
    !(s.taskBad q) &&
    s.taskMine q && c.owner == o.owner && (s.group c.tg.toNat).owner == o.owner &&
    o.state = 0

/-- TASK_KICK: the packet is admitted (R565) and what the command itself asks holds. -/
def Can.taskKick (q : Cmd) (s : State) : Bool :=
  s.admits (actOp 0x932 .live 0) q [(.task, q.h)] true 1 &&
    !(s.taskBad q) &&
    s.taskMine q &&
    !(decide ((s.bg q.h).obj.state = 4))

/-- TASK_CANCEL: the packet is admitted (R565) and what the command itself asks holds. -/
def Can.taskCancel (q : Cmd) (s : State) : Bool :=
  s.admits (actOp 0x933 .live (put 352 4 (1 : BitVec 1))) q [(.task, q.h)] true 1 &&
    !(s.taskBad q) &&
    s.taskMine q

/-- TASK_RESET: the packet is admitted (R565) and what the command itself asks holds. -/
def Can.taskReset (q : Cmd) (s : State) : Bool :=
  s.admits (actOp 0x934 .live 0) q [(.task, q.h)] true 1 &&
    !(s.taskBad q) &&
    s.taskMine q &&
    !(decide ((s.bg q.h).obj.state ≠ 4))

/-- TASK_DESTROY: the packet is admitted (R565) and what the command itself asks holds. -/
def Can.taskDestroy (q : Cmd) (s : State) : Bool :=
  s.admits (actOp 0x935 .live 0) q [(.task, q.h)] true 1 &&
    !(s.taskBad q) &&
    s.taskMine q

/-- TASK_GET: the packet is admitted (R565) and what the command itself asks holds. -/
def Can.taskGet (q : Cmd) (s : State) : Bool :=
  s.admits (getOp 0x936 .live) q [(.task, q.h)] false 2 &&
    !(s.taskBad q) &&
    (isSl0 s q || s.taskMine q)

/-- DELAY_ARM: the packet is admitted (R565) and what the command itself asks holds. -/
def Can.delayArm (q : Cmd) (s : State) : Bool :=
  let r : DelayReq := ⟨q.u8 16, q.u8 17, BitVec.ofNat 32 (q.u32 20), q.u64 24, q.u64 32⟩
  let n := s.freeDelay
  s.admits (actOp 0x940 .live (used 16 2 ||| used 20 20)) q [(.delay, n.getD 0)] true 1 &&
    q.h = 0 &&
    !(r.reserved) &&
    !(r.badField) &&
    !(r.kind = 1) &&
    s.delayOwns (s.requester q) r &&
    !(s.badTime r) &&
    !(n.isNone)

/-- DELAY_DISARM: the packet is admitted (R565) and what the command itself asks holds. -/
def Can.delayDisarm (q : Cmd) (s : State) : Bool :=
  let d := s.delay q.h
  s.admits (actOp 0x941 .live 0) q [(.delay, q.h)] true 1 &&
    q.h < 4096 &&
    !(d.e.valid = 0) &&
    s.requester q = d.e.owner.toNat

/-- DELAY_GET: the packet is admitted (R565) and what the command itself asks holds. -/
def Can.delayGet (q : Cmd) (s : State) : Bool :=
  let d := s.delay q.h
  s.admits (getOp 0x942 .live) q [(.delay, q.h)] false 1 &&
    q.h < 4096 &&
    !(d.e.valid = 0) &&
    (isSl0 s q || s.requester q = d.e.owner.toNat)

/-- OD_CONFIG: the packet is admitted (R565) and what the command itself asks holds. -/
def Can.odConfig (q : Cmd) (s : State) : Bool :=
  let c := OdCfg.ofTile (q.tile 1)
  let d := s.dom q.h
  s.admits (setOp 0x950 .live OdCfg.rsv) q [(.od, q.h)] true 1 &&
    q.h < 4096 &&
    inR c.orderTimeout.toNat 1000 1000000 &&
    isSl0 s q &&
    !(decide (d.st.nextSeq ≠ d.st.headSeq) && (decide (c.classV ≠ d.cfg.classV) || decide (d.cfg.enable = 1 ∧ c.enable = 0)))

/-- OD_GET: the packet is admitted (R565) and what the command itself asks holds. -/
def Can.odGet (q : Cmd) (s : State) : Bool :=
  s.admits (getOp 0x951 .live) q [(.od, q.h)] false 3 &&
    q.h < 4096 &&
    clearOk s q 0

/-- LOCK_CONFIG: the packet is admitted (R565) and what the command itself asks holds. -/
def Can.lockConfig (q : Cmd) (s : State) : Bool :=
  let c := LockCfg.ofTile (q.tile 1)
  let k := s.lk q.h
  s.admits (setOp 0xA01 .live LockCfg.rsv) q [(.lock, q.h)] true 1 &&
    q.h < 4096 &&
    !(c.leaseUs = 0) &&
    ownerSet (s.requester q) k.cfg.owner.toNat c.owner.toNat ({ c with owner := k.cfg.owner } = k.cfg) &&
    !(decide (c.enable ≠ k.cfg.enable ∨ c.owner ≠ k.cfg.owner) && (k.holder.isSome || !k.queue.isEmpty))

/-- LOCK_GET: the packet is admitted (R565) and what the command itself asks holds. -/
def Can.lockGet (q : Cmd) (s : State) : Bool :=
  let k := s.lk q.h
  s.admits (getOp 0xA02 .live) q [(.lock, q.h)] false 3 &&
    q.h < 4096 &&
    clearOk s q k.cfg.owner.toNat

/-- LOCK_BREAK: the packet is admitted (R565) and what the command itself asks holds. -/
def Can.lockBreak (q : Cmd) (s : State) : Bool :=
  let k := s.lk q.h
  s.admits (actOp 0xA03 .live 0) q [(.lock, q.h)] k.holder.isSome 1 &&
    q.h < 4096 &&
    s.requester q = k.cfg.owner.toNat

/-- LOCK_UNIT_CONFIG: the packet is admitted (R565) and what the command itself asks holds. -/
def Can.lockUnitConfig (q : Cmd) (s : State) : Bool :=
  let b : BitVec 1 := (q.tile 1).extractLsb' 0 1
  s.admits (setOp 0xA10 .live (~~~ put 512 0 (1 : BitVec 1))) q [(.lockUnit, 0)] true 1 &&
    q.h = 0 &&
    isSl0 s q &&
    !(b = 1 && decide (s.sys.mode ≠ .commission))

/-- LOCK_UNIT_GET: the packet is admitted (R565) and what the command itself asks holds. -/
def Can.lockUnitGet (q : Cmd) (s : State) : Bool :=
  s.admits (getOp 0xA11 .live) q [(.lockUnit, 0)] false 2 &&
    q.h = 0 &&
    clearOk s q 0

/-- DRAM_GET: the packet is admitted (R565) and what the command itself asks holds. -/
def Can.dramGet (q : Cmd) (s : State) : Bool :=
  s.admits (getOp 0xB01 .all) q [(.dram, 0)] false 4 &&
    q.h = 0 &&
    clearOk s q 0

/-- DRAM_LAYOUT_SET: the packet is admitted (R565) and what the command itself asks holds. -/
def Can.dramLayoutSet (q : Cmd) (s : State) : Bool :=
  let c := DramLayout.ofTile (q.tile 1)
  let base := c.bufBase.toNat
  let n := c.bufCount.toNat
  s.admits (setOp 0xB02 .live DramLayout.rsv) q [(.dram, 0)] true 1 &&
    q.h = 0 &&
    n ≤ 4194304 &&
    !(base % 0x200000 ≠ 0) &&
    !((decide (n = 0) && decide (base ≠ 0))) &&
    !((decide (n ≠ 0) && decide (base < 0x10000000))) &&
    isSl0 s q &&
    s.dramOn &&
    !(base + n * 2048 > s.dramSize) &&
    !(s.buf.pools.any fun (_, p) => p.cfg.enable = 1 && p.cfg.kind = 1)

/-- CACHE_CONFIG: the packet is admitted (R565) and what the command itself asks holds. -/
def Can.cacheConfig (q : Cmd) (s : State) : Bool :=
  let c := CacheCfg.ofTile (q.tile 1)
  let o := s.dram.cacheCfg
  let on : Bool := s.dramOn && o.enable = 1
  let change : Bool := (c.enable = 1) != on
  let dirty : Bool := s.dram.lines.any (fun (_, l) => l.any (·.dirty)) || !s.dram.evb.isEmpty
  let off : Bool := on && c.enable = 0
  s.admits { setOp 0xB10 .live CacheCfg.rsv with uses := dat 16 (2 : BitVec 2) } q [(.cache, 0)] true 1 &&
    q.h = 0 &&
    !(inR c.cleanUs.toNat 1 9) &&
    !(c.mask 0 = 0) &&
    !(c.mask 1 = 0) &&
    isSl0 s q &&
    !(change && (s.sys.mode != .commission || !s.dramOn)) &&
    !(off && dirty && !q.opt 16 1) &&
    !(s.dram.cacheSt.state = 1)

/-- CACHE_GET: the packet is admitted (R565) and what the command itself asks holds. -/
def Can.cacheGet (q : Cmd) (s : State) : Bool :=
  s.admits (getOp 0xB11 .live) q [(.cache, 0)] false 3 &&
    q.h = 0 &&
    clearOk s q 0

/-- CACHE_MAINT: the packet is admitted (R565) and what the command itself asks holds. -/
def Can.cacheMaint (q : Cmd) (s : State) : Bool :=
  let op := q.u8 16
  let all := q.opt 17 0
  let a := (q.u64 24).toNat
  let n := (q.u64 32).toNat
  let w := s.window (s.requester q)
  let badRange : Bool := a % 64 ≠ 0 || n % 64 ≠ 0 || decide (n < 64) || decide (a + n > s.dramSize) ||
    (op = 1 && decide (a < 0x10000000))
  s.admits (actOp 0xB12 .live (used 16 1 ||| dat 17 (1 : BitVec 1) ||| used 24 16)) q [(.cache, 0)] false 1 &&
    q.h = 0 &&
    op ≤ 2 &&
    !((all && (decide (a ≠ 0) || decide (n ≠ 0) || decide (op = 1)))) &&
    !((!all && s.dramOn && badRange)) &&
    (isSl0 s q || (!all && decide (w.1 ≤ a) && decide (a + n ≤ w.1 + w.2))) &&
    s.dramOn &&
    !(s.dram.cacheSt.state = 2)

/-- FABRIC_CONFIG: the packet is admitted (R565) and what the command itself asks holds. -/
def Can.fabricConfig (q : Cmd) (s : State) : Bool :=
  let c := FabCfg.ofTile (q.tile 1)
  s.admits { setOp 0xC01 .all FabCfg.rsv with uses := dat 16 (0x20 : BitVec 8) } q [(.fabric, 0)] true 1 &&
    q.h = 0 &&
    inR c.fabHoldNs.toNat 500 100000 &&
    inR c.cmdTimeoutUs.toNat 100 1000000 &&
    isSl0 s q

/-- FABRIC_GET: the packet is admitted (R565) and what the command itself asks holds. -/
def Can.fabricGet (q : Cmd) (s : State) : Bool :=
  s.admits (getOp 0xC02 .all) q [(.fabric, 0)] false 3 &&
    q.h = 0 &&
    clearOk s q 0

/-- FABRIC_LINK_CONFIG: the packet is admitted (R565) and what the command itself asks holds. -/
def Can.fabricLinkConfig (q : Cmd) (s : State) : Bool :=
  let c := LinkCfg.ofTile (q.tile 1)
  let o := (s.link q.h).cfg
  s.admits (setOp 0xC03 .all LinkCfg.rsv) q [(.link, q.h)] true 1 &&
    q.h < 4 &&
    isSl0 s q &&
    !(o.enable = 1 && decide ({ c with enable := 1 } ≠ o))

/-- FABRIC_LINK_GET: the packet is admitted (R565) and what the command itself asks holds. -/
def Can.fabricLinkGet (q : Cmd) (s : State) : Bool :=
  s.admits (getOp 0xC04 .all) q [(.link, q.h)] false 3 &&
    q.h < 4 &&
    clearOk s q 0

/-- FABRIC_DISCOVER: the packet is admitted (R565) and what the command itself asks holds. -/
def Can.fabricDiscover (q : Cmd) (s : State) : Bool :=
  s.admits (actOp 0xC10 .live (used 16 1)) q [(.fabric, 0)] false 64 &&
    q.h = 0 &&
    q.u8 16 < 64 &&
    isSl0 s q &&
    !(s.fab.cfg.root = 0) &&
    !(s.fab.disc.until'.isSome)

/-- FABRIC_ID_SET: the packet is admitted (R565) and what the command itself asks holds. -/
def Can.fabricIdSet (q : Cmd) (s : State) : Bool :=
  s.admits (actOp 0xC11 .comm (used 16 10)) q [(.fabric, 0)] true 1 &&
    q.h = 0 &&
    q.u8 25 ≤ 1 &&
    q.u8 24 < 64 &&
    isSl0 s q &&
    !(s.fab.idSet.isSome)

/-- FABRIC_ROUTE_GET: the packet is admitted (R565) and what the command itself asks holds. -/
def Can.fabricRouteGet (q : Cmd) (s : State) : Bool :=
  s.admits (getOp 0xC20 .all) q [(.fabric, 0)] false 6 &&
    q.h = 0 &&
    clearOk s q 0

/-- ROUTE_PIN: the packet is admitted (R565) and what the command itself asks holds. -/
def Can.routePin (q : Cmd) (s : State) : Bool :=
  let p := BitVec.ofNat 4 (q.u8 16)
  let a := BitVec.ofNat 4 (q.u8 17)
  s.admits (actOp 0xC21 .live (used 16 2)) q [(.routeMask, q.h)] true 1 &&
    q.h < 64 &&
    q.u8 16 < 16 &&
    q.u8 17 < 16 &&
    !(p &&& a ≠ 0) &&
    isSl0 s q

/-- ROUTE_UNPIN: the packet is admitted (R565) and what the command itself asks holds. -/
def Can.routeUnpin (q : Cmd) (s : State) : Bool :=
  s.admits (actOp 0xC22 .live 0) q [(.routeMask, q.h)] true 1 &&
    q.h < 64 &&
    isSl0 s q

/-- FABRIC_TWIN_CONFIG: the packet is admitted (R565) and what the command itself asks holds. -/
def Can.fabricTwinConfig (q : Cmd) (s : State) : Bool :=
  let c := TwinCfg.ofTile (q.tile 1)
  s.admits (setOp 0xC30 .comm TwinCfg.rsv) q [(.twin, 0)] true 1 &&
    q.h = 0 &&
    inR c.npaths.toNat 1 4 &&
    !((List.range 4).any fun p => (c.path p).extractLsb' 19 13 ≠ 0) &&
    isSl0 s q

/-- FABRIC_TWIN_GET: the packet is admitted (R565) and what the command itself asks holds. -/
def Can.fabricTwinGet (q : Cmd) (s : State) : Bool :=
  s.admits (getOp 0xC31 .all) q [(.twin, 0)] false 2 &&
    q.h = 0 &&
    clearOk s q 0

/-- SELVEDGE_READ: the packet is admitted (R565) and what the command itself asks holds. -/
def Can.selvedgeRead (q : Cmd) (s : State) : Bool :=
  let area := q.u8 16
  let all := s.selvEntries area
  let next := s.selv.nextSeq area
  let oldest := (all.head?.map (·.1)).getD next
  let first : Word32 := BitVec.ofNat 32 (q.u32 20)
  let from' := if serialLt first oldest then oldest else first
  let out := ((all.filter fun p => !serialLt p.1 from').take (q.u8 24)).map (·.2)
  s.admits (actOp 0xD01 .all (used 16 1 ||| used 20 5)) q [(.selvedge, 0)] false (1 + out.length) &&
    q.h = 0 &&
    area ≤ 2 &&
    inR (q.u8 24) 1 63 &&
    isSl0 s q &&
    !(s.sys.st02Failed)

/-- SELVEDGE_CLEAR_ARM: the packet is admitted (R565) and what the command itself asks holds. -/
def Can.selvedgeClearArm (q : Cmd) (s : State) : Bool :=
  let scope := q.u8 16
  s.admits (actOp 0xD02 .comm (used 16 1)) q [(.selvedge, 0)] false 1 &&
    q.h = 0 &&
    scope < 4 &&
    isSl0 s q

/-- SELVEDGE_CLEAR: the packet is admitted (R565) and what the command itself asks holds. -/
def Can.selvedgeClear (q : Cmd) (s : State) : Bool :=
  let scope := q.u8 16
  let armed := match s.host.clearArm with
    | some (tok, sc, t, p) => decide (tok.toNat = q.u32 20 ∧ sc.toNat = scope ∧ s.now ≤ t + 1000000000 ∧ p = q.path)
    | none => false
  let byPath := match q.path with | .mailbox => true | .sq n => n = 0 | _ => false
  s.admits (actOp 0xD03 .comm (used 16 1 ||| used 20 4)) q [(.selvedge, 0)] true 1 &&
    q.h = 0 &&
    scope < 4 &&
    isSl0 s q &&
    armed &&
    byPath

/-- IMAGE_WRITE: the packet is admitted (R565) and what the command itself asks holds. -/
def Can.imageWrite (q : Cmd) (s : State) : Bool :=
  let u := q.u32 16
  s.admits { opcode := 0xD20, modes := .live, minTiles := 2, maxTiles := 64, uses := used 16 4 } q [(.image, q.h)] true 1 &&
    q.h < 2 &&
    !(u + q.cont.length > 131072) &&
    isSl0 s q &&
    !(s.loadedFrom q.h)

/-- IMAGE_COMMIT: the packet is admitted (R565) and what the command itself asks holds. -/
def Can.imageCommit (q : Cmd) (s : State) : Bool :=
  let n := q.u32 16
  s.admits (actOp 0xD21 .live (used 16 4)) q [(.image, q.h)] true 1 &&
    q.h < 2 &&
    inR n 8 131072 &&
    isSl0 s q &&
    !(s.loadedFrom q.h) &&
    !(((s.imageOk q.h).map (·.units)) ≠ some n)

/-- STATS_READ: the packet is admitted (R565) and what the command itself asks holds. -/
def Can.statsRead (q : Cmd) (s : State) : Bool :=
  let scope := q.u8 16
  let all := (statItems scope q.h).getD []
  let is := (all.drop (q.u16 18)).take 126
  let me := s.requester q
  let clear := q.opt 20 0
  s.admits (actOp 0xE01 .all (used 16 1 ||| used 18 2 ||| dat 20 (1 : BitVec 1))) q [(.counters, 0)] false (1 + (is.length + 1) / 2) &&
    !((statItems scope q.h).isNone) &&
    !(scope = 1 && s.absorbed q.h) &&
    s.statMay scope q.h me &&
    !(clear && me ≠ 0 && s.statOwner scope q.h ≠ some me)

/-- COUNTER_RANGE_SET: the packet is admitted (R565) and what the command itself asks holds. -/
def Can.counterRangeSet (q : Cmd) (s : State) : Bool :=
  let a := q.u32 16
  let n := q.u32 20
  s.admits (actOp 0xE02 .live (used 16 8)) q [(.counters, q.h)] true 1 &&
    q.h < 64 &&
    !(a + n > 65536) &&
    isSl0 s q &&
    !(s.host.ctrRange.any fun (m, r) => m ≠ q.h && meets a n r.1 r.2)

/-- COUNTER_READ: the packet is admitted (R565) and what the command itself asks holds. -/
def Can.counterRead (q : Cmd) (s : State) : Bool :=
  let a := q.u32 16
  let n := q.u8 20
  let me := s.requester q
  let k := (n + 2) / 3
  s.admits (actOp 0xE03 .live (used 16 5 ||| dat 21 (1 : BitVec 1))) q [(.counters, me)] false (1 + k) &&
    q.h = 0 &&
    inR n 1 189 &&
    (List.range n).all fun i => s.ownsPair me (a + i)

/-- COUNTER_RANGE_GET: the packet is admitted (R565) and what the command itself asks holds. -/
def Can.counterRangeGet (q : Cmd) (s : State) : Bool :=
  s.admits (getOp 0xE04 .live) q [(.counters, q.h)] false 1 &&
    q.h < 64 &&
    sliceMine s q &&
    !(q.clear && !isSl0 s q)

/-- DEBUG_ATTACH: the packet is admitted (R565) and what the command itself asks holds. -/
def Can.debugAttach (q : Cmd) (s : State) : Bool :=
  let me := s.requester q
  s.admits (actOp 0xF01 .live (used 16 1)) q [(.core, q.h)] false 1 && q.h < 68 && q.thread < 8 &&
    (me = 0 || s.ownsCore me q.h) && s.sys.mode.live && (s.sys.mode == .commission || q.thread != 0) &&
    (s.th q.h q.thread).dbg.isNone

/-- DEBUG_DETACH: the packet is admitted (R565) and what the command itself asks holds. -/
def Can.debugDetach (q : Cmd) (s : State) : Bool :=
  s.admits (actOp 0xF02 .live (used 16 1)) q [(.core, q.h)] false 1 && q.h < 68 && q.thread < 8 && s.attached q

/-- DEBUG_HALT: the packet is admitted (R565) and what the command itself asks holds. -/
def Can.debugHalt (q : Cmd) (s : State) : Bool :=
  let h := s.th q.h q.thread
  s.admits (actOp 0xF03 .live (used 16 1)) q [(.core, q.h)] false 1 && q.h < 68 && q.thread < 8 && s.attached q &&
    h.st != .stopped

/-- DEBUG_RESUME: the packet is admitted (R565) and what the command itself asks holds. -/
def Can.debugResume (q : Cmd) (s : State) : Bool :=
  s.admits (actOp 0xF04 .live (used 16 1)) q [(.core, q.h)] false 1 && q.h < 68 && q.thread < 8 && s.attached q

/-- DEBUG_STEP: the packet is admitted (R565) and what the command itself asks holds. -/
def Can.debugStep (q : Cmd) (s : State) : Bool :=
  s.admits (actOp 0xF05 .live (used 16 1)) q [(.core, q.h)] false 1 && q.h < 68 && q.thread < 8 && s.attached q &&
    (s.th q.h q.thread).st == .halted

/-- DEBUG_BREAK: the packet is admitted (R565) and what the command itself asks holds. -/
def Can.debugBreak (q : Cmd) (s : State) : Bool :=
  s.admits (actOp 0xF06 .live (used 16 3 ||| used 20 4)) q [(.core, q.h)] false 1 && q.h < 68 && q.thread < 8 &&
    s.attached q && q.u8 17 ≤ 3 && q.u8 18 ≤ 1

/-- DEBUG_READ: the packet is admitted (R565) and what the command itself asks holds. -/
def Can.debugRead (q : Cmd) (s : State) : Bool :=
  let a := q.dbgAcc
  s.admits (actOp 0xF07 .live (used 16 2 ||| used 20 6)) q [(.core, q.h)] false (1 + (a.len + 59) / 60) &&
    !a.badLen && q.h < 68 && q.thread < 8 && !a.bad && s.attached q && s.dbgOpen q.h q.thread (s.requester q) a

/-- DEBUG_WRITE: the packet is admitted (R565) and what the command itself asks holds. -/
def Can.debugWrite (q : Cmd) (s : State) : Bool :=
  let a := q.dbgAcc
  let h := s.th q.h q.thread
  let bs := (q.cont.flatMap fun t => bytesOf t 60).take a.len
  s.admits { opcode := 0xF08, modes := .live, minTiles := 2, maxTiles := 64, uses := used 16 2 ||| used 20 6 } q
      [(.core, q.h)] false 1 &&
    !a.badLen && q.cont.length = (a.len + 59) / 60 && q.h < 68 && q.thread < 8 && !a.bad && s.attached q &&
    s.dbgOpen q.h q.thread (s.requester q) a && !(a.space = 1 && (a.pairs bs).any fun (r, v) => !crDebug h r v) &&
    h.st == .halted

/-- JTAG_CHALLENGE: the packet is admitted (R565) and what the command itself asks holds. -/
def Can.jtagChallenge (q : Cmd) (s : State) : Bool :=
  s.admits (actOp 0xF10 .all 0) q [(.jtag, 0)] false 1 &&
    q.h = 0 &&
    isSl0 s q

/-- JTAG_UNLOCK: the packet is admitted (R565) and what the command itself asks holds. -/
def Can.jtagUnlock (q : Cmd) (s : State) : Bool :=
  s.admits (actOp 0xF11 .all (used 16 32)) q [(.jtag, 0)] false 1 &&
    q.h = 0 &&
    isSl0 s q &&
    s.sys.jtagWrong < 3

/-- HELD_COMMAND_EXECUTE: a held command is named (R568). -/
def Can.heldCommandExecute (n : Nat) (h : Held) (s : State) : Bool :=
  !s.sys.stopped && s.host.held[n]? == some h

/-- IDENT_READ: an access of BAR0 that R547 allows (R547, R548). -/
def Can.identRead (addr : BitVec 19) (size : Nat) (s : State) : Bool :=
  !s.sys.stopped && !barBad addr.toNat size

/-- DEV_RESET_WRITE: DEV_RESET is armed (R550). -/
def Can.devResetWrite (s : State) : Bool :=
  !s.sys.stopped

/-- DEV_RESET_WRITE: DEV_RESET acts while it is armed (R550). -/
def Can.devResetWrite_act (t : Nat) (s : State) : Bool :=
  !s.sys.stopped && s.host.resetArm == some t && s.now ≤ t

/-- DEV_RESET_WRITE: any other value disarms DEV_RESET (R550). -/
def Can.devResetWrite_disarm (v : BitVec 32) (s : State) : Bool :=
  !s.sys.stopped && v != 0xA5A5 && v != 0x5A5A

/-- DEV_RESET_ARM_EXPIRY: the 1 ms of an armed DEV_RESET has passed (R550). -/
def Can.devResetArmExpiry (t : Nat) (s : State) : Bool :=
  !s.sys.stopped && s.host.resetArm == some t && t < s.now

/-- IRQ_STATUS_WRITE: the device runs (R551). -/
def Can.irqStatusWrite (s : State) : Bool :=
  !s.sys.stopped

/-- MBOX_IN_WRITE: HOST_READY is 1, no mailbox command is pending, and the tile in MBOX_IN is one good tile (R552). -/
def Can.mboxInWrite (v : BitVec 32) (s : State) : Bool :=
  !s.sys.stopped && s.sys.hostReady && !s.host.mboxPending &&
    tileOk (s.mboxStore 60 v).host.mboxIn && tilesOf (s.mboxStore 60 v).host.mboxIn = 1

/-- MBOX_IN_WRITE: a mailbox command is pending (R552). -/
def Can.mboxInWrite_overrun (s : State) : Bool :=
  !s.sys.stopped && s.sys.hostReady && s.host.mboxPending

/-- SQ_TAIL_WRITE: an attached slice's good tail, without RESYNC (R558). -/
def Can.sqTailWrite (n : Fin 64) (v : BitVec 32) (s : State) : Bool :=
  let h := s.sl n
  !s.sys.stopped && h.st.state != 0 && h.st.state != 4 && v &&& 0x6000E000 == 0 && !v.getLsbD 31 &&
    countDiff (v.extractLsb' 0 13).toNat h.st.sqFetch.toNat h.sqDepth ≤ h.sqDepth

/-- SQ_TAIL_WRITE: a halted ring is resumed at FETCH_SET (R558, R566). -/
def Can.sqTailWrite_resync (n : Fin 64) (v : BitVec 32) (s : State) : Bool :=
  let h := s.sl n
  !s.sys.stopped && h.st.state != 0 && h.st.state != 4 && v &&& 0x6000E000 == 0 && v.getLsbD 31 && h.st.sqHalted == 1 &&
    countDiff (v.extractLsb' 0 13).toNat (v.extractLsb' 16 13).toNat h.sqDepth ≤ h.sqDepth

/-- CQ_HEAD_WRITE: an attached slice's good head (R558). -/
def Can.cqHeadWrite (n : Fin 64) (v : BitVec 32) (s : State) : Bool :=
  let h := s.sl n
  !s.sys.stopped && h.st.state != 0 && h.st.state != 4 && v &&& 0xE000E000 == 0 &&
    countDiff h.st.cqResv.toNat (v.extractLsb' 0 13).toNat h.cqDepth ≤ h.cqDepth

/-- BAR_REGISTER_WRITE: an aligned word of MBOX_IN before its last (R546, R547, R552). -/
def Can.barRegisterWrite (addr : BitVec 19) (s : State) : Bool :=
  !s.sys.stopped && addr.toNat % 4 = 0 && 0x100 ≤ addr.toNat && addr.toNat < 0x13C

/-- BAR_REGISTER_WRITE: an access that R547 does not allow. -/
def Can.barRegisterWrite_bad (addr : BitVec 19) (size : Nat) (s : State) : Bool :=
  !s.sys.stopped && barBad addr.toNat size

/-- HOST_RESET: the device runs (R545). -/
def Can.hostReset (s : State) : Bool :=
  !s.sys.stopped

/-- SQ_FETCH: the ring is fetched, the command's tiles are there, tile 0 is good, and its reply has room (R559, R565). -/
def Can.sqFetch (n : Fin 64) (t0 : Tile) (rest : List Tile) (s : State) : Bool :=
  let h := s.sl n
  let s1 := s.modSl n fun h => { h with st := { h.st with
    sqFetch := BitVec.ofNat 13 ((h.st.sqFetch.toNat + tilesOf t0) % (2 * h.sqDepth)) } }
  let t := s1.accept (.sq n) t0 (cmdOf (.sq n) t0 (rest.take (tilesOf t0 - 1))).2.cont
  !s.sys.stopped && s.fetches n && tileOk t0 && tilesOf t0 != 0 && tilesOf t0 ≤ 64 &&
    tilesOf t0 ≤ countDiff h.sqTail.toNat h.st.sqFetch.toNat h.sqDepth && tilesOf t0 ≤ rest.length + 1 &&
    (t.sl n).cqUsed ≤ (t.sl n).cqDepth

/-- SQ_FETCH: the ring is fetched and its DMA read ends with an error (R559, R566). -/
def Can.sqFetch_error (n : Fin 64) (s : State) : Bool :=
  !s.sys.stopped && s.fetches n

/-- EVENT_ITEM_COPY: an attached slice has events on and its event ring holds an item (R574). -/
def Can.eventItemCopy (n : Fin 64) (it : Tile) (s : State) : Bool :=
  let h := s.sl n
  !s.sys.stopped && h.st.state != 0 && h.cfg.evtEn == 1 && (ringPop s h.cfg.evtRing.toNat).2 == (it, 0)

/-- MGMT_COMMAND_FRAME: a whole frame for the management port from its peer, whose command is well formed (R579). -/
def Can.mgmtCommandFrame (bs : List (BitVec 8)) (s : State) : Bool :=
  let n := bs.length
  let body := slice bs 18 (n - 22)
  let t0 : Tile := leBits 512 (slice body 0 64)
  !s.sys.stopped && 86 ≤ n && n ≤ (s.port 32).cfg.maxFrame.toNat &&
    crc32 (bs.take (n - 4)) == leBits 32 (slice bs (n - 4) 4) &&
    leBits 48 (slice bs 0 6) == s.m0Addr && slice bs 12 2 == [0x88, 0xB5] && slice bs 14 2 == [1, 0] &&
    (s.sys.recovery || (s.host.devCfg.mgmtEn == 1 && leBits 48 (slice bs 6 6) == s.host.devCfg.mgmtPeer &&
      s.sys.mode != .boot)) &&
    body.length == 64 * tilesOf t0 && tileOk t0 && tilesOf t0 != 0 && tilesOf t0 ≤ 64

/-- HR_POLL: a running RX ring of an ACTIVE slice finds an item that the device owns and has room for it (R576). -/
def Can.hrPoll (r : Fin 512) (it : BitVec 128) (s : State) : Bool :=
  let g := s.hr r
  !s.sys.stopped && s.hrReads r && g.cfg.dir == 1 && it.getLsbD 120 &&
    g.ready.length + g.inFlight.length < g.depth

/-- HR_TX_ITEM: a running TX ring of an ACTIVE slice has an item that the device owns, and its frame is taken (R577). -/
def Can.hrTxItem (r : Fin 512) (item : BitVec 128) (bs : List (BitVec 8)) (s : State) : Bool :=
  let g := s.hr r
  !s.sys.stopped && s.hrReads r && g.cfg.dir == 0 && item.getLsbD 120 &&
    ((s.modHr r fun g => g.read s.now true).takeTx r item (some bs)).2 == 0

/-- HR_RX_WRITEBACK: a delivery of the ring is on its way (R578). -/
def Can.hrRxWriteback (r : Fin 512) (d : Delivery) (rest : List Delivery) (s : State) : Bool :=
  !s.sys.stopped && !(s.hr r).resetting && (s.hr r).inFlight == d :: rest

/-- SELF_DRAIN_EXPIRY: a resetting slice's 1 ms has passed (R587). -/
def Can.selfDrainExpiry (n : Fin 64) (t : Nat) (s : State) : Bool :=
  !s.sys.stopped && (s.sl n).st.state == 4 && (s.sl n).drainEnd == some t && t ≤ s.now

/-- QUIESCE_TIMEOUT: one SLICE_QUIESCE waits, and its 100 ms have passed (R585). -/
def Can.quiesceTimeout (n : Fin 64) (d : Deferred) (due : Nat) (s : State) : Bool :=
  !s.sys.stopped && s.host.deferred == [d] && d.wait == .quiesce n due && due ≤ s.now

/-- QUIESCE_DONE: a quiescing slice is idle (R585). -/
def Can.quiesceDone (n : Fin 64) (s : State) : Bool :=
  !s.sys.stopped && (s.sl n).st.state == 2 && s.idle n

/-- FRAME_RECEIVE: the port is enabled and up and not in near-end loopback, the frame is whole and for the data path, and
the receive pool has room (R102 to R133). -/
def Can.frameReceive (p : Fin 33) (f : RxFrame) (line : RxLine) (age : Nat) (s : State) : Bool :=
  let s1 := (if (s.port p).cfg.loop = 2 then s.emit (.frame p (rxBytes f)) else s).countFec p line
  let c := (s1.port p).cfgAt (s1.now - age)
  !s.sys.stopped && (s.port p).cfg.loop != 1 && (s.port p).cfg.enable != 0 && (s.port p).st.linkUp != 0 &&
    s1.rxDrop c f line == none && !s1.isMgmt p (rxBytes f) &&
    (s1.intake 0 p (c.classOf (rxBytes f)) (s1.rxPoint p (s1.now - age)) (s1.rxPoint p s1.now) (rxBytes f)).isSome

/-- PREEMPT_VERIFY_SEND: the port is verifying and fewer than three verify mPackets have gone (R110). -/
def Can.preemptVerifySend (p : Fin 33) (s : State) : Bool :=
  !s.sys.stopped && (s.port p).st.preemptState == 1 && (s.port p).verifyDue s.now && (s.port p).verifyTries < 3

/-- PREEMPT_VERIFY_SEND: the port is verifying and three verify mPackets have gone unanswered (R110). -/
def Can.preemptVerifySend_failed (p : Fin 33) (s : State) : Bool :=
  !s.sys.stopped && (s.port p).st.preemptState == 1 && (s.port p).verifyDue s.now && 3 ≤ (s.port p).verifyTries

/-- PREEMPT_VERIFY_RESPONSE: the port is verifying (R110). -/
def Can.preemptVerifyResponse (p : Fin 33) (s : State) : Bool :=
  !s.sys.stopped && (s.port p).st.preemptState == 1

/-- PCS_LOCK_LOSS: the device runs and the cause is not an auto-negotiation restart (R119). -/
def Can.pcsLockLoss (why : PcsLoss) (s : State) : Bool :=
  !s.sys.stopped && why != .autoneg

/-- PCS_LOCK_LOSS: auto-negotiation restarts on a port that has it (R119). -/
def Can.pcsLockLoss_autoneg (p : Fin 33) (s : State) : Bool :=
  !s.sys.stopped && (s.port p).cfg.anEn != 0

/-- TS_CALIBRATION_DONE: the port holds its PCS lock (R114). -/
def Can.tsCalibrationDone (p : Fin 33) (s : State) : Bool :=
  !s.sys.stopped && (s.port p).st.pcsLock == 1

/-- LINK_UP_DECLARE: everything R119 asks for before a link is declared up holds. -/
def Can.linkUpDeclare (p : Fin 33) (s : State) : Bool :=
  !s.sys.stopped && (s.port p).canUp s.now

/-- PTP_MESSAGE_RECEIVE: the message is the engine's, the device is an ordinary or boundary clock and it is an Announce
(R65, R66). -/
def Can.ptpMessageReceive (p : Fin 33) (m : PtpMsg) (s : State) : Bool :=
  !s.sys.stopped && s.ptpMine p m && decide (s.time.ptpClock.clockType.toNat < 3) && m.kind == .announce

/-- PTP_MESSAGE_RECEIVE: the same of a one-step Sync at a port that is a slave (R65). -/
def Can.ptpMessageReceive_sync (p : Fin 33) (m : PtpMsg) (s : State) : Bool :=
  !s.sys.stopped && s.ptpMine p m && decide (s.time.ptpClock.clockType.toNat < 3) && m.kind == .sync && !m.twoStep &&
    ((s.ptpSt p).portState == 8 || (s.ptpSt p).portState == 9)

/-- PTP_MESSAGE_RECEIVE: the same of an answer to the delay request that a slave port awaits (R65). -/
def Can.ptpMessageReceive_delayResp (p : Fin 33) (m : PtpMsg) (s : State) : Bool :=
  !s.sys.stopped && s.ptpMine p m && decide (s.time.ptpClock.clockType.toNat < 3) && m.kind == .delayResp &&
    (s.ptpPort p).delayMech == 0 && ((s.ptpSt p).portState == 8 || (s.ptpSt p).portState == 9) &&
    (s.ptpRun p).delayOpen

/-- PTP_ANNOUNCE_TIMEOUT: the port's announce receipt timeout has passed, PTP is the wall clock's source and the port is
the selected one (R66). -/
def Can.ptpAnnounceTimeout (p : Fin 33) (s : State) : Bool :=
  !s.sys.stopped && s.announceOver p && s.time.cfg.source == 1 && s.time.st.ptpPort.toNat == p.val

/-- PPS_IN_EDGE: PPS_IN is the source and the wall clock is not yet synchronised (R69). -/
def Can.ppsInEdge (s : State) : Bool :=
  !s.sys.stopped && s.time.cfg.source == 2 && s.time.st.wallUnsync != 0

/-- PPS_IN_TIMEOUT: PPS_IN is the source and its last edge is 3 s old (R66). -/
def Can.ppsInTimeout (t : Nat) (s : State) : Bool :=
  !s.sys.stopped && s.time.cfg.source == 2 && s.time.lastPps == some t && 3000000000 ≤ s.now - t

/-- PPS_OUT_PULSE: the PPS output is on (R70). -/
def Can.ppsOutPulse (s : State) : Bool :=
  !s.sys.stopped && s.ppsOn && !s.time.ppsHigh && s.ppsDue

/-- PHASE_EDGE: the device runs (R76). -/
def Can.phaseEdge (s : State) : Bool :=
  !s.sys.stopped

/-- PHASE_MISSED: a phase source of a running pick clock is 1.5 intervals late (R76). -/
def Can.phaseMissed (k : Fin 4) (pri : Bool) (t : Nat) (s : State) : Bool :=
  let p := s.pick k
  let x := p.src pri
  !s.sys.stopped && x.lastEdge == some t && p.on && !x.lost && (p.code pri == 1 || p.code pri == 2) &&
    p.edgeNs * (3 + 2 * x.misses) ≤ 2 * (s.now - t)

/-- ENC_Z_PULSE: the device runs (R77). -/
def Can.encZPulse (s : State) : Bool :=
  !s.sys.stopped

/-- ENCODER_UPDATE: an encoder source that has seen its Z pulse and an edge feeds a running pick clock (R77). -/
def Can.encoderUpdate (k : Fin 4) (pri : Bool) (t : Nat) (s : State) : Bool :=
  let p := s.pick k
  let x := p.src pri
  !s.sys.stopped && x.encEdge == some t && p.on && (p.code pri == 3 || p.code pri == 4) && x.zSeen &&
    !(x.lost && x.everLost) && x.upDue s.now

/-- ENC_Z_TIMEOUT: an encoder source of a running pick clock has seen no Z pulse for 3 s (R77). -/
def Can.encZTimeout (k : Fin 4) (pri : Bool) (t : Nat) (s : State) : Bool :=
  let p := s.pick k
  !s.sys.stopped && (p.src pri).lastZ == some t && p.on && (p.code pri == 3 || p.code pri == 4) &&
    3000000000 ≤ s.now - t

/-- SYNTH_UPDATE: SYNTH feeds a running pick clock (R79). -/
def Can.synthUpdate (k : Fin 4) (pri : Bool) (s : State) : Bool :=
  !s.sys.stopped && (s.pick k).on && (s.pick k).code pri == 6 && ((s.pick k).src pri).upDue s.now

/-- STEER_MISS: a steered source has had no post for MISS_LIMIT nominal intervals (R75). -/
def Can.steerMiss (k : Fin 4) (pri : Bool) (t : Nat) (s : State) : Bool :=
  let p := s.pick k
  !s.sys.stopped && (p.src pri).lastEdge == some t && p.on && p.code pri == 5 && !(p.src pri).lost &&
    p.cfg.missLimit.toNat * steerNs p.cfg ≤ s.now - t

/-- HOLD_LIMIT_EXPIRY: the pick clock has been in holdover for HOLD_LIMIT cycles and has no valid fallback (R88). -/
def Can.holdLimitExpiry (k : Fin 4) (s : State) : Bool :=
  let p := s.pick k
  !s.sys.stopped && p.st.state == 4 && p.cfg.holdLimit != 0 && p.cfg.holdLimit.toNat ≤ p.holdCyclesNow s.now &&
    !(!p.fbHoldover && p.valid false (p.at s.now))

/-- HOLD_LIMIT_EXPIRY: the pick clock has been in holdover for HOLD_LIMIT cycles and its fallback is valid (R88). -/
def Can.holdLimitExpiry_fallback (k : Fin 4) (s : State) : Bool :=
  let p := s.pick k
  !s.sys.stopped && p.st.state == 4 && p.cfg.holdLimit != 0 && p.cfg.holdLimit.toNat ≤ p.holdCyclesNow s.now &&
    !p.fbHoldover && p.valid false (p.at s.now)

/-- PARSE_START: the data path runs, nothing is handed back, a context is free and an express frame waits (R160). -/
def Can.parseStart (p : Nat) (s : State) : Bool :=
  !s.sys.stopped && s.sys.mode.live && (s.task.handbacks.find? fun h => s.canTake h.express) == none && s.canTake true &&
    (portsAfter s.rules.lastExp).find? (fun p => s.parseable p true) == some p

/-- PARSE_START: a packet handed back by a pointer reset comes first (R146, R160). -/
def Can.parseStart_handback (h : Handback) (s : State) : Bool :=
  !s.sys.stopped && s.sys.mode.live && (s.task.handbacks.find? fun h => s.canTake h.express) == some h

/-- DISPATCH: the data path runs and the express dispatcher finds a ready item and a thread for it (R198 to R204). -/
def Can.dispatch (p : Placing) (s : State) : Bool :=
  !s.sys.stopped && s.sys.mode.live && s.nextExpress == some p

/-- DISPATCH: the data path runs and the normal dispatcher finds a ready item and a thread for it (R198 to R204). -/
def Can.dispatch_normal (p : Placing) (s : State) : Bool :=
  !s.sys.stopped && s.sys.mode.live && s.nextNormal == some p

/-- ENTRY_TILE_REWRITE: a fetch of an entry has found the tile bad (R266). -/
def Can.entryTileRewrite (tile : Fin 131072) (s : State) : Bool :=
  !s.sys.stopped && s.weft.badTiles.contains tile.val

/-- RUN_LIMIT_EXPIRY: the task on a thread has run longer than its group's limit (R202). -/
def Can.runLimitExpiry (c : Fin 68) (t : Fin 8) (i : Inst) (s : State) : Bool :=
  let lim := if i.task then (s.group i.tg).runLimitBg.toNat else (s.group i.tg).runLimitPkt.toNat
  !s.sys.stopped && (s.th c t).inst == some i && (s.core c).active && (s.th c t).st != .halted && lim != 0 &&
    lim * 1000 < s.now - i.since

/-- TASK_END_ACCEPT: a thread stands at its end with nothing outstanding (R235). -/
def Can.taskEndAccept (c : Fin 68) (t : Fin 8) (i : Inst) (s : State) : Bool :=
  !s.sys.stopped && (s.th c t).inst == some i && s.sys.mode.live && (s.th c t).ended &&
    ((s.core c).active || (s.th c t).st == .stopped) && !s.lockOpsOut c t

/-- REED_COMMIT: the record at the head of the domain is READY (R236, R238). -/
def Can.reedCommit (od : Fin 4096) (r : Nat) (rest : List Nat) (s : State) : Bool :=
  !s.sys.stopped && s.sys.mode.live && s.reedTurn od && (s.dom od).recs == r :: rest && (s.ctx r).record.st == .ready

/-- ORDER_SKIP: the record at the head is OPEN and the order timer has run out (R242). -/
def Can.orderSkip (od : Fin 4096) (r : Nat) (rest : List Nat) (s : State) : Bool :=
  !s.sys.stopped && s.sys.mode.live && s.reedTurn od && (s.dom od).recs == r :: rest && (s.ctx r).record.st == .opened &&
    (s.dom od).cfg.orderTimeout.toNat ≤ s.now - (s.dom od).headSince

/-- WATCHDOG_VISIT: the data path runs and the visited core has made progress (R276). -/
def Can.watchdogVisit (c : Fin 68) (s : State) : Bool :=
  !s.sys.stopped && s.sys.mode.live && s.visitDue c && (s.core c).st.state == 0 && (s.core c).progress

/-- WATCHDOG_VISIT: the data path runs and the visited core has stopped and is not yet noticed (R276). -/
def Can.watchdogVisit_stopped (c : Fin 68) (s : State) : Bool :=
  !s.sys.stopped && s.sys.mode.live && s.visitDue c && (s.core c).st.state == 2 && !(s.core c).noticed

/-- WATCHDOG_VISIT: a thread runs, and its core has made no progress since the last visit and is not excused (R276). -/
def Can.watchdogVisit_hang (c : Fin 68) (t : Nat) (s : State) : Bool :=
  !s.sys.stopped && s.sys.mode.live && s.visitDue c && (s.core c).st.state == 0 && !(s.core c).progress && !s.idleProgress c &&
    ((s.core c).runningThreads.find? fun t => !s.excused c t) == some t

/-- CORE_SELFTEST_DONE: a stopped core passes its self-test, without poison and below three stops in 24 h (R49, R277). -/
def Can.coreSelftestDone (c : Fin 68) (s : State) : Bool :=
  !s.sys.stopped && (s.core c).st.state == 3 && s.weft.underTest != some c.val && !s.retesting c &&
    !((List.range 8).any fun t => ((s.core c).th t).ended) && !(s.core c).poison && (s.core c).toJudge &&
    (s.countStop c).stops24 c < 3

/-- CORE_SELFTEST_DONE: a stopped core fails its self-test (R49, R277). -/
def Can.coreSelftestDone_fail (c : Fin 68) (s : State) : Bool :=
  !s.sys.stopped && (s.core c).st.state == 3 && s.weft.underTest != some c.val && !s.retesting c &&
    !((List.range 8).any fun t => ((s.core c).th t).ended)

/-- CORE_JOIN_DONE: the core is JOINING (R277). -/
def Can.coreJoinDone (c : Fin 68) (s : State) : Bool :=
  !s.sys.stopped && (s.core c).st.state == 4

/-- SPARE_TEST: no spare core is under test, and one's turn has come (R278). -/
def Can.spareTest (c : Nat) (s : State) : Bool :=
  !s.sys.stopped && s.weft.underTest == none && s.spareDue && s.turn == some c

/-- SPARE_TEST: a spare core is under test (R278). -/
def Can.spareTest_done (c : Nat) (s : State) : Bool :=
  !s.sys.stopped && s.weft.underTest == some c

/-- PROGRAM_TILE_REWRITE: a fetch has found the tile bad (R50, R269). -/
def Can.programTileRewrite (tile : Fin 131072) (s : State) : Bool :=
  !s.sys.stopped && s.weft.badTiles.contains tile.val

/-- ICACHE_FILL_DONE: threads of an active core wait for the tile, and it is good (R269). -/
def Can.icacheFillDone (c : Fin 68) (tile : Fin 131072) (t : Nat) (ts : List Nat) (s : State) : Bool :=
  !s.sys.stopped && (s.core c).active && ((List.range 8).filter fun t => ((s.core c).th t).miss = some tile.val) == t :: ts

/-- PROGRAM_STORE_SCRUB: the device runs; the scrubber finds the tile bad (R270). -/
def Can.programStoreScrub (s : State) : Bool :=
  !s.sys.stopped

/-- PROG_DRAIN_END: no task uses the old entry table of a draining slice (R268). -/
def Can.progDrainEnd (n : Fin 64) (s : State) : Bool :=
  !s.sys.stopped && (s.progCfg n).draining == 1 && !s.tableUsed n ((s.progCfg n).activeTable ^^^ 1)

/-- RULESET_DRAIN_END: the last packet of the old bank has left (R183). -/
def Can.rulesetDrainEnd (s : State) : Bool :=
  !s.sys.stopped && s.rules.state == .draining && s.staged.inflight == 0

/-- RULESET_COPY_DONE: the staged bank is being copied (R183). -/
def Can.rulesetCopyDone (s : State) : Bool :=
  !s.sys.stopped && s.rules.state == .copying

/-- RULE_SCRUB: the device runs (R174). -/
def Can.ruleScrub (s : State) : Bool :=
  !s.sys.stopped

/-- RULESET_TILE_REWRITE: the device runs (R174). -/
def Can.rulesetTileRewrite (s : State) : Bool :=
  !s.sys.stopped

/-- DELAY_FIRE: the entry is valid, due, and the first of its list (R217). -/
def Can.delayFire (i : Fin 4096) (s : State) : Bool :=
  !s.sys.stopped && (s.delay i).e.valid == 1 && s.delayDue (s.delay i) && s.firstOfList (s.delay i) &&
    s.delayTurn == some (s.delay i).e.scale.toNat && s.delayRoom

/-- DELAY_FIRE: the entry that is due fails its parity; SL0 does not own it (R217, R219). -/
def Can.delayFire_bad (i : Fin 4096) (s : State) : Bool :=
  !s.sys.stopped && (s.delay i).e.valid == 1 && s.delayDue (s.delay i) && s.firstOfList (s.delay i) &&
    s.delayTurn == some (s.delay i).e.scale.toNat && s.delayRoom &&
    (s.delay i).e.owner.toNat != 0

/-- HELPER_COMPLETION: the operation has its result, and the instance that asked is still on its thread (R209). -/
def Can.helperCompletion (k : Nat) (o : HelperOp) (out : List (Nat × List Byte)) (s : State) : Bool :=
  !s.sys.stopped && (s.weft.ops.find? fun o => o.id = k) == some o && o.done == some out &&
    (s.th o.core o.thread).isInst o.inst

/-- COPROCESSOR_COMPLETION: the coprocessor runs an operation whose instance is still on its thread (R342). -/
def Can.coprocessorCompletion (c : Fin 68) (cp : Bool) (x : CpOp) (s : State) : Bool :=
  !s.sys.stopped && ((s.core c).cpOps.find? (fun x => x.cp = cpNo cp)) == some x &&
    (s.cpParity c x).isNone && (s.th c x.thread).isInst x.inst

/-- The same where it has read a word whose parity fails (R342, R678): the core stops at its instruction. -/
def Can.coprocessorCompletion_parity (c : Fin 68) (cp : Bool) (x : CpOp) (a : Word) (s : State) : Bool :=
  !s.sys.stopped && ((s.core c).cpOps.find? (fun x => x.cp = cpNo cp)) == some x && s.cpParity c x == some a &&
    (s.core c).active

/-- BREAKPOINT_HIT: a thread that could issue stands at a breakpoint (R281). -/
def Can.breakpointHit (c : Fin 68) (t : Fin 8) (s : State) : Bool :=
  !s.sys.stopped && s.canIssue c t && (s.th c t).atBreak

/-- LEASE_EXPIRY: the lock is held and its lease has ended (R356). -/
def Can.leaseExpiry (n : Fin 4096) (h : LockHolder) (s : State) : Bool :=
  !s.sys.stopped && (s.lk n).holder == some h && (s.lk n).leaseEnd ≤ s.now

/-- RING_POINTER_MISMATCH: the general ring is enabled (R139). -/
def Can.ringPointerMismatch (n : Fin 4096) (s : State) : Bool :=
  !s.sys.stopped && (s.ring n).cfg.enable == 1

/-- RING_POINTER_MISMATCH: the host DMA ring is enabled (R53, R139). -/
def Can.ringPointerMismatch_host (n : Fin 512) (s : State) : Bool :=
  !s.sys.stopped && (s.hr n).cfg.enable == 1

/-- RING_POINTER_MISMATCH: the device runs; the ring is a warp ring (R139, R146). -/
def Can.ringPointerMismatch_warp (s : State) : Bool :=
  !s.sys.stopped

/-- RING_RESET_DONE: the general ring is resetting (R139, R146). -/
def Can.ringResetDone (n : Fin 4096) (s : State) : Bool :=
  !s.sys.stopped && (s.ring n).resetting

/-- RING_RESET_DONE: the device runs; the ring is a warp ring (R146). -/
def Can.ringResetDone_warp (s : State) : Bool :=
  !s.sys.stopped

/-- PORT_SELECT: the device runs (R442). -/
def Can.portSelect (s : State) : Bool :=
  !s.sys.stopped

/-- TX_COMPLETE: a front port or M0 is sending a whole frame (R153). -/
def Can.txComplete (p : Fin 52) (f : TxFrame) (s : State) : Bool :=
  !s.sys.stopped && p.val < 48 && (s.port p).tx == some f

/-- LAUNCH_DUE: the head of a launch-time queue is due (R116). -/
def Can.launchDue (q : Fin 7680) (x : QEnt) (rest : List QEnt) (s : State) : Bool :=
  !s.sys.stopped && (s.queue q).onchip == x :: rest && (s.queue q).cfg.launch == 1 && s.launchDue q x && x.e.launchEn == 1

/-- SPILL_REFILL: entries of the queue lie in DRAM and there is room for the oldest on chip (R465). -/
def Can.spillRefill (q : Fin 7680) (x : QEnt) (r : List QEnt) (s : State) : Bool :=
  !s.sys.stopped && (s.queue q).dram == x :: r && (s.queue q).onchip.length < 32 && s.storeRoom ((s.queue q).tc q) &&
    s.spilledOk q

/-- PREFETCH_COMPLETE: a head frame of the port is in DRAM and fits its prefetch store (R467). -/
def Can.prefetchComplete (p : Fin 52) (n : Nat) (s : State) : Bool :=
  !s.sys.stopped && ((afterCur (s.unfetched p) (some (s.portTm p).prefetchAt)).find? fun n =>
    decide (s.prefetchFill p + ((s.headOf n).map fun x => x.d.length.toNat).getD 0 ≤ 32768)) == some n

/-- TELEMETRY_SAMPLE: the queue is sampled (R469). -/
def Can.telemetrySample (q : Fin 8192) (s : State) : Bool :=
  !s.sys.stopped && s.sampleDue q

/-- TREADLE_ENTRY_BEGIN: the first entry of an active list begins: its start has come (R456). -/
def Can.treadleEntryBegin (p : Fin 33) (s : State) : Bool :=
  !s.sys.stopped && (s.treadle p).st.active == 1 && !s.switchDue p && !(s.treadle p).begun &&
    (s.treadle p).st.activeStart.toNat ≤ s.scaleNow (s.treadle p).st.activeScale.toNat

/-- TREADLE_ENTRY_BEGIN: an entry that is not the last has ended on the grid, without a floor (R456). -/
def Can.treadleEntryBegin_next (p : Fin 33) (s : State) : Bool :=
  let d := s.treadle p
  !s.sys.stopped && d.st.active == 1 && !s.switchDue p && d.begun && d.jumps == 0 && s.entryOver p && !s.floored p && !d.cut &&
    d.st.curEntry.toNat + 1 < hdrCount d.actHdr

/-- TREADLE_SWITCH: a committed list's start has come, and no list is active or its entry's floor has passed (R456, R457).
-/
def Can.treadleSwitch (p : Fin 33) (s : State) : Bool :=
  let d := s.treadle p
  !s.sys.stopped && s.switchDue p && (d.st.active == 0 || !d.begun || d.entryAt + d.cur.floorNs.toNat ≤ s.now)

/-- TREADLE_COPY_DONE: the new list is active and its copy is due (R457). -/
def Can.treadleCopyDone (p : Fin 33) (s : State) : Bool :=
  !s.sys.stopped && (s.treadle p).st.pending == 2

/-- TREADLE_ENTRY_REWRITE: the list is active; the entry fails its check (R452). -/
def Can.treadleEntryRewrite (p : Fin 33) (i : Fin 1024) (s : State) : Bool :=
  !s.sys.stopped && (s.treadle p).st.active == 1 && (s.treadle p).foundBad.contains i.val

/-- TREADLE_REPOSITION: the list is in progress and its entry's floor has passed (R460). -/
def Can.treadleReposition (p : Fin 33) (s : State) : Bool :=
  !s.sys.stopped && (s.treadle p).st.active == 1 && (s.treadle p).begun && (s.treadle p).jumps != 0 &&
    (s.treadle p).entryAt + (s.treadle p).cur.floorNs.toNat ≤ s.now

/-- AGE_TICK: ageing is on (R388). -/
def Can.ageTick (s : State) : Bool :=
  !s.sys.stopped

/-- STATION_AGER_VISIT: ageing is on and the visited entry is old (R388, R389). -/
def Can.stationAgerVisit (n : Fin 262144) (s : State) : Bool :=
  !s.sys.stopped && s.tab.cfg.ageEn == 1 && s.isOld (s.station n) && !s.awaits 0 n

/-- FLUSH_WALK_END: a flush of the slice walks the table (R390). -/
def Can.flushWalkEnd (n : Fin 64) (f : Flush) (s : State) : Bool :=
  !s.sys.stopped && (s.tab.flushes.find? fun f => f.slice = n.val) == some f

/-- TABLE_SCRUB: the device runs; the scrubber finds a station slot bad (R400). -/
def Can.tableScrub (tb n : Nat) (f : Option SlotFault) (x : SlotFault) (s : State) : Bool :=
  !s.sys.stopped && s.faultSeen tb n f == some x

/-- TABLE_SCRUB: the scrubber visits a good stream slot (R400, R415). -/
def Can.tableScrub_stream (n : Fin 1048576) (s : State) : Bool :=
  !s.sys.stopped && (n.val < mainBase || s.dramOn) && s.faultSeen 1 n none == none && !s.awaits 1 n

/-- MIRROR_REPAIR: a half of the pinned slot is bad (R394). -/
def Can.mirrorRepair (n : Fin 65536) (h : Bool) (s : State) : Bool :=
  !s.sys.stopped && s.tab.badHalf.contains (n.val, h)

/-- TABLE_RESTORE_DONE: the slot awaits restoration, and the host's copy is good, valid and takes the slot (R404). -/
def Can.tableRestoreDone (tb : Fin 3) (n : Fin 1048576) (t : Tile) (s : State) : Bool :=
  !s.sys.stopped && s.awaits tb n && tileOk t && s.copyInTime tb n && copyValid tb t && (s.takeCopy tb n (s.slotOwner tb n) t).isSome

/-- TABLE_RESTORE_DONE: the slot awaits restoration and the host has no copy (R404). -/
def Can.tableRestoreDone_lost (tb : Fin 3) (n : Fin 1048576) (s : State) : Bool :=
  !s.sys.stopped && s.awaits tb n

/-- ROUTE_REBUILD: the device runs (R400). -/
def Can.routeRebuild (s : State) : Bool :=
  !s.sys.stopped

/-- CACHE_FILL_DONE: a fill of the line is in progress (R500). -/
def Can.cacheFillDone (i : Fin 262144) (l : CacheLine) (s : State) : Bool :=
  !s.sys.stopped && Tab.get none s.dram.lines i == some l && l.filling

/-- WRITEBACK_DONE: the eviction buffer holds a line, and it is good (R502). -/
def Can.writebackDone (l : CacheLine) (r : List CacheLine) (s : State) : Bool :=
  !s.sys.stopped && s.dram.evb == l :: r && l.bad.isNone

/-- LINE_CLEAN: the line has been dirty for CLEAN_US (R501). -/
def Can.lineClean (i : Fin 262144) (l : CacheLine) (s : State) : Bool :=
  !s.sys.stopped && Tab.get none s.dram.lines i == some l && l.dirty && l.bad.isNone && s.dram.cacheCfg.cleanUs.toNat != 0 &&
    s.dram.cacheCfg.cleanUs.toNat * 1000 ≤ s.now - l.since && s.dram.cacheSt.state == 0

/-- CACHE_SCRUB: the cache is on; the scrubber finds a line bad (R501, R503). -/
def Can.cacheScrub (s : State) : Bool :=
  !s.sys.stopped && s.dram.cacheSt.state != 2

/-- CACHE_MAINT_DONE: the oldest CACHE_MAINT covers no line whose fill is in progress (R504). -/
def Can.cacheMaintDone (m : Maint) (r : List Maint) (s : State) : Bool :=
  !s.sys.stopped && s.dram.maint == m :: r && !(s.dram.lines.any fun (_, l) => l.any fun l => l.filling && m.covers l.line)

/-- CACHE_FLUSH_DONE: the cache is flushing (R506). -/
def Can.cacheFlushDone (s : State) : Bool :=
  !s.sys.stopped && s.dram.cacheSt.state == 1

/-- REQUEST_AGED: the DRAM controller is ACTIVE (R485). -/
def Can.requestAged (s : State) : Bool :=
  !s.sys.stopped && s.dramActive

/-- REFRESH_DEADLINE: the DRAM controller is ACTIVE (R486). -/
def Can.refreshDeadline (s : State) : Bool :=
  !s.sys.stopped && s.dramActive

/-- REFRESH_RATE_READ: the DRAM controller is ACTIVE (R486). -/
def Can.refreshRateRead (s : State) : Bool :=
  !s.sys.stopped && s.dramActive && decide (s.dram.rateAt ≤ s.now)

/-- DRIFT_TRACK: the DRAM controller is ACTIVE (R491). -/
def Can.driftTrack (s : State) : Bool :=
  !s.sys.stopped && s.dramActive && decide (s.dram.trackAt ≤ s.now)

/-- ECS_READ: the DRAM controller is ACTIVE (R487). -/
def Can.ecsRead (s : State) : Bool :=
  !s.sys.stopped && s.dramActive && decide (s.dram.ecsAt ≤ s.now)

/-- FABRIC_DATA_RECEIVE: the link accepts the frame, and it is a DATA frame (R516, R520). -/
def Can.fabricDataReceive (k : Fin 4) (x : LinkRx) (f : FabFrame) (s : State) : Bool :=
  !s.sys.stopped && (s.linkTake k x).2 == some f && f.kind == 0

/-- FABRIC_COMMAND_RECEIVE: the link accepts the frame, and it is a COMMAND frame (R516, R533). -/
def Can.fabricCommandReceive (k : Fin 4) (x : LinkRx) (f : FabFrame) (s : State) : Bool :=
  !s.sys.stopped && (s.linkTake k x).2 == some f && f.kind == 1

/-- FABRIC_REPLY_RECEIVE: the link accepts the frame, and it is a REPLY frame (R516, R533). -/
def Can.fabricReplyReceive (k : Fin 4) (x : LinkRx) (f : FabFrame) (s : State) : Bool :=
  !s.sys.stopped && (s.linkTake k x).2 == some f && f.kind == 2

/-- HELLO_RECEIVE: the link takes the frame, and it is a HELLO (R522). -/
def Can.helloReceive (k : Fin 4) (x : LinkRx) (f : FabFrame) (s : State) : Bool :=
  !s.sys.stopped && (s.linkTake k x).2 == some f && f.kind == 3

/-- HELLO_SEND: the device runs (R522). -/
def Can.helloSend (s : State) : Bool :=
  !s.sys.stopped && decide (s.fab.helloDue ≤ s.now)

/-- DISCOVER_RECEIVE: the link accepts the frame, and it is a DISCOVER (R523). -/
def Can.discoverReceive (k : Fin 4) (x : LinkRx) (f : FabFrame) (s : State) : Bool :=
  !s.sys.stopped && (s.linkTake k x).2 == some f && f.kind == 4

/-- ANSWER_RECEIVE: the link accepts the frame, and it is an ANSWER (R523). -/
def Can.answerReceive (k : Fin 4) (x : LinkRx) (f : FabFrame) (s : State) : Bool :=
  !s.sys.stopped && (s.linkTake k x).2 == some f && f.kind == 5

/-- DISCOVER_WINDOW_END: the 5 ms of a FABRIC_DISCOVER have passed (R523). -/
def Can.discoverWindowEnd (t : Nat) (s : State) : Bool :=
  !s.sys.stopped && s.fab.disc.until' == some t && t ≤ s.now

/-- FABRIC_ID_SET_TIMEOUT: the 5 ms of a FABRIC_ID_SET have passed (R524). -/
def Can.fabricIdSetTimeout (serial : Word) (t : Nat) (s : State) : Bool :=
  !s.sys.stopped && s.fab.idSet == some (serial, t) && t ≤ s.now

/-- LSA_RECEIVE: the link accepts the frame, and it is an LSA (R526). -/
def Can.lsaReceive (k : Fin 4) (x : LinkRx) (f : FabFrame) (s : State) : Bool :=
  !s.sys.stopped && (s.linkTake k x).2 == some f && f.kind == 6

/-- LSA_FLOOD: the device is not in CONFLICT, and not in BOOT before ST21 (R526, R35). -/
def Can.lsaFlood (s : State) : Bool :=
  !s.sys.stopped && decide (s.fab.lsaDue ≤ s.now) && s.fab.st.idState != 2 && (s.sys.mode != .boot || s.sys.hostReady)

/-- ID_CONFLICT_CLEAR: in CONFLICT, 10 ms after the last LSA of another serial with the device's ID (R525). -/
def Can.idConflictClear (s : State) : Bool :=
  !s.sys.stopped && s.fab.st.idState == 2 && s.fab.conflictAt + 10000000 ≤ s.now

/-- ROUTE_RECOMPUTE: the device runs (R527). -/
def Can.routeRecompute (s : State) : Bool :=
  !s.sys.stopped

/-- LINK_ACK_RECEIVE: frames are unacknowledged, and the ACK names one of them (R516). -/
def Can.linkAckReceive (k : Fin 4) (e : RetryEnt) (rest : List RetryEnt) (seq : BitVec 12) (s : State) : Bool :=
  !s.sys.stopped && (s.link k).retry == e :: rest && (seq.toNat + 4096 - e.seq) % 4096 + 1 ≤ rest.length + 1

/-- LINK_ACK_RECEIVE: frames are unacknowledged, and the NAK names one of them or the next (R516, R517). -/
def Can.linkAckReceive_nak (k : Fin 4) (e : RetryEnt) (rest : List RetryEnt) (seq : BitVec 12) (s : State) : Bool :=
  !s.sys.stopped && (s.link k).retry == e :: rest && (seq.toNat + 4096 - e.seq) % 4096 ≤ rest.length + 1

/-- RETRY_TIMEOUT: a frame on an UP link is unacknowledged for 2 µs (R517). -/
def Can.retryTimeout (k : Fin 4) (e : RetryEnt) (rest : List RetryEnt) (s : State) : Bool :=
  !s.sys.stopped && (s.link k).retry == e :: rest && e.sentAt + 2000 ≤ s.now && (s.link k).st.state == 3

/-- FABRIC_LINK_DOWN: a link that was locked loses its alignment (R518). -/
def Can.fabricLinkDown (k : Fin 4) (s : State) : Bool :=
  !s.sys.stopped && (s.link k).lock

/-- FABRIC_LINK_DOWN: three hello intervals without a hello on an UP link (R518, R522). -/
def Can.fabricLinkDown_hello (k : Fin 4) (s : State) : Bool :=
  !s.sys.stopped && (s.link k).st.state == 3 && (s.link k).helloAt + 30000 ≤ s.now

/-- FAB_HOLD_EXPIRY: a stream has held frames for FAB_HOLD_NS (R520). -/
def Can.fabHoldExpiry (n : Fin 2048) (s : State) : Bool :=
  !s.sys.stopped && (s.rx n).holding && (s.rx n).t0 + s.fab.cfg.fabHoldNs.toNat ≤ s.now

/-- HEARTBEAT_SEND: the mode is COMMISSION, RUN or SHADOW (R538). -/
def Can.heartbeatSend (s : State) : Bool :=
  !s.sys.stopped && s.sys.mode.live && decide (s.fab.hbDue ≤ s.now)

/-- HEARTBEAT_RECEIVE: the link accepts the frame, and it is a HEARTBEAT (R538). -/
def Can.heartbeatReceive (k : Fin 4) (x : LinkRx) (f : FabFrame) (s : State) : Bool :=
  !s.sys.stopped && (s.linkTake k x).2 == some f && f.kind == 7

/-- HEARTBEAT_PATH_LOSS: the path was held, 8 µs have passed, and another path is held (R538). -/
def Can.heartbeatPathLoss (p : Fin 4) (s : State) : Bool :=
  !s.sys.stopped && (Tab.get ({} : HbPath) s.fab.hb p).held && (Tab.get ({} : HbPath) s.fab.hb p).at' + 8000 ≤ s.now &&
    (List.range 4).any ({ s with fab.hb := Tab.set {} s.fab.hb p {} } : State).pathHeld

/-- HEARTBEAT_PATH_LOSS: the last path is lost in SHADOW (R538, R539). -/
def Can.heartbeatPathLoss_shadow (p : Fin 4) (s : State) : Bool :=
  !s.sys.stopped && (Tab.get ({} : HbPath) s.fab.hb p).held && (Tab.get ({} : HbPath) s.fab.hb p).at' + 8000 ≤ s.now &&
    !((List.range 4).any ({ s with fab.hb := Tab.set {} s.fab.hb p {} } : State).pathHeld) && s.sys.mode == .shadow

/-- TIME_SEND: the device runs (R536). -/
def Can.timeSend (s : State) : Bool :=
  !s.sys.stopped && decide (s.fab.timeDue ≤ s.now) && s.fab.st.idState != 2

/-- TIME_RECEIVE: the link accepts the frame, and it is a TIME frame (R536). -/
def Can.timeReceive (k : Fin 4) (x : LinkRx) (f : FabFrame) (s : State) : Bool :=
  !s.sys.stopped && (s.linkTake k x).2 == some f && f.kind == 8

/-- CMD_TIMEOUT_EXPIRY: a forwarded command has waited CMD_TIMEOUT_US (R534). -/
def Can.cmdTimeoutExpiry (e : RemoteCmd) (s : State) : Bool :=
  !s.sys.stopped && (s.fab.remote.find? fun e => decide (e.due ≤ s.now)) == some e && e.twin == none

/-- TWIN_LISTEN_END: the 20 µs have passed and the twin was not heard in RUN (R638). -/
def Can.twinListenEnd (t : Nat) (s : State) : Bool :=
  !s.sys.stopped && s.sys.listen == some (t, false) && t ≤ s.now

/-- TWIN_LISTEN_END: the twin was heard in RUN, and a MODE_SET waits (R638). -/
def Can.twinListenEnd_heard (t : Nat) (s : State) : Bool :=
  !s.sys.stopped && s.sys.listen == some (t, true) && t ≤ s.now && s.host.deferred.any fun d => d.wait = .modeSet

/-- MODE_CHANGE_DONE: a mode change other than one to SAFE is in progress, and no listen (R636). -/
def Can.modeChangeDone (old : Mode) (new : Mode) (s : State) : Bool :=
  !s.sys.stopped && s.sys.modeChange == some (old, new) && s.sys.listen == none && new != .safe

/-- MODE_CHANGE_DONE: a change to SAFE is in progress (R636). -/
def Can.modeChangeDone_safe (old : Mode) (s : State) : Bool :=
  !s.sys.stopped && s.sys.modeChange == some (old, .safe) && s.sys.listen == none

/-- CP_WATCHDOG: the device runs (R58). -/
def Can.cpWatchdog (s : State) : Bool :=
  !s.sys.stopped

/-- SELVEDGE_WRITE: selvedge is open and an entry waits (R643, R645). -/
def Can.selvedgeWrite (e : SelvEntry) (s : State) : Bool :=
  !s.sys.stopped && !s.selv.stopped && s.selv.opened && s.selv.writeAt ≤ s.now && s.selv.nextEntry == some e

/-- SELVEDGE_WRITE: selvedge is open and the write of an entry that is not a snapshot's fails (R643). -/
def Can.selvedgeWrite_fail (e : SelvEntry) (s : State) : Bool :=
  !s.sys.stopped && !s.selv.stopped && s.selv.opened && s.selv.writeAt ≤ s.now && s.selv.nextEntry == some e && e.area != 2

/-- POWER_FAIL: selvedge is open (R648). -/
def Can.powerFail (s : State) : Bool :=
  !s.sys.stopped && !s.selv.stopped && s.selv.opened

/-- POWER_RESTORED: selvedge has stopped for a power fail (R648). -/
def Can.powerRestored (s : State) : Bool :=
  !s.sys.stopped && s.selv.stopped

/-- RESET: any state (R621). -/
def Can.reset (s : State) : Bool :=
  s.sys.stopped || !s.sys.stopped

/-- RESET: TEST_N is high (R621, R664). -/
def Can.reset_n (s : State) : Bool :=
  s.sys.testN

/-- STARTUP_STEP_DONE: a start-up step other than ST13 ends well (R628). -/
def Can.startupStepDone (e : StepEnd) (s : State) : Bool :=
  !s.sys.stopped && s.starting && s.sys.step != 13 && e.pass

/-- STARTUP_STEP_DONE: a start-up step other than ST13 fails (R628, R631, R632). -/
def Can.startupStepDone_fail (e : StepEnd) (s : State) : Bool :=
  !s.sys.stopped && s.starting && s.sys.step != 13 && !e.pass

/-- STEP_LIMIT_EXPIRY: a start-up step has exceeded its limit (R629). -/
def Can.stepLimitExpiry (s : State) : Bool :=
  !s.sys.stopped && s.starting && s.sys.stepStart + stepLimit s.sys.step ≤ s.now

/-- BOOT_WDG: a start-up step has exceeded twice its limit (R629). -/
def Can.bootWdg (s : State) : Bool :=
  !s.sys.stopped && s.starting && s.sys.stepStart + 2 * stepLimit s.sys.step ≤ s.now

/-- AUTO_RESTART: the automatic restart of SAFE is due (R640). -/
def Can.autoRestart (s : State) : Bool :=
  !s.sys.stopped && s.restartDue

/-- REFCLK_LOSS: the links' reference clock is lost (R661). -/
def Can.refclkLoss (s : State) : Bool :=
  !s.sys.stopped && !Tab.get false s.sys.refLost 2

/-- REFCLK_LOSS: PCIe's reference clock is lost (R661, R545). -/
def Can.refclkLoss_pcie (s : State) : Bool :=
  !s.sys.stopped && !Tab.get false s.sys.refLost 3

/-- THERM_ALERT: THERM_ALERT_N changes (R673). -/
def Can.thermAlert (hot : Bool) (s : State) : Bool :=
  !s.sys.stopped && s.sys.thermAlert != hot

/-- THERM_TRIP: the device has not tripped yet (R673). -/
def Can.thermTrip (s : State) : Bool :=
  !s.sys.stopped && !s.sys.thermTrip

/-- STREAM_FIND: the requester's slice has stream lookups and the key is found (R393). -/
def Can.hStreamFind (k : Nat) (fs : List (Nat × SlotFault)) (o : HelperOp) (n : Nat) (s : State) : Bool :=
  s.asked k 1 1 o && o.word.blen.toNat == 5 && (s.part o.slice).enable != 0 &&
    (s.seLook o.slice (seKey (BitVec.ofNat 6 o.slice) (leBits 48 (o.b 8 6)) (BitVec.ofNat 12 (o.u 16 2)) (BitVec.ofNat 16 (o.u 18 2))) false fs).2 == .hit n

/-- FIND_PINNED: the requester's slice has stream lookups and the key is found (R393). -/
def Can.hFindPinned (k : Nat) (fs : List (Nat × SlotFault)) (o : HelperOp) (n : Nat) (s : State) : Bool :=
  s.asked k 1 2 o && o.word.blen.toNat == 5 && (s.part o.slice).enable != 0 &&
    (s.seLook o.slice (seKey (BitVec.ofNat 6 o.slice) (leBits 48 (o.b 8 6)) (BitVec.ofNat 12 (o.u 16 2)) (BitVec.ofNat 16 (o.u 18 2))) true fs).2 == .hit n

/-- SEQ_RECV: a packet's first SEQ_RECV, on a stream whose recovery is on, of a packet that carries a number (R413 to
R415). -/
def Can.hSeqRecv (k : Nat) (fs : List (Nat × SlotFault)) (o : HelperOp) (r : Nat) (num : BitVec 16) (s : State) : Bool :=
  let s1 := (seqHandle fs s o).1
  let s2 := s1.modRecd o fun r => { r with didRecv := true }
  s.asked k 1 3 o && o.word.blen.toNat == 3 && !o.inst.task && (seqHandle fs s o).2 == 0 && !(s1.recdOf o).didRecv &&
    s2.recordOf o == some r && (s2.stream (o.u 8 4)).seqC.mode != 0 &&
    keySeq (bytesOf (s2.ctx r).key 128) (s2.stream (o.u 8 4)).seqC == some num && (s2.ctx r).record.seqRecv == none

/-- SEQ_GEN: a packet's first SEQ_GEN, on a stream whose numbering is on (R413, R418). -/
def Can.hSeqGen (k : Nat) (fs : List (Nat × SlotFault)) (o : HelperOp) (r : Nat) (s : State) : Bool :=
  let s1 := (seqHandle fs s o).1
  let s2 := s1.modRecd o fun r => { r with didGen := true }
  s.asked k 1 4 o && o.word.blen.toNat == 3 && !o.inst.task && (seqHandle fs s o).2 == 0 && !(s1.recdOf o).didGen &&
    s2.recordOf o == some r && (s2.stream (o.u 8 4)).seqC.mode != 0 && (s2.ctx r).record.seqGen == none

/-- STATION_FIND: the requester's slice has stations and the address is known (R384). -/
def Can.hStationFind (k : Nat) (fs : List (Nat × SlotFault)) (o : HelperOp) (n : Nat) (s : State) : Bool :=
  s.asked k 2 1 o && o.word.blen.toNat == 4 && (s.part o.slice).enable != 0 &&
    (s.stLook o.slice (leBits 48 (o.b 8 6)) (BitVec.ofNat 12 (o.u 14 2)) fs).2 == .hit n

/-- LEARN: a usable port code, and the address is held already or a slot is found for it (R385). -/
def Can.hLearn (k : Nat) (fs : List (Nat × SlotFault)) (o : HelperOp) (s : State) : Bool :=
  let mac : BitVec 48 := leBits 48 (o.b 8 6)
  let fid := BitVec.ofNat 12 (o.u 14 2)
  let s1 := s.noteFaults 0 (s.stCands (stKey (BitVec.ofNat 6 o.slice) mac fid)) fs
  let x := s1.learn o.slice mac fid (o.u 16 1)
  s.asked k 2 2 o && o.word.blen.toNat == 4 && o.u 16 1 < 64 && !portReserved (o.u 16 1) && (s.part o.slice).enable != 0 &&
    x.2.1 != 4 && x.2.1 != 6

/-- FIND4: the requester's slice has routes and one matches (R397). -/
def Can.hFind4 (k : Nat) (path : Bool) (entry : Bool) (o : HelperOp) (n : Nat) (s : State) : Bool :=
  s.asked k 3 1 o && o.word.blen.toNat == 6 && (s.part o.slice).enable != 0 &&
    (s.rtLook o.slice 0 (leBits 128 (o.b 8 (routeWidth 0 / 8))) path entry).2 == .hit n

/-- FIND6: the requester's slice has routes and one matches (R397). -/
def Can.hFind6 (k : Nat) (path : Bool) (entry : Bool) (o : HelperOp) (n : Nat) (s : State) : Bool :=
  s.asked k 3 2 o && o.word.blen.toNat == 6 && (s.part o.slice).enable != 0 &&
    (s.rtLook o.slice 1 (leBits 128 (o.b 8 (routeWidth 1 / 8))) path entry).2 == .hit n

/-- METER: an enabled policer of the requester's slice, a length in range, and the packet's first instance (R318, R425). -/
def Can.hMeter (k : Nat) (o : HelperOp) (s : State) : Bool :=
  let n := o.u 8 4
  let p := s.policer n
  s.asked k 4 1 o && o.word.blen.toNat == 2 && n < 16384 && inR (o.u 12 2) 1 9600 && p.cfg.enable != 0 &&
    p.cfg.owner.toNat == o.slice && !(!o.inst.task && o.inst.later)

/-- COUNTER_ADD: a counter pair of the requester's slice; not a later instance when ONCE is set (R322). -/
def Can.hCounterAdd (k : Nat) (o : HelperOp) (s : State) : Bool :=
  s.asked k 5 1 o && o.word.blen.toNat == 3 && o.u 8 4 < 65536 && s.ownsPair o.slice (o.u 8 4) &&
    !((nthByte o.block 12).getLsbD 0 && !o.inst.task && o.inst.later)

/-- COUNTER_HELPER_READ: a counter pair of the requester's slice (R322). -/
def Can.hCounterHelperRead (k : Nat) (o : HelperOp) (s : State) : Bool :=
  s.asked k 5 2 o && o.word.blen.toNat == 4 && o.u 8 4 < 65536 && s.ownsPair o.slice (o.u 8 4)

/-- LOCK_ACQUIRE: a free lock of the requester's slice (R349). -/
def Can.hLockAcquire (k : Nat) (o : HelperOp) (s : State) : Bool :=
  let h := o.inst.holder o.core o.thread
  s.asked k 6 1 o && o.word.blen.toNat == 2 && o.u 8 2 < 4096 && (s.lk (o.u 8 2)).cfg.enable != 0 &&
    (s.lk (o.u 8 2)).cfg.owner.toNat == o.slice && s.carries o &&
    !(s.lk (o.u 8 2)).heldBy h && (s.lk (o.u 8 2)).holder.isNone

/-- LOCK_ACQUIRE: a lock that another holds, by a requester that waits for none and does not TRY (R349). -/
def Can.hLockAcquire_queued (k : Nat) (o : HelperOp) (s : State) : Bool :=
  let h := o.inst.holder o.core o.thread
  s.asked k 6 1 o && o.word.blen.toNat == 2 && o.u 8 2 < 4096 && (s.lk (o.u 8 2)).cfg.enable != 0 &&
    (s.lk (o.u 8 2)).cfg.owner.toNat == o.slice && s.carries o &&
    !(s.lk (o.u 8 2)).heldBy h && (s.lk (o.u 8 2)).holder.isSome && !(nthByte o.block 10).getLsbD 0 &&
    !(s.lk (o.u 8 2)).waits h && !(s.lock.locks.any fun (_, x) => x.waits h)

/-- LOCK_RELEASE: the requester holds the lock (R352). -/
def Can.hLockRelease (k : Nat) (o : HelperOp) (s : State) : Bool :=
  let h := o.inst.holder o.core o.thread
  s.asked k 6 2 o && o.word.blen.toNat == 2 && o.u 8 2 < 4096 && (s.lk (o.u 8 2)).cfg.enable != 0 &&
    (s.lk (o.u 8 2)).cfg.owner.toNat == o.slice &&
    (s.lk (o.u 8 2)).heldBy h

/-- LOCK_RENEW: the requester holds the lock (R353). -/
def Can.hLockRenew (k : Nat) (o : HelperOp) (s : State) : Bool :=
  let h := o.inst.holder o.core o.thread
  s.asked k 6 3 o && o.word.blen.toNat == 2 && o.u 8 2 < 4096 && (s.lk (o.u 8 2)).cfg.enable != 0 &&
    (s.lk (o.u 8 2)).cfg.owner.toNat == o.slice &&
    (s.lk (o.u 8 2)).heldBy h

/-- LOCK_CANCEL: the requester waits for the lock (R353). -/
def Can.hLockCancel (k : Nat) (o : HelperOp) (s : State) : Bool :=
  let h := o.inst.holder o.core o.thread
  s.asked k 6 4 o && o.word.blen.toNat == 2 && o.u 8 2 < 4096 && (s.lk (o.u 8 2)).cfg.enable != 0 &&
    (s.lk (o.u 8 2)).cfg.owner.toNat == o.slice &&
    (s.lk (o.u 8 2)).waits h

/-- LOCK_QUERY: a lock of the requester's slice (R353). -/
def Can.hLockQuery (k : Nat) (o : HelperOp) (s : State) : Bool :=
  s.asked k 6 5 o && o.word.blen.toNat == 4 && o.u 8 2 < 4096 && (s.lk (o.u 8 2)).cfg.enable != 0 &&
    (s.lk (o.u 8 2)).cfg.owner.toNat == o.slice

/-- CH_STAGE: the bound producer stages an item within MSG_MAX (R368, R369). -/
def Can.hChStage (k : Nat) (o : HelperOp) (s : State) : Bool :=
  let r := o.u 8 2
  let g := s.ring r
  s.asked k 7 1 o && r < 4096 && g.cfg.kind == 1 && g.cfg.enable != 0 && itemBlen o.word.blen.toNat && o.word.blen.toNat == itemWords 1 s r &&
    g.cfg.owner.toNat == o.slice && s.carries o && (s.chan r).cfg.bound true o.core o.thread &&
    ((s.stage o.core o.thread).items.isEmpty || (s.stage o.core o.thread).chan == r) &&
    (s.stage o.core o.thread).items.length < (s.chan r).cfg.msgMax.toNat

/-- CH_COMMIT: the bound producer has staged items for this ring, which is not being reset (R369). -/
def Can.hChCommit (k : Nat) (o : HelperOp) (s : State) : Bool :=
  let r := o.u 8 2
  let g := s.ring r
  s.asked k 7 2 o && r < 4096 && g.cfg.kind == 1 && g.cfg.enable != 0 && o.word.blen.toNat == 2 &&
    g.cfg.owner.toNat == o.slice && (s.chan r).cfg.bound true o.core o.thread &&
    !(s.stage o.core o.thread).items.isEmpty && (s.stage o.core o.thread).chan == r && !g.resetting

/-- CH_ABORT: the bound producer has staged items for this ring (R368). -/
def Can.hChAbort (k : Nat) (o : HelperOp) (s : State) : Bool :=
  let r := o.u 8 2
  let g := s.ring r
  s.asked k 7 3 o && r < 4096 && g.cfg.kind == 1 && g.cfg.enable != 0 && o.word.blen.toNat == 2 &&
    g.cfg.owner.toNat == o.slice && (s.chan r).cfg.bound true o.core o.thread &&
    !(s.stage o.core o.thread).items.isEmpty && (s.stage o.core o.thread).chan == r

/-- CH_POP: the bound consumer pops a message of a ring that is not being reset (R370). -/
def Can.hChPop (k : Nat) (o : HelperOp) (m : Nat) (s : State) : Bool :=
  let r := o.u 8 2
  let g := s.ring r
  s.asked k 7 4 o && r < 4096 && g.cfg.kind == 1 && g.cfg.enable != 0 && popBlen o.word.blen.toNat &&
    o.word.blen.toNat == itemWords (s.chan r).cfg.msgMax.toNat s r &&
    g.cfg.owner.toNat == o.slice && (s.chan r).cfg.bound false o.core o.thread && !g.resetting &&
    (s.chan r).msgs.head? == some m

/-- POOL_ALLOC: a pool of the requester's slice with a cell left, for an instance that records fewer than sixteen handles
(R151, R319). -/
def Can.hPoolAlloc (k : Nat) (o : HelperOp) (x : State × Nat) (s : State) : Bool :=
  s.asked k 8 1 o && o.word.blen.toNat == 2 && o.u 8 1 < 64 && (s.pool (o.u 8 1)).cfg.enable != 0 && (s.pool (o.u 8 1)).cfg.owner.toNat == o.slice &&
    (s.recdOf o).handles.length < 16 && s.allocOne (o.u 8 1) == some x && x.1.carries o

/-- REF_ADD: the handle names an allocated cell of the pool with fewer than 255 references (R154). -/
def Can.hRefAdd (k : Nat) (o : HelperOp) (s : State) : Bool :=
  s.asked k 8 2 o && o.word.blen.toNat == 2 && o.u 8 1 < 64 && (s.pool (o.u 8 1)).cfg.enable != 0 &&
    s.poolCheck (o.u 8 1) o.slice (o.handleAt 12) == 0 && (s.cell (recOf (o.handleAt 12))).alloc != 0 &&
    (s.cell (recOf (o.handleAt 12))).refcnt != 255

/-- FREE: WHOLE is clear and the handle names an allocated cell of the pool (R154, R319). -/
def Can.hFree (k : Nat) (o : HelperOp) (s : State) : Bool :=
  s.asked k 8 3 o && o.word.blen.toNat == 2 && o.u 8 1 < 64 && (s.pool (o.u 8 1)).cfg.enable != 0 &&
    !(nthByte o.block 9).getLsbD 0 && s.poolCheck (o.u 8 1) o.slice (o.handleAt 12) == 0 &&
    s.poolCheck (o.u 8 1) o.slice (handleOf (recOf (o.handleAt 12))) == 0 && (s.cell (recOf (o.handleAt 12))).alloc != 0

/-- FREE: WHOLE is set and the handle heads a chain of allocated cells of the pool, none of them bad (R154, R319). -/
def Can.hFree_whole (k : Nat) (o : HelperOp) (s : State) : Bool :=
  s.asked k 8 3 o && o.word.blen.toNat == 2 && o.u 8 1 < 64 && (s.pool (o.u 8 1)).cfg.enable != 0 &&
    (nthByte o.block 9).getLsbD 0 && s.poolCheck (o.u 8 1) o.slice (o.handleAt 12) == 0 &&
    (s.frameBad (o.handleAt 12)).isNone &&
    (s.chain chainFuel (recOf (o.handleAt 12))).all fun i =>
      s.poolCheck (o.u 8 1) o.slice (handleOf i) == 0 && (s.cell i).alloc != 0

/-- RING_PUSH: a ring of the requester's slice that is not being reset (R130). -/
def Can.hRingPush (k : Nat) (o : HelperOp) (s : State) : Bool :=
  let r := o.u 8 2
  let g := s.ring r
  s.asked k 9 1 o && r < 4096 && g.cfg.kind == 0 && g.cfg.enable != 0 && g.cfg.owner.toNat == o.slice && !g.resetting &&
    itemBlen o.word.blen.toNat && o.word.blen.toNat == itemWords 1 s r

/-- RING_POP: a ring of the requester's slice that is not being reset and is not empty (R130, R131). -/
def Can.hRingPop (k : Nat) (o : HelperOp) (x : BitVec 512) (s : State) : Bool :=
  let r := o.u 8 2
  let g := s.ring r
  s.asked k 9 2 o && r < 4096 && g.cfg.kind == 0 && g.cfg.enable != 0 && g.cfg.owner.toNat == o.slice && !g.resetting &&
    itemBlen o.word.blen.toNat && o.word.blen.toNat == itemWords 1 s r && g.items[g.popped]? == some x

/-- RING_MARK: a marked ring of the requester's slice (R132). -/
def Can.hRingMark (k : Nat) (o : HelperOp) (s : State) : Bool :=
  let r := o.u 8 2
  let g := s.ring r
  s.asked k 9 3 o && r < 4096 && g.cfg.kind == 0 && g.cfg.enable != 0 && g.cfg.owner.toNat == o.slice && !g.resetting &&
    o.word.blen.toNat == 2 && g.cfg.markEn != 0

/-- RING_REWIND: a marked ring of the requester's slice with its mark still there (R132). -/
def Can.hRingRewind (k : Nat) (o : HelperOp) (m : Nat) (s : State) : Bool :=
  let r := o.u 8 2
  let g := s.ring r
  s.asked k 9 4 o && r < 4096 && g.cfg.kind == 0 && g.cfg.enable != 0 && g.cfg.owner.toNat == o.slice && !g.resetting &&
    o.word.blen.toNat == 2 && g.cfg.markEn != 0 && !g.markLost && g.mark == some m

/-- RING_RELEASE: a marked ring of the requester's slice with that many items popped (R132). -/
def Can.hRingRelease (k : Nat) (o : HelperOp) (s : State) : Bool :=
  let r := o.u 8 2
  let g := s.ring r
  s.asked k 9 5 o && r < 4096 && g.cfg.kind == 0 && g.cfg.enable != 0 && g.cfg.owner.toNat == o.slice && !g.resetting &&
    o.word.blen.toNat == 2 && g.cfg.markEn != 0 &&
    o.u 10 2 != 0 && o.u 10 2 ≤ g.popped

/-- TS_CONVERT: two clock codes with a conversion (R327). -/
def Can.hTsConvert (k : Nat) (o : HelperOp) (s : State) : Bool :=
  s.asked k 10 1 o && o.word.blen.toNat == 4 && o.u 8 1 ≤ 4 && o.u 9 1 ≤ 4 &&
    (s.convert (o.u 8 1) (o.u 9 1) (o.u 16 8)).status < 2

/-- PICK_STEER: the steering slice posts a phase of the last 10 ms, newer than its last, for a running clock that it feeds
(R78). -/
def Can.hPickSteer (k : Nat) (o : HelperOp) (s : State) : Bool :=
  let n := o.u 8 1 - 1
  let p := s.pick n
  let t := o.u 16 8
  let v := s.wallToPick n t
  s.asked k 10 2 o && o.word.blen.toNat == 4 && inR (o.u 8 1) 1 4 && p.cfg.steerSlice.toNat == o.slice && p.on &&
    (p.code true == 5 || p.code false == 5) && t ≤ s.wall.toNat && s.wall.toNat ≤ t + 10000000 && v.status < 2 &&
    !(p.lastSteer.any fun l => t ≤ l)

/-- TASK_KICK_HELPER: an idle task of the requester's slice (R204, R326). -/
def Can.hTaskKickHelper (k : Nat) (o : HelperOp) (s : State) : Bool :=
  s.asked k 11 1 o && o.word.blen.toNat == 2 && o.u 8 2 < 2048 && (s.bg (o.u 8 2)).live &&
    (s.bg (o.u 8 2)).obj.owner.toNat == o.slice && (s.bg (o.u 8 2)).obj.state == 0

/-- TASK_CANCEL_HELPER: a task of the requester's slice (R221). -/
def Can.hTaskCancelHelper (k : Nat) (o : HelperOp) (s : State) : Bool :=
  s.asked k 11 2 o && o.word.blen.toNat == 2 && o.u 8 2 < 2048 && (s.bg (o.u 8 2)).live &&
    (s.bg (o.u 8 2)).obj.owner.toNat == o.slice

/-- DELAY_ARM_HELPER: a well-formed entry of KIND 0 or 2 that the requester may arm, with an entry free (R214, R216). -/
def Can.hDelayArmHelper (k : Nat) (o : HelperOp) (i : Nat) (s : State) : Bool :=
  let r := o.delayReq
  s.asked k 11 3 o && o.word.blen == 5 && !r.badField && r.kind != 1 && s.delayOwns o.slice r && !s.badTime r &&
    s.freeDelay == some i

/-- DELAY_ARM_HELPER: a counted, well-formed entry of KIND COMPLETE that the requester may arm, with an entry free, for an
instance that is on its thread (R215, R216). -/
def Can.hDelayArmHelper_complete (k : Nat) (o : HelperOp) (i : Nat) (s : State) : Bool :=
  let r := o.delayReq
  s.asked k 11 3 o && o.word.blen == 5 && !r.badField && r.kind == 1 && o.counted && s.delayOwns o.slice r && !s.badTime r &&
    s.freeDelay == some i && s.carries o
/-- DELAY_ARM_HELPER: a well-formed entry that the requester may arm, with no entry free, which has not waited yet (R214). -/
def Can.hDelayArmHelper_waits (k : Nat) (o : HelperOp) (s : State) : Bool :=
  let r := o.delayReq
  s.asked k 11 3 o && o.word.blen == 5 && !r.badField && !(r.kind == 1 && !o.counted) && s.delayOwns o.slice r &&
    !s.badTime r && s.freeDelay.isNone && !o.held

/-- DELAY_DISARM_HELPER: an armed entry of the requester's slice (R220). -/
def Can.hDelayDisarmHelper (k : Nat) (o : HelperOp) (s : State) : Bool :=
  s.asked k 11 4 o && o.word.blen.toNat == 2 && o.u 8 2 < 4096 && (s.delay (o.u 8 2)).e.valid != 0 &&
    (s.delay (o.u 8 2)).e.owner.toNat == o.slice

/-- ORIGIN: a well-formed frame of the requester's slice without a tail, with room in the pool and fewer than eight frames
already originated (R330). -/
def Can.hOrigin (k : Nat) (o : HelperOp) (x : State × BitVec 24) (s : State) : Bool :=
  let r := o.originReq
  s.asked k 12 1 o && inR o.word.blen.toNat 5 68 && inR r.len 1 512 && o.word.blen.toNat == 4 + (r.len + 7) / 8 && !r.tail &&
    !r.bad o.inst.task && (s.pool r.pool).cfg.enable != 0 && (s.pool r.pool).cfg.owner.toNat == o.slice &&
    (!r.launch || r.scale == 0 || (s.pick (r.scale - 1)).on) && (s.recdOf o).origins.length < 8 &&
    s.storeFrame r.pool (s.metaTile (s.now * 1000) 0) (o.b 32 r.len) == some x && x.1.carries o

/-- ORIGIN: a well-formed frame of the requester's slice with a tail of its own slice that can take references, with room
in the pool and fewer than eight frames already originated (R330). -/
def Can.hOrigin_tail (k : Nat) (o : HelperOp) (i : Nat) (is : List Nat) (x : State × BitVec 24) (s : State) : Bool :=
  let r := o.originReq
  s.asked k 12 1 o && inR o.word.blen.toNat 5 68 && inR r.len 1 512 && o.word.blen.toNat == 4 + (r.len + 7) / 8 && r.tail &&
    s.originTail r o.slice == (i :: is, 0) && r.len + (s.frameFrom (i :: is)).length ≤ 9596 &&
    !r.bad o.inst.task && (s.pool r.pool).cfg.enable != 0 && (s.pool r.pool).cfg.owner.toNat == o.slice &&
    (!r.launch || r.scale == 0 || (s.pick (r.scale - 1)).on) && (s.recdOf o).origins.length < 8 &&
    s.storeFrame r.pool (s.metaTile (s.now * 1000) 0) (o.b 32 r.len) == some x &&
    (x.1.withTail x.2 (i :: is)).carries o

/-- LAUNCH_SET: a packet's request with the wall clock or a running pick clock (R329). -/
def Can.hLaunchSet (k : Nat) (o : HelperOp) (s : State) : Bool :=
  s.asked k 12 2 o && o.word.blen.toNat == 3 && !o.inst.task && o.u 8 1 ≤ 4 && (o.u 8 1 == 0 || (s.pick (o.u 8 1 - 1)).on)

/-- HOST_SET: a packet's request for a host ring of the requester's slice (R329). -/
def Can.hHostSet (k : Nat) (o : HelperOp) (s : State) : Bool :=
  s.asked k 12 3 o && o.word.blen.toNat == 2 && !o.inst.task && o.u 8 2 < 512 && (s.hr (o.u 8 2)).cfg.owner.toNat == o.slice

/-- CRC_RANGE: a range within the packet's frame (R323). -/
def Can.hCrcRange (k : Nat) (o : HelperOp) (r : Nat) (s : State) : Bool :=
  s.asked k 13 1 o && o.word.blen.toNat == 3 && !o.inst.task && s.recordOf o == some r && o.u 8 1 ≤ 2 && o.u 12 2 != 0 &&
    o.u 10 2 + o.u 12 2 ≤ (s.ctx r).desc.length.toNat - 4

/-- ADD: the instruction issues (R252, R267, R269). -/
def Can.wAdd (c : Fin 68) (t : Fin 8) (a : BitVec 5) (b : BitVec 5) (d : BitVec 5) (s : State) : Bool :=
  s.issues c t (.add a b d)

/-- SUB: the instruction issues (R252, R267, R269). -/
def Can.wSub (c : Fin 68) (t : Fin 8) (a : BitVec 5) (b : BitVec 5) (d : BitVec 5) (s : State) : Bool :=
  s.issues c t (.sub a b d)

/-- AND: the instruction issues (R252, R267, R269). -/
def Can.wAnd (c : Fin 68) (t : Fin 8) (a : BitVec 5) (b : BitVec 5) (d : BitVec 5) (s : State) : Bool :=
  s.issues c t (.and a b d)

/-- OR: the instruction issues (R252, R267, R269). -/
def Can.wOr (c : Fin 68) (t : Fin 8) (a : BitVec 5) (b : BitVec 5) (d : BitVec 5) (s : State) : Bool :=
  s.issues c t (.or a b d)

/-- XOR: the instruction issues (R252, R267, R269). -/
def Can.wXor (c : Fin 68) (t : Fin 8) (a : BitVec 5) (b : BitVec 5) (d : BitVec 5) (s : State) : Bool :=
  s.issues c t (.xor a b d)

/-- ANDN: the instruction issues (R252, R267, R269). -/
def Can.wAndn (c : Fin 68) (t : Fin 8) (a : BitVec 5) (b : BitVec 5) (d : BitVec 5) (s : State) : Bool :=
  s.issues c t (.andn a b d)

/-- SLL: the instruction issues (R252, R267, R269). -/
def Can.wSll (c : Fin 68) (t : Fin 8) (a : BitVec 5) (b : BitVec 5) (d : BitVec 5) (s : State) : Bool :=
  s.issues c t (.sll a b d)

/-- SRL: the instruction issues (R252, R267, R269). -/
def Can.wSrl (c : Fin 68) (t : Fin 8) (a : BitVec 5) (b : BitVec 5) (d : BitVec 5) (s : State) : Bool :=
  s.issues c t (.srl a b d)

/-- SRA: the instruction issues (R252, R267, R269). -/
def Can.wSra (c : Fin 68) (t : Fin 8) (a : BitVec 5) (b : BitVec 5) (d : BitVec 5) (s : State) : Bool :=
  s.issues c t (.sra a b d)

/-- ROL: the instruction issues (R252, R267, R269). -/
def Can.wRol (c : Fin 68) (t : Fin 8) (a : BitVec 5) (b : BitVec 5) (d : BitVec 5) (s : State) : Bool :=
  s.issues c t (.rol a b d)

/-- SLT: the instruction issues (R252, R267, R269). -/
def Can.wSlt (c : Fin 68) (t : Fin 8) (a : BitVec 5) (b : BitVec 5) (d : BitVec 5) (s : State) : Bool :=
  s.issues c t (.slt a b d)

/-- SLTU: the instruction issues (R252, R267, R269). -/
def Can.wSltu (c : Fin 68) (t : Fin 8) (a : BitVec 5) (b : BitVec 5) (d : BitVec 5) (s : State) : Bool :=
  s.issues c t (.sltu a b d)

/-- SEQ: the instruction issues (R252, R267, R269). -/
def Can.wSeq (c : Fin 68) (t : Fin 8) (a : BitVec 5) (b : BitVec 5) (d : BitVec 5) (s : State) : Bool :=
  s.issues c t (.seq a b d)

/-- MIN: the instruction issues (R252, R267, R269). -/
def Can.wMin (c : Fin 68) (t : Fin 8) (a : BitVec 5) (b : BitVec 5) (d : BitVec 5) (s : State) : Bool :=
  s.issues c t (.min a b d)

/-- MAX: the instruction issues (R252, R267, R269). -/
def Can.wMax (c : Fin 68) (t : Fin 8) (a : BitVec 5) (b : BitVec 5) (d : BitVec 5) (s : State) : Bool :=
  s.issues c t (.max a b d)

/-- MINU: the instruction issues (R252, R267, R269). -/
def Can.wMinu (c : Fin 68) (t : Fin 8) (a : BitVec 5) (b : BitVec 5) (d : BitVec 5) (s : State) : Bool :=
  s.issues c t (.minu a b d)

/-- MAXU: the instruction issues (R252, R267, R269). -/
def Can.wMaxu (c : Fin 68) (t : Fin 8) (a : BitVec 5) (b : BitVec 5) (d : BitVec 5) (s : State) : Bool :=
  s.issues c t (.maxu a b d)

/-- MUL: the instruction issues (R252, R267, R269). -/
def Can.wMul (c : Fin 68) (t : Fin 8) (a : BitVec 5) (b : BitVec 5) (d : BitVec 5) (s : State) : Bool :=
  s.issues c t (.mul a b d)

/-- MULH: the instruction issues (R252, R267, R269). -/
def Can.wMulh (c : Fin 68) (t : Fin 8) (a : BitVec 5) (b : BitVec 5) (d : BitVec 5) (s : State) : Bool :=
  s.issues c t (.mulh a b d)

/-- MULHU: the instruction issues (R252, R267, R269). -/
def Can.wMulhu (c : Fin 68) (t : Fin 8) (a : BitVec 5) (b : BitVec 5) (d : BitVec 5) (s : State) : Bool :=
  s.issues c t (.mulhu a b d)

/-- ADDI: the instruction issues (R252, R267, R269). -/
def Can.wAddi (c : Fin 68) (t : Fin 8) (a : BitVec 5) (b : BitVec 5) (imm : BitVec 15) (s : State) : Bool :=
  s.issues c t (.addi a b imm)

/-- ANDI: the instruction issues (R252, R267, R269). -/
def Can.wAndi (c : Fin 68) (t : Fin 8) (a : BitVec 5) (b : BitVec 5) (imm : BitVec 15) (s : State) : Bool :=
  s.issues c t (.andi a b imm)

/-- ORI: the instruction issues (R252, R267, R269). -/
def Can.wOri (c : Fin 68) (t : Fin 8) (a : BitVec 5) (b : BitVec 5) (imm : BitVec 15) (s : State) : Bool :=
  s.issues c t (.ori a b imm)

/-- XORI: the instruction issues (R252, R267, R269). -/
def Can.wXori (c : Fin 68) (t : Fin 8) (a : BitVec 5) (b : BitVec 5) (imm : BitVec 15) (s : State) : Bool :=
  s.issues c t (.xori a b imm)

/-- SLLI: the instruction issues (R252, R267, R269). -/
def Can.wSlli (c : Fin 68) (t : Fin 8) (a : BitVec 5) (b : BitVec 5) (n : BitVec 6) (s : State) : Bool :=
  s.issues c t (.slli a b n)

/-- SRLI: the instruction issues (R252, R267, R269). -/
def Can.wSrli (c : Fin 68) (t : Fin 8) (a : BitVec 5) (b : BitVec 5) (n : BitVec 6) (s : State) : Bool :=
  s.issues c t (.srli a b n)

/-- SRAI: the instruction issues (R252, R267, R269). -/
def Can.wSrai (c : Fin 68) (t : Fin 8) (a : BitVec 5) (b : BitVec 5) (n : BitVec 6) (s : State) : Bool :=
  s.issues c t (.srai a b n)

/-- ROLI: the instruction issues (R252, R267, R269). -/
def Can.wRoli (c : Fin 68) (t : Fin 8) (a : BitVec 5) (b : BitVec 5) (n : BitVec 6) (s : State) : Bool :=
  s.issues c t (.roli a b n)

/-- EXT: the instruction issues (R252, R267, R269). -/
def Can.wExt (c : Fin 68) (t : Fin 8) (a : BitVec 5) (b : BitVec 5) (pos : BitVec 6) (lenM1 : BitVec 6) (s : State) : Bool :=
  s.issues c t (.ext a b pos lenM1)

/-- EXTS: the instruction issues (R252, R267, R269). -/
def Can.wExts (c : Fin 68) (t : Fin 8) (a : BitVec 5) (b : BitVec 5) (pos : BitVec 6) (lenM1 : BitVec 6) (s : State) : Bool :=
  s.issues c t (.exts a b pos lenM1)

/-- INS: the instruction issues (R252, R267, R269). -/
def Can.wIns (c : Fin 68) (t : Fin 8) (a : BitVec 5) (b : BitVec 5) (pos : BitVec 6) (lenM1 : BitVec 6) (s : State) : Bool :=
  s.issues c t (.ins a b pos lenM1)

/-- LI: the instruction issues (R252, R267, R269). -/
def Can.wLi (c : Fin 68) (t : Fin 8) (a : BitVec 5) (hw : BitVec 2) (imm : BitVec 16) (s : State) : Bool :=
  s.issues c t (.li a hw imm)

/-- LIK: the instruction issues (R252, R267, R269). -/
def Can.wLik (c : Fin 68) (t : Fin 8) (a : BitVec 5) (hw : BitVec 2) (imm : BitVec 16) (s : State) : Bool :=
  s.issues c t (.lik a hw imm)

/-- BSW16: the instruction issues (R252, R267, R269). -/
def Can.wBsw16 (c : Fin 68) (t : Fin 8) (a : BitVec 5) (b : BitVec 5) (s : State) : Bool :=
  s.issues c t (.bsw16 a b)

/-- BSW32: the instruction issues (R252, R267, R269). -/
def Can.wBsw32 (c : Fin 68) (t : Fin 8) (a : BitVec 5) (b : BitVec 5) (s : State) : Bool :=
  s.issues c t (.bsw32 a b)

/-- BSW64: the instruction issues (R252, R267, R269). -/
def Can.wBsw64 (c : Fin 68) (t : Fin 8) (a : BitVec 5) (b : BitVec 5) (s : State) : Bool :=
  s.issues c t (.bsw64 a b)

/-- CLZ: the instruction issues (R252, R267, R269). -/
def Can.wClz (c : Fin 68) (t : Fin 8) (a : BitVec 5) (b : BitVec 5) (s : State) : Bool :=
  s.issues c t (.clz a b)

/-- CTZ: the instruction issues (R252, R267, R269). -/
def Can.wCtz (c : Fin 68) (t : Fin 8) (a : BitVec 5) (b : BitVec 5) (s : State) : Bool :=
  s.issues c t (.ctz a b)

/-- POPC: the instruction issues (R252, R267, R269). -/
def Can.wPopc (c : Fin 68) (t : Fin 8) (a : BitVec 5) (b : BitVec 5) (s : State) : Bool :=
  s.issues c t (.popc a b)

/-- LDB: the instruction issues and its address is aligned and reaches local memory (R257, R289). -/
def Can.wLdb (c : Fin 68) (t : Fin 8) (a : BitVec 5) (b : BitVec 5) (imm : BitVec 15) (p : Nat) (s : State) : Bool :=
  let u := s.issued c t
  s.issues c t (.ldb a b imm) &&
    u.locate c t (u.rg c t b + imm.signExtend 64) == some (.lm p)

/-- LDH: the instruction issues and its address is aligned and reaches local memory (R257, R289). -/
def Can.wLdh (c : Fin 68) (t : Fin 8) (a : BitVec 5) (b : BitVec 5) (imm : BitVec 15) (p : Nat) (s : State) : Bool :=
  let u := s.issued c t
  s.issues c t (.ldh a b imm) &&
    (u.rg c t b + imm.signExtend 64).toNat % 2 == 0 && u.locate c t (u.rg c t b + imm.signExtend 64) == some (.lm p)

/-- LDW: the instruction issues and its address is aligned and reaches local memory (R257, R289). -/
def Can.wLdw (c : Fin 68) (t : Fin 8) (a : BitVec 5) (b : BitVec 5) (imm : BitVec 15) (p : Nat) (s : State) : Bool :=
  let u := s.issued c t
  s.issues c t (.ldw a b imm) &&
    (u.rg c t b + imm.signExtend 64).toNat % 4 == 0 && u.locate c t (u.rg c t b + imm.signExtend 64) == some (.lm p)

/-- LDD: the instruction issues and its address is aligned and reaches local memory (R257, R289). -/
def Can.wLdd (c : Fin 68) (t : Fin 8) (a : BitVec 5) (b : BitVec 5) (imm : BitVec 15) (p : Nat) (s : State) : Bool :=
  let u := s.issued c t
  s.issues c t (.ldd a b imm) &&
    (u.rg c t b + imm.signExtend 64).toNat % 8 == 0 && u.locate c t (u.rg c t b + imm.signExtend 64) == some (.lm p)

/-- LDBS: the instruction issues and its address is aligned and reaches local memory (R257, R289). -/
def Can.wLdbs (c : Fin 68) (t : Fin 8) (a : BitVec 5) (b : BitVec 5) (imm : BitVec 15) (p : Nat) (s : State) : Bool :=
  let u := s.issued c t
  s.issues c t (.ldbs a b imm) &&
    u.locate c t (u.rg c t b + imm.signExtend 64) == some (.lm p)

/-- LDHS: the instruction issues and its address is aligned and reaches local memory (R257, R289). -/
def Can.wLdhs (c : Fin 68) (t : Fin 8) (a : BitVec 5) (b : BitVec 5) (imm : BitVec 15) (p : Nat) (s : State) : Bool :=
  let u := s.issued c t
  s.issues c t (.ldhs a b imm) &&
    (u.rg c t b + imm.signExtend 64).toNat % 2 == 0 && u.locate c t (u.rg c t b + imm.signExtend 64) == some (.lm p)

/-- LDWS: the instruction issues and its address is aligned and reaches local memory (R257, R289). -/
def Can.wLdws (c : Fin 68) (t : Fin 8) (a : BitVec 5) (b : BitVec 5) (imm : BitVec 15) (p : Nat) (s : State) : Bool :=
  let u := s.issued c t
  s.issues c t (.ldws a b imm) &&
    (u.rg c t b + imm.signExtend 64).toNat % 4 == 0 && u.locate c t (u.rg c t b + imm.signExtend 64) == some (.lm p)

/-- STB: the instruction issues and its address is aligned and reaches local memory (R257, R289). -/
def Can.wStb (c : Fin 68) (t : Fin 8) (a : BitVec 5) (b : BitVec 5) (imm : BitVec 15) (p : Nat) (s : State) : Bool :=
  let u := s.issued c t
  s.issues c t (.stb a b imm) &&
    u.locate c t (u.rg c t b + imm.signExtend 64) == some (.lm p)

/-- STH: the instruction issues and its address is aligned and reaches local memory (R257, R289). -/
def Can.wSth (c : Fin 68) (t : Fin 8) (a : BitVec 5) (b : BitVec 5) (imm : BitVec 15) (p : Nat) (s : State) : Bool :=
  let u := s.issued c t
  s.issues c t (.sth a b imm) &&
    (u.rg c t b + imm.signExtend 64).toNat % 2 == 0 && u.locate c t (u.rg c t b + imm.signExtend 64) == some (.lm p)

/-- STW: the instruction issues and its address is aligned and reaches local memory (R257, R289). -/
def Can.wStw (c : Fin 68) (t : Fin 8) (a : BitVec 5) (b : BitVec 5) (imm : BitVec 15) (p : Nat) (s : State) : Bool :=
  let u := s.issued c t
  s.issues c t (.stw a b imm) &&
    (u.rg c t b + imm.signExtend 64).toNat % 4 == 0 && u.locate c t (u.rg c t b + imm.signExtend 64) == some (.lm p)

/-- STD: the instruction issues and its address is aligned and reaches local memory (R257, R289). -/
def Can.wStd (c : Fin 68) (t : Fin 8) (a : BitVec 5) (b : BitVec 5) (imm : BitVec 15) (p : Nat) (s : State) : Bool :=
  let u := s.issued c t
  s.issues c t (.std a b imm) &&
    (u.rg c t b + imm.signExtend 64).toNat % 8 == 0 && u.locate c t (u.rg c t b + imm.signExtend 64) == some (.lm p)

/-- LDHN: the instruction issues and its address is aligned and reaches local memory (R257, R289). -/
def Can.wLdhn (c : Fin 68) (t : Fin 8) (a : BitVec 5) (b : BitVec 5) (imm : BitVec 15) (p : Nat) (s : State) : Bool :=
  let u := s.issued c t
  s.issues c t (.ldhn a b imm) &&
    (u.rg c t b + imm.signExtend 64).toNat % 2 == 0 && u.locate c t (u.rg c t b + imm.signExtend 64) == some (.lm p)

/-- LDWN: the instruction issues and its address is aligned and reaches local memory (R257, R289). -/
def Can.wLdwn (c : Fin 68) (t : Fin 8) (a : BitVec 5) (b : BitVec 5) (imm : BitVec 15) (p : Nat) (s : State) : Bool :=
  let u := s.issued c t
  s.issues c t (.ldwn a b imm) &&
    (u.rg c t b + imm.signExtend 64).toNat % 4 == 0 && u.locate c t (u.rg c t b + imm.signExtend 64) == some (.lm p)

/-- STHN: the instruction issues and its address is aligned and reaches local memory (R257, R289). -/
def Can.wSthn (c : Fin 68) (t : Fin 8) (a : BitVec 5) (b : BitVec 5) (imm : BitVec 15) (p : Nat) (s : State) : Bool :=
  let u := s.issued c t
  s.issues c t (.sthn a b imm) &&
    (u.rg c t b + imm.signExtend 64).toNat % 2 == 0 && u.locate c t (u.rg c t b + imm.signExtend 64) == some (.lm p)

/-- STWN: the instruction issues and its address is aligned and reaches local memory (R257, R289). -/
def Can.wStwn (c : Fin 68) (t : Fin 8) (a : BitVec 5) (b : BitVec 5) (imm : BitVec 15) (p : Nat) (s : State) : Bool :=
  let u := s.issued c t
  s.issues c t (.stwn a b imm) &&
    (u.rg c t b + imm.signExtend 64).toNat % 4 == 0 && u.locate c t (u.rg c t b + imm.signExtend 64) == some (.lm p)

/-- An access of R289: a load or a store, its registers and displacement, its bytes, and a load's extension and the byte
order. -/
structure Access where
  load : Bool
  reg : BitVec 5
  base : BitVec 5
  disp : BitVec 15
  bytes : Nat
  signed : Bool := false
  net : Bool := false
/-- The loads and stores of R289. -/
def weftAccess : WeftOp → Option Access
  | .ldb a b d => some { load := true, reg := a, base := b, disp := d, bytes := 1 }
  | .ldh a b d => some { load := true, reg := a, base := b, disp := d, bytes := 2 }
  | .ldw a b d => some { load := true, reg := a, base := b, disp := d, bytes := 4 }
  | .ldd a b d => some { load := true, reg := a, base := b, disp := d, bytes := 8 }
  | .ldbs a b d => some { load := true, reg := a, base := b, disp := d, bytes := 1, signed := true }
  | .ldhs a b d => some { load := true, reg := a, base := b, disp := d, bytes := 2, signed := true }
  | .ldws a b d => some { load := true, reg := a, base := b, disp := d, bytes := 4, signed := true }
  | .ldhn a b d => some { load := true, reg := a, base := b, disp := d, bytes := 2, net := true }
  | .ldwn a b d => some { load := true, reg := a, base := b, disp := d, bytes := 4, net := true }
  | .stb a b d => some { load := false, reg := a, base := b, disp := d, bytes := 1 }
  | .sth a b d => some { load := false, reg := a, base := b, disp := d, bytes := 2 }
  | .stw a b d => some { load := false, reg := a, base := b, disp := d, bytes := 4 }
  | .std a b d => some { load := false, reg := a, base := b, disp := d, bytes := 8 }
  | .sthn a b d => some { load := false, reg := a, base := b, disp := d, bytes := 2, net := true }
  | .stwn a b d => some { load := false, reg := a, base := b, disp := d, bytes := 4, net := true }
  | _ => none
/-- Its address. -/
def Access.addr (e : Access) (c : Fin 68) (t : Fin 8) (u : State) : Word := u.rg c t e.base + e.disp.signExtend 64
/-- A load or store issues, and its address is aligned and reaches the slice's DRAM window (R257, R258, R289). -/
def Access.toDram (e : Access) (c : Fin 68) (t : Fin 8) (op : WeftOp) (p : Nat) (s : State) : Bool :=
  let u := s.issued c t
  s.issues c t op && (e.addr c t u).toNat % e.bytes == 0 && u.locate c t (e.addr c t u) == some (.dram p)

/-- CSRD: the instruction issues and the task may use the register (R259, R290). -/
def Can.wCsrd (c : Fin 68) (t : Fin 8) (a : BitVec 5) (n : BitVec 4) (s : State) : Bool :=
  let u := s.issued c t
  s.issues c t (.csrd a n) &&
    u.mayShare c t n

/-- CSSWP: the instruction issues and the task may use the register (R259, R290). -/
def Can.wCsswp (c : Fin 68) (t : Fin 8) (a : BitVec 5) (b : BitVec 5) (n : BitVec 4) (s : State) : Bool :=
  let u := s.issued c t
  s.issues c t (.csswp a b n) &&
    u.mayShare c t n

/-- CSADD: the instruction issues and the task may use the register (R259, R290). -/
def Can.wCsadd (c : Fin 68) (t : Fin 8) (a : BitVec 5) (b : BitVec 5) (n : BitVec 4) (s : State) : Bool :=
  let u := s.issued c t
  s.issues c t (.csadd a b n) &&
    u.mayShare c t n

/-- CSAND: the instruction issues and the task may use the register (R259, R290). -/
def Can.wCsand (c : Fin 68) (t : Fin 8) (a : BitVec 5) (b : BitVec 5) (n : BitVec 4) (s : State) : Bool :=
  let u := s.issued c t
  s.issues c t (.csand a b n) &&
    u.mayShare c t n

/-- CSOR: the instruction issues and the task may use the register (R259, R290). -/
def Can.wCsor (c : Fin 68) (t : Fin 8) (a : BitVec 5) (b : BitVec 5) (n : BitVec 4) (s : State) : Bool :=
  let u := s.issued c t
  s.issues c t (.csor a b n) &&
    u.mayShare c t n

/-- CSCAS: the instruction issues and the task may use the register (R259, R290). -/
def Can.wCscas (c : Fin 68) (t : Fin 8) (a : BitVec 5) (b : BitVec 5) (d : BitVec 5) (n : BitVec 4) (s : State) : Bool :=
  let u := s.issued c t
  s.issues c t (.cscas a b d n) &&
    u.mayShare c t n

/-- CBEQ: the instruction issues and its condition does not hold (R291). -/
def Can.wCbeq_skip (c : Fin 68) (t : Fin 8) (a : BitVec 5) (b : BitVec 5) (off : BitVec 12) (s : State) : Bool :=
  let u := s.issued c t
  s.issues c t (.cbeq a b off) &&
    !((u.rg c t a == u.rg c t b))

/-- CBEQ: the instruction issues, its condition holds and its target may be fetched (R291, R292). -/
def Can.wCbeq (c : Fin 68) (t : Fin 8) (a : BitVec 5) (b : BitVec 5) (off : BitVec 12) (s : State) : Bool :=
  let u := s.issued c t
  s.issues c t (.cbeq a b off) &&
    ((u.rg c t a == u.rg c t b)) && u.goodTarget c t (u.pcOf c t + 4 * off.signExtend 64)

/-- CBNE: the instruction issues and its condition does not hold (R291). -/
def Can.wCbne_skip (c : Fin 68) (t : Fin 8) (a : BitVec 5) (b : BitVec 5) (off : BitVec 12) (s : State) : Bool :=
  let u := s.issued c t
  s.issues c t (.cbne a b off) &&
    !((u.rg c t a != u.rg c t b))

/-- CBNE: the instruction issues, its condition holds and its target may be fetched (R291, R292). -/
def Can.wCbne (c : Fin 68) (t : Fin 8) (a : BitVec 5) (b : BitVec 5) (off : BitVec 12) (s : State) : Bool :=
  let u := s.issued c t
  s.issues c t (.cbne a b off) &&
    ((u.rg c t a != u.rg c t b)) && u.goodTarget c t (u.pcOf c t + 4 * off.signExtend 64)

/-- CBLT: the instruction issues and its condition does not hold (R291). -/
def Can.wCblt_skip (c : Fin 68) (t : Fin 8) (a : BitVec 5) (b : BitVec 5) (off : BitVec 12) (s : State) : Bool :=
  let u := s.issued c t
  s.issues c t (.cblt a b off) &&
    !(((u.rg c t a).slt (u.rg c t b)))

/-- CBLT: the instruction issues, its condition holds and its target may be fetched (R291, R292). -/
def Can.wCblt (c : Fin 68) (t : Fin 8) (a : BitVec 5) (b : BitVec 5) (off : BitVec 12) (s : State) : Bool :=
  let u := s.issued c t
  s.issues c t (.cblt a b off) &&
    (((u.rg c t a).slt (u.rg c t b))) && u.goodTarget c t (u.pcOf c t + 4 * off.signExtend 64)

/-- CBGE: the instruction issues and its condition does not hold (R291). -/
def Can.wCbge_skip (c : Fin 68) (t : Fin 8) (a : BitVec 5) (b : BitVec 5) (off : BitVec 12) (s : State) : Bool :=
  let u := s.issued c t
  s.issues c t (.cbge a b off) &&
    !((!(u.rg c t a).slt (u.rg c t b)))

/-- CBGE: the instruction issues, its condition holds and its target may be fetched (R291, R292). -/
def Can.wCbge (c : Fin 68) (t : Fin 8) (a : BitVec 5) (b : BitVec 5) (off : BitVec 12) (s : State) : Bool :=
  let u := s.issued c t
  s.issues c t (.cbge a b off) &&
    ((!(u.rg c t a).slt (u.rg c t b))) && u.goodTarget c t (u.pcOf c t + 4 * off.signExtend 64)

/-- CBLTU: the instruction issues and its condition does not hold (R291). -/
def Can.wCbltu_skip (c : Fin 68) (t : Fin 8) (a : BitVec 5) (b : BitVec 5) (off : BitVec 12) (s : State) : Bool :=
  let u := s.issued c t
  s.issues c t (.cbltu a b off) &&
    !(((u.rg c t a).ult (u.rg c t b)))

/-- CBLTU: the instruction issues, its condition holds and its target may be fetched (R291, R292). -/
def Can.wCbltu (c : Fin 68) (t : Fin 8) (a : BitVec 5) (b : BitVec 5) (off : BitVec 12) (s : State) : Bool :=
  let u := s.issued c t
  s.issues c t (.cbltu a b off) &&
    (((u.rg c t a).ult (u.rg c t b))) && u.goodTarget c t (u.pcOf c t + 4 * off.signExtend 64)

/-- CBGEU: the instruction issues and its condition does not hold (R291). -/
def Can.wCbgeu_skip (c : Fin 68) (t : Fin 8) (a : BitVec 5) (b : BitVec 5) (off : BitVec 12) (s : State) : Bool :=
  let u := s.issued c t
  s.issues c t (.cbgeu a b off) &&
    !((!(u.rg c t a).ult (u.rg c t b)))

/-- CBGEU: the instruction issues, its condition holds and its target may be fetched (R291, R292). -/
def Can.wCbgeu (c : Fin 68) (t : Fin 8) (a : BitVec 5) (b : BitVec 5) (off : BitVec 12) (s : State) : Bool :=
  let u := s.issued c t
  s.issues c t (.cbgeu a b off) &&
    ((!(u.rg c t a).ult (u.rg c t b))) && u.goodTarget c t (u.pcOf c t + 4 * off.signExtend 64)

/-- CBEQI: the instruction issues and its condition does not hold (R291). -/
def Can.wCbeqi_skip (c : Fin 68) (t : Fin 8) (a : BitVec 5) (imm : BitVec 8) (off : BitVec 12) (s : State) : Bool :=
  let u := s.issued c t
  s.issues c t (.cbeqi a imm off) &&
    !((u.rg c t a == imm.signExtend 64))

/-- CBEQI: the instruction issues, its condition holds and its target may be fetched (R291, R292). -/
def Can.wCbeqi (c : Fin 68) (t : Fin 8) (a : BitVec 5) (imm : BitVec 8) (off : BitVec 12) (s : State) : Bool :=
  let u := s.issued c t
  s.issues c t (.cbeqi a imm off) &&
    ((u.rg c t a == imm.signExtend 64)) && u.goodTarget c t (u.pcOf c t + 4 * off.signExtend 64)

/-- CBNEI: the instruction issues and its condition does not hold (R291). -/
def Can.wCbnei_skip (c : Fin 68) (t : Fin 8) (a : BitVec 5) (imm : BitVec 8) (off : BitVec 12) (s : State) : Bool :=
  let u := s.issued c t
  s.issues c t (.cbnei a imm off) &&
    !((u.rg c t a != imm.signExtend 64))

/-- CBNEI: the instruction issues, its condition holds and its target may be fetched (R291, R292). -/
def Can.wCbnei (c : Fin 68) (t : Fin 8) (a : BitVec 5) (imm : BitVec 8) (off : BitVec 12) (s : State) : Bool :=
  let u := s.issued c t
  s.issues c t (.cbnei a imm off) &&
    ((u.rg c t a != imm.signExtend 64)) && u.goodTarget c t (u.pcOf c t + 4 * off.signExtend 64)

/-- CBLTI: the instruction issues and its condition does not hold (R291). -/
def Can.wCblti_skip (c : Fin 68) (t : Fin 8) (a : BitVec 5) (imm : BitVec 8) (off : BitVec 12) (s : State) : Bool :=
  let u := s.issued c t
  s.issues c t (.cblti a imm off) &&
    !(((u.rg c t a).slt (imm.signExtend 64)))

/-- CBLTI: the instruction issues, its condition holds and its target may be fetched (R291, R292). -/
def Can.wCblti (c : Fin 68) (t : Fin 8) (a : BitVec 5) (imm : BitVec 8) (off : BitVec 12) (s : State) : Bool :=
  let u := s.issued c t
  s.issues c t (.cblti a imm off) &&
    (((u.rg c t a).slt (imm.signExtend 64))) && u.goodTarget c t (u.pcOf c t + 4 * off.signExtend 64)

/-- CBGEI: the instruction issues and its condition does not hold (R291). -/
def Can.wCbgei_skip (c : Fin 68) (t : Fin 8) (a : BitVec 5) (imm : BitVec 8) (off : BitVec 12) (s : State) : Bool :=
  let u := s.issued c t
  s.issues c t (.cbgei a imm off) &&
    !((!(u.rg c t a).slt (imm.signExtend 64)))

/-- CBGEI: the instruction issues, its condition holds and its target may be fetched (R291, R292). -/
def Can.wCbgei (c : Fin 68) (t : Fin 8) (a : BitVec 5) (imm : BitVec 8) (off : BitVec 12) (s : State) : Bool :=
  let u := s.issued c t
  s.issues c t (.cbgei a imm off) &&
    ((!(u.rg c t a).slt (imm.signExtend 64))) && u.goodTarget c t (u.pcOf c t + 4 * off.signExtend 64)

/-- CBLTUI: the instruction issues and its condition does not hold (R291). -/
def Can.wCbltui_skip (c : Fin 68) (t : Fin 8) (a : BitVec 5) (imm : BitVec 8) (off : BitVec 12) (s : State) : Bool :=
  let u := s.issued c t
  s.issues c t (.cbltui a imm off) &&
    !(((u.rg c t a).ult (imm.setWidth 64)))

/-- CBLTUI: the instruction issues, its condition holds and its target may be fetched (R291, R292). -/
def Can.wCbltui (c : Fin 68) (t : Fin 8) (a : BitVec 5) (imm : BitVec 8) (off : BitVec 12) (s : State) : Bool :=
  let u := s.issued c t
  s.issues c t (.cbltui a imm off) &&
    (((u.rg c t a).ult (imm.setWidth 64))) && u.goodTarget c t (u.pcOf c t + 4 * off.signExtend 64)

/-- CBGEUI: the instruction issues and its condition does not hold (R291). -/
def Can.wCbgeui_skip (c : Fin 68) (t : Fin 8) (a : BitVec 5) (imm : BitVec 8) (off : BitVec 12) (s : State) : Bool :=
  let u := s.issued c t
  s.issues c t (.cbgeui a imm off) &&
    !((!(u.rg c t a).ult (imm.setWidth 64)))

/-- CBGEUI: the instruction issues, its condition holds and its target may be fetched (R291, R292). -/
def Can.wCbgeui (c : Fin 68) (t : Fin 8) (a : BitVec 5) (imm : BitVec 8) (off : BitVec 12) (s : State) : Bool :=
  let u := s.issued c t
  s.issues c t (.cbgeui a imm off) &&
    ((!(u.rg c t a).ult (imm.setWidth 64))) && u.goodTarget c t (u.pcOf c t + 4 * off.signExtend 64)

/-- J: the instruction issues and its target may be fetched (R291, R292). -/
def Can.wJ (c : Fin 68) (t : Fin 8) (a : BitVec 5) (off : BitVec 20) (s : State) : Bool :=
  let u := s.issued c t
  s.issues c t (.j a off) &&
    u.goodTarget c t (u.pcOf c t + 4 * off.signExtend 64)

/-- JR: the instruction issues and its target may be fetched (R291, R292). -/
def Can.wJr (c : Fin 68) (t : Fin 8) (a : BitVec 5) (b : BitVec 5) (imm : BitVec 15) (s : State) : Bool :=
  let u := s.issued c t
  s.issues c t (.jr a b imm) &&
    u.goodTarget c t (u.rg c t b + imm.signExtend 64)

/-- LOOP: the instruction issues, it nests in the levels that are active, the count is not zero and the end may be fetched
(R293 to R295). -/
def Can.wLoop (c : Fin 68) (t : Fin 8) (b : BitVec 5) (endOff : BitVec 12) (s : State) : Bool :=
  let u := s.issued c t
  s.issues c t (.loop b endOff) &&
    !(endOff.toNat == 0) && (u.th c t).nests ((u.th c t).pc + 4 * endOff.toNat) && (u.th c t).loops.length < 3 && ((u.rg c t b).setWidth 32).toNat != 0 &&
    u.goodTarget c t (BitVec.ofNat 64 ((u.th c t).pc + 4 * endOff.toNat))

/-- LOOP: the instruction issues, it nests in the levels that are active, the count is zero and the end may be fetched
(R293, R295). -/
def Can.wLoop_zero (c : Fin 68) (t : Fin 8) (b : BitVec 5) (endOff : BitVec 12) (s : State) : Bool :=
  let u := s.issued c t
  s.issues c t (.loop b endOff) &&
    !(endOff.toNat == 0) && (u.th c t).nests ((u.th c t).pc + 4 * endOff.toNat) && (u.th c t).loops.length < 3 && ((u.rg c t b).setWidth 32).toNat == 0 &&
    u.goodTarget c t (BitVec.ofNat 64 ((u.th c t).pc + 4 * endOff.toNat))

/-- LOOPI: the instruction issues, it nests in the levels that are active, the count is not zero and the end may be
fetched (R293 to R295). -/
def Can.wLoopi (c : Fin 68) (t : Fin 8) (n : BitVec 13) (endOff : BitVec 12) (s : State) : Bool :=
  let u := s.issued c t
  s.issues c t (.loopi n endOff) &&
    !(endOff.toNat == 0) && (u.th c t).nests ((u.th c t).pc + 4 * endOff.toNat) && (u.th c t).loops.length < 3 && n.toNat != 0 &&
    u.goodTarget c t (BitVec.ofNat 64 ((u.th c t).pc + 4 * endOff.toNat))

/-- LOOPI: the instruction issues, it nests in the levels that are active, the count is zero and the end may be fetched
(R293, R295). -/
def Can.wLoopi_zero (c : Fin 68) (t : Fin 8) (n : BitVec 13) (endOff : BitVec 12) (s : State) : Bool :=
  let u := s.issued c t
  s.issues c t (.loopi n endOff) &&
    !(endOff.toNat == 0) && (u.th c t).nests ((u.th c t).pc + 4 * endOff.toNat) && (u.th c t).loops.length < 3 && n.toNat == 0 &&
    u.goodTarget c t (BitVec.ofNat 64 ((u.th c t).pc + 4 * endOff.toNat))

/-- REQ_C: the instruction issues, the device is not full, the block is aligned and readable, and the word names an
operation (R298, R299, R309). -/
def Can.wReqC (c : Fin 68) (t : Fin 8) (a : BitVec 5) (b : BitVec 5) (tag : BitVec 12) (p : Nat) (x : Inst) (s : State) : Bool :=
  let u := s.issued c t
  let h := u.th c t
  let w := HelperWord.ofTile (u.rg c t b)
  !s.counterFull c t && !s.opsFull && s.issues c t (.reqC a b tag) && (u.rg c t a).toNat % 8 == 0 &&
    (u.core c).blockAt t (u.sliceOf c t) h.priv (u.rg c t a).toNat (max 8 (w.blen.toNat * 8)) == some p && h.inst == some x &&
    helperOps w.helper.toNat != 0 && w.op != 0 && w.op.toNat ≤ helperOps w.helper.toNat && w.blen != 0 && w.blen.toNat ≤ 68

/-- REQ_P: the instruction issues, the device is not full, the block is aligned and readable, and the word names an
operation (R298, R299, R309). -/
def Can.wReqP (c : Fin 68) (t : Fin 8) (a : BitVec 5) (b : BitVec 5) (tag : BitVec 12) (p : Nat) (x : Inst) (s : State) : Bool :=
  let u := s.issued c t
  let h := u.th c t
  let w := HelperWord.ofTile (u.rg c t b)
  !s.opsFull && s.issues c t (.reqP a b tag) && (u.rg c t a).toNat % 8 == 0 &&
    (u.core c).blockAt t (u.sliceOf c t) h.priv (u.rg c t a).toNat (max 8 (w.blen.toNat * 8)) == some p && h.inst == some x &&
    helperOps w.helper.toNat != 0 && w.op != 0 && w.op.toNat ≤ helperOps w.helper.toNat && w.blen != 0 && w.blen.toNat ≤ 68

/-- WAIT: the instruction issues with nothing outstanding (R208). -/
def Can.wWait (c : Fin 68) (t : Fin 8) (s : State) : Bool :=
  let u := s.issued c t
  s.issues c t (.wait) &&
    (u.th c t).depcnt == 0

/-- WAIT: the instruction issues with operations outstanding (R208). -/
def Can.wWait_held (c : Fin 68) (t : Fin 8) (s : State) : Bool :=
  let u := s.issued c t
  s.issues c t (.wait) &&
    (u.th c t).depcnt != 0

/-- EVWAIT: the instruction issues and a masked line is pending (R263). -/
def Can.wEvwait (c : Fin 68) (t : Fin 8) (a : BitVec 5) (mask : BitVec 8) (s : State) : Bool :=
  let u := s.issued c t
  s.issues c t (.evwait a mask) &&
    ((u.th c t).evPend &&& mask) != 0

/-- EVWAIT: the instruction issues and no masked line is pending (R263). -/
def Can.wEvwait_held (c : Fin 68) (t : Fin 8) (a : BitVec 5) (mask : BitVec 8) (s : State) : Bool :=
  let u := s.issued c t
  s.issues c t (.evwait a mask) &&
    ((u.th c t).evPend &&& mask) == 0

/-- EVSEND: the instruction issues (R263). -/
def Can.wEvsend (c : Fin 68) (t : Fin 8) (line : BitVec 3) (dst : BitVec 3) (s : State) : Bool :=
  s.issues c t (.evsend line dst)

/-- END: the instruction issues at U or S (R206, R305). -/
def Can.wEnd (c : Fin 68) (t : Fin 8) (s : State) : Bool :=
  let u := s.issued c t
  s.issues c t (.endTask) &&
    (u.th c t).priv != .m

/-- FAULT: the instruction issues (R305, R307). -/
def Can.wFault (c : Fin 68) (t : Fin 8) (code : BitVec 16) (s : State) : Bool :=
  s.issues c t (.fault code)

/-- SCALL: the instruction issues at U and the slice has a supervisor (R256, R301). -/
def Can.wScall (c : Fin 68) (t : Fin 8) (n : BitVec 10) (s : State) : Bool :=
  let u := s.issued c t
  s.issues c t (.scall n) &&
    (u.th c t).priv == .u && (u.progCfg (u.sliceOf c t)).supvEn != 0 &&
    u.goodTarget c t ((u.progCfg (u.sliceOf c t)).supvEntry.setWidth 64)

/-- SRET: the instruction issues at S, at the loop depth of the call (R301). -/
def Can.wSret (c : Fin 68) (t : Fin 8) (s : State) : Bool :=
  let u := s.issued c t
  s.issues c t (.sret) &&
    (u.th c t).priv == .s && (u.th c t).loops.length == ((u.th c t).scause.toNat / 65536) % 4 &&
    u.goodTarget c t (u.th c t).sepc

/-- MFCR: the instruction issues and the register may be read (R302, R303). -/
def Can.wMfcr (c : Fin 68) (t : Fin 8) (a : BitVec 5) (cr : BitVec 10) (s : State) : Bool :=
  let u := s.issued c t
  s.issues c t (.mfcr a cr) &&
    crListed cr.toNat && cr.toNat < 0x200 && !((cr.toNat == 8 || cr.toNat == 9) && (u.th c t).priv == .u)

/-- MTCR: the instruction issues at S or M and names SEPC (R303). -/
def Can.wMtcr (c : Fin 68) (t : Fin 8) (b : BitVec 5) (cr : BitVec 10) (s : State) : Bool :=
  let u := s.issued c t
  s.issues c t (.mtcr b cr) &&
    cr.toNat == 8 && (u.th c t).priv != .u

/-- MTCR: the instruction issues at M and names CPEN with a value that R304 allows. -/
def Can.wMtcr_cpen (c : Fin 68) (t : Fin 8) (b : BitVec 5) (cr : BitVec 10) (s : State) : Bool :=
  let u := s.issued c t
  s.issues c t (.mtcr b cr) &&
    cr.toNat == 4 && (u.th c t).priv == .m && (u.rg c t b &&& ~~~ 0x777) == 0

/-- MTCR: the instruction issues and names a loop count (R297, R303). -/
def Can.wMtcr_loop (c : Fin 68) (t : Fin 8) (b : BitVec 5) (cr : BitVec 10) (s : State) : Bool :=
  s.issues c t (.mtcr b cr) &&
    0x18 ≤ cr.toNat && cr.toNat ≤ 0x1A

/-- CRCC: the instruction issues and the task may use CP0 (R331, R332). -/
def Can.wCrcc (c : Fin 68) (t : Fin 8) (a : BitVec 5) (b : BitVec 5) (d : BitVec 5) (sz : BitVec 2) (s : State) : Bool :=
  let u := s.issued c t
  s.issues c t (.crcc a b d sz) &&
    !u.cpDenied c t 0

/-- CRCE: the instruction issues and the task may use CP0 (R331, R332). -/
def Can.wCrce (c : Fin 68) (t : Fin 8) (a : BitVec 5) (b : BitVec 5) (d : BitVec 5) (sz : BitVec 2) (s : State) : Bool :=
  let u := s.issued c t
  s.issues c t (.crce a b d sz) &&
    !u.cpDenied c t 0

/-- CRCZ: the instruction issues and the task may use CP0 (R331, R332). -/
def Can.wCrcz (c : Fin 68) (t : Fin 8) (a : BitVec 5) (b : BitVec 5) (d : BitVec 5) (s : State) : Bool :=
  let u := s.issued c t
  s.issues c t (.crcz a b d) &&
    !u.cpDenied c t 0

/-- HMIX: the instruction issues and the task may use CP0 (R331, R332). -/
def Can.wHmix (c : Fin 68) (t : Fin 8) (a : BitVec 5) (b : BitVec 5) (d : BitVec 5) (s : State) : Bool :=
  let u := s.issued c t
  s.issues c t (.hmix a b d) &&
    !u.cpDenied c t 0

/-- GKEY: the instruction issues, the task may use the coprocessor, and the block is aligned and allowed (R331, R333). -/
def Can.wGkey (c : Fin 68) (t : Fin 8) (b : BitVec 5) (p : Nat) (x : Inst) (s : State) : Bool :=
  let u := s.issued c t
  !s.counterFull c t && s.issues c t (.gkey b) &&
    !u.cpDenied c t 1 && (u.rg c t b).toNat % 8 == 0 &&
    (u.core c).blockAt t (u.sliceOf c t) (u.th c t).priv (u.rg c t b).toNat 16 == some p && (u.th c t).inst == some x

/-- GIV: the instruction issues, the task may use the coprocessor, and the block is aligned and allowed (R331, R333). -/
def Can.wGiv (c : Fin 68) (t : Fin 8) (b : BitVec 5) (p : Nat) (x : Inst) (s : State) : Bool :=
  let u := s.issued c t
  !s.counterFull c t && s.issues c t (.giv b) &&
    !u.cpDenied c t 1 && (u.rg c t b).toNat % 8 == 0 &&
    (u.core c).blockAt t (u.sliceOf c t) (u.th c t).priv (u.rg c t b).toNat 16 == some p && (u.th c t).inst == some x

/-- GAAD: the instruction issues, the task may use the coprocessor, and the block is aligned and allowed (R331, R333). -/
def Can.wGaad (c : Fin 68) (t : Fin 8) (b : BitVec 5) (p : Nat) (x : Inst) (s : State) : Bool :=
  let u := s.issued c t
  !s.counterFull c t && s.issues c t (.gaad b) &&
    !u.cpDenied c t 1 && (u.rg c t b).toNat % 8 == 0 &&
    (u.core c).blockAt t (u.sliceOf c t) (u.th c t).priv (u.rg c t b).toNat 16 == some p && (u.th c t).inst == some x

/-- GENC: the instruction issues, the task may use the coprocessor, and the block is aligned and allowed (R331, R333). -/
def Can.wGenc (c : Fin 68) (t : Fin 8) (b : BitVec 5) (p : Nat) (x : Inst) (s : State) : Bool :=
  let u := s.issued c t
  !s.counterFull c t && s.issues c t (.genc b) &&
    !u.cpDenied c t 1 && (u.rg c t b).toNat % 8 == 0 &&
    (u.core c).blockAt t (u.sliceOf c t) (u.th c t).priv (u.rg c t b).toNat 16 == some p && (u.th c t).inst == some x

/-- GDEC: the instruction issues, the task may use the coprocessor, and the block is aligned and allowed (R331, R333). -/
def Can.wGdec (c : Fin 68) (t : Fin 8) (b : BitVec 5) (p : Nat) (x : Inst) (s : State) : Bool :=
  let u := s.issued c t
  !s.counterFull c t && s.issues c t (.gdec b) &&
    !u.cpDenied c t 1 && (u.rg c t b).toNat % 8 == 0 &&
    (u.core c).blockAt t (u.sliceOf c t) (u.th c t).priv (u.rg c t b).toNat 16 == some p && (u.th c t).inst == some x

/-- GTAG: the instruction issues, the task may use the coprocessor, and the block is aligned and allowed (R331, R333). -/
def Can.wGtag (c : Fin 68) (t : Fin 8) (b : BitVec 5) (p : Nat) (x : Inst) (s : State) : Bool :=
  let u := s.issued c t
  !s.counterFull c t && s.issues c t (.gtag b) &&
    !u.cpDenied c t 1 && (u.rg c t b).toNat % 8 == 0 &&
    (u.core c).blockAt t (u.sliceOf c t) (u.th c t).priv (u.rg c t b).toNat 16 == some p && (u.th c t).inst == some x

/-- GVER: the instruction issues, the task may use the coprocessor, and the block is aligned and allowed (R331, R333). -/
def Can.wGver (c : Fin 68) (t : Fin 8) (b : BitVec 5) (p : Nat) (x : Inst) (s : State) : Bool :=
  let u := s.issued c t
  !s.counterFull c t && s.issues c t (.gver b) &&
    !u.cpDenied c t 1 && (u.rg c t b).toNat % 8 == 0 &&
    (u.core c).blockAt t (u.sliceOf c t) (u.th c t).priv (u.rg c t b).toNat 16 == some p && (u.th c t).inst == some x

/-- PFEED: the instruction issues, the task may use CP2 and CP2 takes samples from registers (R331, R337, R338). -/
def Can.wPfeed (c : Fin 68) (t : Fin 8) (b : BitVec 5) (d : BitVec 5) (s : State) : Bool :=
  let u := s.issued c t
  s.issues c t (.pfeed b d) &&
    !u.cpDenied c t 2 && (u.core c).cp2.opmode == 0

/-- PRE: the instruction issues, the task may use CP2 and CP2 takes samples from registers (R331, R337, R338). -/
def Can.wPre (c : Fin 68) (t : Fin 8) (a : BitVec 5) (d : BitVec 5) (s : State) : Bool :=
  let u := s.issued c t
  s.issues c t (.pre a d) &&
    !u.cpDenied c t 2 && (u.core c).cp2.opmode == 0

/-- PIM: the instruction issues, the task may use CP2 and CP2 takes samples from registers (R331, R337, R338). -/
def Can.wPim (c : Fin 68) (t : Fin 8) (a : BitVec 5) (d : BitVec 5) (s : State) : Bool :=
  let u := s.issued c t
  s.issues c t (.pim a d) &&
    !u.cpDenied c t 2 && (u.core c).cp2.opmode == 0

/-- PMAG: the instruction issues, the task may use CP2 and CP2 takes samples from registers (R331, R337, R338). -/
def Can.wPmag (c : Fin 68) (t : Fin 8) (a : BitVec 5) (d : BitVec 5) (s : State) : Bool :=
  let u := s.issued c t
  s.issues c t (.pmag a d) &&
    !u.cpDenied c t 2 && (u.core c).cp2.opmode == 0

/-- PANG: the instruction issues, the task may use CP2 and CP2 takes samples from registers (R331, R337, R338). -/
def Can.wPang (c : Fin 68) (t : Fin 8) (a : BitVec 5) (d : BitVec 5) (s : State) : Bool :=
  let u := s.issued c t
  s.issues c t (.pang a d) &&
    !u.cpDenied c t 2 && (u.core c).cp2.opmode == 0

/-- PCFG: the instruction issues, the task may use the coprocessor, and the block is aligned and allowed (R331, R333). -/
def Can.wPcfg (c : Fin 68) (t : Fin 8) (b : BitVec 5) (p : Nat) (x : Inst) (s : State) : Bool :=
  let u := s.issued c t
  !s.counterFull c t && s.issues c t (.pcfg b) &&
    !u.cpDenied c t 2 && (u.rg c t b).toNat % 8 == 0 &&
    (u.core c).blockAt t (u.sliceOf c t) (u.th c t).priv (u.rg c t b).toNat 16 == some p && (u.th c t).inst == some x

/-- PFEEDM: the instruction issues, the task may use the coprocessor, and the block is aligned and allowed (R331, R333). -/
def Can.wPfeedm (c : Fin 68) (t : Fin 8) (b : BitVec 5) (d : BitVec 5) (p : Nat) (x : Inst) (s : State) : Bool :=
  let u := s.issued c t
  !s.counterFull c t && s.issues c t (.pfeedm b d) &&
    (u.core c).cp2.opmode == 1 && !u.cpDenied c t 2 && (u.rg c t b).toNat % 8 == 0 &&
    (u.core c).blockAt t (u.sliceOf c t) (u.th c t).priv (u.rg c t b).toNat 8 == some p && (u.th c t).inst == some x

/-- PGETM: the instruction issues, the task may use the coprocessor, and the block is aligned and allowed (R331, R333). -/
def Can.wPgetm (c : Fin 68) (t : Fin 8) (b : BitVec 5) (p : Nat) (x : Inst) (s : State) : Bool :=
  let u := s.issued c t
  !s.counterFull c t && s.issues c t (.pgetm b) &&
    (u.core c).cp2.opmode == 1 && !u.cpDenied c t 2 && (u.rg c t b).toNat % 8 == 0 &&
    (u.core c).blockAt t (u.sliceOf c t) (u.th c t).priv (u.rg c t b).toNat 264 == some p && (u.th c t).inst == some x

/-- CPACQ: the instruction issues, the coprocessor is enabled, idle and free, and the slice used it last (R331). -/
def Can.wCpacq (c : Fin 68) (t : Fin 8) (cp : Bool) (a : BitVec 5) (s : State) : Bool :=
  let u := s.issued c t
  s.issues c t (.cpacq cp a) &&
    (u.th c t).cpOn (cpNo cp) && !(u.core c).cpBusy (cpNo cp) t && (u.core c).owner (cpNo cp) == none &&
    Tab.get none (u.core c).cpSlice (cpNo cp) == some (u.sliceOf c t)

/-- CPACQ: the instruction issues and the coprocessor has an owner (R331). -/
def Can.wCpacq_held (c : Fin 68) (t : Fin 8) (cp : Bool) (a : BitVec 5) (o : Nat) (s : State) : Bool :=
  let u := s.issued c t
  s.issues c t (.cpacq cp a) &&
    (u.th c t).cpOn (cpNo cp) && !(u.core c).cpBusy (cpNo cp) t && (u.core c).owner (cpNo cp) == some o

/-- CPREL: the instruction issues by the coprocessor's owner (R331). -/
def Can.wCprel (c : Fin 68) (t : Fin 8) (cp : Bool) (s : State) : Bool :=
  let u := s.issued c t
  s.issues c t (.cprel cp) &&
    !u.cpDenied c t (cpNo cp)

/-- CPSAVE: the instruction issues, the task may use the coprocessor, and the block is aligned and allowed (R331, R333). -/
def Can.wCpsave (c : Fin 68) (t : Fin 8) (cp : Bool) (b : BitVec 5) (p : Nat) (x : Inst) (s : State) : Bool :=
  let u := s.issued c t
  !s.counterFull c t && s.issues c t (.cpsave cp b) &&
    !u.cpDenied c t (cpNo cp) && (u.rg c t b).toNat % 8 == 0 &&
    (u.core c).blockAt t (u.sliceOf c t) (u.th c t).priv (u.rg c t b).toNat (if cp then 3328 else 192) == some p && (u.th c t).inst == some x

/-- CPLOAD: the instruction issues, the task may use the coprocessor, and the block is aligned and allowed (R331, R333). -/
def Can.wCpload (c : Fin 68) (t : Fin 8) (cp : Bool) (b : BitVec 5) (p : Nat) (x : Inst) (s : State) : Bool :=
  let u := s.issued c t
  !s.counterFull c t && s.issues c t (.cpload cp b) &&
    !u.cpDenied c t (cpNo cp) && (u.rg c t b).toNat % 8 == 0 &&
    (u.core c).blockAt t (u.sliceOf c t) (u.th c t).priv (u.rg c t b).toNat (if cp then 3328 else 192) == some p && (u.th c t).inst == some x

/-- PCS_LOCK_ACQUIRE: the port is enabled, exists, and has its reference clock (R114, R660). -/
def Can.pcsLockAcquire (p : Fin 33) (s : State) : Bool :=
  !s.sys.stopped && (s.port p).cfg.enable == 1 && !s.absorbed p && s.clockOk p

/-- AUTONEG_DONE: the port is enabled with auto-negotiation, and has its reference clock (R119, R660). -/
def Can.autonegDone (p : Fin 33) (s : State) : Bool :=
  !s.sys.stopped && (s.port p).cfg.enable == 1 && (s.port p).cfg.anEn == 1 && (s.port p).st.pcsLock == 1 && s.clockOk p

/-- LINK_TRAINING_DONE: the port is enabled with link training (R119). -/
def Can.linkTrainingDone (p : Fin 33) (s : State) : Bool :=
  !s.sys.stopped && (s.port p).cfg.enable == 1 && (s.port p).cfg.ltEn == 1

/-- FABRIC_BLOCK_LOCK: the link is enabled, DOWN or training, and has its reference clock (R513, R522). -/
def Can.fabricBlockLock (k : Fin 4) (s : State) : Bool :=
  !s.sys.stopped && (s.link k).cfg.enable == 1 && (s.link k).st.state.toNat < 2 && !Tab.get false s.sys.refLost 2

/-- ENC_COUNT_EDGE: the device runs (R77). -/
def Can.encCountEdge (s : State) : Bool :=
  !s.sys.stopped

/-- PPS_OUT_FALL: PPS_OUT is high (R70). -/
def Can.ppsOutFall (s : State) : Bool :=
  !s.sys.stopped && s.time.ppsHigh && decide (s.time.ppsAt + s.ppsWidth ≤ s.now)

/-- PTP_MESSAGE_SEND: the port is a PTP port and its link is up (R65). -/
def Can.ptpMessageSend (p : Fin 33) (k : PtpTx) (s : State) : Bool :=
  !s.sys.stopped && s.ptpSends p k

/-- MEM_TIMEOUT: an access to the DRAM window has waited 10 µs (R258). -/
def Can.memTimeout (c : Fin 68) (t : Fin 8) (x : Attach) (s : State) : Bool :=
  !s.sys.stopped && (s.th c t).attach == some x && (s.core c).active && 10000 ≤ s.now - x.at'

/-- SNAPSHOT_COPY_DONE: a snapshot's staging copy is being made in DRAM (R582). -/
def Can.snapshotCopyDone (n : Snapshot) (s : State) : Bool :=
  !s.sys.stopped && s.host.snapshot == some n && s.dramOn

/-- SNAPSHOT_DONE: a snapshot is in progress (R583). -/
def Can.snapshotDone (n : Snapshot) (s : State) : Bool :=
  !s.sys.stopped && s.host.snapshot == some n

/-- CORE_RETEST_DONE: a CORE_RETEST of the core waits, the core is under self-test and passes (R278). -/
def Can.coreRetestDone (c : Fin 68) (s : State) : Bool :=
  !s.sys.stopped && s.retesting c && (s.core c).st.state == 3

/-- SYS_XIN_LOSS: the device runs (R661). -/
def Can.sysXinLoss (s : State) : Bool :=
  !s.sys.stopped

/-- REFCLK_RESTORE: the device runs (R661). -/
def Can.refclkRestore (s : State) : Bool :=
  !s.sys.stopped

end Sys2Proof.Machine
end

