-- ==== Sys2Proof/WellFormed.lean ====
section
/-!
DEFINITION. Well-formed commands: what the spec's field widths and tables leave out of the operands' types.
-/
namespace Sys2Proof

/-- Fields of a Weft instruction that R285, R288 and R298 refuse. -/
def WeftOp.wellFormed : WeftOp → Bool
  | .ext _ _ pos l | .exts _ _ pos l | .ins _ _ pos l => pos.toNat + l.toNat + 1 ≤ 64
  | .evwait _ mask => mask ≠ 0
  | _ => true

end Sys2Proof
end

