-- ==== Sys2Proof/Certificates/Slice0/Obligations.lean ====
section
/-!
DEFINITION. The statements about this block. Each is a proposition; none is proved here. The completion statements say,
for every constructor of `Instr`, where its command has its effect (`Can.x`, in `Safety`) and which state it answers.
-/
section
open Sys2Proof Sys2Proof.Machine

/-- The command at the front of the queue runs, on the state with the queue's rest. -/
def Obligations.StepRunsTheFrontCommand : Prop :=
  ∀ (s : State) (i : Instr) (rest : List Instr), s.pending = i :: rest → step s = exec i { s with pending := rest }

/-- With no command waiting, a step is a tick of the local oscillator (DESIGN CHOICE, log entry 3). -/
def Obligations.EmptyQueueIsATick : Prop :=
  ∀ s : State, s.pending = [] → step s = .next s.tickAll ∧ (s.sys.stopped = true → s.tickAll = s) ∧
    (s.sys.stopped = false → s.dram.met = [] → s.tickAll.now = s.now + 1 ∧ s.tickAll.pending = [] ∧ s.tickAll.sys = s.sys ∧
      s.tickAll.host.gens = s.host.gens)

/-- No command, in any state, ends in a fault or a refusal. -/
def Obligations.EveryStepAdvances : Prop :=
  ∀ s : State, Advances s

/-- A stopped device ignores every command but RESET. -/
def Obligations.StoppedDeviceWaitsForReset : Prop :=
  ∀ (i : Instr) (s : State), s.sys.stopped = true → (∀ src, i ≠ .reset src) → exec i s = .next s

/-- What reset leaves (R567, R622, R635). That DRAM lists no byte and that every register reads 0 is the model's choice
(log entry 7), and so is the empty queue (log entry 1). -/
def Obligations.ResetState : Prop :=
  State.reset.sys.mode = .boot ∧ (∀ k, State.reset.gen k = 1) ∧ State.reset.host.devGen = 1 ∧ State.reset.pending = [] ∧
    State.reset.host.held = [] ∧ State.reset.host.deferred = [] ∧ (∀ n, (State.reset.sl n).st.state = 0) ∧
    (∀ n, (State.reset.sl n).cfg.enable = 0) ∧ State.reset.dram.mem = [] ∧ State.reset.weftGood = true ∧
    (∀ c t r, State.reset.rg c t r = 0) ∧ State.reset.sys.stopped = false

/-- The opcode table that acceptance uses and the rows agree (R590). -/
def Obligations.PacketsActAsTheirRows : Prop :=
  hostTable.map (·.1) = hostRows.map (·.1) ∧ (hostRows.map (·.1)).Nodup ∧
    ∀ e ∈ hostRows, ∃ f, hostExec e.1 = some f ∧ ∀ q s, exec (e.2 q) s = f q s

/-- Check 11 of R565: a command that its mode set (R596) does not allow changes no object. -/
def Obligations.ModesRefuseCommands : Prop :=
  ∀ e ∈ hostRows, ∀ (q : Cmd) (s t : State), exec (e.2 q) s = .next t →
    (s.sys.mode = .boot ∧ e.1 ∉ [0x001, 0x002, 0x003, 0x005, 0x101, 0x102, 0x103, 0x104, 0x105, 0x810, 0x811, 0xB01, 0xC01,
        0xC02, 0xC03, 0xC04, 0xC20, 0xC31, 0xD01, 0xE01, 0xF10, 0xF11]) ∨
      (s.sys.mode ≠ .commission ∧ e.1 ∈ [0x903, 0xC11, 0xC30, 0xD02, 0xD03]) ∨
      (s.sys.mode ≠ .commission ∧ s.sys.mode ≠ .hold ∧ s.sys.mode ≠ .safe ∧ e.1 = 0x312) ∨
      (s.sys.recovery = true ∧ e.1 ∉ [0x002, 0x005, 0xD01, 0xD20, 0xD21, 0xF10, 0xF11]) →
    SameObjects s t

/-- Check 10 of R565 for device-scope objects (R584). -/
def Obligations.DeviceScopeCommandsAreSl0s : Prop :=
  ∀ e ∈ hostRows, e.1 ∈ [0x001, 0x003, 0x101, 0x201, 0x301, 0x303, 0x310, 0x312, 0x320, 0x321, 0x401, 0x402, 0x403, 0x404, 
        0x410, 0x411, 0x420, 0x430, 0x431, 0x501, 0x503, 0x701, 0x720, 0x730, 0x731, 0x732, 0x733, 0x810, 
        0x820, 0x830, 0x901, 0x903, 0x910, 0x920, 0x922, 0x950, 0xA10, 0xB02, 0xB10, 0xC01, 0xC03, 0xC10, 
        0xC11, 0xC21, 0xC22, 0xC30, 0xD01, 0xD02, 0xD03, 0xD20, 0xD21, 0xE02, 0xF10, 0xF11] →
    ∀ (q : Cmd) (s t : State), s.requester q ≠ 0 → exec (e.2 q) s = .next t → SameObjects s t

/-- Reading with GET changes no object and no generation (R567, R593). -/
def Obligations.ReadsChangeNothing : Prop :=
  ∀ e ∈ hostRows, e.1 ∈ [0x002, 0x102, 0x202, 0x302, 0x311, 0x322, 0x412, 0x414, 0x431, 0x502, 0x504, 0x602, 0x703, 0x711, 
        0x721, 0x802, 0x804, 0x811, 0x821, 0x832, 0x902, 0x912, 0x921, 0x923, 0x936, 0x942, 0x951, 0xA02, 
        0xA11, 0xB01, 0xB11, 0xC02, 0xC04, 0xC20, 0xC31, 0xE04] →
    ∀ (q : Cmd) (s t : State), q.clear = false → (∀ l a g, q.path ≠ .twin l a g) → exec (e.2 q) s = .next t →
    SameObjects s t

/-- R565: a command that fails a check changes no object. -/
def Obligations.FailedChecksChangeNothing : Prop :=
  ∀ (info : OpInfo) (q : Cmd) (s : State) (p : Plan), (∀ x ∈ p.bad, x.2 ≠ .ok) → (∀ x ∈ p.own, x.2 ≠ .ok) →
    (wireChecks s info q p ≠ none ∨ q.device ≠ s.devId.setWidth 8 ∨ rightChecks s info p ≠ none ∨
      (s.mustHold q p = false ∧ lateChecks s q p ≠ none)) →
    SameObjects s (runPlan info q s p)

/-- R567: what executing adds to a command's effect. -/
def Obligations.ExecutedChangesCountOnce : Prop :=
  (∀ g : Word32, nextGen g ≠ 0 ∧ nextGen g ≠ 0xFFFFFFFF ∧ (g + 1 ≠ 0 → g + 1 ≠ 0xFFFFFFFF → nextGen g = g + 1)) ∧
    ∀ (info : OpInfo) (q : Cmd) (p : Plan), p.changes = true → (∀ l a g, q.path ≠ .twin l a g) → p.eff.fab.st.twinState = 0 →
      (p.keys.map genKey).Nodup → Tab.wf (1 : Word32) p.eff.host.gens = true →
      let t := execPlan info q p
      (∀ k ∈ p.keys, t.gen k = nextGen (p.eff.gen k)) ∧ (∀ k, genKey k ∉ p.keys.map genKey → t.gen k = p.eff.gen k) ∧
      t.host.devGen = nextGen p.eff.host.devGen ∧
      t.ports = p.eff.ports ∧ t.buf = p.eff.buf ∧ t.task = p.eff.task ∧ t.rules = p.eff.rules ∧ t.weft = p.eff.weft ∧
      t.tm = p.eff.tm ∧ t.lock = p.eff.lock ∧ t.tab = p.eff.tab ∧ t.dram = p.eff.dram ∧ t.selv = p.eff.selv ∧
      t.pending = p.eff.pending ∧ t.sys.mode = p.eff.sys.mode ∧ t.fab.cfg = p.eff.fab.cfg ∧ t.host.rings = p.eff.host.rings

/-- R572. -/
def Obligations.UsedNumberIsRefused : Prop :=
  ∀ (s : State) (path : Path) (t0 : Tile) (cont : List Tile) (op : BitVec 16) (q : Cmd) (e : WinEntry),
    cmdOf path t0 cont = (op, q) → (∀ t ∈ cont, tileOk t = true) →
    (s.windowOf q).find? (fun e => e.seq = q.seq) = some e → e.check ≠ q.check →
    Tab.wf ({} : SliceHost) s.host.slices = true →
    s.accept path t0 cont = s.refuse op q .badParam ∧ (s.accept path t0 cont).windowOf q = s.windowOf q ∧
      SameObjects s (s.accept path t0 cont)

/-- R551: when IRQ_STATUS bits are set, and how they are cleared. -/
def Obligations.InterruptStatusBits : Prop :=
  (∀ (s : State) (n : Fin 64) (off : Nat),
      let c := (s.sl n).cfg
      let quiet : Bool := c.vecCount = 0 || (s.msixByte (16 * (c.vecBase.toNat + off) + 12)).getLsbD 0
      ∀ b : Nat, b < 64 → (s.signal n off).host.irq.getLsbD b = (s.host.irq.getLsbD b || (quiet && b == n.val))) ∧
    ∀ (s : State) (hi : Bool) (v : Word32), s.sys.stopped = false → ∃ t, exec (.irqStatusWrite hi v) s = .next t ∧
      ∀ b : Nat, b < 64 → t.host.irq.getLsbD b =
        (s.host.irq.getLsbD b && !(if hi then decide (32 ≤ b) && v.getLsbD (b - 32) else decide (b < 32) && v.getLsbD b))

/-- R561: the layout of a reply's tile 0. -/
def Obligations.ReplyTileLayout : Prop :=
  ∀ (r : Reply) (st : Status) (k : Nat) (replay phase valid : Bool),
    let t := r.tile0 st k replay phase valid
    t.extractLsb' 0 12 = r.opcode ∧ t.getLsbD 12 = false ∧ t.getLsbD 13 = replay ∧ t.getLsbD 14 = phase ∧
    t.getLsbD 15 = valid ∧ t.extractLsb' 16 16 = st.code ∧ t.extractLsb' 32 8 = r.device ∧
    t.extractLsb' 40 8 = BitVec.ofNat 8 k ∧ t.extractLsb' 48 16 = r.seq ∧ t.extractLsb' 64 32 = r.gen ∧
    t.extractLsb' 96 32 = r.handle ∧ t.extractLsb' 128 352 = r.data ∧ tileOk t = true

/-- R130 and R131 for general rings; the items of a STORE 1 ring are read from DRAM (R124). -/
def Obligations.RingsKeepTheNewestItems : Prop :=
  ∀ (s : State) (r : Nat) (x : BitVec 512), Tab.wf ({} : GenRing) s.buf.rings = true → (s.ring r).resetting = false →
    let g := s.ring r
    let push := ringPush s r x
    let pop := ringPop s r
    ((push.1.ring r).items = (if g.items.length = g.depth then g.items.drop 1 else g.items) ++ [x] ∧
      (push.1.ring r).lost = (if g.items.length = g.depth then satInc g.lost else g.lost) ∧
      push.2 = (if g.items.length = g.depth then 0x02 else 0x00) ∧ ∀ m, m ≠ r → push.1.ring m = s.ring m) ∧
    (g.items = [] → pop = (s, BitVec.allOnes 512, 0x01)) ∧
    (∀ y ys, g.items = y :: ys → g.popped = 0 → g.cfg.markEn = 0 →
      pop.2 = (if g.cfg.store = 1 then leBits 512 (Mem.read s.dram.mem (g.itemAt g.p) g.itemBytes) else y, 0x00) ∧
      (pop.1.ring r).items = ys ∧ ∀ m, m ≠ r → pop.1.ring m = s.ring m)

/-- R361. -/
def Obligations.LockBreakPassesTheLockOn : Prop :=
  ∀ (q : Cmd) (s : State), Can.lockBreak q s = true →
    ∃ t, exec (.lockBreak q) s = .next t ∧
      ((s.lk q.h).holder.isSome = true → t = execPlan (actOp 0xA03 .live 0) q
        { keys := [(.lock, q.h)], eff := s.abandon q.h }) ∧
      ((s.lk q.h).holder = none → t = execPlan (actOp 0xA03 .live 0) q
        { keys := [(.lock, q.h)], changes := false, eff := s } ∧
        (s.fab.st.twinState = 0 → (∀ l a g, q.path ≠ .twin l a g) → SameObjects s t))

/-- R360. -/
def Obligations.HoldAndSafeFreeEveryLock : Prop :=
  ∀ s : State, Tab.wf ({} : Lock) s.lock.locks = true → ∀ n : Nat,
    let k := s.lk n
    let j := s.freeLocks.lk n
    j.holder = none ∧ j.queue = [] ∧ j.cfg = k.cfg ∧
      j.st.abandonPend = (if k.holder.isSome then 1 else k.st.abandonPend)

/-- R622; the model's own record of what CP2's saved areas hold goes on (R340). The persistent records survive while
Selvedge writes and the newer copy is good (R646). -/
def Obligations.ResetKeepsTheRecordOnly : Prop :=
  ∀ (s : State) (cause : Nat),
    let t := s.afterReset cause
    t.host = State.reset.host ∧ t.ports = State.reset.ports ∧ t.buf = State.reset.buf ∧ t.task = State.reset.task ∧
    t.rules = State.reset.rules ∧ t.weft = { State.reset.weft with saved := s.weft.saved } ∧ t.tm = State.reset.tm ∧ t.fab = State.reset.fab ∧
    t.lock = State.reset.lock ∧ t.tab = State.reset.tab ∧ t.dram = State.reset.dram ∧ t.sys.mode = .boot ∧
    t.time = { State.reset.time with free := s.time.free } ∧ t.sys.flash = s.sys.flash ∧
    t.selv.events = s.selv.events ∧ t.selv.startup = s.selv.startup ∧ t.selv.snap = s.selv.snap ∧
    t.selv.resetCause = BitVec.ofNat 8 cause ∧ t.pending = s.pending ∧
    (s.selv.stopped = false → s.selv.newBad = false → t.selv.retired = s.selv.retired ∧
      t.selv.stopCount = s.selv.stopCount ∧ t.selv.trained = s.selv.trained ∧ t.selv.fabricId = s.selv.fabricId)

/-- R284: every well-formed instruction is read back from its word. -/
def Obligations.WeftEncodingRoundTrip : Prop :=
  ∀ i : WeftOp, i.wellFormed = true → decodeWeft (encodeWeft i) = some i

/-- R285: reserved bits and unused register fields must be 0. -/
def Obligations.WeftWordsMeanOneInstruction : Prop :=
  ∀ (w : Word32) (i : WeftOp), decodeWeft w = some i → i.wellFormed = true ∧ encodeWeft i = w

/-- Words of R284 written out field by field. -/
def Obligations.WeftWordsRead : Prop :=
  decodeWeft (0b0000001#7 ++ 0b00001#5 ++ 0b00010#5 ++ 0b00011#5 ++ 0b0000000000#10) = some (.add 1 2 3) ∧
  decodeWeft (0b0000010#7 ++ 0b00001#5 ++ 0b00010#5 ++ 0b111111111111111#15) = some (.addi 1 2 0x7FFF) ∧
  decodeWeft (0b0000110#7 ++ 0b00100#5 ++ 0b00101#5 ++ 0b00000#5 ++ 0b1000000111#10) = some (.srai 4 5 7) ∧
  decodeWeft (0b0000111#7 ++ 0b00001#5 ++ 0b00010#5 ++ 0b001000#6 ++ 0b001111#6 ++ 0b000#3) = some (.ext 1 2 8 15) ∧
  decodeWeft (0b0001000#7 ++ 0b00110#5 ++ 0b00#2 ++ 0b10#2 ++ 0b0001001000110100#16) = some (.li 6 2 0x1234) ∧
  decodeWeft (0b0001010#7 ++ 0b00001#5 ++ 0b00010#5 ++ 0b00000#5 ++ 0b0000001000#10) = some (.clz 1 2) ∧
  decodeWeft (0b0010010#7 ++ 0b00011#5 ++ 0b00100#5 ++ 0b000000000010000#15) = some (.ldw 3 4 16) ∧
  decodeWeft (0b0011111#7 ++ 0b00011#5 ++ 0b00100#5 ++ 0b000000000010000#15) = some (.stwn 3 4 16) ∧
  decodeWeft (0b0100000#7 ++ 0b00001#5 ++ 0b00010#5 ++ 0b00000#5 ++ 0b0000100011#10) = some (.csadd 1 2 3) ∧
  decodeWeft (0b0110000#7 ++ 0b00001#5 ++ 0b00010#5 ++ 0b000#3 ++ 0b000000000011#12) = some (.cbeq 1 2 3) ∧
  decodeWeft (0b0111100#7 ++ 0b00001#5 ++ 0b11001000#8 ++ 0b111111111111#12) = some (.cbltui 1 200 0xFFF) ∧
  decodeWeft (0b0111110#7 ++ 0b11111#5 ++ 0b11111111111111111110#20) = some (.j 31 0xFFFFE) ∧
  decodeWeft (0b1000001#7 ++ 0b0000001100100#13 ++ 0b000000001100#12) = some (.loopi 100 12) ∧
  decodeWeft (0b1001000#7 ++ 0b01000#5 ++ 0b01001#5 ++ 0b00#2 ++ 0b1#1 ++ 0b000100100011#12) = some (.reqC 8 9 0x123) ∧
  decodeWeft (0b1001010#7 ++ 0b00010#5 ++ 0b000000000000#12 ++ 0b10000001#8) = some (.evwait 2 0x81) ∧
  decodeWeft (0b1001110#7 ++ 0b000000000000000#15 ++ 0b0000000101#10) = some (.scall 5) ∧
  decodeWeft (0b1010000#7 ++ 0b00111#5 ++ 0b00000#5 ++ 0b00000#5 ++ 0b0000100000#10) = some (.mfcr 7 0x20) ∧
  decodeWeft (0b1110000#7 ++ 0b00001#5 ++ 0b00010#5 ++ 0b00011#5 ++ 0b0000000010#10) = some (.crcc 1 2 3 2) ∧
  decodeWeft (0b1110101#7 ++ 0b00000#5 ++ 0b00101#5 ++ 0b00000#5 ++ 0b0000000000#10) = some (.gkey 5) ∧
  decodeWeft (0b1111010#7 ++ 0b00110#5 ++ 0b00000#5 ++ 0b00000#5 ++ 0b0000000000#10) = some (.cpacq true 6) ∧
  decodeWeft 0#32 = none ∧ decodeWeft (0b0000001#7 ++ 0b00001#5 ++ 0b00010#5 ++ 0b00011#5 ++ 0b0000000110#10) = none

/-- The invariant `State.weftGood` is kept by every Weft instruction. -/
def Obligations.WeftKeepsGoodOrder : Prop :=
  ∀ (s u : State) (i : Instr) (rest : List Instr), s.pending = i :: rest → (Instr.weft i).isSome = true →
    s.weftGood = true → step s = .next u → u.weftGood = true

/-- What a Weft instruction cannot reach (R257, R259). -/
def Obligations.WeftStaysOnItsCore : Prop :=
  ∀ (i : Instr) (c : Fin 68) (t : Fin 8) (op : WeftOp) (s u : State), Instr.weft i = some (c, t, op) →
    Tab.wf ({} : Core) s.weft.cores = true → s.fab.st.twinState = 0 → exec i s = .next u →
    (∀ d : Nat, d ≠ c.val → u.core d = s.core d) ∧ u.weft.prog = s.weft.prog ∧ u.weft.progs = s.weft.progs ∧
    u.ports = s.ports ∧ u.buf = s.buf ∧ u.rules = s.rules ∧ u.tm = s.tm ∧ u.lock = s.lock ∧ u.tab = s.tab ∧
    u.selv = s.selv ∧ u.task = s.task ∧ u.sys.mode = s.sys.mode ∧ u.host.gens = s.host.gens ∧ u.pending = s.pending

/-- The frame of the Weft instructions on registers. -/
def Obligations.WeftRegisterFrame : Prop :=
  ∀ (i : Instr) (c : Fin 68) (t : Fin 8) (op : WeftOp) (s u : State), Instr.weft i = some (c, t, op) →
    s.weftGood = true → s.fab.st.twinState = 0 → exec i s = .next u →
    (∀ r : BitVec 5, op.dest ≠ some r → u.rg c t r = s.rg c t r) ∧ u.rg c t 0 = 0 ∧
    ((∀ l d, op ≠ .evsend l d) → ∀ j : Nat, j ≠ t.val → ∀ r, u.rg c j r = s.rg c j r) ∧
    ((∀ b n, op ≠ .mtcr b n) → (∀ n, op ≠ .scall n) → op ≠ .sret →
      (u.th c t).priv = (s.th c t).priv ∧ (u.th c t).cpen = (s.th c t).cpen ∧ (u.th c t).sepc = (s.th c t).sepc ∧
      (u.th c t).scause = (s.th c t).scause) ∧
    (op.writesShared = false → (u.core c).cs = (s.core c).cs) ∧
    ((∀ cp a, op ≠ .cpacq cp a) → (u.core c).cp1 = (s.core c).cp1)

/-- The frame of the Weft instructions on memory: the address is the one that R289 computes and R257 maps. The device has
no twin at work, whose loss would be reported into event rings, and those may stand in DRAM. -/
def Obligations.WeftMemoryFrame : Prop :=
  ∀ (i : Instr) (c : Fin 68) (t : Fin 8) (op : WeftOp) (s u : State), Instr.weft i = some (c, t, op) →
    s.weftGood = true → s.fab.st.twinState = 0 → exec i s = .next u →
    (op.isStore = false → (u.core c).lmem = (s.core c).lmem ∧ u.dram.mem = s.dram.mem) ∧
    ∀ b o n, op.isStore = true → op.access = some (b, o, n) →
      let reach := s.locate c t (s.rg c t b + o.signExtend 64)
      (∀ x : Nat, (∀ p, reach = some (.lm p) → x < p ∨ p + n ≤ x) →
        Mem.byte (u.core c).lmem x = Mem.byte (s.core c).lmem x) ∧
      ∀ x : Nat, (∀ p, reach = some (.dram p) → x < p ∨ p + n ≤ x) → Mem.byte u.dram.mem x = Mem.byte s.dram.mem x

/-- Where a thread faults (R273, R285, R289), bad parity of what a load reads among it (R678). -/
def Obligations.WeftFaultConditions : Prop :=
  ∀ (i : Instr) (c : Fin 68) (t : Fin 8) (op : WeftOp) (s : State), Instr.weft i = some (c, t, op) →
    s.sys.stopped = false → s.selected c = some t.val → s.counterFull c t = false → s.opsFull = false →
    (s.goodTarget c t (BitVec.ofNat 64 (s.th c t).pc) = false → exec i s = .next (s.fault c t .fetch 0)) ∧
    (s.goodTarget c t (BitVec.ofNat 64 (s.th c t).pc) = true → (s.core c).cached ((s.th c t).pc / 64) = true →
      decodeWeft (s.progWord (s.th c t).pc) = none → exec i s = .next ((s.bump .issued c).fault c t .illegal 0)) ∧
    (∀ b o n, op.access = some (b, o, n) → s.weftGood = true → s.issues c t op = true →
      let addr := s.rg c t b + o.signExtend 64
      (addr.toNat % n ≠ 0 → exec i s = .next (s.does c t fun s => s.fault c t .align addr)) ∧
      (addr.toNat % n = 0 → s.locate c t addr = none → exec i s = .next (s.does c t fun s => s.fault c t .access addr))) ∧
    ∀ b o n p a, op.access = some (b, o, n) → op.isStore = false → s.weftGood = true →
      s.goodTarget c t (BitVec.ofNat 64 (s.th c t).pc) = true → (s.core c).cached ((s.th c t).pc / 64) = true →
      s.atPc c t = some op → ((s.th c t).onEnd && noLoopEnd op) = false → (s.rg c t b + o.signExtend 64).toNat % n = 0 →
      s.locate c t (s.rg c t b + o.signExtend 64) = some (.lm p) → (s.issued c t).parityFault c t op = some a →
      exec i s = .next (s.does c t fun s => s.fault c t .lmParity a)

/-- R274 and R275: a stop. -/
def Obligations.FaultStopsTheWholeCore : Prop :=
  ∀ (s : State) (c t : Nat) (e : Cause) (a : Word), s.weftGood = true →
    let u := s.fault c t e a
    (u.core c).st.state = 2 ∧ (u.core c).st.stopCause = BitVec.ofNat 8 e.code ∧
    (u.core c).st.stopThread = BitVec.ofNat 3 t ∧ (u.core c).st.stopPc = BitVec.ofNat 32 (s.th c t).pc ∧
    (u.core c).st.stopAddr = a ∧ (u.core c).st.stopWall = s.wall ∧
    (∀ j : Nat, j < 8 → (u.th c j).st = .stopped ∧ (u.th c j).regs = (s.th c j).regs ∧ (u.th c j).pc = (s.th c j).pc ∧
      (u.th c j).loops = (s.th c j).loops) ∧
    (u.core c).lmem = (s.core c).lmem ∧ (u.core c).cs = (s.core c).cs ∧ ∀ d : Nat, d ≠ c → u.core d = s.core d

/-- R285 and R286: the general registers. -/
def Obligations.RegisterZeroDiscardsWrites : Prop :=
  ∀ (s : State) (c t : Nat) (a : BitVec 5) (v : Word), s.weftGood = true →
    (∀ r, (s.putReg c t a v).rg c t r = if r = 0 then 0 else if r = a then v else s.rg c t r) ∧
    (∀ j, j ≠ t → (s.putReg c t a v).th c j = s.th c j) ∧
    (a = 0 → s.putReg c t a v = s.modTh c t Thread.advance)

/-- Device and slice commands complete with their effects. -/
def Obligations.DeviceAndSliceCommands : Prop :=
  (∀ (q : Cmd) (s : State), Can.deviceConfig q s = true →
      exec (.deviceConfig q) s = .next (
        execPlan (setOp 0x001 .all DevCfg.rsv) q
          { keys := [(.device, 0)]
            eff := { s with host.devCfg := DevCfg.ofTile (q.tile 1) } })) ∧
  (∀ (q : Cmd) (s : State), Can.deviceGet q s = true →
      exec (.deviceGet q) s = .next (
        execPlan (getOp 0x002 .all) q
          { keys := [(.device, 0)]
            changes := false
            replyTiles := 3
            eff := s
            tiles := [s.host.devCfg.toTile, s.ident.toTile] })) ∧
  (∀ (q : Cmd) (s : State), Can.modeSet q s = true →
      exec (.modeSet q) s = .next (
        execPlan (actOp 0x003 .all (used 16 1)) q
          { keys := [(.mode, 0)]
            changes := false
            eff := match Mode.ofCode (q.u8 16) with | some m => s.beginMode m | none => s
            wait := some .modeSet })) ∧
  (∀ (q : Cmd) (s : State), Can.snapshot q s = true →
      exec (.snapshot q) s = .next (
        let n := s.requester q
        let addr := q.u64 16
        let flags : BitVec 8 := BitVec.ofNat 8 (q.u8 32)
        let recs := s.snapConfig n
        execPlan (actOp 0x004 .live (used 16 17)) q
          { keys := [(.device, 0)]
            changes := false
            eff := { s with host.snapshot := some ⟨n, addr, flags, true, s.host.devGen, s.wall, recs.flatten, recs.length⟩ }
            wait := some .snapshot })) ∧
  (∀ (q : Cmd) (s : State), Can.ping q s = true →
      exec (.ping q) s = .next (
        execPlan (actOp 0x005 .all 0) q
          { keys := [(.device, 0)]
            changes := false
            eff := s
            data := dat 16 s.host.devGen ||| dat 24 s.wall ||| dat 32 (s.modeCode.setWidth 8) })) ∧
  (∀ (q : Cmd) (s : State), Can.sliceConfig q s = true →
      exec (.sliceConfig q) s = .next (
        let c := SliceCfg.ofTile (q.tile 1)
        let h := s.sl q.h
        let s1 := s.modSl q.h fun h => { h with cfg := c }
        let again : Bool := (h.cfg.enable = 1 && c.rings ≠ h.cfg.rings) && (q.h = 0 && q.path = .mailbox) && h.st.state ≠ 0 &&
          c.enable = 1
        let done := execPlan (setOp 0x101 .all SliceCfg.rsv) q
          { keys := [(.slice, q.h)]
            eff := if again then s.beginReset 0
              else if c.enable = 1 ∧ h.st.state = 0 then s1.modSl q.h SliceHost.attach
              else if c.enable = 0 ∧ h.st.state ≠ 0 then (s1.endQuiesce q.h .busy).modSl q.h SliceHost.detach
              else s1
            wait := if again then some (.sliceReset 0) else none }
        if done.host.deferred = s.host.deferred then done else done.tryReset 0)) ∧
  (∀ (q : Cmd) (s : State), Can.sliceGet q s = true →
      exec (.sliceGet q) s = .next (
        let h := s.sl q.h
        execPlan (getOp 0x102 .all) q
          { keys := [(.slice, q.h)]
            changes := false
            replyTiles := 3
            eff := if q.clear then s.modSl q.h fun h =>
                  { h with st := { h.st with cmdAccepted := 0, cmdReplayed := 0, cmdRejected := 0, replyOrphan := 0, dmaErr := 0
                                             sqHalts := 0, doorbellBad := 0 } }
                else s
            tiles := [h.cfg.toTile, h.st.toTile] })) ∧
  (∀ (q : Cmd) (s : State), Can.sliceQuiesce q s = true →
      exec (.sliceQuiesce q) s = .next (
        let st := (s.sl q.h).st.state
        execPlan (actOp 0x103 .all 0) q
          { keys := [(.slice, q.h)]
            eff := s.modSl q.h fun h => { h with st := { h.st with state := if h.st.state = 3 then 3 else 2 } }
            wait := some (.quiesce q.h (s.now + 100000000)) })) ∧
  (∀ (q : Cmd) (s : State), Can.sliceResume q s = true →
      exec (.sliceResume q) s = .next (
        let st := (s.sl q.h).st.state
        execPlan (actOp 0x104 .all 0) q
          { keys := [(.slice, q.h)]
            eff := s.modSl q.h fun h => { h with st := { h.st with state := 1 } } })) ∧
  (∀ (q : Cmd) (s : State), Can.sliceReset q s = true →
      exec (.sliceReset q) s = .next (
        let done := execPlan (actOp 0x105 .all 0) q
          { keys := [(.slice, q.h)], eff := s.beginReset q.h, wait := some (.sliceReset q.h) }
        if done.host.deferred = s.host.deferred then done else done.tryReset q.h))

/-- Port, pick-clock, wall-time and PTP commands complete with their effects. -/
def Obligations.PortClockAndTimeCommands : Prop :=
  (∀ (q : Cmd) (s : State), Can.portConfig q s = true →
      exec (.portConfig q) s = .next (
        let c := PortCfg.ofTile (q.tile 1)
        let o := (s.port q.h).cfg
        let base := q.h / 4 * 4
        let s1 := s.modPort q.h fun t =>
          ({ t with cfg := c, cfgPast := ((s.now, o) :: t.cfgPast).take 16 } : PortState).preemptChange o
        let s2 := if o.enable = 1 ∧ c.enable = 0 then s1.linkDown q.h else s1
        let s3 := if q.h < 32 ∧ fourLane o.mode ∧ !fourLane c.mode then
            [1, 2, 3].foldl (fun (s : State) k => s.modPort (base + k) fun _ => {}) s2 else s2
        execPlan (setOp 0x201 .live PortCfg.rsv) q
          { keys := [(.port, q.h)]
            eff := s3 })) ∧
  (∀ (q : Cmd) (s : State), Can.portGet q s = true →
      exec (.portGet q) s = .next (
        execPlan (getOp 0x202 .live) q
          { keys := [(.port, q.h)]
            changes := false
            replyTiles := 3
            eff := if q.clear then s.modPort q.h fun t =>
                  { t with st := { t.st with linkDownCount := 0, fecCorrected := 0, fecUncorrected := 0 } } else s
            tiles := [(s.port q.h).cfg.toTile, (s.portStatus q.h).toTile] })) ∧
  (∀ (q : Cmd) (s : State), Can.pickConfig q s = true →
      exec (.pickConfig q) s = .next (
        let c := PickCfg.ofTile (q.tile 1)
        execPlan (setOp 0x301 .live PickCfg.rsv) q
          { keys := [(.pick, q.h)]
            eff := s.modPick q.h fun p => p.configure c s.now s.wall })) ∧
  (∀ (q : Cmd) (s : State), Can.pickGet q s = true →
      exec (.pickGet q) s = .next (
        execPlan (getOp 0x302 .live) q
          { keys := [(.pick, q.h)]
            changes := false
            replyTiles := 3
            eff := if q.clear then s.modPick q.h fun p =>
                  { p with st := { p.st with missedRef := 0, pulseReject := 0, steerStale := 0, reverse := 0
                                             sourceSwitches := 0 } } else s
            tiles := [(s.pick q.h).set.toTile, (s.pickStatus q.h).toTile] })) ∧
  (∀ (q : Cmd) (s : State), Can.pickSelect q s = true →
      exec (.pickSelect q) s = .next (
        let p := s.pick q.h
        let pri := q.u8 16 = 0
        execPlan (actOp 0x303 .live (used 16 1)) q
          { keys := [(.pick, q.h)]
            eff := if p.active pri then s else s.switchPick q.h pri })) ∧
  (∀ (q : Cmd) (s : State), Can.pickConvert q s = true →
      exec (.pickConvert q) s = .next (
        let c := s.convert (q.u8 16) (q.u8 17) (q.u64 24).toNat
        execPlan (actOp 0x304 .live (used 16 2 ||| used 24 8)) q
          { changes := false
            eff := s
            data := dat 16 (BitVec.ofNat 64 (if c.status < 2 then c.value else 0)) ||| dat 24 (BitVec.ofNat 8 c.status) })) ∧
  (∀ (q : Cmd) (s : State), Can.wallConfig q s = true →
      exec (.wallConfig q) s = .next (
        execPlan (setOp 0x310 .live WallCfg.rsv) q
          { keys := [(.wall, 0)]
            eff := s.setWallCfg (WallCfg.ofTile (q.tile 1)) })) ∧
  (∀ (q : Cmd) (s : State), Can.wallGet q s = true →
      exec (.wallGet q) s = .next (
        execPlan (getOp 0x311 .live) q
          { keys := [(.wall, 0)]
            changes := false
            replyTiles := 3
            eff := if q.clear then
                  { s with time.st := { s.time.st with ppsReject := 0, ptpMgmtDrop := 0, wallSteps := 0 } } else s
            tiles := [s.time.cfg.toTile, { s.time.st with wallNow := s.wall, grandmaster := bit s.isGrandmaster }.toTile] })) ∧
  (∀ (q : Cmd) (s : State), Can.wallSet q s = true →
      exec (.wallSet q) s = .next (
        execPlan (actOp 0x312 .chs (used 16 8)) q
          { keys := [(.wall, 0)]
            eff := { s with time.todSet := true }.stepWall (q.u64 16) })) ∧
  (∀ (q : Cmd) (s : State), Can.ptpClockConfig q s = true →
      exec (.ptpClockConfig q) s = .next (
        let c := PtpClock.ofTile (q.tile 1)
        execPlan (setOp 0x320 .live PtpClock.rsv) q
          { keys := [(.ptpClock, 0)]
            eff := s.setPtpClock c })) ∧
  (∀ (q : Cmd) (s : State), Can.ptpPortConfig q s = true →
      exec (.ptpPortConfig q) s = .next (
        let c := PtpPort.ofTile (q.tile 1)
        execPlan (setOp 0x321 .live PtpPort.rsv) q
          { keys := [(.ptpPort, q.h)]
            eff := s.setPtpPort q.h c })) ∧
  (∀ (q : Cmd) (s : State), Can.ptpGet q s = true →
      exec (.ptpGet q) s = .next (
        execPlan (getOp 0x322 .live) q
          { keys := [(.ptpPort, q.h)]
            changes := false
            replyTiles := 4
            eff := if q.clear then s.modPtpSt q.h fun t =>
                  { t with syncRx := 0, announceRx := 0, delayRx := 0, timeouts := 0 } else s
            tiles := [s.time.ptpClock.toTile, (s.ptpPort q.h).toTile, (s.ptpSt q.h).toTile] }))

/-- Rule-set, profile, indirection-table and hash-key commands complete with their effects. -/
def Obligations.RuleSetCommands : Prop :=
  (∀ (q : Cmd) (s : State), Can.heddleWrite q s = true →
      exec (.heddleWrite q) s = .next (
        let d := Heddle.ofTile (q.tile 1)
        execPlan (setOp 0x401 .live Heddle.rsv) q
          { keys := [(.ruleset, 0)]
            eff := s.modStaged fun b => { b with heddles := Tab.set {} b.heddles q.h d } })) ∧
  (∀ (q : Cmd) (s : State), Can.keyselWrite q s = true →
      exec (.keyselWrite q) s = .next (
        execPlan (setOp 0x402 .live (put 512 448 (BitVec.allOnes 32))) q
          { keys := [(.ruleset, 0)]
            eff := s.modStaged fun b => { b with keysel := (q.tile 1).extractLsb' 0 448 } })) ∧
  (∀ (q : Cmd) (s : State), Can.parsePortWrite q s = true →
      exec (.parsePortWrite q) s = .next (
        let c := ParsePort.ofTile (q.tile 1)
        execPlan (setOp 0x403 .live ParsePort.rsv) q
          { keys := [(.ruleset, 0)]
            eff := s.modStaged fun b => { b with ports := Tab.set {} b.ports q.h c } })) ∧
  (∀ (q : Cmd) (s : State), Can.ruleRangeSet q s = true →
      exec (.ruleRangeSet q) s = .next (
        let r : RuleRange := ⟨q.u16 16, q.u16 18, q.u16 20, q.u16 22⟩
        execPlan (actOp 0x404 .live (used 16 8)) q
          { keys := [(.ruleset, 0)]
            eff := s.modStaged fun b => { b with ranges := Tab.set {} b.ranges q.h r } })) ∧
  (∀ (q : Cmd) (s : State), Can.ruleWrite q s = true →
      exec (.ruleWrite q) s = .next (
        let v := ruleRecord q
        let r : Rule := { value := v.extractLsb' 0 512, mask := v.extractLsb' 512 512, valid := v.extractLsb' 1024 1
                          profile := v.extractLsb' 1025 10, countEn := v.extractLsb' 1035 1 }
        execPlan { opcode := 0x405, modes := .live, minTiles := 4, maxTiles := 4, tileRsv := put 512 76 (BitVec.allOnes 404) } q
          { keys := [(.ruleset, 0)]
            eff := s.modStaged fun b => { b with rules := Tab.set {} b.rules q.h r, badRules := b.badRules.filter (· ≠ q.h) } })) ∧
  (∀ (q : Cmd) (s : State), Can.profileWrite q s = true →
      exec (.profileWrite q) s = .next (
        let c := Profile.ofTile (q.tile 1)
        execPlan (setOp 0x406 .live Profile.rsv) q
          { keys := [(.ruleset, 0)]
            eff := s.modStaged fun b => { b with profiles := Tab.set {} b.profiles q.h c } })) ∧
  (∀ (q : Cmd) (s : State), Can.commitRuleset q s = true →
      exec (.commitRuleset q) s = .next (
        execPlan (actOp 0x410 .live 0) q
          { keys := [(.ruleset, 0)]
            eff := s.commitRules
            data := dat 16 (s.curBank.version + 1) })) ∧
  (∀ (q : Cmd) (s : State), Can.rulesetDiscard q s = true →
      exec (.rulesetDiscard q) s = .next (
        execPlan (actOp 0x411 .live 0) q
          { keys := [(.ruleset, 0)]
            eff := { s with rules.state := .copying }
            wait := some .rulesetCopy })) ∧
  (∀ (q : Cmd) (s : State), Can.rulesetGet q s = true →
      exec (.rulesetGet q) s = .next (
        let st : BitVec 8 := match s.rules.state with | .idle => 0 | .draining => 1 | .copying => 2
        execPlan (getOp 0x412 .live) q
          { keys := [(.ruleset, 0)]
            changes := false
            eff := s
            data := dat 16 st ||| dat 17 (BitVec.ofNat 8 s.rules.cur.toNat) ||| dat 18 s.curBank.version |||
                dat 20 (BitVec.ofNat 32 s.rules.bank0.inflight) ||| dat 24 (BitVec.ofNat 32 s.rules.bank1.inflight) |||
                dat 28 (BitVec.ofNat 32 (s.host.held.filter fun h => h.keys.contains (.ruleset, 0)).length) })) ∧
  (∀ (q : Cmd) (s : State), Can.rulesetRead q s = true →
      exec (.rulesetRead q) s = .next (
        let b := if q.u8 16 = 0 then s.curBank else s.staged
        let k := q.u8 17
        let r := b.range q.h
        execPlan (actOp 0x413 .live (used 16 2)) q
          { keys := [(.ruleset, 0)]
            changes := false
            replyTiles := if k = 3 then 1 else if k = 4 then 4 else 2
            eff := s
            data := if k = 3 then dat 16 (BitVec.ofNat 16 r.ruleFirst) ||| dat 18 (BitVec.ofNat 16 r.ruleCount) |||
                dat 20 (BitVec.ofNat 16 r.profFirst) ||| dat 22 (BitVec.ofNat 16 r.profCount) else 0
            tiles := match k with
                | 0 => [(b.heddle q.h).toTile] | 1 => [b.keysel.setWidth 512] | 2 => [(b.port q.h).toTile]
                | 4 => ruleTiles (b.rule q.h) | 5 => [(b.profile q.h).toTile] | _ => [] })) ∧
  (∀ (q : Cmd) (s : State), Can.ruleGet q s = true →
      exec (.ruleGet q) s = .next (
        execPlan (getOp 0x414 .live) q
          { keys := [(.ruleset, 0)]
            changes := false
            replyTiles := 4
            eff := if q.clear then { s with rules.hits := Tab.set 0 s.rules.hits q.h 0 } else s
            data := dat 16 (Tab.get 0 s.rules.hits q.h)
            tiles := ruleTiles (s.curBank.rule q.h) })) ∧
  (∀ (q : Cmd) (s : State), Can.itConfig q s = true →
      exec (.itConfig q) s = .next (
        execPlan (actOp 0x420 .live (used 16 1)) q
          { keys := [(.it, q.h)]
            eff := s.modIt q.h fun t => { t with owner := BitVec.ofNat 6 (q.u8 16) } })) ∧
  (∀ (q : Cmd) (s : State), Can.itWrite q s = true →
      exec (.itWrite q) s = .next (
        let n := q.u16 18
        let f := q.u8 16
        execPlan { opcode := 0x421, modes := .live, minTiles := 2, maxTiles := 38, uses := used 16 1 ||| used 18 2 } q
          { keys := [(.it, q.h)]
            eff := s.modIt q.h fun t => { t with entries := (List.range n).foldl (fun m i =>
                Tab.set {} m (f + i) (ItEntry.ofTile (cmdEntry8 q i))) t.entries } })) ∧
  (∀ (q : Cmd) (s : State), Can.itGet q s = true →
      exec (.itGet q) s = .next (
        let n := q.u16 18
        let t := s.it q.h
        execPlan (actOp 0x422 .live (used 16 1 ||| used 18 2)) q
          { keys := [(.it, q.h)]
            changes := false
            replyTiles := 1 + (n + 6) / 7
            eff := s
            tiles := tiles8 n fun i => (Tab.get {} t.entries (q.u8 16 + i)).toTile })) ∧
  (∀ (q : Cmd) (s : State), Can.hashKeySet q s = true →
      exec (.hashKeySet q) s = .next (
        let bs := bytesOf (q.tile 1) 60 ++ bytesOf (q.tile 2) 60 ++ bytesOf (q.tile 3) 12
        execPlan { opcode := 0x430, modes := .live, minTiles := 4, maxTiles := 4, tileRsv := put 512 96 (BitVec.allOnes 384) } q
          { keys := [(.hashKey, 0)]
            eff := { s with rules.secret := beBits 1056 bs } })) ∧
  (∀ (q : Cmd) (s : State), Can.hashKeyGet q s = true →
      exec (.hashKeyGet q) s = .next (
        execPlan (getOp 0x431 .live) q
          { keys := [(.hashKey, 0)]
            changes := false
            eff := s
            data := dat 16 (crc32c (beBytes s.rules.secret 132)) }))

/-- Table, station, stream and route commands complete with their effects. -/
def Obligations.TableCommands : Prop :=
  (∀ (q : Cmd) (s : State), Can.tablePartSet q s = true →
      exec (.tablePartSet q) s = .next (
        let p := TablePart.ofTile (q.tile 1)
        execPlan (setOp 0x501 .live TablePart.rsv) q
          { keys := [(.tablePart, q.h)]
            eff := { s with tab.parts := Tab.set {} s.tab.parts q.h p } })) ∧
  (∀ (q : Cmd) (s : State), Can.tablePartGet q s = true →
      exec (.tablePartGet q) s = .next (
        let n := q.h
        execPlan (getOp 0x502 .live) q
          { keys := [(.tablePart, n)]
            changes := false
            replyTiles := 2
            eff := s
            data := dat 16 (s.gen (.station, n)) ||| dat 20 (s.gen (.stream, n)) ||| dat 24 (s.gen (.route, n)) |||
                dat 28 (BitVec.ofNat 32 (s.stCount n)) ||| dat 32 (BitVec.ofNat 32 (s.pinCount n)) |||
                dat 36 (BitVec.ofNat 32 (s.mainCount n)) ||| dat 40 (BitVec.ofNat 32 (s.rtUnits n))
            tiles := [(s.part n).toTile] })) ∧
  (∀ (q : Cmd) (s : State), Can.tableConfig q s = true →
      exec (.tableConfig q) s = .next (
        let c := TableCfg.ofTile (q.tile 1)
        execPlan (setOp 0x503 .live TableCfg.rsv) q
          { keys := [(.tableCfg, 0)]
            eff := { s.ageTicks with tab.cfg := c } })) ∧
  (∀ (q : Cmd) (s : State), Can.tableConfigGet q s = true →
      exec (.tableConfigGet q) s = .next (
        execPlan (getOp 0x504 .live) q
          { keys := [(.tableCfg, 0)]
            changes := false
            replyTiles := 2
            eff := s
            data := dat 16 s.tab.now16
            tiles := [s.tab.cfg.toTile] })) ∧
  (∀ (q : Cmd) (s : State), Can.stationWrite q s = true →
      exec (.stationWrite q) s = .next (
        let me := s.requester q
        let e := Station.ofTile (q.tile 1)
        let i := q.u32 16
        let held := s.stHeld e.key
        let slot : Option Nat := match held with
          | some n => some n
          | none => if i = anySlot then chooseSlot (s.stCands e.key) s.stFree else if (s.station i).valid = 0 || s.awaits 0 i then some i else none
        let new := { e with age := s.tab.now16 }
        execPlan { opcode := 0x510, modes := .live, minTiles := 2, maxTiles := 2, uses := used 16 4, tileRsv := Station.rsv &&& ((1 <<< 480) - 1) } q
          { keys := [(.station, me)]
            eff := match slot with | some n => (s.putStation n new).settle 0 n | none => s
            handle := slot.map (BitVec.ofNat 32) })) ∧
  (∀ (q : Cmd) (s : State), Can.stationDelete q s = true →
      exec (.stationDelete q) s = .next (
        execPlan (actOp 0x511 .live stNamedUses) q
          { keys := [(.station, s.requester q)]
            eff := match s.stNamed q with | some n => s.freeSlot 0 n | none => s })) ∧
  (∀ (q : Cmd) (s : State), Can.stationFlush q s = true →
      exec (.stationFlush q) s = .next (
        let me := s.requester q
        let slots := (s.tab.stations.filter fun (n, e) =>
          e.valid = 1 && e.staticV = 0 && e.owner.toNat = me && !s.awaits 0 n &&
            (q.opt 16 0 || e.fid.toNat = q.u16 18) && (q.opt 16 1 || e.port.toNat = q.u8 20)).map (·.1)
        execPlan (actOp 0x512 .live (dat 16 (3 : BitVec 2) ||| used 18 3)) q
          { keys := [(.station, me)]
            eff := { s with tab.flushes := s.tab.flushes ++ [⟨me, slots⟩] }
            wait := some (.stationFlush me) })) ∧
  (∀ (q : Cmd) (s : State), Can.stationGet q s = true →
      exec (.stationGet q) s = .next (
        execPlan (actOp 0x513 .live stNamedUses) q
          { keys := [(.station, s.requester q)]
            changes := false
            replyTiles := 2
            eff := s
            tiles := match s.stNamed q with | some n => [(s.station n).toTile] | none => [] })) ∧
  (∀ (q : Cmd) (s : State), Can.streamWrite q s = true →
      exec (.streamWrite q) s = .next (
        let e := Stream.ofTile (q.tile 1)
        let s := s.seVerified (s.mainCands e.key)
        let me := s.requester q
        let i := q.u32 16
        let cands := if e.pinned then s.pinCands e.key else s.mainCands e.key
        let held := s.seHeld e.key
        let slot : Option Nat :=
          if i ≠ anySlot then some i
          else match s.seHeldIn cands e.key with
            | some n => some n
            | none => chooseSlot cands s.seFree
        let eff : State := match slot with
          | none => s
          | some n =>
            let new := match held with
              | some h => if q.opt 20 3 ∨ s.awaits 1 h then e else { e with seqState := (s.stream h).seqState }
              | none => e
            let s1 := match held with | some h => if h = n then s else s.freeSlot 1 h | none => s
            (s1.putStream n new).settle 1 n
        execPlan { opcode := 0x520, modes := .live, minTiles := 2, maxTiles := 2, uses := used 16 4 ||| dat 20 (0xC : BitVec 8), tileRsv := Stream.rsv &&& ((1 <<< 480) - 1) } q
          { keys := [(.stream, me)]
            eff := eff
            handle := slot.map (BitVec.ofNat 32) })) ∧
  (∀ (q : Cmd) (s : State), Can.streamDelete q s = true →
      exec (.streamDelete q) s = .next (
        let s := s.seVerified [q.u32 20]
        execPlan (actOp 0x521 .live (used 20 4)) q
          { keys := [(.stream, s.requester q)]
            eff := s.freeSlot 1 (q.u32 20) })) ∧
  (∀ (q : Cmd) (s : State), Can.streamGet q s = true →
      exec (.streamGet q) s = .next (
        let s := s.seVerified [q.u32 20]
        execPlan (actOp 0x522 .live (used 20 4)) q
          { keys := [(.stream, s.requester q)]
            changes := false
            replyTiles := 2
            eff := s
            tiles := [(s.stream (q.u32 20)).toTile] })) ∧
  (∀ (q : Cmd) (s : State), Can.routeAdd q s = true →
      exec (.routeAdd q) s = .next (
        let me := s.requester q
        let e := Route.ofTile (q.tile 1)
        let held := s.rtHeld e
        let slot : Option Nat := match held with
          | some n => some n
          | none => firstIdx 131072 fun n => (s.rt n).valid = 0 && !s.awaits 2 n
        execPlan { opcode := 0x530, modes := .live, minTiles := 2, maxTiles := 2, tileRsv := Route.rsv &&& ((1 <<< 480) - 1) } q
          { keys := [(.route, me)]
            eff := match slot with | some n => (s.putRoute n e).settle 2 n | none => s
            handle := slot.map (BitVec.ofNat 32) })) ∧
  (∀ (q : Cmd) (s : State), Can.routeDelete q s = true →
      exec (.routeDelete q) s = .next (
        let me := s.requester q
        let e := Route.ofTile (q.tile 1)
        let byKey : Bool := q.u8 16 = 1
        let slot : Option Nat := if byKey then s.rtHeld { e with owner := BitVec.ofNat 6 me }
          else if s.rtNamed q then some (q.u32 20) else none
        execPlan { opcode := 0x531, modes := .live, minTiles := 1, maxTiles := 2, uses := used 16 1 ||| used 20 4, tileRsv := Route.rsv &&& ((1 <<< 480) - 1) } q
          { keys := [(.route, me)]
            eff := match slot with | some n => s.freeSlot 2 n | none => s })) ∧
  (∀ (q : Cmd) (s : State), Can.routeGet q s = true →
      exec (.routeGet q) s = .next (
        execPlan (actOp 0x532 .live (used 20 4)) q
          { keys := [(.route, s.requester q)]
            changes := false
            replyTiles := 2
            eff := s
            tiles := [(s.rt (q.u32 20)).toTile] }))

/-- Policer, queue, shaper, scheduler and treadle commands complete with their effects. -/
def Obligations.PolicerAndTrafficCommands : Prop :=
  (∀ (q : Cmd) (s : State), Can.policerConfig q s = true →
      exec (.policerConfig q) s = .next (
        let c := PolicerCfg.ofTile (q.tile 1)
        execPlan (setOp 0x601 .live PolicerCfg.rsv) q
          { keys := [(.policer, q.h)]
            eff := s.modPolicer q.h fun p =>
                { p with cfg := c, last := s.now, tok := if c.resetFill = 1 then 8 * c.burst.toNat * 1000000 else 0 } })) ∧
  (∀ (q : Cmd) (s : State), Can.policerGet q s = true →
      exec (.policerGet q) s = .next (
        let p := (s.policer q.h).refill s.now
        execPlan (getOp 0x602 .live) q
          { keys := [(.policer, q.h)]
            changes := false
            replyTiles := 3
            eff := if q.clear then s.modPolicer q.h fun p => { p with st := {} } else s
            tiles := [p.cfg.toTile, { p.st with tokens := BitVec.ofNat 64 (p.tok / 1000000) }.toTile] })) ∧
  (∀ (q : Cmd) (s : State), Can.queueAssign q s = true →
      exec (.queueAssign q) s = .next (
        execPlan (actOp 0x701 .live (used 16 3)) q
          { keys := [(.queue, q.h)]
            eff := s.modQueue q.h fun u => { u with cfg := u.cfg.assigned q } })) ∧
  (∀ (q : Cmd) (s : State), Can.queueConfig q s = true →
      exec (.queueConfig q) s = .next (
        let c := QueueCfg.ofTile (q.tile 1)
        execPlan (setOp 0x702 .live QueueCfg.rsv) q
          { keys := [(.queue, q.h)]
            eff := s.modQueue q.h fun u => u.configure (if q.h ≥ 7680 then { c with tc := 0 } else c) s.now })) ∧
  (∀ (q : Cmd) (s : State), Can.queueGet q s = true →
      exec (.queueGet q) s = .next (
        let u := s.queue q.h
        execPlan (getOp 0x703 .live) q
          { keys := [(.queue, q.h)]
            changes := false
            replyTiles := 3
            eff := if q.clear then s.modQueue q.h fun u => { u with st := { deficit := u.st.deficit } } else s
            tiles := [(s.queueCfg q.h).toTile, (s.queueStatus u).toTile] })) ∧
  (∀ (q : Cmd) (s : State), Can.shaperConfig q s = true →
      exec (.shaperConfig q) s = .next (
        let c := ShaperCfg.ofTile (q.tile 1)
        let h := shaperOf q.h
        let i := (h.map (·.1)).getD 0
        execPlan (setOp 0x710 .live ShaperCfg.rsv) q
          { keys := [(.shaper, i)]
            eff := s.modShaper i fun _ =>
                { cfg := c, tok := if c.resetFill = 1 then c.burst.toNat * 8000000 else 0, last := s.now } })) ∧
  (∀ (q : Cmd) (s : State), Can.shaperGet q s = true →
      exec (.shaperGet q) s = .next (
        let i := ((shaperOf q.h).map (·.1)).getD 0
        let h := s.shaper i
        execPlan (getOp 0x711 .live) q
          { keys := [(.shaper, i)]
            changes := false
            replyTiles := 2
            eff := s
            data := dat 16 (BitVec.ofInt 64 (h.at s.now / 8000000)) ||| dat 24 (bit (h.eligible s.now))
            tiles := [h.cfg.toTile] })) ∧
  (∀ (q : Cmd) (s : State), Can.portSchedConfig q s = true →
      exec (.portSchedConfig q) s = .next (
        let c := PortSched.ofTile (q.tile 1)
        execPlan (setOp 0x720 .live PortSched.rsv) q
          { keys := [(.sched, q.h)]
            eff := s.modPortTm q.h fun t => { t with sched := c } })) ∧
  (∀ (q : Cmd) (s : State), Can.portSchedGet q s = true →
      exec (.portSchedGet q) s = .next (
        execPlan (getOp 0x721 .live) q
          { keys := [(.sched, q.h)]
            changes := false
            replyTiles := 2
            eff := s
            tiles := [(s.portTm q.h).sched.toTile] })) ∧
  (∀ (q : Cmd) (s : State), Can.treadleConfig q s = true →
      exec (.treadleConfig q) s = .next (
        execPlan (setOp 0x730 .live TreadleHdr.rsv) q
          { keys := [(.treadle, q.h)]
            eff := s.modTreadle q.h fun d => { d with pendHdr := TreadleHdr.ofTile (q.tile 1) } })) ∧
  (∀ (q : Cmd) (s : State), Can.treadleWrite q s = true →
      exec (.treadleWrite q) s = .next (
        let n := q.u16 18
        let f := q.u16 16
        execPlan { opcode := 0x731, modes := .live, minTiles := 2, maxTiles := 64, uses := used 16 4 } q
          { keys := [(.treadle, q.h)]
            eff := s.modTreadle q.h fun d => { d with pend := (List.range n).foldl (fun m i =>
                Tab.set {} m (f + i) (TreadleEntry.ofTile (cmdEntry12 q i))) d.pend } })) ∧
  (∀ (q : Cmd) (s : State), Can.treadleCommit q s = true →
      exec (.treadleCommit q) s = .next (
        let d := s.treadle q.h
        let on := d.pendHdr.enable = 1
        let t := BitVec.ofNat 64 (s.startOf d.pendHdr)
        execPlan (actOp 0x732 .live 0) q
          { keys := [(.treadle, q.h)]
            eff := s.modTreadle q.h fun d =>
                if on then { d with st.pending := 1, st.pendingStart := t }
                else if d.st.active = 1 then { d with st.pending := 1, removing := true } else d
            data := if on then dat 16 t else 0 })) ∧
  (∀ (q : Cmd) (s : State), Can.treadleAbort q s = true →
      exec (.treadleAbort q) s = .next (
        execPlan (actOp 0x733 .live 0) q
          { keys := [(.treadle, q.h)]
            eff := s.modTreadle q.h fun d => { d with st.pending := 0, st.pendingStart := 0, removing := false } })) ∧
  (∀ (q : Cmd) (s : State), Can.treadleGet q s = true →
      exec (.treadleGet q) s = .next (
        let d := s.treadle q.h
        let n := q.u16 20
        let m := if q.u8 16 = 0 then d.act else d.pend
        let h := if q.u8 16 = 0 then d.actHdr else d.pendHdr
        execPlan (actOp 0x734 .live (used 16 1 ||| used 18 4 ||| dat 22 (1 : BitVec 1))) q
          { keys := [(.treadle, q.h)]
            changes := false
            replyTiles := 3 + (n + 4) / 5
            eff := if q.opt 22 0 then s.modTreadle q.h Treadle.cleared else s
            tiles := [d.st.toTile, h.toTile] ++ tiles12 n fun i => (Tab.get {} m (q.u16 18 + i)).toTile }))

/-- Ring, channel, warp-ring, pool and host-ring commands complete with their effects. -/
def Obligations.RingAndPoolCommands : Prop :=
  (∀ (q : Cmd) (s : State), Can.ringConfig q s = true →
      exec (.ringConfig q) s = .next (
        let c := RingCfg.ofTile (q.tile 1)
        let o := (s.ring q.h).cfg
        execPlan (setOp 0x801 .live RingCfg.rsv) q
          { keys := [(.ring, q.h)]
            eff :=         let s1 := s.modRing q.h fun g =>
                  if c.enable = 0 then { g.discard with cfg := c }
                  else if o.enable = 0 then { g with cfg := c, items := [], w := 0, popped := 0, mark := none, markLost := false }
                  else { g with cfg := c }
                if c.enable = 0 ∨ o.enable = 0 then s1.noMessages q.h else s1 })) ∧
  (∀ (q : Cmd) (s : State), Can.ringGet q s = true →
      exec (.ringGet q) s = .next (
        let g := s.ring q.h
        execPlan (getOp 0x802 .live) q
          { keys := [(.ring, q.h)]
            changes := false
            replyTiles := 3
            eff := if q.clear then s.modRing q.h GenRing.clear else s
            tiles := [g.cfg.toTile, g.status.toTile] })) ∧
  (∀ (q : Cmd) (s : State), Can.chanConfig q s = true →
      exec (.chanConfig q) s = .next (
        let c := ChanCfg.ofTile (q.tile 1)
        execPlan (setOp 0x803 .live ChanCfg.rsv) q
          { keys := [(.chan, q.h)]
            eff := s.modChan q.h fun k => { k with cfg := c } })) ∧
  (∀ (q : Cmd) (s : State), Can.chanGet q s = true →
      exec (.chanGet q) s = .next (
        let g := s.ring q.h
        let k := s.chan q.h
        execPlan (getOp 0x804 .live) q
          { keys := [(.chan, q.h)]
            changes := false
            replyTiles := 3
            eff := if q.clear then (s.modChan q.h fun k => { k with commits := 0, msgLost := 0, stageLost := 0 }).modRing q.h
                  GenRing.clear else s
            data := dat 16 k.commits ||| dat 20 k.msgLost ||| dat 24 k.stageLost
            tiles := [k.cfg.toTile, g.status.toTile] })) ∧
  (∀ (q : Cmd) (s : State), Can.warpConfig q s = true →
      exec (.warpConfig q) s = .next (
        let c := WarpCfg.ofTile (q.tile 1)
        let o := s.warp q.h
        execPlan (setOp 0x810 .all WarpCfg.rsv) q
          { keys := [(.warp, q.h)]
            eff := s.modWarp q.h fun w =>
                { cfg := c
                  exp := if c.expDepthLog2 = o.cfg.expDepthLog2 then w.exp else { w.exp with w := 0, p := 0, l := 0, slots := [] }
                  norm := if c.normDepthLog2 = o.cfg.normDepthLog2 then w.norm
                    else { w.norm with w := 0, p := 0, l := 0, slots := [] } } })) ∧
  (∀ (q : Cmd) (s : State), Can.warpGet q s = true →
      exec (.warpGet q) s = .next (
        let w := s.warp q.h
        execPlan (getOp 0x811 .all) q
          { keys := [(.warp, q.h)]
            changes := false
            replyTiles := 4
            eff := if q.clear then s.modWarp q.h fun w => { w with exp := w.exp.clear, norm := w.norm.clear } else s
            tiles := [w.cfg.toTile, (w.exp.status w.cfg.expDepthLog2.toNat).toTile,
                (w.norm.status w.cfg.normDepthLog2.toNat).toTile] })) ∧
  (∀ (q : Cmd) (s : State), Can.poolConfig q s = true →
      exec (.poolConfig q) s = .next (
        let c := PoolCfg.ofTile (q.tile 1)
        let p := s.pool q.h
        let o := p.cfg
        execPlan (setOp 0x820 .live PoolCfg.rsv) q
          { keys := [(.pool, q.h)]
            eff := ((if o.enable = 1 ∧ c.enable = 0 then s.freePool q.h else s).modPool q.h fun p => { p with cfg := c }).noteFrees s })) ∧
  (∀ (q : Cmd) (s : State), Can.poolGet q s = true →
      exec (.poolGet q) s = .next (
        let p := s.pool q.h
        let free := BitVec.ofNat 32 (s.freeCount q.h)
        execPlan (getOp 0x821 .live) q
          { keys := [(.pool, q.h)]
            changes := false
            replyTiles := 3
            eff := if q.clear then s.modPool q.h fun p =>
                  { p with st := { held := p.st.held, lostBuf := p.st.lostBuf, lowFree := free } } else s
            tiles := [p.cfg.toTile, { p.st with freeCount := free }.toTile] })) ∧
  (∀ (q : Cmd) (s : State), Can.hrAssign q s = true →
      exec (.hrAssign q) s = .next (
        execPlan (actOp 0x830 .live (used 16 1)) q
          { keys := [(.hr, q.h)]
            eff := s.modHr q.h fun g => { g with cfg := { g.cfg with owner := BitVec.ofNat 6 (q.u8 16) } } })) ∧
  (∀ (q : Cmd) (s : State), Can.hrConfig q s = true →
      exec (.hrConfig q) s = .next (
        let c := HrCfg.ofTile (q.tile 1)
        let o := (s.hr q.h).cfg
        execPlan (setOp 0x831 .live HrCfg.rsv) q
          { keys := [(.hr, q.h)]
            eff := s.modHr q.h fun g =>
                if o.enable = 0 ∧ c.enable = 1 then { g with cfg := c, pos := 0, ready := [], kick := false, readAt := 0 }
                else if c.enable = 0 then { g with cfg := c, ready := [], kick := false }
                else { g with cfg := c } })) ∧
  (∀ (q : Cmd) (s : State), Can.hrGet q s = true →
      exec (.hrGet q) s = .next (
        let g := s.hr q.h
        execPlan (getOp 0x832 .live) q
          { keys := [(.hr, q.h)]
            changes := false
            replyTiles := 2
            eff := s
            data := dat 16 g.pos
            tiles := [g.cfg.toTile] })) ∧
  (∀ (q : Cmd) (s : State), Can.hrKick q s = true →
      exec (.hrKick q) s = .next (
        execPlan (actOp 0x833 .live 0) q
          { keys := [(.hr, q.h)]
            changes := false
            eff := s.modHr q.h fun g => { g with kick := g.cfg.enable = 1 } }))

/-- Core and program commands complete with their effects. -/
def Obligations.CoreAndProgramCommands : Prop :=
  (∀ (q : Cmd) (s : State), Can.coreConfig q s = true →
      exec (.coreConfig q) s = .next (
        execPlan (setOp 0x901 .live CoreCfg.rsv) q
          { keys := [(.core, q.h)]
            eff := s.modCore q.h fun k => { k with cfg := CoreCfg.ofTile (q.tile 1) } })) ∧
  (∀ (q : Cmd) (s : State), Can.coreGet q s = true →
      exec (.coreGet q) s = .next (
        execPlan (getOp 0x902 .live) q
          { keys := [(.core, q.h)]
            changes := false
            replyTiles := 3
            eff := s
            tiles := [(s.core q.h).cfg.toTile, (s.coreStatus q.h).toTile] })) ∧
  (∀ (q : Cmd) (s : State), Can.coreRetest q s = true →
      exec (.coreRetest q) s = .next (
        execPlan (actOp 0x903 .comm 0) q
          { keys := [(.core, q.h)]
            changes := false
            eff := s.modCore q.h fun k => { k with st := { k.st with state := 3 } }
            wait := some (.coreRetest q.h) })) ∧
  (∀ (q : Cmd) (s : State), Can.progRegionSet q s = true →
      exec (.progRegionSet q) s = .next (
        let eb := q.u8 17
        let et := q.u8 18
        let pb := q.u32 20
        let pt := q.u32 24
        execPlan (actOp 0x910 .live (used 16 3 ||| used 20 8)) q
          { keys := [(.prog, q.h)]
            eff := s.modProg q.h fun p =>
                { p with enable := BitVec.ofNat 1 (q.u8 16), expBase := BitVec.ofNat 7 eb, expTiles := BitVec.ofNat 8 et
                         progBase := BitVec.ofNat 17 pb, progTiles := BitVec.ofNat 18 pt } })) ∧
  (∀ (q : Cmd) (s : State), Can.progConfig q s = true →
      exec (.progConfig q) s = .next (
        let o := s.progCfg q.h
        let c : ProgCfg := { ProgCfg.ofTile (q.tile 1) with activeTable := o.activeTable, draining := o.draining }
        execPlan (setOp 0x911 .live ProgCfg.rsv) q
          { keys := [(.prog, q.h)]
            eff := s.modProg q.h fun _ => c })) ∧
  (∀ (q : Cmd) (s : State), Can.progGet q s = true →
      exec (.progGet q) s = .next (
        execPlan (getOp 0x912 .live) q
          { keys := [(.prog, q.h)]
            changes := false
            replyTiles := 2
            eff := s
            tiles := [(s.progCfg q.h).toTile] })) ∧
  (∀ (q : Cmd) (s : State), Can.programLoad q s = true →
      exec (.programLoad q) s = .next (
        let a := q.u32 16
        execPlan { opcode := 0x913, modes := .live, minTiles := 2, maxTiles := 64, uses := used 16 4 } q
          { keys := [(.prog, q.h)]
            eff := s.loadTiles a q.cont })) ∧
  (∀ (q : Cmd) (s : State), Can.progCommit q s = true →
      exec (.progCommit q) s = .next (
        execPlan (actOp 0x914 .live 0) q
          { keys := [(.prog, q.h)]
            eff := s.modProg q.h fun p => { p with activeTable := p.activeTable ^^^ 1, draining := 1 }
            wait := some (.progCommit q.h) })) ∧
  (∀ (q : Cmd) (s : State), Can.tgConfig q s = true →
      exec (.tgConfig q) s = .next (
        let c := TgCfg.ofTile (q.tile 1)
        execPlan (setOp 0x920 .live TgCfg.rsv) q
          { keys := [(.tg, q.h)]
            eff := { s with task.groups := Tab.set {} s.task.groups q.h c } })) ∧
  (∀ (q : Cmd) (s : State), Can.tgGet q s = true →
      exec (.tgGet q) s = .next (
        execPlan (getOp 0x921 .live) q
          { keys := [(.tg, q.h)]
            changes := false
            replyTiles := 2
            eff := s
            tiles := [(s.group q.h).toTile] })) ∧
  (∀ (q : Cmd) (s : State), Can.dispatchConfig q s = true →
      exec (.dispatchConfig q) s = .next (
        let c := DispatchCfg.ofTile (q.tile 1)
        execPlan (setOp 0x922 .live DispatchCfg.rsv) q
          { keys := [(.dispatch, 0)]
            eff := { s with task.cfg := c } })) ∧
  (∀ (q : Cmd) (s : State), Can.dispatchGet q s = true →
      exec (.dispatchGet q) s = .next (
        execPlan (getOp 0x923 .live) q
          { keys := [(.dispatch, 0)]
            changes := false
            replyTiles := 2
            eff := s
            tiles := [s.task.cfg.toTile] }))

/-- Task, delay and ordering-domain commands complete with their effects. -/
def Obligations.TaskAndDomainCommands : Prop :=
  (∀ (q : Cmd) (s : State), Can.taskCreate q s = true →
      exec (.taskCreate q) s = .next (
        let me := s.requester q
        let n := s.freeTask
        let o : TaskObj := { owner := BitVec.ofNat 6 me, tg := BitVec.ofNat 4 (q.u8 16), prio := BitVec.ofNat 3 (q.u8 17)
                             entry := BitVec.ofNat 16 (q.u16 18), originOd := BitVec.ofNat 12 (q.u16 20), arg := q.u64 24 }
        execPlan (actOp 0x930 .live (used 16 6 ||| used 24 8)) q
          { keys := [(.task, n.getD 0)]
            eff := s.modBg (n.getD 0) fun b => { b with live := true, obj := o }
            handle := n.map (BitVec.ofNat 32 ·) })) ∧
  (∀ (q : Cmd) (s : State), Can.taskConfig q s = true →
      exec (.taskConfig q) s = .next (
        let c := TaskObj.ofTile (q.tile 1)
        let o := (s.bg q.h).obj
        execPlan (setOp 0x931 .live TaskObj.rsv) q
          { keys := [(.task, q.h)]
            eff := s.modBg q.h fun b =>
                { b with obj := { c with state := o.state, pending := o.pending, restart := o.restart, runs := o.runs } } })) ∧
  (∀ (q : Cmd) (s : State), Can.taskKick q s = true →
      exec (.taskKick q) s = .next (
        execPlan (actOp 0x932 .live 0) q
          { keys := [(.task, q.h)]
            eff := (s.kick q.h).1 })) ∧
  (∀ (q : Cmd) (s : State), Can.taskCancel q s = true →
      exec (.taskCancel q) s = .next (
        execPlan (actOp 0x933 .live (put 352 4 (1 : BitVec 1))) q
          { keys := [(.task, q.h)]
            eff := s.cancel q.h (q.opt 16 4) })) ∧
  (∀ (q : Cmd) (s : State), Can.taskReset q s = true →
      exec (.taskReset q) s = .next (
        execPlan (actOp 0x934 .live 0) q
          { keys := [(.task, q.h)]
            eff := s.modBg q.h fun b => { b with obj := { b.obj with state := 0, pending := 0, restart := 0 } } })) ∧
  (∀ (q : Cmd) (s : State), Can.taskDestroy q s = true →
      exec (.taskDestroy q) s = .next (
        execPlan (actOp 0x935 .live 0) q
          { keys := [(.task, q.h)]
            eff := s.destroy q.h })) ∧
  (∀ (q : Cmd) (s : State), Can.taskGet q s = true →
      exec (.taskGet q) s = .next (
        execPlan (getOp 0x936 .live) q
          { keys := [(.task, q.h)]
            changes := false
            replyTiles := 2
            eff := s
            tiles := [(s.taskView q.h).toTile] })) ∧
  (∀ (q : Cmd) (s : State), Can.delayArm q s = true →
      exec (.delayArm q) s = .next (
        let r : DelayReq := ⟨q.u8 16, q.u8 17, BitVec.ofNat 32 (q.u32 20), q.u64 24, q.u64 32⟩
        let n := s.freeDelay
        execPlan (actOp 0x940 .live (used 16 2 ||| used 20 20)) q
          { keys := [(.delay, n.getD 0)]
            eff := s.armDelay (s.requester q) (n.getD 0) r 0 none
            handle := n.map (BitVec.ofNat 32 ·) })) ∧
  (∀ (q : Cmd) (s : State), Can.delayDisarm q s = true →
      exec (.delayDisarm q) s = .next (
        execPlan (actOp 0x941 .live 0) q
          { keys := [(.delay, q.h)]
            eff := s.freeDelayAt q.h })) ∧
  (∀ (q : Cmd) (s : State), Can.delayGet q s = true →
      exec (.delayGet q) s = .next (
        let d := s.delay q.h
        execPlan (getOp 0x942 .live) q
          { keys := [(.delay, q.h)]
            changes := false
            eff := s
            data := dat 16 d.e.toTile })) ∧
  (∀ (q : Cmd) (s : State), Can.odConfig q s = true →
      exec (.odConfig q) s = .next (
        let c := OdCfg.ofTile (q.tile 1)
        let d := s.dom q.h
        execPlan (setOp 0x950 .live OdCfg.rsv) q
          { keys := [(.od, q.h)]
            eff := s.modDom q.h fun d => { d with cfg := c } })) ∧
  (∀ (q : Cmd) (s : State), Can.odGet q s = true →
      exec (.odGet q) s = .next (
        execPlan (getOp 0x951 .live) q
          { keys := [(.od, q.h)]
            changes := false
            replyTiles := 3
            eff := if q.clear then s.modDom q.h fun d =>
                  { d with st := { nextSeq := d.st.nextSeq, headSeq := d.st.headSeq } } else s
            tiles := [(s.dom q.h).cfg.toTile, (s.odStatus q.h).toTile] }))

/-- Lock, DRAM and table-cache commands complete with their effects. -/
def Obligations.LockDramAndCacheCommands : Prop :=
  (∀ (q : Cmd) (s : State), Can.lockConfig q s = true →
      exec (.lockConfig q) s = .next (
        let c := LockCfg.ofTile (q.tile 1)
        let k := s.lk q.h
        execPlan (setOp 0xA01 .live LockCfg.rsv) q
          { keys := [(.lock, q.h)]
            eff := s.modLk q.h fun k => { k with cfg := c } })) ∧
  (∀ (q : Cmd) (s : State), Can.lockGet q s = true →
      exec (.lockGet q) s = .next (
        let k := s.lk q.h
        execPlan (getOp 0xA02 .live) q
          { keys := [(.lock, q.h)]
            changes := false
            replyTiles := 3
            eff := if q.clear then s.modLk q.h fun k =>
                  { k with st := { abandonPend := k.st.abandonPend, grantKind := k.st.grantKind } } else s
            tiles := [k.cfg.toTile, (k.status s.now).toTile] })) ∧
  (∀ (q : Cmd) (s : State), Can.lockBreak q s = true →
      exec (.lockBreak q) s = .next (
        let k := s.lk q.h
        execPlan (actOp 0xA03 .live 0) q
          { keys := [(.lock, q.h)]
            changes := k.holder.isSome
            eff := if k.holder.isSome then s.abandon q.h else s })) ∧
  (∀ (q : Cmd) (s : State), Can.lockUnitConfig q s = true →
      exec (.lockUnitConfig q) s = .next (
        let b : BitVec 1 := (q.tile 1).extractLsb' 0 1
        execPlan (setOp 0xA10 .live (~~~ put 512 0 (1 : BitVec 1))) q
          { keys := [(.lockUnit, 0)]
            eff := { s with lock.freeze := b } })) ∧
  (∀ (q : Cmd) (s : State), Can.lockUnitGet q s = true →
      exec (.lockUnitGet q) s = .next (
        execPlan (getOp 0xA11 .live) q
          { keys := [(.lockUnit, 0)]
            changes := false
            replyTiles := 2
            eff := s
            tiles := [sealTile (put 512 0 s.lock.freeze)] })) ∧
  (∀ (q : Cmd) (s : State), Can.dramGet q s = true →
      exec (.dramGet q) s = .next (
        execPlan (getOp 0xB01 .all) q
          { keys := [(.dram, 0)]
            changes := false
            replyTiles := 4
            eff := if q.clear then
                  { s with dram.st := { s.dram.st with refForced := 0, panicActiveNs := 0, trackUpdates := 0, agedReq := 0 } }
                else s
            tiles := [s.dram.board, s.dram.layout.toTile, s.dram.st.toTile] })) ∧
  (∀ (q : Cmd) (s : State), Can.dramLayoutSet q s = true →
      exec (.dramLayoutSet q) s = .next (
        let c := DramLayout.ofTile (q.tile 1)
        execPlan (setOp 0xB02 .live DramLayout.rsv) q
          { keys := [(.dram, 0)]
            eff := { s with dram.layout := c } })) ∧
  (∀ (q : Cmd) (s : State), Can.cacheConfig q s = true →
      exec (.cacheConfig q) s = .next (
        let c := CacheCfg.ofTile (q.tile 1)
        let o := s.dram.cacheCfg
        let on : Bool := s.dramOn && o.enable = 1
        let change : Bool := (c.enable = 1) != on
        let dirty : Bool := s.dram.lines.any (fun (_, l) => l.any (·.dirty)) || !s.dram.evb.isEmpty
        let off : Bool := on && c.enable = 0
        let flush : Bool := off && dirty && q.opt 16 1
        let s1 := { s with dram.cacheCfg := c }
        execPlan { setOp 0xB10 .live CacheCfg.rsv with uses := dat 16 (2 : BitVec 2) } q
          { keys := [(.cache, 0)]
            eff := if flush then { s1 with dram.cacheSt.state := 1 }
                else if off then s1.cacheOff
                else if change then { s1 with dram.lines := [], dram.evb := [], dram.cacheSt.state := 0 }
                else s1
            wait := if flush then some .cacheFlush else none })) ∧
  (∀ (q : Cmd) (s : State), Can.cacheGet q s = true →
      exec (.cacheGet q) s = .next (
        let c := if s.dramOn then s.dram.cacheCfg else { s.dram.cacheCfg with enable := 0 }
        execPlan (getOp 0xB11 .live) q
          { keys := [(.cache, 0)]
            changes := false
            replyTiles := 3
            eff := if q.clear then
                  { s with dram.cacheSt := { s.dram.cacheSt with writebacks := 0, evbHits := 0, evbStall := 0, cleanParity := 0
                                                                 discardedDirty := 0 } }
                else s
            tiles := [c.toTile, s.cacheStatus.toTile] })) ∧
  (∀ (q : Cmd) (s : State), Can.cacheMaint q s = true →
      exec (.cacheMaint q) s = .next (
        let op := q.u8 16
        let all := q.opt 17 0
        let a := (q.u64 24).toNat
        let n := (q.u64 32).toNat
        execPlan (actOp 0xB12 .live (used 16 1 ||| dat 17 (1 : BitVec 1) ||| used 24 16)) q
          { keys := [(.cache, 0)]
            changes := false
            eff := { s with dram.maint := s.dram.maint ++ [⟨op, if all then none else some (a / 64, n / 64)⟩] }
            wait := some .cacheMaint }))

/-- Fabric commands complete with their effects. -/
def Obligations.FabricCommands : Prop :=
  (∀ (q : Cmd) (s : State), Can.fabricConfig q s = true →
      exec (.fabricConfig q) s = .next (
        let c := FabCfg.ofTile (q.tile 1)
        let s1 := State.wallFollows { s with fab.cfg := c }
        execPlan { setOp 0xC01 .all FabCfg.rsv with uses := dat 16 (0x20 : BitVec 8) } q
          { keys := [(.fabric, 0)]
            eff := if q.opt 16 5 then { s1 with fab.st.twinDesync := 0 } else s1 })) ∧
  (∀ (q : Cmd) (s : State), Can.fabricGet q s = true →
      exec (.fabricGet q) s = .next (
        execPlan (getOp 0xC02 .all) q
          { keys := [(.fabric, 0)]
            changes := false
            replyTiles := 3
            eff := if q.clear then
                  { s with fab.st := { s.fab.st with fabDup := 0, fabGap := 0, fabSkip := 0, fabHops := 0, cmdLateReply := 0
                                                     rootConflict := 0, fabHbMisroute := 0 } }
                else s
            tiles := [s.fab.cfg.toTile, s.fabStatus.toTile] })) ∧
  (∀ (q : Cmd) (s : State), Can.fabricLinkConfig q s = true →
      exec (.fabricLinkConfig q) s = .next (
        let c := LinkCfg.ofTile (q.tile 1)
        let o := (s.link q.h).cfg
        let s1 := s.modLink q.h fun l => { l with cfg := c }
        execPlan (setOp 0xC03 .all LinkCfg.rsv) q
          { keys := [(.link, q.h)]
            eff := if o.enable = 1 ∧ c.enable = 0 then s1.linkFail q.h
                else if o.enable = 0 ∧ c.enable = 1 ∧ c.ltEn = 1 then s1.modLink q.h fun l => { l with st.state := 1 }
                else s1 })) ∧
  (∀ (q : Cmd) (s : State), Can.fabricLinkGet q s = true →
      exec (.fabricLinkGet q) s = .next (
        let l := s.link q.h
        execPlan (getOp 0xC04 .all) q
          { keys := [(.link, q.h)]
            changes := false
            replyTiles := 3
            eff := if q.clear then s.modLink q.h fun l =>
                  { l with st := { l.st with linkDownCount := 0, resends := 0, linkCrcErr := 0, fecUncorrected := 0
                                             retryFullNs := 0, fabricUnreach := 0 } }
                else s
            tiles := [l.cfg.toTile, l.st.toTile] })) ∧
  (∀ (q : Cmd) (s : State), Can.fabricDiscover q s = true →
      exec (.fabricDiscover q) s = .next (
        let s1 := s.discover none
        execPlan (actOp 0xC10 .live (used 16 1)) q
          { keys := [(.fabric, 0)]
            changes := false
            replyTiles := 64
            eff := { s1 with fab.disc.until' := some (s.now + 5000000), fab.disc.answers := [] }
            wait := some .discover })) ∧
  (∀ (q : Cmd) (s : State), Can.fabricIdSet q s = true →
      exec (.fabricIdSet q) s = .next (
        let id : Option (BitVec 6) := if q.u8 25 = 1 then none else some (BitVec.ofNat 6 (q.u8 24))
        let here : Bool := q.u64 16 = Config.serial
        let s1 := s.discover (some (q.u64 16, id))
        execPlan (actOp 0xC11 .comm (used 16 10)) q
          { keys := [(.fabric, 0)]
            eff := if here then s.takeId id else { s1 with fab.idSet := some (q.u64 16, s.now + 5000000) }
            wait := if here then none else some .idSet })) ∧
  (∀ (q : Cmd) (s : State), Can.fabricRouteGet q s = true →
      exec (.fabricRouteGet q) s = .next (
        let bs := (List.range 64).flatMap fun d => (s.route d).bytes
        execPlan (getOp 0xC20 .all) q
          { keys := [(.fabric, 0)]
            changes := false
            replyTiles := 6
            eff := s
            tiles := (List.range 5).map fun i => leBits 512 (slice bs (60 * i) 60) })) ∧
  (∀ (q : Cmd) (s : State), Can.routePin q s = true →
      exec (.routePin q) s = .next (
        let p := BitVec.ofNat 4 (q.u8 16)
        let a := BitVec.ofNat 4 (q.u8 17)
        let s1 : State := { s with fab.routes := Tab.upd {} s.fab.routes q.h fun r => { r with prim := p, alt := a, pinned := true } }
        execPlan (actOp 0xC21 .live (used 16 2)) q
          { keys := [(.routeMask, q.h)]
            eff := s1.noteRoutes s })) ∧
  (∀ (q : Cmd) (s : State), Can.routeUnpin q s = true →
      exec (.routeUnpin q) s = .next (
        let s1 : State := { s with fab.routes := Tab.upd {} s.fab.routes q.h fun r => { r with pinned := false } }
        execPlan (actOp 0xC22 .live 0) q
          { keys := [(.routeMask, q.h)]
            eff := (s1.recomputeOne q.h).noteRoutes s })) ∧
  (∀ (q : Cmd) (s : State), Can.fabricTwinConfig q s = true →
      exec (.fabricTwinConfig q) s = .next (
        let c := TwinCfg.ofTile (q.tile 1)
        let s1 : State := { s with fab.twin := c }
        execPlan (setOp 0xC30 .comm TwinCfg.rsv) q
          { keys := [(.twin, 0)]
            eff := if c.twinEn = 0 then { s1 with fab.st.twinState := 0, fab.hb := [], fab.twinMode := 0, fab.tookOver := false }
                else s1 })) ∧
  (∀ (q : Cmd) (s : State), Can.fabricTwinGet q s = true →
      exec (.fabricTwinGet q) s = .next (
        execPlan (getOp 0xC31 .all) q
          { keys := [(.twin, 0)]
            changes := false
            replyTiles := 2
            eff := s
            tiles := [s.fab.twin.toTile] }))

/-- Selvedge, image and statistics commands complete with their effects. -/
def Obligations.SelvedgeImageAndStatisticsCommands : Prop :=
  (∀ (q : Cmd) (s : State), Can.selvedgeRead q s = true →
      exec (.selvedgeRead q) s = .next (
        let area := q.u8 16
        let all := s.selvEntries area
        let next := s.selv.nextSeq area
        let oldest := (all.head?.map (·.1)).getD next
        let first : Word32 := BitVec.ofNat 32 (q.u32 20)
        let from' := if serialLt first oldest then oldest else first
        let out := ((all.filter fun p => !serialLt p.1 from').take (q.u8 24)).map (·.2)
        execPlan (actOp 0xD01 .all (used 16 1 ||| used 20 5)) q
          { keys := [(.selvedge, 0)]
            changes := false
            replyTiles := 1 + out.length
            eff := s
            data := dat 16 oldest ||| dat 20 next
            tiles := out })) ∧
  (∀ (q : Cmd) (s : State), Can.selvedgeClearArm q s = true →
      exec (.selvedgeClearArm q) s = .next (
        let tok : Word32 := (Config.random s.time.free).setWidth 32
        let scope := q.u8 16
        execPlan (actOp 0xD02 .comm (used 16 1)) q
          { keys := [(.selvedge, 0)]
            changes := false
            eff := { s.drawn with host.clearArm := some (tok, BitVec.ofNat 8 scope, s.now, q.path) }
            data := dat 16 tok })) ∧
  (∀ (q : Cmd) (s : State), Can.selvedgeClear q s = true →
      exec (.selvedgeClear q) s = .next (
        let scope := q.u8 16
        let v := s.selv
        let v1 := if scope.testBit 0 then { v with events := [] } else v
        let v2 := if scope.testBit 1 then { v1 with startup := [], stepLevel := [], stepHung := [], failCount := [] } else v1
        let eff := { { s with selv := v2 }.recordClear scope q.path with host.clearArm := none }
        execPlan (actOp 0xD03 .comm (used 16 1 ||| used 20 4)) q
          { keys := [(.selvedge, 0)]
            eff := eff
            wait := if scope = 0 then none else some .selvedgeClear })) ∧
  (∀ (q : Cmd) (s : State), Can.imageWrite q s = true →
      exec (.imageWrite q) s = .next (
        let u := q.u32 16
        execPlan { opcode := 0xD20, modes := .live, minTiles := 2, maxTiles := 64, uses := used 16 4 } q
          { keys := [(.image, q.h)]
            eff := (q.cont.zipIdx).foldl (fun (s : State) (p : Tile × Nat) =>
                let t := sealTile p.1
                { s with sys.flash := Tab.set 0 s.sys.flash (q.h * 131072 + u + p.2) t }.emit (.flash q.h (u + p.2) t)) s })) ∧
  (∀ (q : Cmd) (s : State), Can.imageCommit q s = true →
      exec (.imageCommit q) s = .next (
        execPlan (actOp 0xD21 .live (used 16 4)) q
          { keys := [(.image, q.h)]
            eff := { s with selv.activeSlot := BitVec.ofNat 1 q.h } })) ∧
  (∀ (q : Cmd) (s : State), Can.statsRead q s = true →
      exec (.statsRead q) s = .next (
        let scope := q.u8 16
        let all := (statItems scope q.h).getD []
        let is := (all.drop (q.u16 18)).take 126
        let clear := q.opt 20 0
        execPlan (actOp 0xE01 .all (used 16 1 ||| used 18 2 ||| dat 20 (1 : BitVec 1))) q
          { keys := [(.counters, 0)]
            changes := false
            replyTiles := 1 + (is.length + 1) / 2
            eff := if clear then is.foldl State.statClear s else s
            data := dat 16 (BitVec.ofNat 16 all.length) ||| dat 18 (BitVec.ofNat 16 is.length)
            tiles := tiles60 (is.flatMap s.statBytes) })) ∧
  (∀ (q : Cmd) (s : State), Can.counterRangeSet q s = true →
      exec (.counterRangeSet q) s = .next (
        let a := q.u32 16
        let n := q.u32 20
        execPlan (actOp 0xE02 .live (used 16 8)) q
          { keys := [(.counters, q.h)]
            eff := { s with host.ctrRange := Tab.set (0, 0) s.host.ctrRange q.h (a, n) } })) ∧
  (∀ (q : Cmd) (s : State), Can.counterRead q s = true →
      exec (.counterRead q) s = .next (
        let a := q.u32 16
        let n := q.u8 20
        let me := s.requester q
        let ps := (List.range n).map fun i => Tab.get (0, 0) s.host.pairs (a + i)
        let k := (n + 2) / 3
        execPlan (actOp 0xE03 .live (used 16 5 ||| dat 21 (1 : BitVec 1))) q
          { keys := [(.counters, me)]
            changes := false
            replyTiles := 1 + k
            eff := if q.opt 21 0 then
                  { s with host.pairs := (List.range n).foldl (fun m i => Tab.set (0, 0) m (a + i) (0, 0)) s.host.pairs }
                else s
            tiles := (List.range k).map fun i => pairTile (ps.drop (3 * i) |>.take 3) })) ∧
  (∀ (q : Cmd) (s : State), Can.counterRangeGet q s = true →
      exec (.counterRangeGet q) s = .next (
        let r := Tab.get (0, 0) s.host.ctrRange q.h
        execPlan (getOp 0xE04 .live) q
          { keys := [(.counters, q.h)]
            changes := false
            eff := s
            data := dat 16 (BitVec.ofNat 32 r.1) ||| dat 20 (BitVec.ofNat 32 r.2) }))

/-- Debugger and JTAG commands complete with their effects. -/
def Obligations.DebugCommands : Prop :=
  (∀ (q : Cmd) (s : State), Can.debugAttach q s = true →
      exec (.debugAttach q) s = .next (
        let me := s.requester q
        execPlan (actOp 0xF01 .live (used 16 1)) q
          { keys := [(.core, q.h)], changes := false, eff := s.modTh q.h q.thread fun h => { h with dbg := some me } })) ∧
  (∀ (q : Cmd) (s : State), Can.debugDetach q s = true →
      exec (.debugDetach q) s = .next (
        execPlan (actOp 0xF02 .live (used 16 1)) q
          { keys := [(.core, q.h)], changes := false, eff := s.detach q.h q.thread })) ∧
  (∀ (q : Cmd) (s : State), Can.debugHalt q s = true →
      exec (.debugHalt q) s = .next (
        let h := s.th q.h q.thread
        let t := if h.haltNow then s.modTh q.h q.thread fun h => { h with st := .halted, from' := h.st, haltAt := s.now }
          else s.modTh q.h q.thread fun h => { h with haltReq := true }
        execPlan (actOp 0xF03 .live (used 16 1)) q
          { keys := [(.core, q.h)], changes := false, eff := if h.st = .halted then s else t
            wait := if h.st = .halted ∨ h.haltNow then none else some (.debugHalt q.h q.thread) })) ∧
  (∀ (q : Cmd) (s : State), Can.debugResume q s = true →
      exec (.debugResume q) s = .next (
        execPlan (actOp 0xF04 .live (used 16 1)) q
          { keys := [(.core, q.h)], changes := false
            eff := if (s.core q.h).replayDue then s.recoverCore q.h
              else s.modTh q.h q.thread fun h =>
                let r : Thread := h.resumed s.now
                { r with haltReq := false, stepping := false } })) ∧
  (∀ (q : Cmd) (s : State), Can.debugStep q s = true →
      exec (.debugStep q) s = .next (
        let r := (s.th q.h q.thread).resumed s.now
        execPlan (actOp 0xF05 .live (used 16 1)) q
          { keys := [(.core, q.h)], changes := false
            eff := if r.st = .running then s.modTh q.h q.thread fun _ => { r with stepping := true, skipBp := true } else s
            wait := if r.st = .running then some (.debugStep q.h q.thread) else none })) ∧
  (∀ (q : Cmd) (s : State), Can.debugBreak q s = true →
      exec (.debugBreak q) s = .next (
        execPlan (actOp 0xF06 .live (used 16 3 ||| used 20 4)) q
          { keys := [(.core, q.h)], changes := false
            eff := s.modTh q.h q.thread fun h =>
              { h with bps := Tab.set noBreak h.bps (q.u8 17) (if q.u8 18 = 1 then q.u32 20 else noBreak) } })) ∧
  (∀ (q : Cmd) (s : State), Can.debugRead q s = true →
      exec (.debugRead q) s = .next (
        let a := q.dbgAcc
        let h := s.th q.h q.thread
        execPlan (actOp 0xF07 .live (used 16 2 ||| used 20 6)) q
          { keys := [(.core, q.h)], changes := false, replyTiles := 1 + (a.len + 59) / 60, eff := s.drawn
            tiles := tiles60 (s.dbgRead q.h q.thread a)
            data := dat 16 h.st.code ||| dat 20 (BitVec.ofNat 32 h.pc) })) ∧
  (∀ (q : Cmd) (s : State), Can.debugWrite q s = true →
      exec (.debugWrite q) s = .next (
        let a := q.dbgAcc
        let bs := (q.cont.flatMap fun t => bytesOf t 60).take a.len
        execPlan { opcode := 0xF08, modes := .live, minTiles := 2, maxTiles := 64, uses := used 16 2 ||| used 20 6 } q
          { keys := [(.core, q.h)], changes := false, eff := s.dbgWrite q.h q.thread a bs })) ∧
  (∀ (q : Cmd) (s : State), Can.jtagChallenge q s = true →
      exec (.jtagChallenge q) s = .next (
        let c : BitVec 128 := (Config.random s.time.free).setWidth 128
        execPlan (actOp 0xF10 .all 0) q
          { keys := [(.jtag, 0)]
            changes := false
            eff := { s.drawn with sys.jtagChallenge := some (c, s.now + 60000000000) }
            data := dat 16 c })) ∧
  (∀ (q : Cmd) (s : State), Can.jtagUnlock q s = true →
      exec (.jtagUnlock q) s = .next (
        let resp := bytesOf (q.params.extractLsb' 0 256) 32
        let right := match s.sys.jtagChallenge with | some (c, _) => decide (jtagAnswer c = resp) | none => false
        let late := match s.sys.jtagChallenge with | some (_, t) => decide (t < s.now) | none => false
        let s1 := { s with sys.jtagChallenge := none }
        execPlan (actOp 0xF11 .all (used 16 32)) q
          { keys := [(.jtag, 0)]
            changes := false
            eff := if !right then { s1 with sys.jtagWrong := s.sys.jtagWrong + 1 }
                else if late then s1
                else { s1 with sys.jtagOpen := true }.reportDev 0x0D0B 0 0
            status := if right && !late then .ok else .badCheck }))

/-- Host-interface events complete with their effects. -/
def Obligations.HostInterfaceEvents : Prop :=
  (∀ (n : Nat) (h : Held) (s : State), Can.heldCommandExecute n h s = true →
      exec (.heldCommandExecute n) s = .next (
        let s2 := ({ s with host.held := s.host.held.take n } : State).runHost (h.opcode.setWidth 16) h.cmd
        { s2 with host.held := s2.host.held ++ s.host.held.drop (n + 1) })) ∧
  (∀ (addr : BitVec 19) (size : Nat) (s : State), Can.identRead addr size s = true →
      exec (.identRead addr size) s = .next (
        let s1 : State := if addr.toNat = 0 then { s with host.identLatch := s.ident.toTile } else s
        s1.emit (.barRead addr.toNat (if size = 8 then s1.barWord (addr.toNat + 4) ++ s1.barWord addr.toNat
          else (s1.barWord addr.toNat).setWidth 64)))) ∧
  (∀ (s : State), Can.devResetWrite s = true →
      exec (.devResetWrite 0xA5A5) s = .next (
        { s with host.resetArm := some (s.now + 1000000) })) ∧
  (∀ (t : Nat) (s : State), Can.devResetWrite_act t s = true →
      exec (.devResetWrite 0x5A5A) s = .next (
        s.deviceReset 2)) ∧
  (∀ (v : BitVec 32) (s : State), Can.devResetWrite_disarm v s = true →
      exec (.devResetWrite v) s = .next (
        { s with host.resetArm := none })) ∧
  (∀ (t : Nat) (s : State), Can.devResetArmExpiry t s = true →
      exec (.devResetArmExpiry) s = .next (
        { s with host.resetArm := none })) ∧
  (∀ (hi : Bool) (v : BitVec 32) (s : State), Can.irqStatusWrite s = true →
      exec (.irqStatusWrite hi v) s = .next (
        { s with host.irq := s.host.irq &&& ~~~ put 64 (if hi then 32 else 0) v })) ∧
  (∀ (v : BitVec 32) (s : State), Can.mboxInWrite v s = true →
      exec (.mboxInWrite v) s = .next (
        let s1 := s.mboxStore 60 v
        ({ s1 with host.mboxOut := pendingTile (cmdOf .mailbox s1.host.mboxIn []).2.seq false, host.mboxPending := true } :
          State).accept .mailbox s1.host.mboxIn [])) ∧
  (∀ (v : BitVec 32) (s : State), Can.mboxInWrite_overrun s = true →
      exec (.mboxInWrite v) s = .next (
        (s.mboxStore 60 v).bump .mboxOverrun 0)) ∧
  (∀ (n : Fin 64) (v : BitVec 32) (s : State), Can.sqTailWrite n v s = true →
      exec (.sqTailWrite n v) s = .next (
        s.modSl n fun h => { h with sqTail := v.extractLsb' 0 13 })) ∧
  (∀ (n : Fin 64) (v : BitVec 32) (s : State), Can.sqTailWrite_resync n v s = true →
      exec (.sqTailWrite n v) s = .next (
        s.modSl n fun h => { h with sqTail := v.extractLsb' 0 13, st.sqHalted := 0
                                    st.sqFetch := BitVec.ofNat 13 ((v.extractLsb' 16 13).toNat % (2 * h.sqDepth)) })) ∧
  (∀ (n : Fin 64) (v : BitVec 32) (s : State), Can.cqHeadWrite n v s = true →
      exec (.cqHeadWrite n v) s = .next (
        s.modSl n fun h => { h with cqHead := v.extractLsb' 0 13 })) ∧
  (∀ (addr : BitVec 19) (v : BitVec 64) (s : State), Can.barRegisterWrite addr s = true →
      exec (.barRegisterWrite addr 4 v) s = .next (
        { s with host.mboxIn := put 512 (8 * (addr.toNat - 0x100)) (v.setWidth 32) |||
          (s.host.mboxIn &&& ~~~ put 512 (8 * (addr.toNat - 0x100)) (BitVec.allOnes 32)) })) ∧
  (∀ (addr : BitVec 19) (size : Nat) (v : BitVec 64) (s : State), Can.barRegisterWrite_bad addr size s = true →
      exec (.barRegisterWrite addr size v) s = .next (
        s.bump .barBadAccess 0)) ∧
  (∀ (k : HostLoss) (s : State), Can.hostReset s = true →
      exec (.hostReset k) s = .next (
        s.hostReset)) ∧
  (∀ (n : Fin 64) (t0 : Tile) (rest : List Tile) (s : State), Can.sqFetch n t0 rest s = true →
      exec (.sqFetch n (some (t0 :: rest))) s = .next (
        let s1 := s.modSl n fun h => { h with st := { h.st with
          sqFetch := BitVec.ofNat 13 ((h.st.sqFetch.toNat + tilesOf t0) % (2 * h.sqDepth)) } }
        s1.accept (.sq n) t0 (cmdOf (.sq n) t0 (rest.take (tilesOf t0 - 1))).2.cont)) ∧
  (∀ (n : Fin 64) (s : State), Can.sqFetch_error n s = true →
      exec (.sqFetch n none) s = .next (
        (s.dmaErr n).haltSq n 2)) ∧
  (∀ (n : Fin 64) (it : Tile) (s : State), Can.eventItemCopy n it s = true →
      exec (.eventItemCopy n) s = .next (
        let h := s.sl n
        let q := (it.extractLsb' 32 32).toNat % (s.ring h.cfg.evtRing.toNat).depth
        ((ringPop s h.cfg.evtRing.toNat).1.emit (.hostTile n (h.cfg.evtBase + BitVec.ofNat 64 (64 * q)) it)).signal n (if h.cfg.vecCount = 1 then 0 else 1))) ∧
  (∀ (bs : List (BitVec 8)) (s : State), Can.mgmtCommandFrame bs s = true →
      exec (.mgmtCommandFrame bs) s = .next (
        let body := slice bs 18 (bs.length - 22)
        let t0 : Tile := leBits 512 (slice body 0 64)
        let cont : List Tile := (List.range (tilesOf t0 - 1)).map fun i => leBits 512 (slice body (64 * (i + 1)) 64)
        ({ s with host.m0Peers := s.host.m0Peers ++ [((cmdOf .m0 t0 cont).2.seq, leBits 48 (slice bs 6 6))] } : State).accept
          .m0 t0 cont)) ∧
  (∀ (r : Fin 512) (it : BitVec 128) (s : State), Can.hrPoll r it s = true →
      exec (.hrPoll r (some it)) s = .next (
        s.modHr r fun g => { g.read s.now true with ready := g.ready ++ [it] })) ∧
  (∀ (r : Fin 512) (item : BitVec 128) (bs : List (BitVec 8)) (s : State), Can.hrTxItem r item bs s = true →
      exec (.hrTxItem r item (some bs)) s = .next (
        (((s.modHr r fun g => g.read s.now true).takeTx r item (some bs)).1.bump .hrFrames r).writeItem r (put 128 0 (item.extractLsb' 0 112) ||| put 128 112 (0 : BitVec 8)))) ∧
  (∀ (r : Fin 512) (d : Delivery) (rest : List Delivery) (s : State), Can.hrRxWriteback r d rest s = true →
      exec (.hrRxWriteback r) s = .next (
        let n := (s.hr r).cfg.owner.toNat
        let s1 := (s.emit (.hostBytes n (d.item.extractLsb' 0 64) d.bytes)).modHr r fun g => { g with inFlight := rest }
        (((s1.writeItem r d.item).bump .hrFrames r).deliveryGone d).tryReset n)) ∧
  (∀ (n : Fin 64) (t : Nat) (s : State), Can.selfDrainExpiry n t s = true →
      exec (.selfDrainExpiry n) s = .next (
        ((s.selfDraining n).foldl (fun (s : State) r => (s.bumpBy .hrSquashed r (s.hr r).inFlight.length).squash r) s).endReset n)) ∧
  (∀ (n : Fin 64) (d : Deferred) (due : Nat) (s : State), Can.quiesceTimeout n d due s = true →
      exec (.quiesceTimeout n) s = .next (
        ({ s with host.deferred := [] } : State).complete d.cmd d.keys d.replyTiles
          { opcode := d.opcode, status := .busy, device := s.devId.setWidth 8, seq := d.cmd.seq
            gen := (d.keys.head?.map s.gen).getD 0, handle := d.cmd.handle })) ∧
  (∀ (n : Fin 64) (s : State), Can.quiesceDone n s = true →
      exec (.quiesceDone n) s = .next (
        (s.modSl n fun h => { h with st := { h.st with state := 3 } }).endQuiesce n .ok))

/-- Arrival, parsing and clock events complete with their effects. -/
def Obligations.PacketArrivalEvents : Prop :=
  (∀ (p : Fin 33) (f : RxFrame) (line : RxLine) (age : Nat) (s : State), Can.frameReceive p f line age s = true →
      exec (.frameReceive p f line age) s = .next (
        let s1 := (if (s.port p).cfg.loop = 2 then s.emit (.frame p (rxBytes f)) else s).countFec p line
        let c := (s1.port p).cfgAt (s1.now - age)
        ((((s1.intake 0 p (c.classOf (rxBytes f)) (s1.rxPoint p (s1.now - age)) (s1.rxPoint p s1.now) (rxBytes f)).getD s1).bump
          .rxFrames p).bumpBy .rxBytes p (rxBytes f).length))) ∧
  (∀ (p : Fin 33) (s : State), Can.preemptVerifySend p s = true →
      exec (.preemptVerifySend p) s = .next (
        (s.modPort p fun t => { t with verifyTries := t.verifyTries + 1, verifyAt := some s.now }).emit (.verify p))) ∧
  (∀ (p : Fin 33) (s : State), Can.preemptVerifySend_failed p s = true →
      exec (.preemptVerifySend p) s = .next (
        s.modPort p fun t => { t with st.preemptState := 3 })) ∧
  (∀ (p : Fin 33) (s : State), Can.preemptVerifyResponse p s = true →
      exec (.preemptVerifyResponse p) s = .next (
        s.modPort p fun t => { t with st.preemptState := 2 })) ∧
  (∀ (p : Fin 33) (why : PcsLoss) (s : State), Can.pcsLockLoss why s = true →
      exec (.pcsLockLoss p why) s = .next (
        s.linkDown p)) ∧
  (∀ (p : Fin 33) (s : State), Can.pcsLockLoss_autoneg p s = true →
      exec (.pcsLockLoss p .autoneg) s = .next (
        let o := (s.port p).st
        let a := (s.port p).ltDone
        (s.linkDown p).modPort p fun t =>
          { t with st.pcsLock := o.pcsLock, st.tsCalDone := o.tsCalDone, st.fecActive := o.fecActive, ltDone := a })) ∧
  (∀ (p : Fin 33) (s : State), Can.tsCalibrationDone p s = true →
      exec (.tsCalibrationDone p) s = .next (
        s.modPort p fun t => { t with st.tsCalDone := 1 })) ∧
  (∀ (p : Fin 33) (s : State), Can.linkUpDeclare p s = true →
      exec (.linkUpDeclare p) s = .next (
        s.modPort p fun t =>
          { t with st.linkUp := 1, st.linkChangeWall := s.wall, verifyTries := 0, verifyAt := none
                   st.preemptState := t.preemptStart })) ∧
  (∀ (p : Fin 33) (m : PtpMsg) (s : State), Can.ptpMessageReceive p m s = true →
      exec (.ptpMessageReceive p m) s = .next (
        ((s.modPtpSt p fun t => { t with announceRx := satInc t.announceRx, parentId := m.parent, stepsRemoved := m.steps }
          ).modPtpRun p fun r => { r with heardAt := s.now }).bestMaster p)) ∧
  (∀ (p : Fin 33) (m : PtpMsg) (s : State), Can.ptpMessageReceive_sync p m s = true →
      exec (.ptpMessageReceive p m) s = .next (
        (s.modPtpSt p fun t => { t with syncRx := satInc t.syncRx }).ptpOffset p)) ∧
  (∀ (p : Fin 33) (m : PtpMsg) (s : State), Can.ptpMessageReceive_delayResp p m s = true →
      exec (.ptpMessageReceive p m) s = .next (
        ((s.modPtpSt p fun t => { t with delayRx := satInc t.delayRx }).modPtpRun p fun r =>
          { r with delayOpen := false }).ptpDelayOf p)) ∧
  (∀ (p : Fin 33) (s : State), Can.ptpAnnounceTimeout p s = true →
      exec (.ptpAnnounceTimeout p) s = .next (
        (((s.modPtpSt p fun t => { t with timeouts := satInc t.timeouts }).modPtpRun p fun r =>
          { r with heardAt := s.now }).bestMaster p).setUnsync)) ∧
  (∀ (s : State), Can.ppsInEdge s = true →
      exec (.ppsInEdge) s = .next (
        let t := (s.wall.toNat : Int) - s.time.cfg.ppsInComp.toInt
        let m := t % 1000000000
        ({ s with time.lastPps := some s.now } : State).wallOffset (if m ≥ 500000000 then m - 1000000000 else m) true)) ∧
  (∀ (t : Nat) (s : State), Can.ppsInTimeout t s = true →
      exec (.ppsInTimeout) s = .next (
        s.setUnsync)) ∧
  (∀ (s : State), Can.ppsOutPulse s = true →
      exec (.ppsOutPulse) s = .next (
        ({ s with time.ppsHigh := true, time.ppsAt := s.now } : State).emit (.ppsOut true))) ∧
  (∀ (input : Fin 2) (rising : Bool) (held : Nat) (s : State), Can.phaseEdge s = true →
      exec (.phaseEdge input rising held) s = .next (
        s.eachRole fun s k pri => s.phaseEdgeOf k pri rising held (1 + input))) ∧
  (∀ (k : Fin 4) (pri : Bool) (t : Nat) (s : State), Can.phaseMissed k pri t s = true →
      exec (.phaseMissed k pri) s = .next (
        s.missOne k pri)) ∧
  (∀ (enc : Fin 2) (s : State), Can.encZPulse s = true →
      exec (.encZPulse enc) s = .next (
        s.eachRole fun s k pri => s.encZOf k pri (3 + enc))) ∧
  (∀ (k : Fin 4) (pri : Bool) (t : Nat) (s : State), Can.encoderUpdate k pri t s = true →
      exec (.encoderUpdate k pri) s = .next (
        let p := s.pick k
        let n := ((p.src pri).encCount % (max p.cfg.encCpr.toNat 1 : Int)).toNat
        (s.upNoted k pri).refEvent k pri t (n * cyc / max p.cfg.encCpr.toNat 1))) ∧
  (∀ (k : Fin 4) (pri : Bool) (t : Nat) (s : State), Can.encZTimeout k pri t s = true →
      exec (.encZTimeout k pri) s = .next (
        s.loseSource k pri)) ∧
  (∀ (k : Fin 4) (pri : Bool) (s : State), Can.synthUpdate k pri s = true →
      exec (.synthUpdate k pri) s = .next (
        (s.upNoted k pri).refEvent k pri s.now (synthPick (s.pick k).cfg 0 s.wall.toNat % cyc))) ∧
  (∀ (k : Fin 4) (pri : Bool) (t : Nat) (s : State), Can.steerMiss k pri t s = true →
      exec (.steerMiss k pri) s = .next (
        s.loseSource k pri)) ∧
  (∀ (k : Fin 4) (s : State), Can.holdLimitExpiry k s = true →
      exec (.holdLimitExpiry k) s = .next (
        ((s.modPick k fun p => { p with st.state := 5, st.holdCycles := satNat 32 (p.holdCyclesNow s.now) }).reportDev
          0x0803 k 0).returnSource k)) ∧
  (∀ (k : Fin 4) (s : State), Can.holdLimitExpiry_fallback k s = true →
      exec (.holdLimitExpiry k) s = .next (
        s.switchPick k false)) ∧
  (∀ (p : Fin 33) (s : State), Can.pcsLockAcquire p s = true →
      exec (.pcsLockAcquire p) s = .next (
        s.modPort p fun t => { t with st.pcsLock := 1, st.tsCalDone := 0, st.fecActive := t.cfg.fec, lockAt := s.now })) ∧
  (∀ (p : Fin 33) (s : State), Can.autonegDone p s = true →
      exec (.autonegDone p) s = .next (
        s.modPort p fun t => { t with st.anDone := 1 })) ∧
  (∀ (p : Fin 33) (s : State), Can.linkTrainingDone p s = true →
      exec (.linkTrainingDone p) s = .next (
        s.modPort p fun t => { t with ltDone := true })) ∧
  (∀ (enc : Fin 2) (up : Bool) (s : State), Can.encCountEdge s = true →
      exec (.encCountEdge enc up) s = .next (
        s.eachRole fun s k pri => s.encEdgeOf k pri up (3 + enc))) ∧
  (∀ (s : State), Can.ppsOutFall s = true →
      exec (.ppsOutFall) s = .next (
        ({ s with time.ppsHigh := false } : State).emit (.ppsOut false))) ∧
  (∀ (p : Fin 33) (k : PtpTx) (s : State), Can.ptpMessageSend p k s = true →
      exec (.ptpMessageSend p k) s = .next (
        s.ptpSendKind p k))

/-- Dispatch, ordering, watchdog and core events complete with their effects. -/
def Obligations.DispatchAndCoreEvents : Prop :=
  (∀ (p : Nat) (s : State), Can.parseStart p s = true →
      exec (.parseStart) s = .next (
        ({ s with rules.lastExp := p } : State).parseSlot p true)) ∧
  (∀ (h : Handback) (s : State), Can.parseStart_handback h s = true →
      exec (.parseStart) s = .next (
        ({ s with task.handbacks := s.task.handbacks.erase h } : State).placeHandback h)) ∧
  (∀ (p : Placing) (s : State), Can.dispatch p s = true →
      exec (.dispatch true false) s = .next (
        s.expWaits.place' p false)) ∧
  (∀ (p : Placing) (s : State), Can.dispatch_normal p s = true →
      exec (.dispatch false false) s = .next (
        s.place' p false)) ∧
  (∀ (tile : Fin 131072) (s : State), Can.entryTileRewrite tile s = true →
      exec (.entryTileRewrite tile) s = .next (
        s.rewriteProg tile)) ∧
  (∀ (c : Fin 68) (t : Fin 8) (i : Inst) (s : State), Can.runLimitExpiry c t i s = true →
      exec (.runLimitExpiry c t) s = .next (
        (s.bump .runLimitHit i.tg).fault c t .runLimit 0)) ∧
  (∀ (c : Fin 68) (t : Fin 8) (i : Inst) (s : State), Can.taskEndAccept c t i s = true →
      exec (.taskEndAccept c t) s = .next (
        s.taskEnd c t i)) ∧
  (∀ (od : Fin 4096) (r : Nat) (rest : List Nat) (s : State), Can.reedCommit od r rest s = true →
      exec (.reedCommit od) s = .next (
        ((s.reedActed od).commitRec r).passHead od)) ∧
  (∀ (od : Fin 4096) (r : Nat) (rest : List Nat) (s : State), Can.orderSkip od r rest s = true →
      exec (.orderSkip od) s = .next (
        let d := s.dom od
        let s1 := (((s.reedActed od).doneRec r true).passHead od).modDom od fun d =>
          { d with st := { d.st with orderSkip := satInc d.st.orderSkip } }
        if d.cfg.skipEvEn = 1 then s1.notice 0 0x0001 od (d.st.headSeq.setWidth 64) else s1)) ∧
  (∀ (c : Fin 68) (s : State), Can.watchdogVisit c s = true →
      exec (.watchdogVisit c) s = .next (
        s.modCore c fun k => { k with visitAt := some s.now, progress := false })) ∧
  (∀ (c : Fin 68) (s : State), Can.watchdogVisit_stopped c s = true →
      exec (.watchdogVisit c) s = .next (
        (s.modCore c fun k => { k with visitAt := some s.now }).noticed c)) ∧
  (∀ (c : Fin 68) (t : Nat) (s : State), Can.watchdogVisit_hang c t s = true →
      exec (.watchdogVisit c) s = .next (
        ((s.modCore c fun k => { k with visitAt := some s.now }).stopCore c t Cause.hang.code (s.th c t).pc 0).noticed c)) ∧
  (∀ (c : Fin 68) (s : State), Can.coreSelftestDone c s = true →
      exec (.coreSelftestDone c true) s = .next (
        (s.countStop c).joining c)) ∧
  (∀ (c : Fin 68) (s : State), Can.coreSelftestDone_fail c s = true →
      exec (.coreSelftestDone c false) s = .next (
        s.retire c)) ∧
  (∀ (c : Fin 68) (s : State), Can.coreJoinDone c s = true →
      exec (.coreJoinDone c) s = .next (
        s.modCore c fun k => { k.restarted with st := { k.st with state := 0 } })) ∧
  (∀ (c : Nat) (s : State), Can.spareTest c s = true →
      exec (.spareTest none) s = .next (
        ({ s with weft.underTest := some c, weft.nextSpare := c + 1, weft.spareAt := some s.wall } : State).modCore c fun k =>
          { k with st := { k.st with state := 3 } })) ∧
  (∀ (c : Nat) (s : State), Can.spareTest_done c s = true →
      exec (.spareTest (some true)) s = .next (
        ({ s with weft.underTest := none } : State).modCore c fun k => { k with st := { k.st with state := 1 } })) ∧
  (∀ (c : Fin 68) (s : State), Can.coreRetestDone c s = true →
      exec (.coreRetestDone c true) s = .next (
        let s1 := ({ s.bumpGen (.core, c) with
          host.devGen := nextGen s.host.devGen, selv.retired := s.selv.retired.filter (· ≠ c.val) } : State).modCore c fun k =>
          { k with st := { k.st with state := 1 } }
        (s1.reportDev 0x0106 c (put 288 0 (BitVec.ofNat 8 c.val) ||| put 288 8 (bit true))).finish
          (· == .coreRetest c) .ok (dat 16 ((bit true).setWidth 8)) []))

/-- Program, rule-set, delay and completion events complete with their effects. -/
def Obligations.ProgramAndCompletionEvents : Prop :=
  (∀ (tile : Fin 131072) (s : State), Can.programTileRewrite tile s = true →
      exec (.programTileRewrite tile) s = .next (
        s.rewriteProg tile)) ∧
  (∀ (c : Fin 68) (tile : Fin 131072) (t : Nat) (ts : List Nat) (s : State), Can.icacheFillDone c tile t ts s = true →
      exec (.icacheFillDone c tile false) s = .next (
        (t :: ts).foldl (fun (s : State) t => s.modTh c t fun h => { h with miss := none })
          (s.modCore c fun k => k.fillTile tile))) ∧
  (∀ (tile : Fin 131072) (s : State), Can.programStoreScrub s = true →
      exec (.programStoreScrub tile true) s = .next (
        s.rewriteProg tile)) ∧
  (∀ (n : Fin 64) (s : State), Can.progDrainEnd n s = true →
      exec (.progDrainEnd n) s = .next (
        (s.modProg n fun p => { p with draining := 0 }).finish (· == .progCommit n) .ok 0 [])) ∧
  (∀ (s : State), Can.rulesetDrainEnd s = true →
      exec (.rulesetDrainEnd) s = .next (
        { s with rules.state := .copying })) ∧
  (∀ (s : State), Can.rulesetCopyDone s = true →
      exec (.rulesetCopyDone) s = .next (
        let c := s.curBank
        let s1 := s.modStaged fun b => { c with version := b.version, inflight := b.inflight }
        ({ s1 with rules.state := .idle } : State).finish (fun w => w == Wait.rulesetCopy) .ok 0 [])) ∧
  (∀ (found : List (Bool × Fin 8192)) (s : State), Can.ruleScrub s = true →
      exec (.ruleScrub found) s = .next (
        let l := found.map fun (b, r) => (b, r.val)
        let rest := (s.rules.bank0.badRules.map fun r => (false, r)) ++ s.rules.bank1.badRules.map fun r => (true, r)
        (l ++ rest.filter fun x => !l.contains x).foldl (fun (s : State) x => s.rewriteRule x.1 x.2) s)) ∧
  (∀ (b : Bool) (kind : Fin 7) (idx : Fin 16384) (s : State), Can.rulesetTileRewrite s = true →
      exec (.rulesetTileRewrite b kind idx) s = .next (
        if kind = 4 then s.rewriteRule b idx.val
        else s.rewriteTile kind.val idx.val (put 288 0 (bit b)) (s.ruleObjOwner b kind.val idx.val))) ∧
  (∀ (i : Fin 4096) (s : State), Can.delayFire i s = true →
      exec (.delayFire i false) s = .next (
        (s.delayTaken (s.delay i).e.scale.toNat).fire i)) ∧
  (∀ (i : Fin 4096) (s : State), Can.delayFire_bad i s = true →
      exec (.delayFire i true) s = .next (
        let d := s.delay i
        let pay : Word := put 64 0 d.e.owner
        ((((s.delayTaken d.e.scale.toNat).freeDelayAt i).bump .delayParity 0).notice 0 0x0005 i pay).notice d.e.owner.toNat 0x0005 i pay)) ∧
  (∀ (k : Nat) (o : HelperOp) (out : List (Nat × List Byte)) (s : State), Can.helperCompletion k o out s = true →
      exec (.helperCompletion k) s = .next (
        (out.foldl (fun (s : State) w => s.lmWrite o.core (o.addr + w.1) w.2)
          ({ s with weft.ops := s.weft.ops.erase o } : State)).modTh o.core o.thread Thread.countDown)) ∧
  (∀ (c : Fin 68) (cp : Bool) (x : CpOp) (s : State), Can.coprocessorCompletion c cp x s = true →
      exec (.coprocessorCompletion c cp) s = .next (
        let r := s.cpRun c x
        (r.writes.foldl (fun (s : State) w => s.lmWrite c w.1 w.2)
          (r.state.drawn.modCore c fun k => { k with cpOps := k.cpOps.erase x })).modTh c x.thread Thread.countDown)) ∧
  (∀ (c : Fin 68) (cp : Bool) (x : CpOp) (a : Word) (s : State), Can.coprocessorCompletion_parity c cp x a s = true →
      exec (.coprocessorCompletion c cp) s = .next (
        ((s.cpRun c x).state.drawn.modCore c fun k => { k with cpOps := k.cpOps.erase x }).stopCore c x.thread
          Cause.lmParity.code x.pc a)) ∧
  (∀ (c : Fin 68) (t : Fin 8) (s : State), Can.breakpointHit c t s = true →
      exec (.breakpointHit c t) s = .next (
        (s.modTh c t fun h =>
          { h with st := .halted, from' := .running, skipBp := true, stepping := false, haltReq := false, haltAt := s.now }).finish
          (fun w => w == .debugHalt c.val t.val || w == .debugStep c.val t.val) .ok 0 [])) ∧
  (∀ (c : Fin 68) (t : Fin 8) (x : Attach) (s : State), Can.memTimeout c t x s = true →
      exec (.memTimeout c t) s = .next (
        s.fault c t .memTimeout (BitVec.ofNat 64 x.addr)))

/-- Lock, ring, egress and treadle events complete with their effects. -/
def Obligations.RingAndEgressEvents : Prop :=
  (∀ (n : Fin 4096) (h : LockHolder) (s : State), Can.leaseExpiry n h s = true →
      exec (.leaseExpiry n) s = .next (
        let s1 := (s.modLk n fun k => { k with expired := some h, st.expiries := satInc k.st.expiries }).abandon n
        if (s.lk n).cfg.expEvEn = 1 then s1.notice (s.lk n).cfg.owner.toNat 0x0004 n (h.word.setWidth 64) else s1)) ∧
  (∀ (n : Fin 4096) (lo hi : Nat) (s : State), Can.ringPointerMismatch n s = true →
      exec (.ringPointerMismatch (.general n) lo hi) s = .next (
        s.modRing n fun g => { g with resetting := true })) ∧
  (∀ (n : Fin 512) (lo hi : Nat) (s : State), Can.ringPointerMismatch_host n s = true →
      exec (.ringPointerMismatch (.host n) lo hi) s = .next (
        s.modHr n fun g => { g with resetting := true })) ∧
  (∀ (p : Fin 34) (x : Bool) (lo hi : Nat) (s : State), Can.ringPointerMismatch_warp s = true →
      exec (.ringPointerMismatch (.warp p x) lo hi) s = .next (
        let n := (s.warp p).n x
        s.modWarpRing p x fun w =>
          if w.resetting then w
          else { w with resetting := true, resetRange := some (w.l - lo, min (w.w + hi) (w.l - lo + n)) })) ∧
  (∀ (n : Fin 512) (bad : List Nat) (items : List (BitVec 128)) (s : State), Can.ringResetDone_warp s = true →
      exec (.ringResetDone (.host n) bad items) s = .next (
        s.hostRingReset n items)) ∧
  (∀ (n : Fin 4096) (bad : List Nat) (items : List (BitVec 128)) (s : State), Can.ringResetDone n s = true →
      exec (.ringResetDone (.general n) bad items) s = .next (
        ((s.modRing n fun g => { g.discard with resetting := false, ptrResets := satInc g.ptrResets }).noMessages n).report
          0x0301 (BitVec.ofNat 32 n) 0 (s.ring n).cfg.owner.toNat)) ∧
  (∀ (p : Fin 34) (x : Bool) (bad : List Nat) (items : List (BitVec 128)) (s : State), Can.ringResetDone_warp s = true →
      exec (.ringResetDone (.warp p x) bad items) s = .next (
        s.warpResetDone p x bad)) ∧
  (∀ (p : Fin 52) (bad : Bool) (s : State), Can.portSelect s = true →
      exec (.portSelect p bad) s = .next (
        s.select p bad)) ∧
  (∀ (p : Fin 52) (f : TxFrame) (s : State), Can.txComplete p f s = true →
      exec (.txComplete p) s = .next (
        let s1 := s.modPort p fun t => { t with tx := none }.preemptSettle
        ((((s1.overrun p f).bump .txFrames p).bumpBy .txBytes p f.bytes.length).entryGone
          (Desc.ofTile f.entry.desc).buf f.pkt).outward p f)) ∧
  (∀ (q : Fin 7680) (x : QEnt) (rest : List QEnt) (s : State), Can.launchDue q x rest s = true →
      exec (.launchDue q) s = .next (
        s.select (s.queue q).cfg.port.toNat false)) ∧
  (∀ (q : Fin 7680) (x : QEnt) (r : List QEnt) (s : State), Can.spillRefill q x r s = true →
      exec (.spillRefill q false) s = .next (
        let u := s.queue q
        let a := u.headAddr
        let s1 := (s.cacheRange 2 a 64 false).modQueue q fun u => { u with dram := r }
        s1.modQueue q fun u =>
          { u with onchip := u.onchip ++ [{ x with e := QEntry.ofTile (leBits 512 (Mem.read s1.dram.mem a 64)) }] })) ∧
  (∀ (p : Fin 52) (n : Nat) (s : State), Can.prefetchComplete p n s = true →
      exec (.prefetchComplete p) s = .next (
        (s.modQueue n fun u =>
          { u with onchip := match u.onchip with | x :: r => { x with fetched := true } :: r | [] => [] }).modPortTm p
            fun t => { t with prefetchAt := n })) ∧
  (∀ (q : Fin 8192) (s : State), Can.telemetrySample q s = true →
      exec (.telemetrySample q) s = .next (
        let u := s.queue q
        let late := decide (u.sampleAt + 1000 < s.now)
        let p := if q.val < 7680 then u.cfg.port.toNat else 48 + (s.fabLinkOf q).getD 0
        let gate := p ≥ 33 || (s.treadle p).st.curShed.getLsbD (u.tc q)
        let it : BitVec 512 := put 512 0 (BitVec.ofNat 16 q) ||| put 512 16 (bit (!u.dram.isEmpty)) ||| put 512 17 (bit gate) |||
          put 512 18 (bit (s.panics p)) ||| put 512 19 (bit late) ||| put 512 24 u.sampleSeq |||
          put 512 32 (satNat 32 u.ents.length) ||| put 512 64 (satNat 32 u.bytes) |||
          put 512 96 (satNat 32 (s.headAge u)) ||| put 512 128 (satNat 32 u.maxSojourn) |||
          put 512 160 (satNat 32 u.txSince) ||| put 512 192 (satNat 32 u.dropSince) |||
          put 512 224 (s.wall.extractLsb' 10 32)
        { (ringPush s u.cfg.telemRing.toNat it).1.modQueue q fun u =>
            { u with maxSojourn := 0, txSince := 0, dropSince := 0, sampleSeq := u.sampleSeq + 1
                     sampleAt := u.cfg.nextSample u.sampleAt } with tm.sampledAt := s.now })) ∧
  (∀ (p : Fin 33) (s : State), Can.treadleEntryBegin p s = true →
      exec (.treadleEntryBegin p) s = .next (
        (s.modTreadle p fun d =>
          d.enter s.now (s.scaleNow (s.treadle p).st.activeScale.toNat) (hdrCount d.actHdr) 0 0).holdTx p)) ∧
  (∀ (p : Fin 33) (s : State), Can.treadleEntryBegin_next p s = true →
      exec (.treadleEntryBegin p) s = .next (
        (s.modTreadle p fun d => d.enter s.now (s.scaleNow (s.treadle p).st.activeScale.toNat) (hdrCount d.actHdr) d.cycle
          (d.st.curEntry.toNat + 1)).holdTx p)) ∧
  (∀ (p : Fin 33) (s : State), Can.treadleSwitch p s = true →
      exec (.treadleSwitch p) s = .next (
        (s.modTreadle p fun d =>
          let cut := d.st.active = 1 ∧ !d.onGrid
          let d1 : Treadle := { d with
            actHdr := d.pendHdr, act := d.pend, badEnts := [], foundBad := [], jumps := 0
            st := { d.st with active := 1, activeScale := d.pendHdr.scale, activeCount := d.pendHdr.count, pending := 2
                              activeStart := d.st.pendingStart, pendingStart := 0, cycles := 0
                              treadleCut := if cut then satInc d.st.treadleCut else d.st.treadleCut } }
          d1.enter s.now (s.scaleNow d.pendHdr.scale.toNat) (hdrCount d.pendHdr) 0 0).holdTx p)) ∧
  (∀ (p : Fin 33) (s : State), Can.treadleCopyDone p s = true →
      exec (.treadleCopyDone p) s = .next (
        s.modTreadle p fun d => { d with pendHdr := d.actHdr, pend := d.act, st.pending := 0 })) ∧
  (∀ (p : Fin 33) (i : Fin 1024) (s : State), Can.treadleEntryRewrite p i s = true →
      exec (.treadleEntryRewrite p i) s = .next (
        let pay := put 288 0 (BitVec.ofNat 16 p) ||| put 288 16 (BitVec.ofNat 16 i)
        (((s.modTreadle p fun d => d.mend i).holdTx p).reportDev 0x0201 p pay).reportDev 0x0203 p pay)) ∧
  (∀ (p : Fin 33) (s : State), Can.treadleReposition p s = true →
      exec (.treadleReposition p) s = .next (
        ((s.modTreadle p fun d => { d with jumps := d.jumps - 1, st.treadleStep := satInc d.st.treadleStep }).modTreadle p fun d =>
          d.enter s.now (s.scaleNow d.st.activeScale.toNat) 0 (d.posOf (s.scaleNow d.st.activeScale.toNat)).1
            (d.posOf (s.scaleNow d.st.activeScale.toNat)).2).holdTx p))

/-- Table ageing, scrub and route events complete with their effects. -/
def Obligations.TableEvents : Prop :=
  (∀ (s : State), Can.ageTick s = true →
      exec (.ageTick) s = .next (
        s.ageTicks)) ∧
  (∀ (n : Fin 262144) (s : State), Can.stationAgerVisit n s = true →
      exec (.stationAgerVisit n) s = .next (
        let e := s.station n
        let o := e.owner.toNat
        ((s.freeSlot 0 n).bump .stAged o).learnItem o e.mac e.fid 4 e.port.toNat e.port.toNat n)) ∧
  (∀ (n : Fin 64) (f : Flush) (s : State), Can.flushWalkEnd n f s = true →
      exec (.flushWalkEnd n) s = .next (
        let go := f.slots.filter fun i => !s.awaits 0 i
        let s1 : State := go.foldl (fun s i => s.freeSlot 0 i) { s with tab.flushes := s.tab.flushes.erase f }
        (s1.bumpBy .stFlushed n go.length).finish (· == .stationFlush n) .ok (dat 16 (BitVec.ofNat 32 go.length)) [])) ∧
  (∀ (n : Fin 262144) (f : Option SlotFault) (x : SlotFault) (s : State), Can.tableScrub 0 n f x s = true →
      exec (.tableScrub (.station n) f) s = .next (
        s.noteFault 0 n x)) ∧
  (∀ (n : Fin 131072) (f : Option SlotFault) (x : SlotFault) (s : State), Can.tableScrub 2 n f x s = true →
      exec (.tableScrub (.route n) f) s = .next (
        s.noteFault 2 n x)) ∧
  (∀ (n : Fin 1048576) (s : State), Can.tableScrub_stream n s = true →
      exec (.tableScrub (.stream n) none) s = .next (
        s.seqReset n)) ∧
  (∀ (n : Fin 65536) (h : Bool) (s : State), Can.mirrorRepair n h s = true →
      exec (.mirrorRepair n) s = .next (
        let o := s.slotOwner 1 n
        (({ s with tab.badHalf := s.tab.badHalf.filter fun p => p.1 ≠ n.val } : State).tabReport 0x0203 1 n o).bump .restored o)) ∧
  (∀ (tb : Fin 3) (n : Fin 1048576) (t : Tile) (s : State), Can.tableRestoreDone tb n t s = true →
      exec (.tableRestoreDone tb n (some t)) s = .next (
        ((((s.takeCopy tb n (s.slotOwner tb n) t).getD s).settle tb n).tabReport 0x0203 tb n (s.slotOwner tb n)).bump .restored (s.slotOwner tb n))) ∧
  (∀ (tb : Fin 3) (n : Fin 1048576) (s : State), Can.tableRestoreDone_lost tb n s = true →
      exec (.tableRestoreDone tb n none) s = .next (
        ((s.freeSlot tb n).tabReport 0x0A01 tb n (s.slotOwner tb n)).bump .lost (s.slotOwner tb n))) ∧
  (∀ (s : State), Can.routeRebuild s = true →
      exec (.routeRebuild) s = .next (
        { s with tab.routeDamaged := false }))

/-- Table-cache and DRAM events complete with their effects. -/
def Obligations.MemoryEvents : Prop :=
  (∀ (i : Fin 262144) (l : CacheLine) (s : State), Can.cacheFillDone i l s = true →
      exec (.cacheFillDone i) s = .next (
        (s.setLine i (some { l with filling := false })).serveLines fun x => x.line = l.line)) ∧
  (∀ (l : CacheLine) (r : List CacheLine) (s : State), Can.writebackDone l r s = true →
      exec (.writebackDone false) s = .next (
        s.evbRetire)) ∧
  (∀ (i : Fin 262144) (l : CacheLine) (s : State), Can.lineClean i l s = true →
      exec (.lineClean i false) s = .next (
        { s.setLine i (some { l with dirty := false, since := 0, old := 0 }) with
          dram.cacheSt.writebacks := satInc s.dram.cacheSt.writebacks })) ∧
  (∀ (i : Fin 262144) (e : LineFault) (s : State), Can.cacheScrub s = true →
      exec (.cacheScrub i (some e)) s = .next (
        s.lineFault i e)) ∧
  (∀ (m : Maint) (r : List Maint) (s : State), Can.cacheMaintDone m r s = true →
      exec (.cacheMaintDone []) s = .next (
        ({ (s.badWays.foldl (fun (s : State) i => s.maintFault m i) s).maintain m with dram.maint := r } : State).finish (· == .cacheMaint) .ok 0 [])) ∧
  (∀ (s : State), Can.cacheFlushDone s = true →
      exec (.cacheFlushDone) s = .next (
        s.cacheOff.finish (· == .cacheFlush) .ok 0 [])) ∧
  (∀ (s : State), Can.requestAged s = true →
      exec (.requestAged) s = .next (
        { s with dram.st.agedReq := satInc s.dram.st.agedReq })) ∧
  (∀ (s : State), Can.refreshDeadline s = true →
      exec (.refreshDeadline) s = .next (
        { s with dram.st.refForced := satInc s.dram.st.refForced })) ∧
  (∀ (hot : Bool) (s : State), Can.refreshRateRead s = true →
      exec (.refreshRateRead hot) s = .next (
        { s with dram.st.hotRefresh := bit hot, dram.rateAt := s.now + 64000000 })) ∧
  (∀ (s : State), Can.driftTrack s = true →
      exec (.driftTrack) s = .next (
        let last : Bool := decide (s.ranks ≤ s.dram.trackRank + 1)
        { s with dram.st.trackUpdates := satInc s.dram.st.trackUpdates
                 dram.trackRank := if last then 0 else s.dram.trackRank + 1
                 dram.trackAt := if last then s.now + 64000000 else s.dram.trackAt })) ∧
  (∀ (counts : BitVec 64) (s : State), Can.ecsRead s = true →
      exec (.ecsRead counts) s = .next (
        { s with dram.st.ecsCounts := if (DramBoard.ofTile s.dram.board).chMask = 3 then counts else counts &&& 0xFFFFFFFF
                 dram.ecsAt := s.now + 3600000000000 }))

/-- Fabric, link and twin events complete with their effects. -/
def Obligations.FabricAndTwinEvents : Prop :=
  (∀ (k : Fin 4) (x : LinkRx) (f : FabFrame) (s : State), Can.fabricDataReceive k x f s = true →
      exec (.fabricDataReceive k x) s = .next (
        (s.linkTake k x).1.dataArrive k f)) ∧
  (∀ (k : Fin 4) (x : LinkRx) (f : FabFrame) (s : State), Can.fabricCommandReceive k x f s = true →
      exec (.fabricCommandReceive k x) s = .next (
        (s.linkTake k x).1.commandArrive k f)) ∧
  (∀ (k : Fin 4) (x : LinkRx) (f : FabFrame) (s : State), Can.fabricReplyReceive k x f s = true →
      exec (.fabricReplyReceive k x) s = .next (
        (s.linkTake k x).1.replyArrive f)) ∧
  (∀ (k : Fin 4) (x : LinkRx) (f : FabFrame) (s : State), Can.helloReceive k x f s = true →
      exec (.helloReceive k x) s = .next (
        (s.linkTake k x).1.helloArrive k f)) ∧
  (∀ (s : State), Can.helloSend s = true →
      exec (.helloSend) s = .next (
        (List.range 4).foldl (fun (s : State) k =>
          if (s.link k).cfg.enable = 1 ∧ (s.link k).lock then s.linkSend k (s.hello k) else s)
          { s with fab.helloDue := s.now + 10000 })) ∧
  (∀ (k : Fin 4) (x : LinkRx) (f : FabFrame) (s : State), Can.discoverReceive k x f s = true →
      exec (.discoverReceive k x) s = .next (
        (s.linkTake k x).1.discoverArrive k f)) ∧
  (∀ (k : Fin 4) (x : LinkRx) (f : FabFrame) (s : State), Can.answerReceive k x f s = true →
      exec (.answerReceive k x) s = .next (
        (s.linkTake k x).1.answerArrive f)) ∧
  (∀ (t : Nat) (s : State), Can.discoverWindowEnd t s = true →
      exec (.discoverWindowEnd) s = .next (
        let first := ((s.host.deferred.find? fun d => d.wait = .discover).map fun d => d.cmd.u8 16).getD 0
        let ts := (List.range 64).flatMap fun i =>
          if i < first then [] else s.fab.disc.answers.filter fun a => a.extractLsb' 72 8 = BitVec.ofNat 8 i
        ({ s with fab.disc.until' := none, fab.disc.answers := [] } : State).finish (fun w => w == Wait.discover) .ok
          (dat 16 (BitVec.ofNat 8 s.fab.disc.answers.length)) ts)) ∧
  (∀ (serial : Word) (t : Nat) (s : State), Can.fabricIdSetTimeout serial t s = true →
      exec (.fabricIdSetTimeout) s = .next (
        ({ s with fab.idSet := none } : State).finish (fun w => w == Wait.idSet) .unreachable 0 [])) ∧
  (∀ (k : Fin 4) (x : LinkRx) (f : FabFrame) (s : State), Can.lsaReceive k x f s = true →
      exec (.lsaReceive k x) s = .next (
        (s.linkTake k x).1.lsaArrive k f)) ∧
  (∀ (s : State), Can.lsaFlood s = true →
      exec (.lsaFlood) s = .next (
        let s1 : State := { s with fab.ownLsaSeq := s.fab.ownLsaSeq + 1, fab.lsaDue := s.now + 1000000 }
        ({ s1 with fab.lsas := Tab.set none s1.fab.lsas Config.serial.toNat (some s1.ownLsa) } : State).flood s1.ownLsa.frame none)) ∧
  (∀ (s : State), Can.idConflictClear s = true →
      exec (.idConflictClear) s = .next (
        ({ s with fab.st.idState := if s.selv.fabricId.isSome then 1 else 0 } : State).floodLsa)) ∧
  (∀ (s : State), Can.routeRecompute s = true →
      exec (.routeRecompute) s = .next (
        s.recompute)) ∧
  (∀ (k : Fin 4) (e : RetryEnt) (rest : List RetryEnt) (seq : BitVec 12) (s : State), Can.linkAckReceive k e rest seq s = true →
      exec (.linkAckReceive k false seq) s = .next (
        s.modLink k fun l => { l with retry := l.retry.drop ((seq.toNat + 4096 - e.seq) % 4096 + 1), ackAt := s.now })) ∧
  (∀ (k : Fin 4) (e : RetryEnt) (rest : List RetryEnt) (seq : BitVec 12) (s : State), Can.linkAckReceive_nak k e rest seq s = true →
      exec (.linkAckReceive k true seq) s = .next (
        (s.acked k ((seq.toNat + 4096 - e.seq) % 4096)).resend k 0)) ∧
  (∀ (k : Fin 4) (e : RetryEnt) (rest : List RetryEnt) (s : State), Can.retryTimeout k e rest s = true →
      exec (.retryTimeout k) s = .next (
        s.resend k 0)) ∧
  (∀ (k : Fin 4) (s : State), Can.fabricLinkDown k s = true →
      exec (.fabricLinkDown k .alignment) s = .next (
        s.linkFail k)) ∧
  (∀ (k : Fin 4) (s : State), Can.fabricLinkDown_hello k s = true →
      exec (.fabricLinkDown k .hello) s = .next (
        s.linkFail k)) ∧
  (∀ (n : Fin 2048) (s : State), Can.fabHoldExpiry n s = true →
      exec (.fabHoldExpiry n) s = .next (
        s.endHold n)) ∧
  (∀ (s : State), Can.heartbeatSend s = true →
      exec (.heartbeatSend) s = .next (
        ({ s with fab.hbDue := s.now + 1000 } : State).heartbeats false)) ∧
  (∀ (k : Fin 4) (x : LinkRx) (f : FabFrame) (s : State), Can.heartbeatReceive k x f s = true →
      exec (.heartbeatReceive k x) s = .next (
        (s.linkTake k x).1.heartbeatArrive f)) ∧
  (∀ (p : Fin 4) (s : State), Can.heartbeatPathLoss p s = true →
      exec (.heartbeatPathLoss p) s = .next (
        { s with fab.hb := Tab.set {} s.fab.hb p {} })) ∧
  (∀ (p : Fin 4) (s : State), Can.heartbeatPathLoss_shadow p s = true →
      exec (.heartbeatPathLoss p) s = .next (
        ({ s with fab.hb := Tab.set {} s.fab.hb p {} } : State).takeover)) ∧
  (∀ (s : State), Can.timeSend s = true →
      exec (.timeSend) s = .next (
        ({ s with fab.timeDue := s.now + 1000000 } : State).flood
          { kind := 8, dest := 63, port := 63, src := s.devId
            extra := put 40 32 s.time.st.wallUnsync ||| put 40 33 s.timeLink } none)) ∧
  (∀ (k : Fin 4) (x : LinkRx) (delay off : Int) (f : FabFrame) (s : State), Can.timeReceive k x f s = true →
      exec (.timeReceive k x delay off) s = .next (
        (s.linkTake k x).1.timeArrive k delay off f)) ∧
  (∀ (e : RemoteCmd) (s : State), Can.cmdTimeoutExpiry e s = true →
      exec (.cmdTimeoutExpiry) s = .next (
        ({ s with fab.remote := s.fab.remote.erase e } : State).remoteDone e
          { opcode := e.opcode, status := .timeout, device := s.devId.setWidth 8, seq := e.cmd.seq, handle := e.cmd.handle })) ∧
  (∀ (t : Nat) (s : State), Can.twinListenEnd t s = true →
      exec (.twinListenEnd) s = .next (
        { s with sys.listen := none })) ∧
  (∀ (t : Nat) (s : State), Can.twinListenEnd_heard t s = true →
      exec (.twinListenEnd) s = .next (
        ({ s with sys.listen := none, sys.modeChange := none } : State).finish (· == .modeSet) .busy 0 [])) ∧
  (∀ (k : Fin 4) (s : State), Can.fabricBlockLock k s = true →
      exec (.fabricBlockLock k) s = .next (
        s.modLink k fun l => { l with st.state := 2, lock := true, helloRun := 0, helloAt := s.now }))

/-- Mode, Selvedge, start-up and board events complete with their effects. -/
def Obligations.ModeAndBoardEvents : Prop :=
  (∀ (old new : Mode) (s : State), Can.modeChangeDone old new s = true →
      exec (.modeChangeDone) s = .next (
        let beat := decide (s.sys.mode = .run) && (decide (new = .hold) || decide (new = .shadow))
        (({ s with sys.modeChange := none } : State).enterMode new beat).modeGen.finish (· == .modeSet) .ok 0 [])) ∧
  (∀ (old : Mode) (s : State), Can.modeChangeDone_safe old s = true →
      exec (.modeChangeDone) s = .next (
        let t := (({ s with sys.modeChange := none } : State).enterMode .safe (s.sys.mode = .run)).modeGen.finish
          (· == .modeSet) .ok 0 []
        { t with sys.safeSince := some t.now, sys.autoRestart := false, selv.safeStarts := t.selv.safeStarts + 1 })) ∧
  (∀ (s : State), Can.cpWatchdog s = true →
      exec (.cpWatchdog) s = .next (
        s.fatal 0x0D0C 0 0)) ∧
  (∀ (e : SelvEntry) (s : State), Can.selvedgeWrite e s = true →
      exec (.selvedgeWrite true) s = .next (
        let s1 : State := { s with selv.queue := s.selv.queue.erase e, selv.writeAt := s.now + 2000 }
        ((s1.storeEntry e (s1.recordTile e)).clearedNote e).droppedNote)) ∧
  (∀ (e : SelvEntry) (s : State), Can.selvedgeWrite_fail e s = true →
      exec (.selvedgeWrite false) s = .next (
        let s1 : State := { s with selv.queue := s.selv.queue.erase e, selv.writeAt := s.now + 2000 }
        ((s1.storeEntry { e with code := 0 } s1.badTile).drawn.drawn.clearedNote e).fatal 0x0701 0 0)) ∧
  (∀ (s : State), Can.powerFail s = true →
      exec (.powerFail) s = .next (
        let pay : BitVec 288 := put 288 0 s.sys.mode.code ||| put 288 32 s.host.devGen ||| put 288 64 (satNat 32 s.selv.queue.length)
        let e : SelvEntry := { area := 0, code := 0x0D07, mode := s.sys.mode, wall := s.wall, handle := 0, payload := pay }
        let s1 : State := { s with selv := { s.selv.dropSnap.putRing 0 (s.recordTile e) with queue := [], stopped := true } }
        let s2 : State := { s1 with host.evCtr := Tab.upd 0 s1.host.evCtr 0x0D07 satInc }
        (s2.postItem 0 0x0D07 0 0 pay).finish (· == .selvedgeClear) .internal 0 [])) ∧
  (∀ (s : State), Can.powerRestored s = true →
      exec (.powerRestored) s = .next (
        ({ s with selv.stopped := false } : State).reportDev 0x0D08 0 0)) ∧
  (∀ (straps : BitVec 6) (s : State), Can.reset s = true →
      exec (.reset (.powerOn straps)) s = .next (
        let t := s.afterReset 0
        { t with sys := { t.sys with idSel := straps, thermTrip := false, thermAlert := false, refLost := [] } })) ∧
  (∀ (straps : BitVec 6) (s : State), Can.reset_n s = true →
      exec (.reset (.resetN straps)) s = .next (
        { s.afterReset 1 with sys.idSel := straps })) ∧
  (∀ (e : StepEnd) (s : State), Can.startupStepDone e s = true →
      exec (.startupStepDone e) s = .next (
        s.stepPassed e)) ∧
  (∀ (e : StepEnd) (s : State), Can.startupStepDone_fail e s = true →
      exec (.startupStepDone e) s = .next (
        s.stepFailed 0)) ∧
  (∀ (s : State), Can.stepLimitExpiry s = true →
      exec (.stepLimitExpiry) s = .next (
        s.stepFailed 0)) ∧
  (∀ (s : State), Can.bootWdg s = true →
      exec (.bootWdg) s = .next (
        s.afterReset 3)) ∧
  (∀ (s : State), Can.autoRestart s = true →
      exec (.autoRestart) s = .next (
        s.deviceReset 4)) ∧
  (∀ (s : State), Can.refclkLoss s = true →
      exec (.refclkLoss .k) s = .next (
        (List.range 4).foldl (fun (s : State) k => if (s.link k).cfg.enable = 1 then s.linkFail k else s)
          { s with sys.refLost := Tab.set false s.sys.refLost 2 true })) ∧
  (∀ (s : State), Can.refclkLoss_pcie s = true →
      exec (.refclkLoss .pcie) s = .next (
        ({ s with sys.refLost := Tab.set false s.sys.refLost 3 true } : State).hostReset)) ∧
  (∀ (hot : Bool) (s : State), Can.thermAlert hot s = true →
      exec (.thermAlert hot) s = .next (
        ({ s with sys.thermAlert := hot } : State).emit (.thermAlert hot))) ∧
  (∀ (s : State), Can.thermTrip s = true →
      exec (.thermTrip) s = .next (
        ({ s with sys.thermTrip := true } : State).emit .thermTrip)) ∧
  (∀ (n : Snapshot) (s : State), Can.snapshotCopyDone n s = true →
      exec (.snapshotCopyDone) s = .next (
        { s with host.snapshot := some { n with staging := false } })) ∧
  (∀ (n : Snapshot) (s : State), Can.snapshotDone n s = true →
      exec (.snapshotDone) s = .next (
        let live := (if n.flags.getLsbD 0 then (snapSlices n.slice).flatMap s.snapTable else []) ++
          (if n.flags.getLsbD 1 then s.snapCounters n.slice else [])
        let body := n.tiles ++ live.flatten
        let head := sealTile (put 512 0 (1 : BitVec 16) ||| put 512 16 n.flags ||| put 512 32 n.devGen |||
          put 512 64 n.wall ||| put 512 128 Config.serial ||| put 512 192 (BitVec.ofNat 32 (n.records + live.length)) |||
          put 512 224 (BitVec.ofNat 32 (body.length + 1)) ||| put 512 256 (BitVec.ofNat 8 n.slice))
        let s1 := (body.zipIdx).foldl (fun (s : State) (p : Tile × Nat) =>
          s.emit (.hostTile n.slice (n.addr + BitVec.ofNat 64 (64 * (p.2 + 1))) p.1)) s
        ({ s1.emit (.hostTile n.slice n.addr head) with host.snapshot := none } : State).finish (· == .snapshot) .ok
          (dat 16 n.devGen ||| dat 20 (BitVec.ofNat 32 (body.length + 1))) [])) ∧
  (∀ (s : State), Can.sysXinLoss s = true →
      exec (.sysXinLoss) s = .next (
        { s with sys := { s.sys with xinLost := true, stopped := true } })) ∧
  (∀ (c : RefClk) (s : State), Can.refclkRestore s = true →
      exec (.refclkRestore c) s = .next (
        { s with sys.refLost := Tab.set false s.sys.refLost (refIdx c) false }))

/-- Stream, station, address, meter and counter requests complete with their results. -/
def Obligations.LookupAndCounterRequests : Prop :=
  (∀ (k : Nat) (fs : List (Nat × SlotFault)) (o : HelperOp) (n : Nat) (s : State), Can.hStreamFind k fs o n s = true →
      exec (.hStreamFind k fs) s = .next (
        Served.close
          { state := (s.seLook o.slice (seKey (BitVec.ofNat 6 o.slice) (leBits 48 (o.b 8 6)) (BitVec.ofNat 12 (o.u 16 2)) (BitVec.ofNat 16 (o.u 18 2))) false fs).1
            out := [(24, bytesOf (s.stream n).flags 4 ++ bytesOf ((s.stream n).policer.setWidth 32) 4 ++
              bytesOf (BitVec.ofNat 32 n) 4 ++ bytesOf ((s.stream n).queue.setWidth 16) 2)] } o)) ∧
  (∀ (k : Nat) (fs : List (Nat × SlotFault)) (o : HelperOp) (n : Nat) (s : State), Can.hFindPinned k fs o n s = true →
      exec (.hFindPinned k fs) s = .next (
        Served.close
          { state := (s.seLook o.slice (seKey (BitVec.ofNat 6 o.slice) (leBits 48 (o.b 8 6)) (BitVec.ofNat 12 (o.u 16 2)) (BitVec.ofNat 16 (o.u 18 2))) true fs).1
            out := [(24, bytesOf (s.stream n).flags 4 ++ bytesOf ((s.stream n).policer.setWidth 32) 4 ++
              bytesOf (BitVec.ofNat 32 n) 4 ++ bytesOf ((s.stream n).queue.setWidth 16) 2)] } o)) ∧
  (∀ (k : Nat) (fs : List (Nat × SlotFault)) (o : HelperOp) (r : Nat) (num : BitVec 16) (s : State), Can.hSeqRecv k fs o r num s = true →
      exec (.hSeqRecv k fs) s = .next (
        let n := o.u 8 4
        let s1 := (seqHandle fs s o).1
        let s2 := s1.modRecd o fun r => { r with didRecv := true }
        let c := (s2.stream n).seqC
        let s3 := s2.seqReset n
        let x := (s3.stream n).seq.recv c num s3.wall
        let st := if x.2 ≤ 3 then 0x00 else 0x39
        let s4 := (s3.putStream n ((s3.stream n).withSeq x.1)).countRecv o.slice x.2
        Served.close
          { state := s4.modRec r fun y =>
              { y with seqRecv := some { handle := n, num := num, status := st, detail := x.2
                                         copyB := if c.copyB = 1 ∧ st = 0 then some c.queueB.toNat else none
                                         strip := st = 0 && c.mode = 1 && c.strip = 1 } }
            status := st, detail := x.2, out := [(16, bytesOf (num.setWidth 32) 4)] } o)) ∧
  (∀ (k : Nat) (fs : List (Nat × SlotFault)) (o : HelperOp) (r : Nat) (s : State), Can.hSeqGen k fs o r s = true →
      exec (.hSeqGen k fs) s = .next (
        let n := o.u 8 4
        let s1 := (seqHandle fs s o).1
        let s2 := s1.modRecd o fun r => { r with didGen := true }
        let c := (s2.stream n).seqC
        let q := (s2.stream n).seq
        Served.close
          { state := ((s2.putStream n ((s2.stream n).withSeq { q with genSeq := q.genSeq + 1 })).bump .srGen o.slice).modRec r
              fun y => { y with seqGen := some { handle := n, num := q.genSeq, status := 0, detail := 0
                                                 copyB := if c.copyB = 1 then some c.queueB.toNat else none, prp := c.mode = 1 } }
            out := [(16, bytesOf (q.genSeq.setWidth 32) 4)] } o)) ∧
  (∀ (k : Nat) (fs : List (Nat × SlotFault)) (o : HelperOp) (n : Nat) (s : State), Can.hStationFind k fs o n s = true →
      exec (.hStationFind k fs) s = .next (
        let s1 := (s.stLook o.slice (leBits 48 (o.b 8 6)) (BitVec.ofNat 12 (o.u 14 2)) fs).1
        let e := s.station n
        Served.close
          { state := if (nthByte o.block 16).getLsbD 0 && e.staticV = 0 then s1.putStation n { e with age := s1.tab.now16 } else s1
            out := [(20, bytesOf (e.port.setWidth 8) 1 ++ bytesOf (e.dev.setWidth 8) 1 ++
                bytesOf ((e.qvalid ++ e.dstDrop ++ e.srcDrop ++ e.staticV).setWidth 8) 1),
              (24, bytesOf (e.queue.setWidth 16) 2), (28, bytesOf (BitVec.ofNat 32 n) 4)] } o)) ∧
  (∀ (k : Nat) (fs : List (Nat × SlotFault)) (o : HelperOp) (s : State), Can.hLearn k fs o s = true →
      exec (.hLearn k fs) s = .next (
        let mac : BitVec 48 := leBits 48 (o.b 8 6)
        let fid := BitVec.ofNat 12 (o.u 14 2)
        let s1 := s.noteFaults 0 (s.stCands (stKey (BitVec.ofNat 6 o.slice) mac fid)) fs
        let x := s1.learn o.slice mac fid (o.u 16 1)
        Served.close { state := x.1, detail := x.2.1, out := [(28, bytesOf (BitVec.ofNat 64 x.2.2) 4)] } o)) ∧
  (∀ (k : Nat) (path entry : Bool) (o : HelperOp) (n : Nat) (s : State), Can.hFind4 k path entry o n s = true →
      exec (.hFind4 k path entry) s = .next (
        let e := s.rt n
        Served.close
          { state := (s.rtLook o.slice 0 (leBits 128 (o.b 8 (routeWidth 0 / 8))) path entry).1
            out := [(24, bytesOf e.nhMac 6 ++ bytesOf (e.nhVid.setWidth 16) 2 ++ bytesOf ((e.qvalid ++ e.queue).setWidth 16) 2 ++
                bytesOf (e.outPort.setWidth 8) 1 ++ bytesOf (e.destDev.setWidth 8) 1 ++ bytesOf (e.ract.setWidth 8) 1 ++
                bytesOf e.plen 1), (40, bytesOf e.rcounter 4)] } o)) ∧
  (∀ (k : Nat) (path entry : Bool) (o : HelperOp) (n : Nat) (s : State), Can.hFind6 k path entry o n s = true →
      exec (.hFind6 k path entry) s = .next (
        let e := s.rt n
        Served.close
          { state := (s.rtLook o.slice 1 (leBits 128 (o.b 8 (routeWidth 1 / 8))) path entry).1
            out := [(24, bytesOf e.nhMac 6 ++ bytesOf (e.nhVid.setWidth 16) 2 ++ bytesOf ((e.qvalid ++ e.queue).setWidth 16) 2 ++
                bytesOf (e.outPort.setWidth 8) 1 ++ bytesOf (e.destDev.setWidth 8) 1 ++ bytesOf (e.ract.setWidth 8) 1 ++
                bytesOf e.plen 1), (40, bytesOf e.rcounter 4)] } o)) ∧
  (∀ (k : Nat) (o : HelperOp) (s : State), Can.hMeter k o s = true →
      exec (.hMeter k) s = .next (
        let n := o.u 8 4
        let x := s.meter n (o.u 12 2)
        Served.close
          { state := if x.2 ≠ 0 ∧ (s.policer n).cfg.dropForce = 1 then
                (match x.1.recordOf o with
                  | some r => x.1.modRec r fun y => { y with forced := some (y.forced.getD n) }
                  | none => x.1)
              else x.1
            status := if x.2 = 0 then 0 else 0x38, detail := x.2 } o)) ∧
  (∀ (k : Nat) (o : HelperOp) (s : State), Can.hCounterAdd k o s = true →
      exec (.hCounterAdd k) s = .next (
        Served.close
          { state := { s with host.pairs := Tab.upd (0, 0) s.host.pairs (o.u 8 4) fun (p, b) =>
              (satAdd p (o.u 16 4), satAdd b (o.u 20 4)) } } o)) ∧
  (∀ (k : Nat) (o : HelperOp) (s : State), Can.hCounterHelperRead k o s = true →
      exec (.hCounterHelperRead k) s = .next (
        let v := Tab.get (0, 0) s.host.pairs (o.u 8 4)
        Served.close
          { state := if (nthByte o.block 12).getLsbD 1 then
                { s with host.pairs := Tab.set (0, 0) s.host.pairs (o.u 8 4) (0, 0) } else s
            out := [(16, bytesOf v.1 8 ++ bytesOf v.2 8)] } o))

/-- Lock and channel requests complete with their results. -/
def Obligations.LockAndChannelRequests : Prop :=
  (∀ (k : Nat) (o : HelperOp) (s : State), Can.hLockAcquire k o s = true →
      exec (.hLockAcquire k) s = .next (
        let h := o.inst.holder o.core o.thread
        Served.close
          { state := s.modLk (o.u 8 2) fun k => k.grant h k.st.abandonPend s.now
            status := if (s.lk (o.u 8 2)).st.abandonPend = 1 then 0x41 else 0x00 } o)) ∧
  (∀ (k : Nat) (o : HelperOp) (s : State), Can.hLockAcquire_queued k o s = true →
      exec (.hLockAcquire k) s = .next (
        let h := o.inst.holder o.core o.thread
        Served.close
          { state := s.modLk (o.u 8 2) fun k =>
              { k with queue := k.queue ++ [⟨h, o.u 11 1 % 8⟩], st.contended := satInc k.st.contended }
            status := 0x40 } o)) ∧
  (∀ (k : Nat) (o : HelperOp) (s : State), Can.hLockRelease k o s = true →
      exec (.hLockRelease k) s = .next (
        Served.close { state := s.passLock (o.u 8 2) false } o)) ∧
  (∀ (k : Nat) (o : HelperOp) (s : State), Can.hLockRenew k o s = true →
      exec (.hLockRenew k) s = .next (
        Served.close { state := s.modLk (o.u 8 2) fun k => k.lease s.now } o)) ∧
  (∀ (k : Nat) (o : HelperOp) (s : State), Can.hLockCancel k o s = true →
      exec (.hLockCancel k) s = .next (
        let h := o.inst.holder o.core o.thread
        Served.close { state := s.modLk (o.u 8 2) fun k => { k with queue := k.queue.filter fun w => !w.who.same h } } o)) ∧
  (∀ (k : Nat) (o : HelperOp) (s : State), Can.hLockQuery k o s = true →
      exec (.hLockQuery k) s = .next (
        Served.close { state := s, out := [(16, lockQuery s (o.u 8 2))] } o)) ∧
  (∀ (k : Nat) (o : HelperOp) (s : State), Can.hChStage k o s = true →
      exec (.hChStage k) s = .next (
        let r := o.u 8 2
        Served.close
          { state := s.setStage o.core o.thread
              ⟨r, (s.stage o.core o.thread).items ++ [leBits 512 (o.b 16 (s.ring r).itemBytes)]⟩ } o)) ∧
  (∀ (k : Nat) (o : HelperOp) (s : State), Can.hChCommit k o s = true →
      exec (.hChCommit k) s = .next (
        let r := o.u 8 2
        let g := s.stage o.core o.thread
        let ring := s.ring r
        let n := g.items.length
        let fit := makeFit ring.depth n (s.chan r).msgs ring.items.length
        let items := ring.items.drop fit.2.2 ++ g.items
        let s0 := (List.range n).foldl (fun (s : State) i => s.ringStoreItem { ring with w := ring.w + i } (g.items.getD i 0)) s
        let s1 := s0.modRing r fun x =>
          { x with items := items, w := x.w + n, lost := satAdd x.lost fit.2.2
                   high := if x.high.toNat < items.length then BitVec.ofNat 17 items.length else x.high }
        let s2 := (s1.modChan r fun x =>
          { x with msgs := fit.1 ++ [n], commits := satInc x.commits, msgLost := satAdd x.msgLost fit.2.1 }).setStage
            o.core o.thread {}
        Served.close
          { state := if ring.items.isEmpty ∧ ring.cfg.neEvEn = 1 then
                (s2.raiseLine ring.cfg.owner.toNat ring.cfg.neCore.toNat ring.cfg.neThread.toNat ring.cfg.neLine.toNat).1
              else s2
            status := if fit.2.1 = 0 then 0x00 else 0x02 } o)) ∧
  (∀ (k : Nat) (o : HelperOp) (s : State), Can.hChAbort k o s = true →
      exec (.hChAbort k) s = .next (
        Served.close { state := s.dropStage o.core o.thread } o)) ∧
  (∀ (k : Nat) (o : HelperOp) (m : Nat) (s : State), Can.hChPop k o m s = true →
      exec (.hChPop k) s = .next (
        let r := o.u 8 2
        let x := s.ringReadMany (s.ring r) m
        Served.close
          { state := (x.1.modRing r fun x => { x with items := x.items.drop m }).modChan r fun x => { x with msgs := (s.chan r).msgs.tail }
            detail := x.2.length, out := [(16, x.2.flatMap fun i => bytesOf i (s.ring r).itemBytes)] } o))

/-- Pool, reference, ring, time, task, delay and packet requests complete with their results. -/
def Obligations.PoolRingTimeAndTaskRequests : Prop :=
  (∀ (k : Nat) (o : HelperOp) (x : State × Nat) (s : State), Can.hPoolAlloc k o x s = true →
      exec (.hPoolAlloc k) s = .next (
        Served.close
          { state := x.1.modRecd o fun r => { r with handles := r.handles ++ [handleOf x.2] }
            out := [(12, bytesOf ((handleOf x.2).setWidth 32) 4)] } o)) ∧
  (∀ (k : Nat) (o : HelperOp) (s : State), Can.hRefAdd k o s = true →
      exec (.hRefAdd k) s = .next (
        Served.close { state := s.modRecord (recOf (o.handleAt 12)) fun c => { c with refcnt := c.refcnt + 1 } } o)) ∧
  (∀ (k : Nat) (o : HelperOp) (s : State), Can.hFree k o s = true →
      exec (.hFree k) s = .next (
        Served.close
          { state := (s.dropRef (recOf (o.handleAt 12))).modRecd o fun r => { r with handles := r.handles.erase (o.handleAt 12) } } o)) ∧
  (∀ (k : Nat) (o : HelperOp) (s : State), Can.hFree_whole k o s = true →
      exec (.hFree k) s = .next (
        let is := s.chain chainFuel (recOf (o.handleAt 12))
        Served.close
          { state := (is.foldl State.dropRef s).modRecd o fun r =>
              { r with handles := (is.map handleOf).foldl (fun l h => l.erase h) r.handles } } o)) ∧
  (∀ (k : Nat) (o : HelperOp) (s : State), Can.hRingPush k o s = true →
      exec (.hRingPush k) s = .next (
        let r := o.u 8 2
        let g := s.ring r
        let x := leBits 512 (o.b 16 (s.ring r).itemBytes)
        let s1 := (s.ringStoreItem g x).modRing r fun g => g.push x
        Served.close
          { state := if g.items.length = 0 ∧ g.cfg.neEvEn = 1 then
                (s1.raiseLine g.cfg.owner.toNat g.cfg.neCore.toNat g.cfg.neThread.toNat g.cfg.neLine.toNat).1 else s1
            status := if g.items.length = g.depth then 0x02 else 0x00 } o)) ∧
  (∀ (k : Nat) (o : HelperOp) (x : BitVec 512) (s : State), Can.hRingPop k o x s = true →
      exec (.hRingPop k) s = .next (
        let r := o.u 8 2
        let y := s.ringReadItem (s.ring r) x
        Served.close
          { state := if (s.ring r).cfg.markEn = 1 then y.1.modRing r fun g => { g with popped := g.popped + 1 }
              else y.1.modRing r fun g => { g with items := g.items.drop 1 }
            out := [(16, bytesOf y.2 (s.ring r).itemBytes)] } o)) ∧
  (∀ (k : Nat) (o : HelperOp) (s : State), Can.hRingMark k o s = true →
      exec (.hRingMark k) s = .next (
        Served.close { state := s.modRing (o.u 8 2) fun g => { g with mark := some g.p, markLost := false } } o)) ∧
  (∀ (k : Nat) (o : HelperOp) (m : Nat) (s : State), Can.hRingRewind k o m s = true →
      exec (.hRingRewind k) s = .next (
        Served.close { state := s.modRing (o.u 8 2) fun g => { g with popped := m - g.l } } o)) ∧
  (∀ (k : Nat) (o : HelperOp) (s : State), Can.hRingRelease k o s = true →
      exec (.hRingRelease k) s = .next (
        let n := o.u 10 2
        Served.close
          { state := s.modRing (o.u 8 2) fun g =>
              { g with items := g.items.drop n, popped := g.popped - n
                       mark := match g.mark with | some m => if m < g.l + n then none else some m | none => none } } o)) ∧
  (∀ (k : Nat) (o : HelperOp) (s : State), Can.hTsConvert k o s = true →
      exec (.hTsConvert k) s = .next (
        let c := s.convert (o.u 8 1) (o.u 9 1) (o.u 16 8)
        Served.close
          { state := s, status := if c.status = 0 then 0 else 0x3A, out := [(24, bytesOf (BitVec.ofNat 64 c.value) 8)] } o)) ∧
  (∀ (k : Nat) (o : HelperOp) (s : State), Can.hPickSteer k o s = true →
      exec (.hPickSteer k) s = .next (
        let n := o.u 8 1 - 1
        let p := s.pick n
        let t := o.u 16 8
        let v := s.wallToPick n t
        let ph := o.u 24 4 % 2 ^ 20
        let role (s : State) (pri : Bool) : State :=
          if p.code pri = 5 then s.refEventAt n pri (s.now - (s.wall.toNat - t)) (fun _ => ph) v.value s.now else s
        Served.close { state := (role (role s true) false).modPick n fun p => { p with lastSteer := some t } } o)) ∧
  (∀ (k : Nat) (o : HelperOp) (s : State), Can.hTaskKickHelper k o s = true →
      exec (.hTaskKickHelper k) s = .next (
        let b := (s.bg (o.u 8 2)).obj
        Served.close
          { state := (s.modBg (o.u 8 2) fun b => { b with kickAt := some s.now, obj := { b.obj with state := 1 } }).pushReady
              (listKey b.tg.toNat b.prio.toNat) true (o.u 8 2) false } o)) ∧
  (∀ (k : Nat) (o : HelperOp) (s : State), Can.hTaskCancelHelper k o s = true →
      exec (.hTaskCancelHelper k) s = .next (
        Served.close { state := s.cancel (o.u 8 2) ((nthByte o.block 10).getLsbD 0) } o)) ∧
  (∀ (k : Nat) (o : HelperOp) (i : Nat) (s : State), Can.hDelayArmHelper k o i s = true →
      exec (.hDelayArmHelper k) s = .next (
        Served.close
          { state := s.armDelay o.slice i o.delayReq o.tag none, out := [(32, bytesOf (BitVec.ofNat 16 i) 2)] } o)) ∧
  (∀ (k : Nat) (o : HelperOp) (i : Nat) (s : State), Can.hDelayArmHelper_complete k o i s = true →
      exec (.hDelayArmHelper k) s = .next (
        let s1 := s.armDelay o.slice i { o.delayReq with target := o.inst.target } o.tag (some o.id)
        ({ s1 with weft.ops := s1.weft.ops.map fun (x : HelperOp) =>
            if x.id = o.id then { x with parked := true, held := false } else x } : State).lmWrite o.core (o.addr + 32)
          (bytesOf (BitVec.ofNat 16 i) 2))) ∧
  (∀ (k : Nat) (o : HelperOp) (s : State), Can.hDelayArmHelper_waits k o s = true →
      exec (.hDelayArmHelper k) s = .next (
        ({ s with weft.ops := s.weft.ops.map fun (x : HelperOp) =>
            if x.id = o.id then { x with held := true } else x } : State).bump .delayHeld 0)) ∧
  (∀ (k : Nat) (o : HelperOp) (s : State), Can.hDelayDisarmHelper k o s = true →
      exec (.hDelayDisarmHelper k) s = .next (
        Served.close { state := s.freeDelayAt (o.u 8 2) } o)) ∧
  (∀ (k : Nat) (o : HelperOp) (x : State × BitVec 24) (s : State), Can.hOrigin k o x s = true →
      exec (.hOrigin k) s = .next (
        let r := o.originReq
        let od := if o.inst.task then (s.bg o.inst.idx).obj.originOd.toNat else r.od
        let d : Desc :=
          { typeV := 2, tc := BitVec.ofNat 3 r.tc, inPort := 63, length := BitVec.ofNat 14 (max 60 r.len + 4)
            buf := x.2, od := BitVec.ofNat 12 od, tsWallLo := s.wall.setWidth 32
            queue := if r.fabric then 0 else BitVec.ofNat 13 r.queue, qvalid := bit !r.fabric
            outPort := if r.fabric then BitVec.ofNat 6 r.port else 63
            destDev := if r.fabric then BitVec.ofNat 6 r.dest else s.devId, fcsMode := 2, action := 1 }
        let f : Origin :=
          { desc := d, launch := if r.launch then some (BitVec.ofNat 3 r.scale, r.time) else none, own := r.own, slice := o.slice }
        Served.close { state := x.1.modRecd o fun c => { c with origins := c.origins ++ [f] } } o)) ∧
  (∀ (k : Nat) (o : HelperOp) (i : Nat) (is : List Nat) (x : State × BitVec 24) (s : State),
      Can.hOrigin_tail k o i is x s = true →
      exec (.hOrigin k) s = .next (
        let r := o.originReq
        let od := if o.inst.task then (s.bg o.inst.idx).obj.originOd.toNat else r.od
        let d : Desc :=
          { typeV := 2, tc := BitVec.ofNat 3 r.tc, inPort := 63, length := BitVec.ofNat 14 (max 60 (r.len + (s.frameFrom (i :: is)).length) + 4)
            buf := x.2, od := BitVec.ofNat 12 od, tsWallLo := s.wall.setWidth 32
            queue := if r.fabric then 0 else BitVec.ofNat 13 r.queue, qvalid := bit !r.fabric
            outPort := if r.fabric then BitVec.ofNat 6 r.port else 63
            destDev := if r.fabric then BitVec.ofNat 6 r.dest else s.devId, fcsMode := 2, action := 1 }
        let f : Origin :=
          { desc := d, launch := if r.launch then some (BitVec.ofNat 3 r.scale, r.time) else none, own := r.own, slice := o.slice }
        Served.close { state := (x.1.withTail x.2 (i :: is)).modRecd o fun c => { c with origins := c.origins ++ [f] } } o)) ∧
  (∀ (k : Nat) (o : HelperOp) (s : State), Can.hLaunchSet k o s = true →
      exec (.hLaunchSet k) s = .next (
        Served.close
          { state := s.modRecd o fun r => { r with launch := some (BitVec.ofNat 3 (o.u 8 1), BitVec.ofNat 64 (o.u 16 8)) } } o)) ∧
  (∀ (k : Nat) (o : HelperOp) (s : State), Can.hHostSet k o s = true →
      exec (.hHostSet k) s = .next (
        Served.close { state := s.modRecd o fun r => { r with hostRing := some (o.u 8 2) } } o)) ∧
  (∀ (k : Nat) (o : HelperOp) (r : Nat) (s : State), Can.hCrcRange k o r s = true →
      exec (.hCrcRange k) s = .next (
        let d := (s.ctx r).desc
        let bs := slice (s.frameOf d.buf d.length.toNat) (o.u 10 2) (o.u 12 2)
        let init := BitVec.ofNat 32 (o.u 16 4)
        let v := if o.u 8 1 = 0 then crcRun 0x82F63B78 init bs
          else if o.u 8 1 = 1 then crcRun 0xEDB88320 init bs
          else BitVec.ofNat 32 (onesSum (o.u 16 2) bs)
        Served.close { state := s, out := [(20, bytesOf v 4)] } o))

/-- Weft arithmetic, logic, shifts and bit fields complete with their results. -/
def Obligations.WeftArithmetic : Prop :=
  (∀ (c : Fin 68) (t : Fin 8) (a : BitVec 5) (b : BitVec 5) (d : BitVec 5) (s : State), Can.wAdd c t a b d s = true →
      exec (.wAdd c t a b d) s = .next (
        s.does c t fun u => u.putReg c t a (u.rg c t b + u.rg c t d))) ∧
  (∀ (c : Fin 68) (t : Fin 8) (a : BitVec 5) (b : BitVec 5) (d : BitVec 5) (s : State), Can.wSub c t a b d s = true →
      exec (.wSub c t a b d) s = .next (
        s.does c t fun u => u.putReg c t a (u.rg c t b - u.rg c t d))) ∧
  (∀ (c : Fin 68) (t : Fin 8) (a : BitVec 5) (b : BitVec 5) (d : BitVec 5) (s : State), Can.wAnd c t a b d s = true →
      exec (.wAnd c t a b d) s = .next (
        s.does c t fun u => u.putReg c t a (u.rg c t b &&& u.rg c t d))) ∧
  (∀ (c : Fin 68) (t : Fin 8) (a : BitVec 5) (b : BitVec 5) (d : BitVec 5) (s : State), Can.wOr c t a b d s = true →
      exec (.wOr c t a b d) s = .next (
        s.does c t fun u => u.putReg c t a (u.rg c t b ||| u.rg c t d))) ∧
  (∀ (c : Fin 68) (t : Fin 8) (a : BitVec 5) (b : BitVec 5) (d : BitVec 5) (s : State), Can.wXor c t a b d s = true →
      exec (.wXor c t a b d) s = .next (
        s.does c t fun u => u.putReg c t a (u.rg c t b ^^^ u.rg c t d))) ∧
  (∀ (c : Fin 68) (t : Fin 8) (a : BitVec 5) (b : BitVec 5) (d : BitVec 5) (s : State), Can.wAndn c t a b d s = true →
      exec (.wAndn c t a b d) s = .next (
        s.does c t fun u => u.putReg c t a (u.rg c t b &&& ~~~ (u.rg c t d)))) ∧
  (∀ (c : Fin 68) (t : Fin 8) (a : BitVec 5) (b : BitVec 5) (d : BitVec 5) (s : State), Can.wSll c t a b d s = true →
      exec (.wSll c t a b d) s = .next (
        s.does c t fun u => u.putReg c t a (u.rg c t b <<< (shamt (u.rg c t d))))) ∧
  (∀ (c : Fin 68) (t : Fin 8) (a : BitVec 5) (b : BitVec 5) (d : BitVec 5) (s : State), Can.wSrl c t a b d s = true →
      exec (.wSrl c t a b d) s = .next (
        s.does c t fun u => u.putReg c t a (u.rg c t b >>> (shamt (u.rg c t d))))) ∧
  (∀ (c : Fin 68) (t : Fin 8) (a : BitVec 5) (b : BitVec 5) (d : BitVec 5) (s : State), Can.wSra c t a b d s = true →
      exec (.wSra c t a b d) s = .next (
        s.does c t fun u => u.putReg c t a ((u.rg c t b).sshiftRight (shamt (u.rg c t d))))) ∧
  (∀ (c : Fin 68) (t : Fin 8) (a : BitVec 5) (b : BitVec 5) (d : BitVec 5) (s : State), Can.wRol c t a b d s = true →
      exec (.wRol c t a b d) s = .next (
        s.does c t fun u => u.putReg c t a ((u.rg c t b).rotateLeft (shamt (u.rg c t d))))) ∧
  (∀ (c : Fin 68) (t : Fin 8) (a : BitVec 5) (b : BitVec 5) (d : BitVec 5) (s : State), Can.wSlt c t a b d s = true →
      exec (.wSlt c t a b d) s = .next (
        s.does c t fun u => u.putReg c t a (flag ((u.rg c t b).slt (u.rg c t d))))) ∧
  (∀ (c : Fin 68) (t : Fin 8) (a : BitVec 5) (b : BitVec 5) (d : BitVec 5) (s : State), Can.wSltu c t a b d s = true →
      exec (.wSltu c t a b d) s = .next (
        s.does c t fun u => u.putReg c t a (flag ((u.rg c t b).ult (u.rg c t d))))) ∧
  (∀ (c : Fin 68) (t : Fin 8) (a : BitVec 5) (b : BitVec 5) (d : BitVec 5) (s : State), Can.wSeq c t a b d s = true →
      exec (.wSeq c t a b d) s = .next (
        s.does c t fun u => u.putReg c t a (flag (u.rg c t b == u.rg c t d)))) ∧
  (∀ (c : Fin 68) (t : Fin 8) (a : BitVec 5) (b : BitVec 5) (d : BitVec 5) (s : State), Can.wMin c t a b d s = true →
      exec (.wMin c t a b d) s = .next (
        s.does c t fun u => u.putReg c t a (if (u.rg c t b).slt (u.rg c t d) then u.rg c t b else u.rg c t d))) ∧
  (∀ (c : Fin 68) (t : Fin 8) (a : BitVec 5) (b : BitVec 5) (d : BitVec 5) (s : State), Can.wMax c t a b d s = true →
      exec (.wMax c t a b d) s = .next (
        s.does c t fun u => u.putReg c t a (if (u.rg c t b).slt (u.rg c t d) then u.rg c t d else u.rg c t b))) ∧
  (∀ (c : Fin 68) (t : Fin 8) (a : BitVec 5) (b : BitVec 5) (d : BitVec 5) (s : State), Can.wMinu c t a b d s = true →
      exec (.wMinu c t a b d) s = .next (
        s.does c t fun u => u.putReg c t a (if (u.rg c t b).ult (u.rg c t d) then u.rg c t b else u.rg c t d))) ∧
  (∀ (c : Fin 68) (t : Fin 8) (a : BitVec 5) (b : BitVec 5) (d : BitVec 5) (s : State), Can.wMaxu c t a b d s = true →
      exec (.wMaxu c t a b d) s = .next (
        s.does c t fun u => u.putReg c t a (if (u.rg c t b).ult (u.rg c t d) then u.rg c t d else u.rg c t b))) ∧
  (∀ (c : Fin 68) (t : Fin 8) (a : BitVec 5) (b : BitVec 5) (d : BitVec 5) (s : State), Can.wMul c t a b d s = true →
      exec (.wMul c t a b d) s = .next (
        s.does c t fun u => u.putReg c t a (u.rg c t b * u.rg c t d))) ∧
  (∀ (c : Fin 68) (t : Fin 8) (a : BitVec 5) (b : BitVec 5) (d : BitVec 5) (s : State), Can.wMulh c t a b d s = true →
      exec (.wMulh c t a b d) s = .next (
        s.does c t fun u => u.putReg c t a (BitVec.ofInt 64 ((u.rg c t b).toInt * (u.rg c t d).toInt / 2 ^ 64)))) ∧
  (∀ (c : Fin 68) (t : Fin 8) (a : BitVec 5) (b : BitVec 5) (d : BitVec 5) (s : State), Can.wMulhu c t a b d s = true →
      exec (.wMulhu c t a b d) s = .next (
        s.does c t fun u => u.putReg c t a (BitVec.ofNat 64 ((u.rg c t b).toNat * (u.rg c t d).toNat / 2 ^ 64)))) ∧
  (∀ (c : Fin 68) (t : Fin 8) (a : BitVec 5) (b : BitVec 5) (imm : BitVec 15) (s : State), Can.wAddi c t a b imm s = true →
      exec (.wAddi c t a b imm) s = .next (
        s.does c t fun u => u.putReg c t a (u.rg c t b + imm.signExtend 64))) ∧
  (∀ (c : Fin 68) (t : Fin 8) (a : BitVec 5) (b : BitVec 5) (imm : BitVec 15) (s : State), Can.wAndi c t a b imm s = true →
      exec (.wAndi c t a b imm) s = .next (
        s.does c t fun u => u.putReg c t a (u.rg c t b &&& imm.setWidth 64))) ∧
  (∀ (c : Fin 68) (t : Fin 8) (a : BitVec 5) (b : BitVec 5) (imm : BitVec 15) (s : State), Can.wOri c t a b imm s = true →
      exec (.wOri c t a b imm) s = .next (
        s.does c t fun u => u.putReg c t a (u.rg c t b ||| imm.setWidth 64))) ∧
  (∀ (c : Fin 68) (t : Fin 8) (a : BitVec 5) (b : BitVec 5) (imm : BitVec 15) (s : State), Can.wXori c t a b imm s = true →
      exec (.wXori c t a b imm) s = .next (
        s.does c t fun u => u.putReg c t a (u.rg c t b ^^^ imm.setWidth 64))) ∧
  (∀ (c : Fin 68) (t : Fin 8) (a : BitVec 5) (b : BitVec 5) (n : BitVec 6) (s : State), Can.wSlli c t a b n s = true →
      exec (.wSlli c t a b n) s = .next (
        s.does c t fun u => u.putReg c t a (u.rg c t b <<< n.toNat))) ∧
  (∀ (c : Fin 68) (t : Fin 8) (a : BitVec 5) (b : BitVec 5) (n : BitVec 6) (s : State), Can.wSrli c t a b n s = true →
      exec (.wSrli c t a b n) s = .next (
        s.does c t fun u => u.putReg c t a (u.rg c t b >>> n.toNat))) ∧
  (∀ (c : Fin 68) (t : Fin 8) (a : BitVec 5) (b : BitVec 5) (n : BitVec 6) (s : State), Can.wSrai c t a b n s = true →
      exec (.wSrai c t a b n) s = .next (
        s.does c t fun u => u.putReg c t a ((u.rg c t b).sshiftRight n.toNat))) ∧
  (∀ (c : Fin 68) (t : Fin 8) (a : BitVec 5) (b : BitVec 5) (n : BitVec 6) (s : State), Can.wRoli c t a b n s = true →
      exec (.wRoli c t a b n) s = .next (
        s.does c t fun u => u.putReg c t a ((u.rg c t b).rotateLeft n.toNat))) ∧
  (∀ (c : Fin 68) (t : Fin 8) (a : BitVec 5) (b : BitVec 5) (pos : BitVec 6) (lenM1 : BitVec 6) (s : State), Can.wExt c t a b pos lenM1 s = true →
      exec (.wExt c t a b pos lenM1) s = .next (
        s.does c t fun u => u.putReg c t a (fieldOf (u.rg c t b) pos.toNat (lenM1.toNat + 1)))) ∧
  (∀ (c : Fin 68) (t : Fin 8) (a : BitVec 5) (b : BitVec 5) (pos : BitVec 6) (lenM1 : BitVec 6) (s : State), Can.wExts c t a b pos lenM1 s = true →
      exec (.wExts c t a b pos lenM1) s = .next (
        s.does c t fun u => u.putReg c t a (fieldSext (u.rg c t b) pos.toNat (lenM1.toNat + 1)))) ∧
  (∀ (c : Fin 68) (t : Fin 8) (a : BitVec 5) (b : BitVec 5) (pos : BitVec 6) (lenM1 : BitVec 6) (s : State), Can.wIns c t a b pos lenM1 s = true →
      exec (.wIns c t a b pos lenM1) s = .next (
        s.does c t fun u => u.putReg c t a (fieldIns (u.rg c t a) (u.rg c t b) pos.toNat (lenM1.toNat + 1)))) ∧
  (∀ (c : Fin 68) (t : Fin 8) (a : BitVec 5) (hw : BitVec 2) (imm : BitVec 16) (s : State), Can.wLi c t a hw imm s = true →
      exec (.wLi c t a hw imm) s = .next (
        s.does c t fun u => u.putReg c t a (imm.setWidth 64 <<< (16 * hw.toNat)))) ∧
  (∀ (c : Fin 68) (t : Fin 8) (a : BitVec 5) (hw : BitVec 2) (imm : BitVec 16) (s : State), Can.wLik c t a hw imm s = true →
      exec (.wLik c t a hw imm) s = .next (
        s.does c t fun u => u.putReg c t a (fieldIns (u.rg c t a) (imm.setWidth 64) (16 * hw.toNat) 16))) ∧
  (∀ (c : Fin 68) (t : Fin 8) (a : BitVec 5) (b : BitVec 5) (s : State), Can.wBsw16 c t a b s = true →
      exec (.wBsw16 c t a b) s = .next (
        s.does c t fun u => u.putReg c t a (byteSwap (u.rg c t b) 2))) ∧
  (∀ (c : Fin 68) (t : Fin 8) (a : BitVec 5) (b : BitVec 5) (s : State), Can.wBsw32 c t a b s = true →
      exec (.wBsw32 c t a b) s = .next (
        s.does c t fun u => u.putReg c t a (byteSwap (u.rg c t b) 4))) ∧
  (∀ (c : Fin 68) (t : Fin 8) (a : BitVec 5) (b : BitVec 5) (s : State), Can.wBsw64 c t a b s = true →
      exec (.wBsw64 c t a b) s = .next (
        s.does c t fun u => u.putReg c t a (byteSwap (u.rg c t b) 8))) ∧
  (∀ (c : Fin 68) (t : Fin 8) (a : BitVec 5) (b : BitVec 5) (s : State), Can.wClz c t a b s = true →
      exec (.wClz c t a b) s = .next (
        s.does c t fun u => u.putReg c t a (BitVec.ofNat 64 (zerosFrom (u.rg c t b).reverse)))) ∧
  (∀ (c : Fin 68) (t : Fin 8) (a : BitVec 5) (b : BitVec 5) (s : State), Can.wCtz c t a b s = true →
      exec (.wCtz c t a b) s = .next (
        s.does c t fun u => u.putReg c t a (BitVec.ofNat 64 (zerosFrom (u.rg c t b))))) ∧
  (∀ (c : Fin 68) (t : Fin 8) (a : BitVec 5) (b : BitVec 5) (s : State), Can.wPopc c t a b s = true →
      exec (.wPopc c t a b) s = .next (
        s.does c t fun u => u.putReg c t a (BitVec.ofNat 64 (onesOf (u.rg c t b)))))

/-- Weft loads and stores complete with their effects. -/
def Obligations.WeftLoadsAndStores : Prop :=
  (∀ (c : Fin 68) (t : Fin 8) (a : BitVec 5) (b : BitVec 5) (imm : BitVec 15) (p : Nat) (s : State), Can.wLdb c t a b imm p s = true →
      exec (.wLdb c t a b imm) s = .next (
        s.does c t fun u => u.drawn.putReg c t a (loaded (u.lmSee c p 1) false))) ∧
  (∀ (c : Fin 68) (t : Fin 8) (a : BitVec 5) (b : BitVec 5) (imm : BitVec 15) (p : Nat) (s : State), Can.wLdh c t a b imm p s = true →
      exec (.wLdh c t a b imm) s = .next (
        s.does c t fun u => u.drawn.putReg c t a (loaded (u.lmSee c p 2) false))) ∧
  (∀ (c : Fin 68) (t : Fin 8) (a : BitVec 5) (b : BitVec 5) (imm : BitVec 15) (p : Nat) (s : State), Can.wLdw c t a b imm p s = true →
      exec (.wLdw c t a b imm) s = .next (
        s.does c t fun u => u.drawn.putReg c t a (loaded (u.lmSee c p 4) false))) ∧
  (∀ (c : Fin 68) (t : Fin 8) (a : BitVec 5) (b : BitVec 5) (imm : BitVec 15) (p : Nat) (s : State), Can.wLdd c t a b imm p s = true →
      exec (.wLdd c t a b imm) s = .next (
        s.does c t fun u => u.drawn.putReg c t a (loaded (u.lmSee c p 8) false))) ∧
  (∀ (c : Fin 68) (t : Fin 8) (a : BitVec 5) (b : BitVec 5) (imm : BitVec 15) (p : Nat) (s : State), Can.wLdbs c t a b imm p s = true →
      exec (.wLdbs c t a b imm) s = .next (
        s.does c t fun u => u.drawn.putReg c t a (loaded (u.lmSee c p 1) true))) ∧
  (∀ (c : Fin 68) (t : Fin 8) (a : BitVec 5) (b : BitVec 5) (imm : BitVec 15) (p : Nat) (s : State), Can.wLdhs c t a b imm p s = true →
      exec (.wLdhs c t a b imm) s = .next (
        s.does c t fun u => u.drawn.putReg c t a (loaded (u.lmSee c p 2) true))) ∧
  (∀ (c : Fin 68) (t : Fin 8) (a : BitVec 5) (b : BitVec 5) (imm : BitVec 15) (p : Nat) (s : State), Can.wLdws c t a b imm p s = true →
      exec (.wLdws c t a b imm) s = .next (
        s.does c t fun u => u.drawn.putReg c t a (loaded (u.lmSee c p 4) true))) ∧
  (∀ (c : Fin 68) (t : Fin 8) (a : BitVec 5) (b : BitVec 5) (imm : BitVec 15) (p : Nat) (s : State), Can.wStb c t a b imm p s = true →
      exec (.wStb c t a b imm) s = .next (
        s.does c t fun u => (u.lmWrite c p (bytesOf (u.rg c t a) 1)).modTh c t Thread.advance)) ∧
  (∀ (c : Fin 68) (t : Fin 8) (a : BitVec 5) (b : BitVec 5) (imm : BitVec 15) (p : Nat) (s : State), Can.wSth c t a b imm p s = true →
      exec (.wSth c t a b imm) s = .next (
        s.does c t fun u => (u.lmWrite c p (bytesOf (u.rg c t a) 2)).modTh c t Thread.advance)) ∧
  (∀ (c : Fin 68) (t : Fin 8) (a : BitVec 5) (b : BitVec 5) (imm : BitVec 15) (p : Nat) (s : State), Can.wStw c t a b imm p s = true →
      exec (.wStw c t a b imm) s = .next (
        s.does c t fun u => (u.lmWrite c p (bytesOf (u.rg c t a) 4)).modTh c t Thread.advance)) ∧
  (∀ (c : Fin 68) (t : Fin 8) (a : BitVec 5) (b : BitVec 5) (imm : BitVec 15) (p : Nat) (s : State), Can.wStd c t a b imm p s = true →
      exec (.wStd c t a b imm) s = .next (
        s.does c t fun u => (u.lmWrite c p (bytesOf (u.rg c t a) 8)).modTh c t Thread.advance)) ∧
  (∀ (c : Fin 68) (t : Fin 8) (a : BitVec 5) (b : BitVec 5) (imm : BitVec 15) (p : Nat) (s : State), Can.wLdhn c t a b imm p s = true →
      exec (.wLdhn c t a b imm) s = .next (
        s.does c t fun u => u.drawn.putReg c t a (loaded (u.lmSee c p 2).reverse false))) ∧
  (∀ (c : Fin 68) (t : Fin 8) (a : BitVec 5) (b : BitVec 5) (imm : BitVec 15) (p : Nat) (s : State), Can.wLdwn c t a b imm p s = true →
      exec (.wLdwn c t a b imm) s = .next (
        s.does c t fun u => u.drawn.putReg c t a (loaded (u.lmSee c p 4).reverse false))) ∧
  (∀ (c : Fin 68) (t : Fin 8) (a : BitVec 5) (b : BitVec 5) (imm : BitVec 15) (p : Nat) (s : State), Can.wSthn c t a b imm p s = true →
      exec (.wSthn c t a b imm) s = .next (
        s.does c t fun u => (u.lmWrite c p ((bytesOf (u.rg c t a) 2).reverse)).modTh c t Thread.advance)) ∧
  (∀ (c : Fin 68) (t : Fin 8) (a : BitVec 5) (b : BitVec 5) (imm : BitVec 15) (p : Nat) (s : State), Can.wStwn c t a b imm p s = true →
      exec (.wStwn c t a b imm) s = .next (
        s.does c t fun u => (u.lmWrite c p ((bytesOf (u.rg c t a) 4).reverse)).modTh c t Thread.advance))

/-- Operations on core-shared registers complete with their effects. -/
def Obligations.WeftSharedRegisters : Prop :=
  (∀ (c : Fin 68) (t : Fin 8) (a : BitVec 5) (n : BitVec 4) (s : State), Can.wCsrd c t a n s = true →
      exec (.wCsrd c t a n) s = .next (
        s.does c t fun u => (u.modCore c fun k => { k with cs := Tab.set 0 k.cs n.toNat (Tab.get 0 (u.core c).cs n.toNat) }).putReg c t a
          (Tab.get 0 (u.core c).cs n.toNat))) ∧
  (∀ (c : Fin 68) (t : Fin 8) (a : BitVec 5) (b : BitVec 5) (n : BitVec 4) (s : State), Can.wCsswp c t a b n s = true →
      exec (.wCsswp c t a b n) s = .next (
        s.does c t fun u => (u.modCore c fun k => { k with cs := Tab.set 0 k.cs n.toNat (u.rg c t b) }).putReg c t a
          (Tab.get 0 (u.core c).cs n.toNat))) ∧
  (∀ (c : Fin 68) (t : Fin 8) (a : BitVec 5) (b : BitVec 5) (n : BitVec 4) (s : State), Can.wCsadd c t a b n s = true →
      exec (.wCsadd c t a b n) s = .next (
        s.does c t fun u => (u.modCore c fun k => { k with cs := Tab.set 0 k.cs n.toNat ((Tab.get 0 (u.core c).cs n.toNat) + u.rg c t b) }).putReg c t a
          (Tab.get 0 (u.core c).cs n.toNat))) ∧
  (∀ (c : Fin 68) (t : Fin 8) (a : BitVec 5) (b : BitVec 5) (n : BitVec 4) (s : State), Can.wCsand c t a b n s = true →
      exec (.wCsand c t a b n) s = .next (
        s.does c t fun u => (u.modCore c fun k => { k with cs := Tab.set 0 k.cs n.toNat ((Tab.get 0 (u.core c).cs n.toNat) &&& u.rg c t b) }).putReg c t a
          (Tab.get 0 (u.core c).cs n.toNat))) ∧
  (∀ (c : Fin 68) (t : Fin 8) (a : BitVec 5) (b : BitVec 5) (n : BitVec 4) (s : State), Can.wCsor c t a b n s = true →
      exec (.wCsor c t a b n) s = .next (
        s.does c t fun u => (u.modCore c fun k => { k with cs := Tab.set 0 k.cs n.toNat ((Tab.get 0 (u.core c).cs n.toNat) ||| u.rg c t b) }).putReg c t a
          (Tab.get 0 (u.core c).cs n.toNat))) ∧
  (∀ (c : Fin 68) (t : Fin 8) (a : BitVec 5) (b : BitVec 5) (d : BitVec 5) (n : BitVec 4) (s : State), Can.wCscas c t a b d n s = true →
      exec (.wCscas c t a b d n) s = .next (
        s.does c t fun u => (u.modCore c fun k => { k with cs := Tab.set 0 k.cs n.toNat (if (Tab.get 0 (u.core c).cs n.toNat) = u.rg c t b then u.rg c t d else (Tab.get 0 (u.core c).cs n.toNat)) }).putReg c t a
          (Tab.get 0 (u.core c).cs n.toNat)))

/-- Weft branches, jumps and loop set-ups complete with their effects. -/
def Obligations.WeftBranchesAndLoops : Prop :=
  (∀ (c : Fin 68) (t : Fin 8) (a : BitVec 5) (b : BitVec 5) (off : BitVec 12) (s : State), Can.wCbeq_skip c t a b off s = true →
      exec (.wCbeq c t a b off) s = .next (
        s.does c t fun u => u.modTh c t Thread.advance)) ∧
  (∀ (c : Fin 68) (t : Fin 8) (a : BitVec 5) (b : BitVec 5) (off : BitVec 12) (s : State), Can.wCbeq c t a b off s = true →
      exec (.wCbeq c t a b off) s = .next (
        s.does c t fun u => (u.squashYounger c 3).modTh c t fun h => h.goto (u.pcOf c t + 4 * off.signExtend 64).toNat true)) ∧
  (∀ (c : Fin 68) (t : Fin 8) (a : BitVec 5) (b : BitVec 5) (off : BitVec 12) (s : State), Can.wCbne_skip c t a b off s = true →
      exec (.wCbne c t a b off) s = .next (
        s.does c t fun u => u.modTh c t Thread.advance)) ∧
  (∀ (c : Fin 68) (t : Fin 8) (a : BitVec 5) (b : BitVec 5) (off : BitVec 12) (s : State), Can.wCbne c t a b off s = true →
      exec (.wCbne c t a b off) s = .next (
        s.does c t fun u => (u.squashYounger c 3).modTh c t fun h => h.goto (u.pcOf c t + 4 * off.signExtend 64).toNat true)) ∧
  (∀ (c : Fin 68) (t : Fin 8) (a : BitVec 5) (b : BitVec 5) (off : BitVec 12) (s : State), Can.wCblt_skip c t a b off s = true →
      exec (.wCblt c t a b off) s = .next (
        s.does c t fun u => u.modTh c t Thread.advance)) ∧
  (∀ (c : Fin 68) (t : Fin 8) (a : BitVec 5) (b : BitVec 5) (off : BitVec 12) (s : State), Can.wCblt c t a b off s = true →
      exec (.wCblt c t a b off) s = .next (
        s.does c t fun u => (u.squashYounger c 3).modTh c t fun h => h.goto (u.pcOf c t + 4 * off.signExtend 64).toNat true)) ∧
  (∀ (c : Fin 68) (t : Fin 8) (a : BitVec 5) (b : BitVec 5) (off : BitVec 12) (s : State), Can.wCbge_skip c t a b off s = true →
      exec (.wCbge c t a b off) s = .next (
        s.does c t fun u => u.modTh c t Thread.advance)) ∧
  (∀ (c : Fin 68) (t : Fin 8) (a : BitVec 5) (b : BitVec 5) (off : BitVec 12) (s : State), Can.wCbge c t a b off s = true →
      exec (.wCbge c t a b off) s = .next (
        s.does c t fun u => (u.squashYounger c 3).modTh c t fun h => h.goto (u.pcOf c t + 4 * off.signExtend 64).toNat true)) ∧
  (∀ (c : Fin 68) (t : Fin 8) (a : BitVec 5) (b : BitVec 5) (off : BitVec 12) (s : State), Can.wCbltu_skip c t a b off s = true →
      exec (.wCbltu c t a b off) s = .next (
        s.does c t fun u => u.modTh c t Thread.advance)) ∧
  (∀ (c : Fin 68) (t : Fin 8) (a : BitVec 5) (b : BitVec 5) (off : BitVec 12) (s : State), Can.wCbltu c t a b off s = true →
      exec (.wCbltu c t a b off) s = .next (
        s.does c t fun u => (u.squashYounger c 3).modTh c t fun h => h.goto (u.pcOf c t + 4 * off.signExtend 64).toNat true)) ∧
  (∀ (c : Fin 68) (t : Fin 8) (a : BitVec 5) (b : BitVec 5) (off : BitVec 12) (s : State), Can.wCbgeu_skip c t a b off s = true →
      exec (.wCbgeu c t a b off) s = .next (
        s.does c t fun u => u.modTh c t Thread.advance)) ∧
  (∀ (c : Fin 68) (t : Fin 8) (a : BitVec 5) (b : BitVec 5) (off : BitVec 12) (s : State), Can.wCbgeu c t a b off s = true →
      exec (.wCbgeu c t a b off) s = .next (
        s.does c t fun u => (u.squashYounger c 3).modTh c t fun h => h.goto (u.pcOf c t + 4 * off.signExtend 64).toNat true)) ∧
  (∀ (c : Fin 68) (t : Fin 8) (a : BitVec 5) (imm : BitVec 8) (off : BitVec 12) (s : State), Can.wCbeqi_skip c t a imm off s = true →
      exec (.wCbeqi c t a imm off) s = .next (
        s.does c t fun u => u.modTh c t Thread.advance)) ∧
  (∀ (c : Fin 68) (t : Fin 8) (a : BitVec 5) (imm : BitVec 8) (off : BitVec 12) (s : State), Can.wCbeqi c t a imm off s = true →
      exec (.wCbeqi c t a imm off) s = .next (
        s.does c t fun u => (u.squashYounger c 3).modTh c t fun h => h.goto (u.pcOf c t + 4 * off.signExtend 64).toNat true)) ∧
  (∀ (c : Fin 68) (t : Fin 8) (a : BitVec 5) (imm : BitVec 8) (off : BitVec 12) (s : State), Can.wCbnei_skip c t a imm off s = true →
      exec (.wCbnei c t a imm off) s = .next (
        s.does c t fun u => u.modTh c t Thread.advance)) ∧
  (∀ (c : Fin 68) (t : Fin 8) (a : BitVec 5) (imm : BitVec 8) (off : BitVec 12) (s : State), Can.wCbnei c t a imm off s = true →
      exec (.wCbnei c t a imm off) s = .next (
        s.does c t fun u => (u.squashYounger c 3).modTh c t fun h => h.goto (u.pcOf c t + 4 * off.signExtend 64).toNat true)) ∧
  (∀ (c : Fin 68) (t : Fin 8) (a : BitVec 5) (imm : BitVec 8) (off : BitVec 12) (s : State), Can.wCblti_skip c t a imm off s = true →
      exec (.wCblti c t a imm off) s = .next (
        s.does c t fun u => u.modTh c t Thread.advance)) ∧
  (∀ (c : Fin 68) (t : Fin 8) (a : BitVec 5) (imm : BitVec 8) (off : BitVec 12) (s : State), Can.wCblti c t a imm off s = true →
      exec (.wCblti c t a imm off) s = .next (
        s.does c t fun u => (u.squashYounger c 3).modTh c t fun h => h.goto (u.pcOf c t + 4 * off.signExtend 64).toNat true)) ∧
  (∀ (c : Fin 68) (t : Fin 8) (a : BitVec 5) (imm : BitVec 8) (off : BitVec 12) (s : State), Can.wCbgei_skip c t a imm off s = true →
      exec (.wCbgei c t a imm off) s = .next (
        s.does c t fun u => u.modTh c t Thread.advance)) ∧
  (∀ (c : Fin 68) (t : Fin 8) (a : BitVec 5) (imm : BitVec 8) (off : BitVec 12) (s : State), Can.wCbgei c t a imm off s = true →
      exec (.wCbgei c t a imm off) s = .next (
        s.does c t fun u => (u.squashYounger c 3).modTh c t fun h => h.goto (u.pcOf c t + 4 * off.signExtend 64).toNat true)) ∧
  (∀ (c : Fin 68) (t : Fin 8) (a : BitVec 5) (imm : BitVec 8) (off : BitVec 12) (s : State), Can.wCbltui_skip c t a imm off s = true →
      exec (.wCbltui c t a imm off) s = .next (
        s.does c t fun u => u.modTh c t Thread.advance)) ∧
  (∀ (c : Fin 68) (t : Fin 8) (a : BitVec 5) (imm : BitVec 8) (off : BitVec 12) (s : State), Can.wCbltui c t a imm off s = true →
      exec (.wCbltui c t a imm off) s = .next (
        s.does c t fun u => (u.squashYounger c 3).modTh c t fun h => h.goto (u.pcOf c t + 4 * off.signExtend 64).toNat true)) ∧
  (∀ (c : Fin 68) (t : Fin 8) (a : BitVec 5) (imm : BitVec 8) (off : BitVec 12) (s : State), Can.wCbgeui_skip c t a imm off s = true →
      exec (.wCbgeui c t a imm off) s = .next (
        s.does c t fun u => u.modTh c t Thread.advance)) ∧
  (∀ (c : Fin 68) (t : Fin 8) (a : BitVec 5) (imm : BitVec 8) (off : BitVec 12) (s : State), Can.wCbgeui c t a imm off s = true →
      exec (.wCbgeui c t a imm off) s = .next (
        s.does c t fun u => (u.squashYounger c 3).modTh c t fun h => h.goto (u.pcOf c t + 4 * off.signExtend 64).toNat true)) ∧
  (∀ (c : Fin 68) (t : Fin 8) (a : BitVec 5) (off : BitVec 20) (s : State), Can.wJ c t a off s = true →
      exec (.wJ c t a off) s = .next (
        s.does c t fun u => (u.squashYounger c 1).modTh c t fun h =>
          (h.setReg a (BitVec.ofNat 64 (nextPc h.pc))).goto (u.pcOf c t + 4 * off.signExtend 64).toNat (a = 0))) ∧
  (∀ (c : Fin 68) (t : Fin 8) (a : BitVec 5) (b : BitVec 5) (imm : BitVec 15) (s : State), Can.wJr c t a b imm s = true →
      exec (.wJr c t a b imm) s = .next (
        s.does c t fun u => (u.squashYounger c 3).modTh c t fun h =>
          (h.setReg a (BitVec.ofNat 64 (nextPc h.pc))).goto (u.rg c t b + imm.signExtend 64).toNat (a = 0))) ∧
  (∀ (c : Fin 68) (t : Fin 8) (b : BitVec 5) (endOff : BitVec 12) (s : State), Can.wLoop c t b endOff s = true →
      exec (.wLoop c t b endOff) s = .next (
        s.does c t fun u => (u.squashYounger c 3).modTh c t fun h =>
          { h.count with pc := nextPc h.pc
                         loops := h.loops ++ [⟨nextPc h.pc, h.pc + 4 * endOff.toNat, ((u.rg c t b).setWidth 32).toNat, h.priv⟩] })) ∧
  (∀ (c : Fin 68) (t : Fin 8) (b : BitVec 5) (endOff : BitVec 12) (s : State), Can.wLoop_zero c t b endOff s = true →
      exec (.wLoop c t b endOff) s = .next (
        s.does c t fun u => (u.squashYounger c 3).modTh c t fun h =>
          { h.count with pc := nextPc (h.pc + 4 * endOff.toNat) })) ∧
  (∀ (c : Fin 68) (t : Fin 8) (n : BitVec 13) (endOff : BitVec 12) (s : State), Can.wLoopi c t n endOff s = true →
      exec (.wLoopi c t n endOff) s = .next (
        s.does c t fun u => (u.squashYounger c 3).modTh c t fun h =>
          { h.count with pc := nextPc h.pc
                         loops := h.loops ++ [⟨nextPc h.pc, h.pc + 4 * endOff.toNat, n.toNat, h.priv⟩] })) ∧
  (∀ (c : Fin 68) (t : Fin 8) (n : BitVec 13) (endOff : BitVec 12) (s : State), Can.wLoopi_zero c t n endOff s = true →
      exec (.wLoopi c t n endOff) s = .next (
        s.does c t fun u => (u.squashYounger c 3).modTh c t fun h =>
          { h.count with pc := nextPc (h.pc + 4 * endOff.toNat) }))

/-- Requests, waits, events, ends, supervisor entry and control registers complete with their effects. -/
def Obligations.WeftTasksAndControl : Prop :=
  (∀ (c : Fin 68) (t : Fin 8) (a b : BitVec 5) (tag : BitVec 12) (p : Nat) (x : Inst) (s : State), Can.wReqC c t a b tag p x s = true →
      exec (.wReqC c t a b tag) s = .next (
        s.does c t fun u =>
          let w := HelperWord.ofTile (u.rg c t b)
          let o : HelperOp :=
            { id := u.weft.nextOp, core := c, thread := t, inst := x, counted := true, tag := tag, word := w, addr := p
              block := u.lmSee c p (w.blen.toNat * 8), pkt := if x.task then none else (u.ctx x.idx).pkt }
          ({ u.drawn with weft.ops := u.weft.ops ++ [o], weft.nextOp := u.weft.nextOp + 1 }).modTh c t fun h =>
          { h.advance with depcnt := h.depcnt + 1, unsettled := h.unsettled ++ o.results })) ∧
  (∀ (c : Fin 68) (t : Fin 8) (a b : BitVec 5) (tag : BitVec 12) (p : Nat) (x : Inst) (s : State), Can.wReqP c t a b tag p x s = true →
      exec (.wReqP c t a b tag) s = .next (
        s.does c t fun u =>
          let w := HelperWord.ofTile (u.rg c t b)
          let o : HelperOp :=
            { id := u.weft.nextOp, core := c, thread := t, inst := x, counted := false, tag := tag, word := w, addr := p
              block := u.lmSee c p (w.blen.toNat * 8), pkt := if x.task then none else (u.ctx x.idx).pkt }
          ({ u.drawn with weft.ops := u.weft.ops ++ [o], weft.nextOp := u.weft.nextOp + 1 }).modTh c t fun h =>
          h.advance)) ∧
  (∀ (c : Fin 68) (t : Fin 8) (s : State), Can.wWait c t s = true →
      exec (.wWait c t) s = .next (
        s.does c t fun u => u.modTh c t Thread.advance)) ∧
  (∀ (c : Fin 68) (t : Fin 8) (s : State), Can.wWait_held c t s = true →
      exec (.wWait c t) s = .next (
        s.does c t fun u => u.modTh c t fun h => { h.advance with st := .waiting })) ∧
  (∀ (c : Fin 68) (t : Fin 8) (a : BitVec 5) (mask : BitVec 8) (s : State), Can.wEvwait c t a mask s = true →
      exec (.wEvwait c t a mask) s = .next (
        s.does c t fun u => u.modTh c t fun h =>
          let h1 : Thread := { h.advance with evMask := mask, evDest := a }
          { h1.setReg a ((h.evPend &&& mask).setWidth 64) with evPend := h.evPend &&& ~~~ mask })) ∧
  (∀ (c : Fin 68) (t : Fin 8) (a : BitVec 5) (mask : BitVec 8) (s : State), Can.wEvwait_held c t a mask s = true →
      exec (.wEvwait c t a mask) s = .next (
        s.does c t fun u => u.modTh c t fun h =>
          { h.advance with evMask := mask, evDest := a, st := .evwait })) ∧
  (∀ (c : Fin 68) (t : Fin 8) (line : BitVec 3) (dst : BitVec 3) (s : State), Can.wEvsend c t line dst s = true →
      exec (.wEvsend c t line dst) s = .next (
        s.does c t fun u => ((u.raiseLine (u.sliceOf c t) c dst.toNat line.toNat).1).modTh c t Thread.advance)) ∧
  (∀ (c : Fin 68) (t : Fin 8) (s : State), Can.wEnd c t s = true →
      exec (.wEnd c t) s = .next (
        s.does c t fun u => u.modTh c t fun h =>
          { h.count with atEnd := true, st := if h.depcnt = 0 then .running else .waiting })) ∧
  (∀ (c : Fin 68) (t : Fin 8) (code : BitVec 16) (s : State), Can.wFault c t code s = true →
      exec (.wFault c t code) s = .next (
        s.does c t fun u => u.fault c t .assertV (code.setWidth 64))) ∧
  (∀ (c : Fin 68) (t : Fin 8) (n : BitVec 10) (s : State), Can.wScall c t n s = true →
      exec (.wScall c t n) s = .next (
        s.does c t fun u => (u.squashYounger c 3).modTh c t fun h =>
          { h.count with sepc := BitVec.ofNat 64 (nextPc h.pc)
                         scause := n.setWidth 64 ||| BitVec.ofNat 64 (h.loops.length * 65536), priv := .s
                         pc := ((u.progCfg (u.sliceOf c t)).supvEntry.setWidth 64 : Word).toNat })) ∧
  (∀ (c : Fin 68) (t : Fin 8) (s : State), Can.wSret c t s = true →
      exec (.wSret c t) s = .next (
        s.does c t fun u => (u.squashYounger c 3).modTh c t fun h => { h.count with priv := .u, pc := h.sepc.toNat })) ∧
  (∀ (c : Fin 68) (t : Fin 8) (a : BitVec 5) (cr : BitVec 10) (s : State), Can.wMfcr c t a cr s = true →
      exec (.wMfcr c t a cr) s = .next (
        s.does c t fun u => u.putReg c t a (u.crValue c t cr.toNat))) ∧
  (∀ (c : Fin 68) (t : Fin 8) (b : BitVec 5) (cr : BitVec 10) (s : State), Can.wMtcr c t b cr s = true →
      exec (.wMtcr c t b cr) s = .next (
        s.does c t fun u => u.modTh c t fun h => ({ h with sepc := u.rg c t b }).advance)) ∧
  (∀ (c : Fin 68) (t : Fin 8) (b : BitVec 5) (cr : BitVec 10) (s : State), Can.wMtcr_cpen c t b cr s = true →
      exec (.wMtcr c t b cr) s = .next (
        s.does c t fun u => u.modTh c t fun h => ({ h with cpen := u.rg c t b }).advance)) ∧
  (∀ (c : Fin 68) (t : Fin 8) (b : BitVec 5) (cr : BitVec 10) (s : State), Can.wMtcr_loop c t b cr s = true →
      exec (.wMtcr c t b cr) s = .next (
        s.does c t fun u => (u.squashYounger c 3).modTh c t fun h =>
          ({ h with loops := h.loops.modify (cr.toNat - 0x18) fun l => { l with lc := (u.rg c t b).toNat % 2 ^ 32 } }).advance))

/-- Coprocessor instructions on registers complete with their results. -/
def Obligations.WeftRegisterCoprocessors : Prop :=
  (∀ (c : Fin 68) (t : Fin 8) (a b d : BitVec 5) (sz : BitVec 2) (s : State), Can.wCrcc c t a b d sz s = true →
      exec (.wCrcc c t a b d sz) s = .next (
        s.does c t fun u => u.putReg c t a ((crcRun 0x82F63B78 ((u.rg c t b).setWidth 32) (bytesOf (u.rg c t d) (2 ^ sz.toNat))).setWidth 64))) ∧
  (∀ (c : Fin 68) (t : Fin 8) (a b d : BitVec 5) (sz : BitVec 2) (s : State), Can.wCrce c t a b d sz s = true →
      exec (.wCrce c t a b d sz) s = .next (
        s.does c t fun u => u.putReg c t a ((crcRun 0xEDB88320 ((u.rg c t b).setWidth 32) (bytesOf (u.rg c t d) (2 ^ sz.toNat))).setWidth 64))) ∧
  (∀ (c : Fin 68) (t : Fin 8) (a b d : BitVec 5) (s : State), Can.wCrcz c t a b d s = true →
      exec (.wCrcz c t a b d) s = .next (
        s.does c t fun u => u.putReg c t a ((crcRun 0xEDB88320 ((u.rg c t b).setWidth 32) (List.replicate ((u.rg c t d).toNat % 65536) 0)).setWidth 64))) ∧
  (∀ (c : Fin 68) (t : Fin 8) (a b d : BitVec 5) (s : State), Can.wHmix c t a b d s = true →
      exec (.wHmix c t a b d) s = .next (
        s.does c t fun u => u.putReg c t a (hmix (u.rg c t b) (u.rg c t d)))) ∧
  (∀ (c : Fin 68) (t : Fin 8) (b d : BitVec 5) (s : State), Can.wPfeed c t b d s = true →
      exec (.wPfeed c t b d) s = .next (
        s.does c t fun u => (u.modCore c fun k =>
          { k with cp2 := k.cp2.feed (chanOf (u.rg c t d)) ((u.rg c t b).setWidth 32) }).modTh c t Thread.advance)) ∧
  (∀ (c : Fin 68) (t : Fin 8) (a d : BitVec 5) (s : State), Can.wPre c t a d s = true →
      exec (.wPre c t a d) s = .next (
        s.does c t fun u => u.putReg c t a ((u.core c).cp2.chan (chanOf (u.rg c t d))).re)) ∧
  (∀ (c : Fin 68) (t : Fin 8) (a d : BitVec 5) (s : State), Can.wPim c t a d s = true →
      exec (.wPim c t a d) s = .next (
        s.does c t fun u => u.putReg c t a ((u.core c).cp2.chan (chanOf (u.rg c t d))).im)) ∧
  (∀ (c : Fin 68) (t : Fin 8) (a d : BitVec 5) (s : State), Can.wPmag c t a d s = true →
      exec (.wPmag c t a d) s = .next (
        s.does c t fun u => u.putReg c t a ((u.core c).cp2.mag (chanOf (u.rg c t d))))) ∧
  (∀ (c : Fin 68) (t : Fin 8) (a d : BitVec 5) (s : State), Can.wPang c t a d s = true →
      exec (.wPang c t a d) s = .next (
        s.does c t fun u => u.drawn.putReg c t a ((u.core c).cp2.ang (chanOf (u.rg c t d)) (Config.freeWord u.time.free)))) ∧
  (∀ (c : Fin 68) (t : Fin 8) (cp : Bool) (a : BitVec 5) (s : State), Can.wCpacq c t cp a s = true →
      exec (.wCpacq c t cp a) s = .next (
        s.does c t fun u => (u.modCore c fun k =>
          { k with cpOwner := Tab.set none k.cpOwner (cpNo cp) (some t)
                   cpSlice := Tab.set none k.cpSlice (cpNo cp) (some (u.sliceOf c t)) }).putReg c t a 0)) ∧
  (∀ (c : Fin 68) (t : Fin 8) (cp : Bool) (a : BitVec 5) (o : Nat) (s : State), Can.wCpacq_held c t cp a o s = true →
      exec (.wCpacq c t cp a) s = .next (
        s.does c t fun u => u.putReg c t a (if o = t.val then 0 else 1))) ∧
  (∀ (c : Fin 68) (t : Fin 8) (cp : Bool) (s : State), Can.wCprel c t cp s = true →
      exec (.wCprel c t cp) s = .next (
        s.does c t fun u => (u.modCore c fun k =>
          { k with cpOwner := Tab.set none k.cpOwner (cpNo cp) none }).modTh c t Thread.advance))

/-- Coprocessor instructions on memory are sent. -/
def Obligations.WeftMemoryCoprocessors : Prop :=
  (∀ (c : Fin 68) (t : Fin 8) (b : BitVec 5) (p : Nat) (x : Inst) (s : State), Can.wGkey c t b p x s = true →
      exec (.wGkey c t b) s = .next (
        s.does c t fun u => (u.modCore c fun k =>
            { k with cpOps := k.cpOps ++ [⟨1, t, x, (u.th c t).priv, 0, (u.rg c t b).toNat, 0, (u.th c t).pc⟩] }).modTh c t fun h =>
          { h.advance with depcnt := h.depcnt + 1 })) ∧
  (∀ (c : Fin 68) (t : Fin 8) (b : BitVec 5) (p : Nat) (x : Inst) (s : State), Can.wGiv c t b p x s = true →
      exec (.wGiv c t b) s = .next (
        s.does c t fun u => (u.modCore c fun k =>
            { k with cpOps := k.cpOps ++ [⟨1, t, x, (u.th c t).priv, 1, (u.rg c t b).toNat, 0, (u.th c t).pc⟩] }).modTh c t fun h =>
          { h.advance with depcnt := h.depcnt + 1 })) ∧
  (∀ (c : Fin 68) (t : Fin 8) (b : BitVec 5) (p : Nat) (x : Inst) (s : State), Can.wGaad c t b p x s = true →
      exec (.wGaad c t b) s = .next (
        s.does c t fun u => (u.modCore c fun k =>
            { k with cpOps := k.cpOps ++ [⟨1, t, x, (u.th c t).priv, 2, (u.rg c t b).toNat, 0, (u.th c t).pc⟩] }).modTh c t fun h =>
          { h.advance with depcnt := h.depcnt + 1 })) ∧
  (∀ (c : Fin 68) (t : Fin 8) (b : BitVec 5) (p : Nat) (x : Inst) (s : State), Can.wGenc c t b p x s = true →
      exec (.wGenc c t b) s = .next (
        s.does c t fun u => (u.modCore c fun k =>
            { k with cpOps := k.cpOps ++ [⟨1, t, x, (u.th c t).priv, 3, (u.rg c t b).toNat, 0, (u.th c t).pc⟩] }).modTh c t fun h =>
          { h.advance with depcnt := h.depcnt + 1 })) ∧
  (∀ (c : Fin 68) (t : Fin 8) (b : BitVec 5) (p : Nat) (x : Inst) (s : State), Can.wGdec c t b p x s = true →
      exec (.wGdec c t b) s = .next (
        s.does c t fun u => (u.modCore c fun k =>
            { k with cpOps := k.cpOps ++ [⟨1, t, x, (u.th c t).priv, 4, (u.rg c t b).toNat, 0, (u.th c t).pc⟩] }).modTh c t fun h =>
          { h.advance with depcnt := h.depcnt + 1 })) ∧
  (∀ (c : Fin 68) (t : Fin 8) (b : BitVec 5) (p : Nat) (x : Inst) (s : State), Can.wGtag c t b p x s = true →
      exec (.wGtag c t b) s = .next (
        s.does c t fun u => (u.modCore c fun k =>
            { k with cpOps := k.cpOps ++ [⟨1, t, x, (u.th c t).priv, 5, (u.rg c t b).toNat, 0, (u.th c t).pc⟩] }).modTh c t fun h =>
          { h.advance with depcnt := h.depcnt + 1 })) ∧
  (∀ (c : Fin 68) (t : Fin 8) (b : BitVec 5) (p : Nat) (x : Inst) (s : State), Can.wGver c t b p x s = true →
      exec (.wGver c t b) s = .next (
        s.does c t fun u => (u.modCore c fun k =>
            { k with cpOps := k.cpOps ++ [⟨1, t, x, (u.th c t).priv, 6, (u.rg c t b).toNat, 0, (u.th c t).pc⟩] }).modTh c t fun h =>
          { h.advance with depcnt := h.depcnt + 1 })) ∧
  (∀ (c : Fin 68) (t : Fin 8) (b : BitVec 5) (p : Nat) (x : Inst) (s : State), Can.wPcfg c t b p x s = true →
      exec (.wPcfg c t b) s = .next (
        s.does c t fun u => (u.modCore c fun k =>
            { k with cpOps := k.cpOps ++ [⟨2, t, x, (u.th c t).priv, 0x20, (u.rg c t b).toNat, 0, (u.th c t).pc⟩] }).modTh c t fun h =>
          { h.advance with depcnt := h.depcnt + 1 })) ∧
  (∀ (c : Fin 68) (t : Fin 8) (b d : BitVec 5) (p : Nat) (x : Inst) (s : State), Can.wPfeedm c t b d p x s = true →
      exec (.wPfeedm c t b d) s = .next (
        s.does c t fun u => (u.modCore c fun k =>
            { k with cpOps := k.cpOps ++ [⟨2, t, x, (u.th c t).priv, 0x21, (u.rg c t b).toNat, (u.rg c t d).toNat, (u.th c t).pc⟩] }).modTh c t fun h =>
          { h.advance with depcnt := h.depcnt + 1 })) ∧
  (∀ (c : Fin 68) (t : Fin 8) (b : BitVec 5) (p : Nat) (x : Inst) (s : State), Can.wPgetm c t b p x s = true →
      exec (.wPgetm c t b) s = .next (
        s.does c t fun u => (u.modCore c fun k =>
            { k with cpOps := k.cpOps ++ [⟨2, t, x, (u.th c t).priv, 0x22, (u.rg c t b).toNat, 0, (u.th c t).pc⟩] }).modTh c t fun h =>
          { h.advance with depcnt := h.depcnt + 1 })) ∧
  (∀ (c : Fin 68) (t : Fin 8) (cp : Bool) (b : BitVec 5) (p : Nat) (x : Inst) (s : State), Can.wCpsave c t cp b p x s = true →
      exec (.wCpsave c t cp b) s = .next (
        s.does c t fun u => (u.modCore c fun k =>
            { k with cpOps := k.cpOps ++ [⟨(cpNo cp), t, x, (u.th c t).priv, 0x10, (u.rg c t b).toNat, 0, (u.th c t).pc⟩] }).modTh c t fun h =>
          { h.advance with depcnt := h.depcnt + 1 })) ∧
  (∀ (c : Fin 68) (t : Fin 8) (cp : Bool) (b : BitVec 5) (p : Nat) (x : Inst) (s : State), Can.wCpload c t cp b p x s = true →
      exec (.wCpload c t cp b) s = .next (
        s.does c t fun u => (u.modCore c fun k =>
            { k with cpOps := k.cpOps ++ [⟨(cpNo cp), t, x, (u.th c t).priv, 0x11, (u.rg c t b).toNat, 0, (u.th c t).pc⟩] }).modTh c t fun h =>
          { h.advance with depcnt := h.depcnt + 1 }))

/-- Loads and stores that reach the slice's DRAM window (R258, R289): through the table cache, at once on a hit; the thread
waits for the fill of a line that is missing (R252). That a hit is answered in the same step is the model's choice
(log entry 4: access times are not modelled). -/
def Obligations.WeftDramWindow : Prop :=
  ∀ (i : Instr) (c : Fin 68) (t : Fin 8) (op : WeftOp) (e : Access) (p : Nat) (s : State),
    Instr.weft i = some (c, t, op) → weftAccess op = some e → e.toDram c t op p s = true →
      exec i s = .next (s.does c t fun u =>
        let x := u.cacheTouch (u.sl (u.sliceOf c t)).cfg.winCid.toNat (p / 64) (!e.load)
        if e.load then
          let bs := Mem.read x.1.dram.mem p e.bytes
          if x.2 then x.1.attachTo c t
            { line := p / 64, addr := (e.addr c t u).toNat, phys := p, bytes := e.bytes, load := true, reg := e.reg
              signed := e.signed, net := e.net, at' := u.now }
          else x.1.putReg c t e.reg (loaded (if e.net then bs.reverse else bs) e.signed)
        else
          let v := bytesOf (u.rg c t e.reg) e.bytes
          let bs := if e.net then v.reverse else v
          if x.2 then x.1.attachTo c t
            { line := p / 64, addr := (e.addr c t u).toNat, phys := p, bytes := e.bytes, load := false, data := bs
              at' := u.now }
          else ({ x.1 with dram.mem := Mem.write x.1.dram.mem p bs } : State).modTh c t Thread.advance)

end
end

