-- ==== Sys2Proof/Laws/Tab.lean ====
section
/-!
SUPPORT. The sparse tables: a read after a write, and the canonical form that every write keeps.
-/
namespace Sys2Proof.Machine

/-- A listed value is read back whatever the table holds. -/
theorem Tab.get_insert_self {α : Type} (d : α) (m : Tab α) (i : Nat) (x : α) : Tab.get d (Tab.insert i x m) i = x := by
  induction m with
  | nil => simp [Tab.insert, Tab.get]
  | cons p r ih =>
    obtain ⟨k, v⟩ := p
    simp only [Tab.insert]
    split
    · simp [Tab.get]
    · split
      · simp [Tab.get]
      · next h1 h2 => simp [Tab.get, ih, h1, Ne.symm h2]

/-- Another index reads as before. -/
theorem Tab.get_insert_ne {α : Type} (d : α) (m : Tab α) (i j : Nat) (x : α) (h : j ≠ i) :
    Tab.get d (Tab.insert i x m) j = Tab.get d m j := by
  induction m with
  | nil => simp [Tab.insert, Tab.get, Ne.symm h]
  | cons p r ih =>
    obtain ⟨k, v⟩ := p
    simp only [Tab.insert]
    split
    · next hik =>
      rw [Tab.get, if_neg (Ne.symm h)]
      split
      · next hji => rw [Tab.get, if_neg (by omega), if_pos (by omega)]
      · rfl
    · split
      · next hik => subst hik; simp only [Tab.get]; rw [if_neg (Ne.symm h), if_neg (Ne.symm h)]
      · simp only [Tab.get, ih]

/-- Below the first index that may be listed, a table reads its default. -/
theorem Tab.get_below {α : Type} (d : α) (m : Tab α) (lo i : Nat) (hm : Tab.rising lo m = true) (h : i < lo) :
    Tab.get d m i = d := by
  cases m with
  | nil => rfl
  | cons p r =>
    obtain ⟨k, v⟩ := p
    simp only [Tab.rising, Bool.and_eq_true, decide_eq_true_eq] at hm
    simp only [Tab.get]
    rw [if_neg (by omega), if_pos (by omega)]

/-- A table that rises from a number rises from every smaller one. -/
theorem Tab.rising_mono {α : Type} {m : Tab α} {lo lo' : Nat} (h : lo' ≤ lo) (hm : Tab.rising lo m = true) :
    Tab.rising lo' m = true := by
  cases m with
  | nil => rfl
  | cons p r =>
    obtain ⟨k, v⟩ := p
    simp only [Tab.rising, Bool.and_eq_true, decide_eq_true_eq] at hm ⊢
    exact ⟨by omega, hm.2⟩

/-- A write in rising order keeps the order. -/
theorem Tab.rising_insert {α : Type} (m : Tab α) (lo i : Nat) (x : α) (hi : lo ≤ i) (hm : Tab.rising lo m = true) :
    Tab.rising lo (Tab.insert i x m) = true := by
  induction m generalizing lo with
  | nil => simp [Tab.insert, Tab.rising, hi]
  | cons p r ih =>
    obtain ⟨k, v⟩ := p
    simp only [Tab.rising, Bool.and_eq_true, decide_eq_true_eq] at hm
    simp only [Tab.insert]
    split
    · simp only [Tab.rising, Bool.and_eq_true, decide_eq_true_eq]; exact ⟨hi, by omega, hm.2⟩
    · split
      · simp only [Tab.rising, Bool.and_eq_true, decide_eq_true_eq]; subst_vars; exact ⟨hm.1, hm.2⟩
      · simp only [Tab.rising, Bool.and_eq_true, decide_eq_true_eq]; exact ⟨hm.1, ih _ (by omega) hm.2⟩

/-- Taking a pair away keeps the order. -/
theorem Tab.rising_erase {α : Type} (m : Tab α) (lo i : Nat) (hm : Tab.rising lo m = true) :
    Tab.rising lo (Tab.erase i m) = true := by
  induction m generalizing lo with
  | nil => rfl
  | cons p r ih =>
    obtain ⟨k, v⟩ := p
    simp only [Tab.rising, Bool.and_eq_true, decide_eq_true_eq] at hm
    simp only [Tab.erase]
    split
    · exact Tab.rising_mono (by omega) hm.2
    · simp only [Tab.rising, Bool.and_eq_true, decide_eq_true_eq]; exact ⟨hm.1, ih _ hm.2⟩

/-- An index whose pair is taken away reads the default. -/
theorem Tab.get_erase_self {α : Type} (d : α) (m : Tab α) (lo i : Nat) (hm : Tab.rising lo m = true) :
    Tab.get d (Tab.erase i m) i = d := by
  induction m generalizing lo with
  | nil => rfl
  | cons p r ih =>
    obtain ⟨k, v⟩ := p
    simp only [Tab.rising, Bool.and_eq_true, decide_eq_true_eq] at hm
    simp only [Tab.erase]
    split
    · next h => exact Tab.get_below d r (k + 1) i hm.2 (by omega)
    · next h =>
      rw [Tab.get, if_neg h]
      split
      · rfl
      · exact ih _ hm.2

/-- Every other index reads as before. -/
theorem Tab.get_erase_ne {α : Type} (d : α) (m : Tab α) (lo i j : Nat) (hm : Tab.rising lo m = true) (h : j ≠ i) :
    Tab.get d (Tab.erase i m) j = Tab.get d m j := by
  induction m generalizing lo with
  | nil => rfl
  | cons p r ih =>
    obtain ⟨k, v⟩ := p
    simp only [Tab.rising, Bool.and_eq_true, decide_eq_true_eq] at hm
    simp only [Tab.erase]
    split
    · next hk =>
      rw [Tab.get, if_neg (by omega)]
      split
      · exact Tab.get_below d r (k + 1) j hm.2 (by omega)
      · rfl
    · simp only [Tab.get, ih _ hm.2]

/-- A read after a write to the same index. -/
theorem Tab.get_set_self {α : Type} [DecidableEq α] {d : α} {m : Tab α} (hm : Tab.rising 0 m = true) (i : Nat) (x : α) :
    Tab.get d (Tab.set d m i x) i = x := by
  unfold Tab.set
  split
  · next h => rw [Tab.get_erase_self d m 0 i hm, h]
  · exact Tab.get_insert_self d m i x

/-- A read after a write to another index. -/
theorem Tab.get_set_ne {α : Type} [DecidableEq α] {d : α} {m : Tab α} (hm : Tab.rising 0 m = true) (i j : Nat) (x : α)
    (h : j ≠ i) : Tab.get d (Tab.set d m i x) j = Tab.get d m j := by
  unfold Tab.set
  split
  · exact Tab.get_erase_ne d m 0 i j hm h
  · exact Tab.get_insert_ne d m i j x h

/-- Values that a write puts in are not the default, and the old ones stay. -/
theorem Tab.all_insert {α : Type} (q : Nat × α → Bool) (m : Tab α) (i : Nat) (x : α) (hm : m.all q = true)
    (hx : q (i, x) = true) : (Tab.insert i x m).all q = true := by
  induction m with
  | nil => simp [Tab.insert, hx]
  | cons p r ih =>
    obtain ⟨k, v⟩ := p
    simp only [List.all_cons, Bool.and_eq_true] at hm
    simp only [Tab.insert]
    split
    · simp only [List.all_cons, Bool.and_eq_true]; exact ⟨hx, hm.1, hm.2⟩
    · split
      · simp only [List.all_cons, Bool.and_eq_true]; exact ⟨hx, hm.2⟩
      · simp only [List.all_cons, Bool.and_eq_true]; exact ⟨hm.1, ih hm.2⟩

/-- What holds of every pair holds after one is taken away. -/
theorem Tab.all_erase {α : Type} (q : Nat × α → Bool) (m : Tab α) (i : Nat) (hm : m.all q = true) :
    (Tab.erase i m).all q = true := by
  induction m with
  | nil => rfl
  | cons p r ih =>
    obtain ⟨k, v⟩ := p
    simp only [List.all_cons, Bool.and_eq_true] at hm
    simp only [Tab.erase]
    split
    · exact hm.2
    · simp only [List.all_cons, Bool.and_eq_true]; exact ⟨hm.1, ih hm.2⟩

/-- A write keeps the canonical form. -/
theorem Tab.wf_set {α : Type} [DecidableEq α] {d : α} {m : Tab α} (h : Tab.wf d m = true) (i : Nat) (x : α) :
    Tab.wf d (Tab.set d m i x) = true := by
  simp only [Tab.wf, Bool.and_eq_true] at h ⊢
  unfold Tab.set
  split
  · exact ⟨Tab.rising_erase m 0 i h.1, Tab.all_erase _ m i h.2⟩
  · next hx => exact ⟨Tab.rising_insert m 0 i x (Nat.zero_le _) h.1, Tab.all_insert _ m i x h.2 (by simpa using hx)⟩

/-- The order of a table in canonical form. -/
theorem Tab.rising_of_wf {α : Type} [DecidableEq α] {d : α} {m : Tab α} (h : Tab.wf d m = true) : Tab.rising 0 m = true := by
  simp only [Tab.wf, Bool.and_eq_true] at h
  exact h.1

/-- A change keeps the canonical form. -/
theorem Tab.wf_upd {α : Type} [DecidableEq α] {d : α} {m : Tab α} (h : Tab.wf d m = true) (i : Nat) (f : α → α) :
    Tab.wf d (Tab.upd d m i f) = true := Tab.wf_set h i _

/-- What an index reads after its change. -/
theorem Tab.get_upd_self {α : Type} [DecidableEq α] {d : α} {m : Tab α} (h : Tab.wf d m = true) (i : Nat) (f : α → α) :
    Tab.get d (Tab.upd d m i f) i = f (Tab.get d m i) := Tab.get_set_self (Tab.rising_of_wf h) i _

/-- Every other index reads as before. -/
theorem Tab.get_upd_ne {α : Type} [DecidableEq α] {d : α} {m : Tab α} (h : Tab.wf d m = true) (i j : Nat) (f : α → α)
    (hj : j ≠ i) : Tab.get d (Tab.upd d m i f) j = Tab.get d m j := Tab.get_set_ne (Tab.rising_of_wf h) i j _ hj

/-- A write of bytes keeps a memory's canonical form. -/
theorem Mem.wf_write {m : Mem} (h : Tab.wf (0 : Byte) m = true) (a : Nat) (bs : List Byte) :
    Tab.wf (0 : Byte) (Mem.write m a bs) = true := by
  induction bs generalizing m a with
  | nil => exact h
  | cons b r ih => exact ih (Tab.wf_set h a b) (a + 1)

/-- A byte outside a write reads as before. -/
theorem Mem.byte_write_out {m : Mem} (h : Tab.wf (0 : Byte) m = true) (a : Nat) (bs : List Byte) (x : Nat)
    (hx : x < a ∨ a + bs.length ≤ x) : Mem.byte (Mem.write m a bs) x = Mem.byte m x := by
  induction bs generalizing m a with
  | nil => rfl
  | cons b r ih =>
    simp only [List.length_cons] at hx
    rw [Mem.write, ih (Tab.wf_set h a b) (a + 1) (by omega)]
    exact Tab.get_set_ne (Tab.rising_of_wf h) a x b (by omega)

/-- A byte inside a write reads as written. -/
theorem Mem.byte_write_in {m : Mem} (h : Tab.wf (0 : Byte) m = true) (a : Nat) (bs : List Byte) (k : Nat)
    (hk : k < bs.length) : Mem.byte (Mem.write m a bs) (a + k) = bs[k] := by
  induction bs generalizing m a k with
  | nil => simp at hk
  | cons b r ih =>
    rw [Mem.write]
    cases k with
    | zero =>
      rw [Mem.byte_write_out (Tab.wf_set h a b) (a + 1) r (a + 0) (by omega)]
      exact Tab.get_set_self (Tab.rising_of_wf h) a b
    | succ k =>
      have := ih (Tab.wf_set h a b) (a + 1) k (by simpa using hk)
      rw [show a + (k + 1) = a + 1 + k by omega, this]; simp

end Sys2Proof.Machine
end

