-- ==== Sys2Proof/Laws/State.lean ====
section
/-!
SUPPORT. For each named change of the state, what it leaves as it was: one lemma per field.
-/
namespace Sys2Proof.Machine

@[simp] theorem State.modPort_time (s : State) (p : Nat) (f : PortState → PortState) : (s.modPort p f).time = s.time := rfl
@[simp] theorem State.modPort_host (s : State) (p : Nat) (f : PortState → PortState) : (s.modPort p f).host = s.host := rfl
@[simp] theorem State.modPort_sys (s : State) (p : Nat) (f : PortState → PortState) : (s.modPort p f).sys = s.sys := rfl
@[simp] theorem State.modPort_selv (s : State) (p : Nat) (f : PortState → PortState) : (s.modPort p f).selv = s.selv := rfl
@[simp] theorem State.modPort_buf (s : State) (p : Nat) (f : PortState → PortState) : (s.modPort p f).buf = s.buf := rfl
@[simp] theorem State.modPort_task (s : State) (p : Nat) (f : PortState → PortState) : (s.modPort p f).task = s.task := rfl
@[simp] theorem State.modPort_rules (s : State) (p : Nat) (f : PortState → PortState) : (s.modPort p f).rules = s.rules := rfl
@[simp] theorem State.modPort_weft (s : State) (p : Nat) (f : PortState → PortState) : (s.modPort p f).weft = s.weft := rfl
@[simp] theorem State.modPort_tm (s : State) (p : Nat) (f : PortState → PortState) : (s.modPort p f).tm = s.tm := rfl
@[simp] theorem State.modPort_fab (s : State) (p : Nat) (f : PortState → PortState) : (s.modPort p f).fab = s.fab := rfl
@[simp] theorem State.modPort_lock (s : State) (p : Nat) (f : PortState → PortState) : (s.modPort p f).lock = s.lock := rfl
@[simp] theorem State.modPort_tab (s : State) (p : Nat) (f : PortState → PortState) : (s.modPort p f).tab = s.tab := rfl
@[simp] theorem State.modPort_dram (s : State) (p : Nat) (f : PortState → PortState) : (s.modPort p f).dram = s.dram := rfl
@[simp] theorem State.modPort_out (s : State) (p : Nat) (f : PortState → PortState) : (s.modPort p f).out = s.out := rfl
@[simp] theorem State.modPort_pending (s : State) (p : Nat) (f : PortState → PortState) : (s.modPort p f).pending = s.pending := rfl

@[simp] theorem State.modRing_time (s : State) (r : Nat) (f : GenRing → GenRing) : (s.modRing r f).time = s.time := rfl
@[simp] theorem State.modRing_host (s : State) (r : Nat) (f : GenRing → GenRing) : (s.modRing r f).host = s.host := rfl
@[simp] theorem State.modRing_sys (s : State) (r : Nat) (f : GenRing → GenRing) : (s.modRing r f).sys = s.sys := rfl
@[simp] theorem State.modRing_selv (s : State) (r : Nat) (f : GenRing → GenRing) : (s.modRing r f).selv = s.selv := rfl
@[simp] theorem State.modRing_ports (s : State) (r : Nat) (f : GenRing → GenRing) : (s.modRing r f).ports = s.ports := rfl
@[simp] theorem State.modRing_task (s : State) (r : Nat) (f : GenRing → GenRing) : (s.modRing r f).task = s.task := rfl
@[simp] theorem State.modRing_rules (s : State) (r : Nat) (f : GenRing → GenRing) : (s.modRing r f).rules = s.rules := rfl
@[simp] theorem State.modRing_weft (s : State) (r : Nat) (f : GenRing → GenRing) : (s.modRing r f).weft = s.weft := rfl
@[simp] theorem State.modRing_tm (s : State) (r : Nat) (f : GenRing → GenRing) : (s.modRing r f).tm = s.tm := rfl
@[simp] theorem State.modRing_fab (s : State) (r : Nat) (f : GenRing → GenRing) : (s.modRing r f).fab = s.fab := rfl
@[simp] theorem State.modRing_lock (s : State) (r : Nat) (f : GenRing → GenRing) : (s.modRing r f).lock = s.lock := rfl
@[simp] theorem State.modRing_tab (s : State) (r : Nat) (f : GenRing → GenRing) : (s.modRing r f).tab = s.tab := rfl
@[simp] theorem State.modRing_dram (s : State) (r : Nat) (f : GenRing → GenRing) : (s.modRing r f).dram = s.dram := rfl
@[simp] theorem State.modRing_out (s : State) (r : Nat) (f : GenRing → GenRing) : (s.modRing r f).out = s.out := rfl
@[simp] theorem State.modRing_pending (s : State) (r : Nat) (f : GenRing → GenRing) : (s.modRing r f).pending = s.pending := rfl
@[simp] theorem State.modRing_buf_warps (s : State) (r : Nat) (f : GenRing → GenRing) : (s.modRing r f).buf.warps = s.buf.warps := rfl
@[simp] theorem State.modRing_buf_pools (s : State) (r : Nat) (f : GenRing → GenRing) : (s.modRing r f).buf.pools = s.buf.pools := rfl
@[simp] theorem State.modRing_buf_recs (s : State) (r : Nat) (f : GenRing → GenRing) : (s.modRing r f).buf.recs = s.buf.recs := rfl
@[simp] theorem State.modRing_buf_cells (s : State) (r : Nat) (f : GenRing → GenRing) : (s.modRing r f).buf.cells = s.buf.cells := rfl
@[simp] theorem State.modRing_buf_metas (s : State) (r : Nat) (f : GenRing → GenRing) : (s.modRing r f).buf.metas = s.buf.metas := rfl

@[simp] theorem State.modWarp_time (s : State) (p : Nat) (f : WarpPair → WarpPair) : (s.modWarp p f).time = s.time := rfl
@[simp] theorem State.modWarp_host (s : State) (p : Nat) (f : WarpPair → WarpPair) : (s.modWarp p f).host = s.host := rfl
@[simp] theorem State.modWarp_sys (s : State) (p : Nat) (f : WarpPair → WarpPair) : (s.modWarp p f).sys = s.sys := rfl
@[simp] theorem State.modWarp_selv (s : State) (p : Nat) (f : WarpPair → WarpPair) : (s.modWarp p f).selv = s.selv := rfl
@[simp] theorem State.modWarp_ports (s : State) (p : Nat) (f : WarpPair → WarpPair) : (s.modWarp p f).ports = s.ports := rfl
@[simp] theorem State.modWarp_task (s : State) (p : Nat) (f : WarpPair → WarpPair) : (s.modWarp p f).task = s.task := rfl
@[simp] theorem State.modWarp_rules (s : State) (p : Nat) (f : WarpPair → WarpPair) : (s.modWarp p f).rules = s.rules := rfl
@[simp] theorem State.modWarp_weft (s : State) (p : Nat) (f : WarpPair → WarpPair) : (s.modWarp p f).weft = s.weft := rfl
@[simp] theorem State.modWarp_tm (s : State) (p : Nat) (f : WarpPair → WarpPair) : (s.modWarp p f).tm = s.tm := rfl
@[simp] theorem State.modWarp_fab (s : State) (p : Nat) (f : WarpPair → WarpPair) : (s.modWarp p f).fab = s.fab := rfl
@[simp] theorem State.modWarp_lock (s : State) (p : Nat) (f : WarpPair → WarpPair) : (s.modWarp p f).lock = s.lock := rfl
@[simp] theorem State.modWarp_tab (s : State) (p : Nat) (f : WarpPair → WarpPair) : (s.modWarp p f).tab = s.tab := rfl
@[simp] theorem State.modWarp_dram (s : State) (p : Nat) (f : WarpPair → WarpPair) : (s.modWarp p f).dram = s.dram := rfl
@[simp] theorem State.modWarp_out (s : State) (p : Nat) (f : WarpPair → WarpPair) : (s.modWarp p f).out = s.out := rfl
@[simp] theorem State.modWarp_pending (s : State) (p : Nat) (f : WarpPair → WarpPair) : (s.modWarp p f).pending = s.pending := rfl
@[simp] theorem State.modWarp_buf_rings (s : State) (p : Nat) (f : WarpPair → WarpPair) : (s.modWarp p f).buf.rings = s.buf.rings := rfl
@[simp] theorem State.modWarp_buf_pools (s : State) (p : Nat) (f : WarpPair → WarpPair) : (s.modWarp p f).buf.pools = s.buf.pools := rfl
@[simp] theorem State.modWarp_buf_recs (s : State) (p : Nat) (f : WarpPair → WarpPair) : (s.modWarp p f).buf.recs = s.buf.recs := rfl
@[simp] theorem State.modWarp_buf_cells (s : State) (p : Nat) (f : WarpPair → WarpPair) : (s.modWarp p f).buf.cells = s.buf.cells := rfl
@[simp] theorem State.modWarp_buf_metas (s : State) (p : Nat) (f : WarpPair → WarpPair) : (s.modWarp p f).buf.metas = s.buf.metas := rfl

@[simp] theorem State.modPool_time (s : State) (b : Nat) (f : Pool → Pool) : (s.modPool b f).time = s.time := rfl
@[simp] theorem State.modPool_host (s : State) (b : Nat) (f : Pool → Pool) : (s.modPool b f).host = s.host := rfl
@[simp] theorem State.modPool_sys (s : State) (b : Nat) (f : Pool → Pool) : (s.modPool b f).sys = s.sys := rfl
@[simp] theorem State.modPool_selv (s : State) (b : Nat) (f : Pool → Pool) : (s.modPool b f).selv = s.selv := rfl
@[simp] theorem State.modPool_ports (s : State) (b : Nat) (f : Pool → Pool) : (s.modPool b f).ports = s.ports := rfl
@[simp] theorem State.modPool_task (s : State) (b : Nat) (f : Pool → Pool) : (s.modPool b f).task = s.task := rfl
@[simp] theorem State.modPool_rules (s : State) (b : Nat) (f : Pool → Pool) : (s.modPool b f).rules = s.rules := rfl
@[simp] theorem State.modPool_weft (s : State) (b : Nat) (f : Pool → Pool) : (s.modPool b f).weft = s.weft := rfl
@[simp] theorem State.modPool_tm (s : State) (b : Nat) (f : Pool → Pool) : (s.modPool b f).tm = s.tm := rfl
@[simp] theorem State.modPool_fab (s : State) (b : Nat) (f : Pool → Pool) : (s.modPool b f).fab = s.fab := rfl
@[simp] theorem State.modPool_lock (s : State) (b : Nat) (f : Pool → Pool) : (s.modPool b f).lock = s.lock := rfl
@[simp] theorem State.modPool_tab (s : State) (b : Nat) (f : Pool → Pool) : (s.modPool b f).tab = s.tab := rfl
@[simp] theorem State.modPool_dram (s : State) (b : Nat) (f : Pool → Pool) : (s.modPool b f).dram = s.dram := rfl
@[simp] theorem State.modPool_out (s : State) (b : Nat) (f : Pool → Pool) : (s.modPool b f).out = s.out := rfl
@[simp] theorem State.modPool_pending (s : State) (b : Nat) (f : Pool → Pool) : (s.modPool b f).pending = s.pending := rfl
@[simp] theorem State.modPool_buf_rings (s : State) (b : Nat) (f : Pool → Pool) : (s.modPool b f).buf.rings = s.buf.rings := rfl
@[simp] theorem State.modPool_buf_warps (s : State) (b : Nat) (f : Pool → Pool) : (s.modPool b f).buf.warps = s.buf.warps := rfl
@[simp] theorem State.modPool_buf_recs (s : State) (b : Nat) (f : Pool → Pool) : (s.modPool b f).buf.recs = s.buf.recs := rfl
@[simp] theorem State.modPool_buf_cells (s : State) (b : Nat) (f : Pool → Pool) : (s.modPool b f).buf.cells = s.buf.cells := rfl
@[simp] theorem State.modPool_buf_metas (s : State) (b : Nat) (f : Pool → Pool) : (s.modPool b f).buf.metas = s.buf.metas := rfl

@[simp] theorem State.modCell_time (s : State) (i : Nat) (f : CellRec → CellRec) : (s.modCell i f).time = s.time := rfl
@[simp] theorem State.modCell_host (s : State) (i : Nat) (f : CellRec → CellRec) : (s.modCell i f).host = s.host := rfl
@[simp] theorem State.modCell_sys (s : State) (i : Nat) (f : CellRec → CellRec) : (s.modCell i f).sys = s.sys := rfl
@[simp] theorem State.modCell_selv (s : State) (i : Nat) (f : CellRec → CellRec) : (s.modCell i f).selv = s.selv := rfl
@[simp] theorem State.modCell_ports (s : State) (i : Nat) (f : CellRec → CellRec) : (s.modCell i f).ports = s.ports := rfl
@[simp] theorem State.modCell_task (s : State) (i : Nat) (f : CellRec → CellRec) : (s.modCell i f).task = s.task := rfl
@[simp] theorem State.modCell_rules (s : State) (i : Nat) (f : CellRec → CellRec) : (s.modCell i f).rules = s.rules := rfl
@[simp] theorem State.modCell_weft (s : State) (i : Nat) (f : CellRec → CellRec) : (s.modCell i f).weft = s.weft := rfl
@[simp] theorem State.modCell_tm (s : State) (i : Nat) (f : CellRec → CellRec) : (s.modCell i f).tm = s.tm := rfl
@[simp] theorem State.modCell_fab (s : State) (i : Nat) (f : CellRec → CellRec) : (s.modCell i f).fab = s.fab := rfl
@[simp] theorem State.modCell_lock (s : State) (i : Nat) (f : CellRec → CellRec) : (s.modCell i f).lock = s.lock := rfl
@[simp] theorem State.modCell_tab (s : State) (i : Nat) (f : CellRec → CellRec) : (s.modCell i f).tab = s.tab := rfl
@[simp] theorem State.modCell_dram (s : State) (i : Nat) (f : CellRec → CellRec) : (s.modCell i f).dram = s.dram := rfl
@[simp] theorem State.modCell_out (s : State) (i : Nat) (f : CellRec → CellRec) : (s.modCell i f).out = s.out := rfl
@[simp] theorem State.modCell_pending (s : State) (i : Nat) (f : CellRec → CellRec) : (s.modCell i f).pending = s.pending := rfl
@[simp] theorem State.modCell_buf_rings (s : State) (i : Nat) (f : CellRec → CellRec) : (s.modCell i f).buf.rings = s.buf.rings := rfl
@[simp] theorem State.modCell_buf_warps (s : State) (i : Nat) (f : CellRec → CellRec) : (s.modCell i f).buf.warps = s.buf.warps := rfl
@[simp] theorem State.modCell_buf_pools (s : State) (i : Nat) (f : CellRec → CellRec) : (s.modCell i f).buf.pools = s.buf.pools := rfl
@[simp] theorem State.modCell_buf_cells (s : State) (i : Nat) (f : CellRec → CellRec) : (s.modCell i f).buf.cells = s.buf.cells := rfl
@[simp] theorem State.modCell_buf_metas (s : State) (i : Nat) (f : CellRec → CellRec) : (s.modCell i f).buf.metas = s.buf.metas := rfl

@[simp] theorem State.modSl_time (s : State) (n : Nat) (f : SliceHost → SliceHost) : (s.modSl n f).time = s.time := rfl
@[simp] theorem State.modSl_sys (s : State) (n : Nat) (f : SliceHost → SliceHost) : (s.modSl n f).sys = s.sys := rfl
@[simp] theorem State.modSl_selv (s : State) (n : Nat) (f : SliceHost → SliceHost) : (s.modSl n f).selv = s.selv := rfl
@[simp] theorem State.modSl_ports (s : State) (n : Nat) (f : SliceHost → SliceHost) : (s.modSl n f).ports = s.ports := rfl
@[simp] theorem State.modSl_buf (s : State) (n : Nat) (f : SliceHost → SliceHost) : (s.modSl n f).buf = s.buf := rfl
@[simp] theorem State.modSl_task (s : State) (n : Nat) (f : SliceHost → SliceHost) : (s.modSl n f).task = s.task := rfl
@[simp] theorem State.modSl_rules (s : State) (n : Nat) (f : SliceHost → SliceHost) : (s.modSl n f).rules = s.rules := rfl
@[simp] theorem State.modSl_weft (s : State) (n : Nat) (f : SliceHost → SliceHost) : (s.modSl n f).weft = s.weft := rfl
@[simp] theorem State.modSl_tm (s : State) (n : Nat) (f : SliceHost → SliceHost) : (s.modSl n f).tm = s.tm := rfl
@[simp] theorem State.modSl_fab (s : State) (n : Nat) (f : SliceHost → SliceHost) : (s.modSl n f).fab = s.fab := rfl
@[simp] theorem State.modSl_lock (s : State) (n : Nat) (f : SliceHost → SliceHost) : (s.modSl n f).lock = s.lock := rfl
@[simp] theorem State.modSl_tab (s : State) (n : Nat) (f : SliceHost → SliceHost) : (s.modSl n f).tab = s.tab := rfl
@[simp] theorem State.modSl_dram (s : State) (n : Nat) (f : SliceHost → SliceHost) : (s.modSl n f).dram = s.dram := rfl
@[simp] theorem State.modSl_out (s : State) (n : Nat) (f : SliceHost → SliceHost) : (s.modSl n f).out = s.out := rfl
@[simp] theorem State.modSl_pending (s : State) (n : Nat) (f : SliceHost → SliceHost) : (s.modSl n f).pending = s.pending := rfl
@[simp] theorem State.modSl_host_rings (s : State) (n : Nat) (f : SliceHost → SliceHost) : (s.modSl n f).host.rings = s.host.rings := rfl
@[simp] theorem State.modSl_host_mboxIn (s : State) (n : Nat) (f : SliceHost → SliceHost) : (s.modSl n f).host.mboxIn = s.host.mboxIn := rfl
@[simp] theorem State.modSl_host_mboxOut (s : State) (n : Nat) (f : SliceHost → SliceHost) : (s.modSl n f).host.mboxOut = s.host.mboxOut := rfl
@[simp] theorem State.modSl_host_mboxPending (s : State) (n : Nat) (f : SliceHost → SliceHost) : (s.modSl n f).host.mboxPending = s.host.mboxPending := rfl
@[simp] theorem State.modSl_host_mboxGone (s : State) (n : Nat) (f : SliceHost → SliceHost) : (s.modSl n f).host.mboxGone = s.host.mboxGone := rfl
@[simp] theorem State.modSl_host_identLatch (s : State) (n : Nat) (f : SliceHost → SliceHost) : (s.modSl n f).host.identLatch = s.host.identLatch := rfl
@[simp] theorem State.modSl_host_resetArm (s : State) (n : Nat) (f : SliceHost → SliceHost) : (s.modSl n f).host.resetArm = s.host.resetArm := rfl
@[simp] theorem State.modSl_host_irq (s : State) (n : Nat) (f : SliceHost → SliceHost) : (s.modSl n f).host.irq = s.host.irq := rfl
@[simp] theorem State.modSl_host_msix (s : State) (n : Nat) (f : SliceHost → SliceHost) : (s.modSl n f).host.msix = s.host.msix := rfl
@[simp] theorem State.modSl_host_pba (s : State) (n : Nat) (f : SliceHost → SliceHost) : (s.modSl n f).host.pba = s.host.pba := rfl
@[simp] theorem State.modSl_host_gens (s : State) (n : Nat) (f : SliceHost → SliceHost) : (s.modSl n f).host.gens = s.host.gens := rfl
@[simp] theorem State.modSl_host_devGen (s : State) (n : Nat) (f : SliceHost → SliceHost) : (s.modSl n f).host.devGen = s.host.devGen := rfl
@[simp] theorem State.modSl_host_held (s : State) (n : Nat) (f : SliceHost → SliceHost) : (s.modSl n f).host.held = s.host.held := rfl
@[simp] theorem State.modSl_host_deferred (s : State) (n : Nat) (f : SliceHost → SliceHost) : (s.modSl n f).host.deferred = s.host.deferred := rfl
@[simp] theorem State.modSl_host_m0Window (s : State) (n : Nat) (f : SliceHost → SliceHost) : (s.modSl n f).host.m0Window = s.host.m0Window := rfl
@[simp] theorem State.modSl_host_m0Peers (s : State) (n : Nat) (f : SliceHost → SliceHost) : (s.modSl n f).host.m0Peers = s.host.m0Peers := rfl
@[simp] theorem State.modSl_host_devCfg (s : State) (n : Nat) (f : SliceHost → SliceHost) : (s.modSl n f).host.devCfg = s.host.devCfg := rfl
@[simp] theorem State.modSl_host_clearArm (s : State) (n : Nat) (f : SliceHost → SliceHost) : (s.modSl n f).host.clearArm = s.host.clearArm := rfl
@[simp] theorem State.modSl_host_ctrRange (s : State) (n : Nat) (f : SliceHost → SliceHost) : (s.modSl n f).host.ctrRange = s.host.ctrRange := rfl
@[simp] theorem State.modSl_host_pairs (s : State) (n : Nat) (f : SliceHost → SliceHost) : (s.modSl n f).host.pairs = s.host.pairs := rfl
@[simp] theorem State.modSl_host_ctr (s : State) (n : Nat) (f : SliceHost → SliceHost) : (s.modSl n f).host.ctr = s.host.ctr := rfl
@[simp] theorem State.modSl_host_evCtr (s : State) (n : Nat) (f : SliceHost → SliceHost) : (s.modSl n f).host.evCtr = s.host.evCtr := rfl
@[simp] theorem State.modSl_host_snapshot (s : State) (n : Nat) (f : SliceHost → SliceHost) : (s.modSl n f).host.snapshot = s.host.snapshot := rfl

@[simp] theorem State.modHr_time (s : State) (r : Nat) (f : HostRing → HostRing) : (s.modHr r f).time = s.time := rfl
@[simp] theorem State.modHr_sys (s : State) (r : Nat) (f : HostRing → HostRing) : (s.modHr r f).sys = s.sys := rfl
@[simp] theorem State.modHr_selv (s : State) (r : Nat) (f : HostRing → HostRing) : (s.modHr r f).selv = s.selv := rfl
@[simp] theorem State.modHr_ports (s : State) (r : Nat) (f : HostRing → HostRing) : (s.modHr r f).ports = s.ports := rfl
@[simp] theorem State.modHr_buf (s : State) (r : Nat) (f : HostRing → HostRing) : (s.modHr r f).buf = s.buf := rfl
@[simp] theorem State.modHr_task (s : State) (r : Nat) (f : HostRing → HostRing) : (s.modHr r f).task = s.task := rfl
@[simp] theorem State.modHr_rules (s : State) (r : Nat) (f : HostRing → HostRing) : (s.modHr r f).rules = s.rules := rfl
@[simp] theorem State.modHr_weft (s : State) (r : Nat) (f : HostRing → HostRing) : (s.modHr r f).weft = s.weft := rfl
@[simp] theorem State.modHr_tm (s : State) (r : Nat) (f : HostRing → HostRing) : (s.modHr r f).tm = s.tm := rfl
@[simp] theorem State.modHr_fab (s : State) (r : Nat) (f : HostRing → HostRing) : (s.modHr r f).fab = s.fab := rfl
@[simp] theorem State.modHr_lock (s : State) (r : Nat) (f : HostRing → HostRing) : (s.modHr r f).lock = s.lock := rfl
@[simp] theorem State.modHr_tab (s : State) (r : Nat) (f : HostRing → HostRing) : (s.modHr r f).tab = s.tab := rfl
@[simp] theorem State.modHr_dram (s : State) (r : Nat) (f : HostRing → HostRing) : (s.modHr r f).dram = s.dram := rfl
@[simp] theorem State.modHr_out (s : State) (r : Nat) (f : HostRing → HostRing) : (s.modHr r f).out = s.out := rfl
@[simp] theorem State.modHr_pending (s : State) (r : Nat) (f : HostRing → HostRing) : (s.modHr r f).pending = s.pending := rfl
@[simp] theorem State.modHr_host_slices (s : State) (r : Nat) (f : HostRing → HostRing) : (s.modHr r f).host.slices = s.host.slices := rfl
@[simp] theorem State.modHr_host_mboxIn (s : State) (r : Nat) (f : HostRing → HostRing) : (s.modHr r f).host.mboxIn = s.host.mboxIn := rfl
@[simp] theorem State.modHr_host_mboxOut (s : State) (r : Nat) (f : HostRing → HostRing) : (s.modHr r f).host.mboxOut = s.host.mboxOut := rfl
@[simp] theorem State.modHr_host_mboxPending (s : State) (r : Nat) (f : HostRing → HostRing) : (s.modHr r f).host.mboxPending = s.host.mboxPending := rfl
@[simp] theorem State.modHr_host_mboxGone (s : State) (r : Nat) (f : HostRing → HostRing) : (s.modHr r f).host.mboxGone = s.host.mboxGone := rfl
@[simp] theorem State.modHr_host_identLatch (s : State) (r : Nat) (f : HostRing → HostRing) : (s.modHr r f).host.identLatch = s.host.identLatch := rfl
@[simp] theorem State.modHr_host_resetArm (s : State) (r : Nat) (f : HostRing → HostRing) : (s.modHr r f).host.resetArm = s.host.resetArm := rfl
@[simp] theorem State.modHr_host_irq (s : State) (r : Nat) (f : HostRing → HostRing) : (s.modHr r f).host.irq = s.host.irq := rfl
@[simp] theorem State.modHr_host_msix (s : State) (r : Nat) (f : HostRing → HostRing) : (s.modHr r f).host.msix = s.host.msix := rfl
@[simp] theorem State.modHr_host_pba (s : State) (r : Nat) (f : HostRing → HostRing) : (s.modHr r f).host.pba = s.host.pba := rfl
@[simp] theorem State.modHr_host_gens (s : State) (r : Nat) (f : HostRing → HostRing) : (s.modHr r f).host.gens = s.host.gens := rfl
@[simp] theorem State.modHr_host_devGen (s : State) (r : Nat) (f : HostRing → HostRing) : (s.modHr r f).host.devGen = s.host.devGen := rfl
@[simp] theorem State.modHr_host_held (s : State) (r : Nat) (f : HostRing → HostRing) : (s.modHr r f).host.held = s.host.held := rfl
@[simp] theorem State.modHr_host_deferred (s : State) (r : Nat) (f : HostRing → HostRing) : (s.modHr r f).host.deferred = s.host.deferred := rfl
@[simp] theorem State.modHr_host_m0Window (s : State) (r : Nat) (f : HostRing → HostRing) : (s.modHr r f).host.m0Window = s.host.m0Window := rfl
@[simp] theorem State.modHr_host_m0Peers (s : State) (r : Nat) (f : HostRing → HostRing) : (s.modHr r f).host.m0Peers = s.host.m0Peers := rfl
@[simp] theorem State.modHr_host_devCfg (s : State) (r : Nat) (f : HostRing → HostRing) : (s.modHr r f).host.devCfg = s.host.devCfg := rfl
@[simp] theorem State.modHr_host_clearArm (s : State) (r : Nat) (f : HostRing → HostRing) : (s.modHr r f).host.clearArm = s.host.clearArm := rfl
@[simp] theorem State.modHr_host_ctrRange (s : State) (r : Nat) (f : HostRing → HostRing) : (s.modHr r f).host.ctrRange = s.host.ctrRange := rfl
@[simp] theorem State.modHr_host_pairs (s : State) (r : Nat) (f : HostRing → HostRing) : (s.modHr r f).host.pairs = s.host.pairs := rfl
@[simp] theorem State.modHr_host_ctr (s : State) (r : Nat) (f : HostRing → HostRing) : (s.modHr r f).host.ctr = s.host.ctr := rfl
@[simp] theorem State.modHr_host_evCtr (s : State) (r : Nat) (f : HostRing → HostRing) : (s.modHr r f).host.evCtr = s.host.evCtr := rfl
@[simp] theorem State.modHr_host_snapshot (s : State) (r : Nat) (f : HostRing → HostRing) : (s.modHr r f).host.snapshot = s.host.snapshot := rfl

@[simp] theorem State.modPick_host (s : State) (k : Nat) (f : PickState → PickState) : (s.modPick k f).host = s.host := rfl
@[simp] theorem State.modPick_sys (s : State) (k : Nat) (f : PickState → PickState) : (s.modPick k f).sys = s.sys := rfl
@[simp] theorem State.modPick_selv (s : State) (k : Nat) (f : PickState → PickState) : (s.modPick k f).selv = s.selv := rfl
@[simp] theorem State.modPick_ports (s : State) (k : Nat) (f : PickState → PickState) : (s.modPick k f).ports = s.ports := rfl
@[simp] theorem State.modPick_buf (s : State) (k : Nat) (f : PickState → PickState) : (s.modPick k f).buf = s.buf := rfl
@[simp] theorem State.modPick_task (s : State) (k : Nat) (f : PickState → PickState) : (s.modPick k f).task = s.task := rfl
@[simp] theorem State.modPick_rules (s : State) (k : Nat) (f : PickState → PickState) : (s.modPick k f).rules = s.rules := rfl
@[simp] theorem State.modPick_weft (s : State) (k : Nat) (f : PickState → PickState) : (s.modPick k f).weft = s.weft := rfl
@[simp] theorem State.modPick_tm (s : State) (k : Nat) (f : PickState → PickState) : (s.modPick k f).tm = s.tm := rfl
@[simp] theorem State.modPick_fab (s : State) (k : Nat) (f : PickState → PickState) : (s.modPick k f).fab = s.fab := rfl
@[simp] theorem State.modPick_lock (s : State) (k : Nat) (f : PickState → PickState) : (s.modPick k f).lock = s.lock := rfl
@[simp] theorem State.modPick_tab (s : State) (k : Nat) (f : PickState → PickState) : (s.modPick k f).tab = s.tab := rfl
@[simp] theorem State.modPick_dram (s : State) (k : Nat) (f : PickState → PickState) : (s.modPick k f).dram = s.dram := rfl
@[simp] theorem State.modPick_out (s : State) (k : Nat) (f : PickState → PickState) : (s.modPick k f).out = s.out := rfl
@[simp] theorem State.modPick_pending (s : State) (k : Nat) (f : PickState → PickState) : (s.modPick k f).pending = s.pending := rfl
@[simp] theorem State.modPick_time_now (s : State) (k : Nat) (f : PickState → PickState) : (s.modPick k f).time.now = s.time.now := rfl
@[simp] theorem State.modPick_time_wall (s : State) (k : Nat) (f : PickState → PickState) : (s.modPick k f).time.wall = s.time.wall := rfl
@[simp] theorem State.modPick_time_frac (s : State) (k : Nat) (f : PickState → PickState) : (s.modPick k f).time.frac = s.time.frac := rfl
@[simp] theorem State.modPick_time_cfg (s : State) (k : Nat) (f : PickState → PickState) : (s.modPick k f).time.cfg = s.time.cfg := rfl
@[simp] theorem State.modPick_time_st (s : State) (k : Nat) (f : PickState → PickState) : (s.modPick k f).time.st = s.time.st := rfl
@[simp] theorem State.modPick_time_lastStep (s : State) (k : Nat) (f : PickState → PickState) : (s.modPick k f).time.lastStep = s.time.lastStep := rfl
@[simp] theorem State.modPick_time_goodRun (s : State) (k : Nat) (f : PickState → PickState) : (s.modPick k f).time.goodRun = s.time.goodRun := rfl
@[simp] theorem State.modPick_time_badRun (s : State) (k : Nat) (f : PickState → PickState) : (s.modPick k f).time.badRun = s.time.badRun := rfl
@[simp] theorem State.modPick_time_todSet (s : State) (k : Nat) (f : PickState → PickState) : (s.modPick k f).time.todSet = s.time.todSet := rfl
@[simp] theorem State.modPick_time_lastPps (s : State) (k : Nat) (f : PickState → PickState) : (s.modPick k f).time.lastPps = s.time.lastPps := rfl
@[simp] theorem State.modPick_time_ppsHigh (s : State) (k : Nat) (f : PickState → PickState) : (s.modPick k f).time.ppsHigh = s.time.ppsHigh := rfl
@[simp] theorem State.modPick_time_ptpClock (s : State) (k : Nat) (f : PickState → PickState) : (s.modPick k f).time.ptpClock = s.time.ptpClock := rfl
@[simp] theorem State.modPick_time_ptpPorts (s : State) (k : Nat) (f : PickState → PickState) : (s.modPick k f).time.ptpPorts = s.time.ptpPorts := rfl
@[simp] theorem State.modPick_time_ptpSt (s : State) (k : Nat) (f : PickState → PickState) : (s.modPick k f).time.ptpSt = s.time.ptpSt := rfl
@[simp] theorem State.modPick_time_free (s : State) (k : Nat) (f : PickState → PickState) : (s.modPick k f).time.free = s.time.free := rfl

@[simp] theorem State.modPtpSt_host (s : State) (p : Nat) (f : PtpSt → PtpSt) : (s.modPtpSt p f).host = s.host := rfl
@[simp] theorem State.modPtpSt_sys (s : State) (p : Nat) (f : PtpSt → PtpSt) : (s.modPtpSt p f).sys = s.sys := rfl
@[simp] theorem State.modPtpSt_selv (s : State) (p : Nat) (f : PtpSt → PtpSt) : (s.modPtpSt p f).selv = s.selv := rfl
@[simp] theorem State.modPtpSt_ports (s : State) (p : Nat) (f : PtpSt → PtpSt) : (s.modPtpSt p f).ports = s.ports := rfl
@[simp] theorem State.modPtpSt_buf (s : State) (p : Nat) (f : PtpSt → PtpSt) : (s.modPtpSt p f).buf = s.buf := rfl
@[simp] theorem State.modPtpSt_task (s : State) (p : Nat) (f : PtpSt → PtpSt) : (s.modPtpSt p f).task = s.task := rfl
@[simp] theorem State.modPtpSt_rules (s : State) (p : Nat) (f : PtpSt → PtpSt) : (s.modPtpSt p f).rules = s.rules := rfl
@[simp] theorem State.modPtpSt_weft (s : State) (p : Nat) (f : PtpSt → PtpSt) : (s.modPtpSt p f).weft = s.weft := rfl
@[simp] theorem State.modPtpSt_tm (s : State) (p : Nat) (f : PtpSt → PtpSt) : (s.modPtpSt p f).tm = s.tm := rfl
@[simp] theorem State.modPtpSt_fab (s : State) (p : Nat) (f : PtpSt → PtpSt) : (s.modPtpSt p f).fab = s.fab := rfl
@[simp] theorem State.modPtpSt_lock (s : State) (p : Nat) (f : PtpSt → PtpSt) : (s.modPtpSt p f).lock = s.lock := rfl
@[simp] theorem State.modPtpSt_tab (s : State) (p : Nat) (f : PtpSt → PtpSt) : (s.modPtpSt p f).tab = s.tab := rfl
@[simp] theorem State.modPtpSt_dram (s : State) (p : Nat) (f : PtpSt → PtpSt) : (s.modPtpSt p f).dram = s.dram := rfl
@[simp] theorem State.modPtpSt_out (s : State) (p : Nat) (f : PtpSt → PtpSt) : (s.modPtpSt p f).out = s.out := rfl
@[simp] theorem State.modPtpSt_pending (s : State) (p : Nat) (f : PtpSt → PtpSt) : (s.modPtpSt p f).pending = s.pending := rfl
@[simp] theorem State.modPtpSt_time_now (s : State) (p : Nat) (f : PtpSt → PtpSt) : (s.modPtpSt p f).time.now = s.time.now := rfl
@[simp] theorem State.modPtpSt_time_wall (s : State) (p : Nat) (f : PtpSt → PtpSt) : (s.modPtpSt p f).time.wall = s.time.wall := rfl
@[simp] theorem State.modPtpSt_time_frac (s : State) (p : Nat) (f : PtpSt → PtpSt) : (s.modPtpSt p f).time.frac = s.time.frac := rfl
@[simp] theorem State.modPtpSt_time_cfg (s : State) (p : Nat) (f : PtpSt → PtpSt) : (s.modPtpSt p f).time.cfg = s.time.cfg := rfl
@[simp] theorem State.modPtpSt_time_st (s : State) (p : Nat) (f : PtpSt → PtpSt) : (s.modPtpSt p f).time.st = s.time.st := rfl
@[simp] theorem State.modPtpSt_time_lastStep (s : State) (p : Nat) (f : PtpSt → PtpSt) : (s.modPtpSt p f).time.lastStep = s.time.lastStep := rfl
@[simp] theorem State.modPtpSt_time_goodRun (s : State) (p : Nat) (f : PtpSt → PtpSt) : (s.modPtpSt p f).time.goodRun = s.time.goodRun := rfl
@[simp] theorem State.modPtpSt_time_badRun (s : State) (p : Nat) (f : PtpSt → PtpSt) : (s.modPtpSt p f).time.badRun = s.time.badRun := rfl
@[simp] theorem State.modPtpSt_time_todSet (s : State) (p : Nat) (f : PtpSt → PtpSt) : (s.modPtpSt p f).time.todSet = s.time.todSet := rfl
@[simp] theorem State.modPtpSt_time_lastPps (s : State) (p : Nat) (f : PtpSt → PtpSt) : (s.modPtpSt p f).time.lastPps = s.time.lastPps := rfl
@[simp] theorem State.modPtpSt_time_ppsHigh (s : State) (p : Nat) (f : PtpSt → PtpSt) : (s.modPtpSt p f).time.ppsHigh = s.time.ppsHigh := rfl
@[simp] theorem State.modPtpSt_time_picks (s : State) (p : Nat) (f : PtpSt → PtpSt) : (s.modPtpSt p f).time.picks = s.time.picks := rfl
@[simp] theorem State.modPtpSt_time_ptpClock (s : State) (p : Nat) (f : PtpSt → PtpSt) : (s.modPtpSt p f).time.ptpClock = s.time.ptpClock := rfl
@[simp] theorem State.modPtpSt_time_ptpPorts (s : State) (p : Nat) (f : PtpSt → PtpSt) : (s.modPtpSt p f).time.ptpPorts = s.time.ptpPorts := rfl
@[simp] theorem State.modPtpSt_time_free (s : State) (p : Nat) (f : PtpSt → PtpSt) : (s.modPtpSt p f).time.free = s.time.free := rfl

@[simp] theorem State.bumpBy_time (s : State) (c : Ctr) (i k : Nat) : (s.bumpBy c i k).time = s.time := rfl
@[simp] theorem State.bumpBy_sys (s : State) (c : Ctr) (i k : Nat) : (s.bumpBy c i k).sys = s.sys := rfl
@[simp] theorem State.bumpBy_selv (s : State) (c : Ctr) (i k : Nat) : (s.bumpBy c i k).selv = s.selv := rfl
@[simp] theorem State.bumpBy_ports (s : State) (c : Ctr) (i k : Nat) : (s.bumpBy c i k).ports = s.ports := rfl
@[simp] theorem State.bumpBy_buf (s : State) (c : Ctr) (i k : Nat) : (s.bumpBy c i k).buf = s.buf := rfl
@[simp] theorem State.bumpBy_task (s : State) (c : Ctr) (i k : Nat) : (s.bumpBy c i k).task = s.task := rfl
@[simp] theorem State.bumpBy_rules (s : State) (c : Ctr) (i k : Nat) : (s.bumpBy c i k).rules = s.rules := rfl
@[simp] theorem State.bumpBy_weft (s : State) (c : Ctr) (i k : Nat) : (s.bumpBy c i k).weft = s.weft := rfl
@[simp] theorem State.bumpBy_tm (s : State) (c : Ctr) (i k : Nat) : (s.bumpBy c i k).tm = s.tm := rfl
@[simp] theorem State.bumpBy_fab (s : State) (c : Ctr) (i k : Nat) : (s.bumpBy c i k).fab = s.fab := rfl
@[simp] theorem State.bumpBy_lock (s : State) (c : Ctr) (i k : Nat) : (s.bumpBy c i k).lock = s.lock := rfl
@[simp] theorem State.bumpBy_tab (s : State) (c : Ctr) (i k : Nat) : (s.bumpBy c i k).tab = s.tab := rfl
@[simp] theorem State.bumpBy_dram (s : State) (c : Ctr) (i k : Nat) : (s.bumpBy c i k).dram = s.dram := rfl
@[simp] theorem State.bumpBy_out (s : State) (c : Ctr) (i k : Nat) : (s.bumpBy c i k).out = s.out := rfl
@[simp] theorem State.bumpBy_pending (s : State) (c : Ctr) (i k : Nat) : (s.bumpBy c i k).pending = s.pending := rfl
@[simp] theorem State.bumpBy_host_slices (s : State) (c : Ctr) (i k : Nat) : (s.bumpBy c i k).host.slices = s.host.slices := rfl
@[simp] theorem State.bumpBy_host_rings (s : State) (c : Ctr) (i k : Nat) : (s.bumpBy c i k).host.rings = s.host.rings := rfl
@[simp] theorem State.bumpBy_host_mboxIn (s : State) (c : Ctr) (i k : Nat) : (s.bumpBy c i k).host.mboxIn = s.host.mboxIn := rfl
@[simp] theorem State.bumpBy_host_mboxOut (s : State) (c : Ctr) (i k : Nat) : (s.bumpBy c i k).host.mboxOut = s.host.mboxOut := rfl
@[simp] theorem State.bumpBy_host_mboxPending (s : State) (c : Ctr) (i k : Nat) : (s.bumpBy c i k).host.mboxPending = s.host.mboxPending := rfl
@[simp] theorem State.bumpBy_host_mboxGone (s : State) (c : Ctr) (i k : Nat) : (s.bumpBy c i k).host.mboxGone = s.host.mboxGone := rfl
@[simp] theorem State.bumpBy_host_identLatch (s : State) (c : Ctr) (i k : Nat) : (s.bumpBy c i k).host.identLatch = s.host.identLatch := rfl
@[simp] theorem State.bumpBy_host_resetArm (s : State) (c : Ctr) (i k : Nat) : (s.bumpBy c i k).host.resetArm = s.host.resetArm := rfl
@[simp] theorem State.bumpBy_host_irq (s : State) (c : Ctr) (i k : Nat) : (s.bumpBy c i k).host.irq = s.host.irq := rfl
@[simp] theorem State.bumpBy_host_msix (s : State) (c : Ctr) (i k : Nat) : (s.bumpBy c i k).host.msix = s.host.msix := rfl
@[simp] theorem State.bumpBy_host_pba (s : State) (c : Ctr) (i k : Nat) : (s.bumpBy c i k).host.pba = s.host.pba := rfl
@[simp] theorem State.bumpBy_host_gens (s : State) (c : Ctr) (i k : Nat) : (s.bumpBy c i k).host.gens = s.host.gens := rfl
@[simp] theorem State.bumpBy_host_devGen (s : State) (c : Ctr) (i k : Nat) : (s.bumpBy c i k).host.devGen = s.host.devGen := rfl
@[simp] theorem State.bumpBy_host_held (s : State) (c : Ctr) (i k : Nat) : (s.bumpBy c i k).host.held = s.host.held := rfl
@[simp] theorem State.bumpBy_host_deferred (s : State) (c : Ctr) (i k : Nat) : (s.bumpBy c i k).host.deferred = s.host.deferred := rfl
@[simp] theorem State.bumpBy_host_m0Window (s : State) (c : Ctr) (i k : Nat) : (s.bumpBy c i k).host.m0Window = s.host.m0Window := rfl
@[simp] theorem State.bumpBy_host_m0Peers (s : State) (c : Ctr) (i k : Nat) : (s.bumpBy c i k).host.m0Peers = s.host.m0Peers := rfl
@[simp] theorem State.bumpBy_host_devCfg (s : State) (c : Ctr) (i k : Nat) : (s.bumpBy c i k).host.devCfg = s.host.devCfg := rfl
@[simp] theorem State.bumpBy_host_clearArm (s : State) (c : Ctr) (i k : Nat) : (s.bumpBy c i k).host.clearArm = s.host.clearArm := rfl
@[simp] theorem State.bumpBy_host_ctrRange (s : State) (c : Ctr) (i k : Nat) : (s.bumpBy c i k).host.ctrRange = s.host.ctrRange := rfl
@[simp] theorem State.bumpBy_host_pairs (s : State) (c : Ctr) (i k : Nat) : (s.bumpBy c i k).host.pairs = s.host.pairs := rfl
@[simp] theorem State.bumpBy_host_evCtr (s : State) (c : Ctr) (i k : Nat) : (s.bumpBy c i k).host.evCtr = s.host.evCtr := rfl
@[simp] theorem State.bumpBy_host_snapshot (s : State) (c : Ctr) (i k : Nat) : (s.bumpBy c i k).host.snapshot = s.host.snapshot := rfl

@[simp] theorem State.bump_time (s : State) (c : Ctr) (i : Nat) : (s.bump c i).time = s.time := rfl
@[simp] theorem State.bump_sys (s : State) (c : Ctr) (i : Nat) : (s.bump c i).sys = s.sys := rfl
@[simp] theorem State.bump_selv (s : State) (c : Ctr) (i : Nat) : (s.bump c i).selv = s.selv := rfl
@[simp] theorem State.bump_ports (s : State) (c : Ctr) (i : Nat) : (s.bump c i).ports = s.ports := rfl
@[simp] theorem State.bump_buf (s : State) (c : Ctr) (i : Nat) : (s.bump c i).buf = s.buf := rfl
@[simp] theorem State.bump_task (s : State) (c : Ctr) (i : Nat) : (s.bump c i).task = s.task := rfl
@[simp] theorem State.bump_rules (s : State) (c : Ctr) (i : Nat) : (s.bump c i).rules = s.rules := rfl
@[simp] theorem State.bump_weft (s : State) (c : Ctr) (i : Nat) : (s.bump c i).weft = s.weft := rfl
@[simp] theorem State.bump_tm (s : State) (c : Ctr) (i : Nat) : (s.bump c i).tm = s.tm := rfl
@[simp] theorem State.bump_fab (s : State) (c : Ctr) (i : Nat) : (s.bump c i).fab = s.fab := rfl
@[simp] theorem State.bump_lock (s : State) (c : Ctr) (i : Nat) : (s.bump c i).lock = s.lock := rfl
@[simp] theorem State.bump_tab (s : State) (c : Ctr) (i : Nat) : (s.bump c i).tab = s.tab := rfl
@[simp] theorem State.bump_dram (s : State) (c : Ctr) (i : Nat) : (s.bump c i).dram = s.dram := rfl
@[simp] theorem State.bump_out (s : State) (c : Ctr) (i : Nat) : (s.bump c i).out = s.out := rfl
@[simp] theorem State.bump_pending (s : State) (c : Ctr) (i : Nat) : (s.bump c i).pending = s.pending := rfl
@[simp] theorem State.bump_host_slices (s : State) (c : Ctr) (i : Nat) : (s.bump c i).host.slices = s.host.slices := rfl
@[simp] theorem State.bump_host_rings (s : State) (c : Ctr) (i : Nat) : (s.bump c i).host.rings = s.host.rings := rfl
@[simp] theorem State.bump_host_mboxIn (s : State) (c : Ctr) (i : Nat) : (s.bump c i).host.mboxIn = s.host.mboxIn := rfl
@[simp] theorem State.bump_host_mboxOut (s : State) (c : Ctr) (i : Nat) : (s.bump c i).host.mboxOut = s.host.mboxOut := rfl
@[simp] theorem State.bump_host_mboxPending (s : State) (c : Ctr) (i : Nat) : (s.bump c i).host.mboxPending = s.host.mboxPending := rfl
@[simp] theorem State.bump_host_mboxGone (s : State) (c : Ctr) (i : Nat) : (s.bump c i).host.mboxGone = s.host.mboxGone := rfl
@[simp] theorem State.bump_host_identLatch (s : State) (c : Ctr) (i : Nat) : (s.bump c i).host.identLatch = s.host.identLatch := rfl
@[simp] theorem State.bump_host_resetArm (s : State) (c : Ctr) (i : Nat) : (s.bump c i).host.resetArm = s.host.resetArm := rfl
@[simp] theorem State.bump_host_irq (s : State) (c : Ctr) (i : Nat) : (s.bump c i).host.irq = s.host.irq := rfl
@[simp] theorem State.bump_host_msix (s : State) (c : Ctr) (i : Nat) : (s.bump c i).host.msix = s.host.msix := rfl
@[simp] theorem State.bump_host_pba (s : State) (c : Ctr) (i : Nat) : (s.bump c i).host.pba = s.host.pba := rfl
@[simp] theorem State.bump_host_gens (s : State) (c : Ctr) (i : Nat) : (s.bump c i).host.gens = s.host.gens := rfl
@[simp] theorem State.bump_host_devGen (s : State) (c : Ctr) (i : Nat) : (s.bump c i).host.devGen = s.host.devGen := rfl
@[simp] theorem State.bump_host_held (s : State) (c : Ctr) (i : Nat) : (s.bump c i).host.held = s.host.held := rfl
@[simp] theorem State.bump_host_deferred (s : State) (c : Ctr) (i : Nat) : (s.bump c i).host.deferred = s.host.deferred := rfl
@[simp] theorem State.bump_host_m0Window (s : State) (c : Ctr) (i : Nat) : (s.bump c i).host.m0Window = s.host.m0Window := rfl
@[simp] theorem State.bump_host_m0Peers (s : State) (c : Ctr) (i : Nat) : (s.bump c i).host.m0Peers = s.host.m0Peers := rfl
@[simp] theorem State.bump_host_devCfg (s : State) (c : Ctr) (i : Nat) : (s.bump c i).host.devCfg = s.host.devCfg := rfl
@[simp] theorem State.bump_host_clearArm (s : State) (c : Ctr) (i : Nat) : (s.bump c i).host.clearArm = s.host.clearArm := rfl
@[simp] theorem State.bump_host_ctrRange (s : State) (c : Ctr) (i : Nat) : (s.bump c i).host.ctrRange = s.host.ctrRange := rfl
@[simp] theorem State.bump_host_pairs (s : State) (c : Ctr) (i : Nat) : (s.bump c i).host.pairs = s.host.pairs := rfl
@[simp] theorem State.bump_host_evCtr (s : State) (c : Ctr) (i : Nat) : (s.bump c i).host.evCtr = s.host.evCtr := rfl
@[simp] theorem State.bump_host_snapshot (s : State) (c : Ctr) (i : Nat) : (s.bump c i).host.snapshot = s.host.snapshot := rfl

@[simp] theorem State.bumpGen_time (s : State) (k : ObjKey) : (s.bumpGen k).time = s.time := rfl
@[simp] theorem State.bumpGen_sys (s : State) (k : ObjKey) : (s.bumpGen k).sys = s.sys := rfl
@[simp] theorem State.bumpGen_selv (s : State) (k : ObjKey) : (s.bumpGen k).selv = s.selv := rfl
@[simp] theorem State.bumpGen_ports (s : State) (k : ObjKey) : (s.bumpGen k).ports = s.ports := rfl
@[simp] theorem State.bumpGen_buf (s : State) (k : ObjKey) : (s.bumpGen k).buf = s.buf := rfl
@[simp] theorem State.bumpGen_task (s : State) (k : ObjKey) : (s.bumpGen k).task = s.task := rfl
@[simp] theorem State.bumpGen_rules (s : State) (k : ObjKey) : (s.bumpGen k).rules = s.rules := rfl
@[simp] theorem State.bumpGen_weft (s : State) (k : ObjKey) : (s.bumpGen k).weft = s.weft := rfl
@[simp] theorem State.bumpGen_tm (s : State) (k : ObjKey) : (s.bumpGen k).tm = s.tm := rfl
@[simp] theorem State.bumpGen_fab (s : State) (k : ObjKey) : (s.bumpGen k).fab = s.fab := rfl
@[simp] theorem State.bumpGen_lock (s : State) (k : ObjKey) : (s.bumpGen k).lock = s.lock := rfl
@[simp] theorem State.bumpGen_tab (s : State) (k : ObjKey) : (s.bumpGen k).tab = s.tab := rfl
@[simp] theorem State.bumpGen_dram (s : State) (k : ObjKey) : (s.bumpGen k).dram = s.dram := rfl
@[simp] theorem State.bumpGen_out (s : State) (k : ObjKey) : (s.bumpGen k).out = s.out := rfl
@[simp] theorem State.bumpGen_pending (s : State) (k : ObjKey) : (s.bumpGen k).pending = s.pending := rfl
@[simp] theorem State.bumpGen_host_slices (s : State) (k : ObjKey) : (s.bumpGen k).host.slices = s.host.slices := rfl
@[simp] theorem State.bumpGen_host_rings (s : State) (k : ObjKey) : (s.bumpGen k).host.rings = s.host.rings := rfl
@[simp] theorem State.bumpGen_host_mboxIn (s : State) (k : ObjKey) : (s.bumpGen k).host.mboxIn = s.host.mboxIn := rfl
@[simp] theorem State.bumpGen_host_mboxOut (s : State) (k : ObjKey) : (s.bumpGen k).host.mboxOut = s.host.mboxOut := rfl
@[simp] theorem State.bumpGen_host_mboxPending (s : State) (k : ObjKey) : (s.bumpGen k).host.mboxPending = s.host.mboxPending := rfl
@[simp] theorem State.bumpGen_host_mboxGone (s : State) (k : ObjKey) : (s.bumpGen k).host.mboxGone = s.host.mboxGone := rfl
@[simp] theorem State.bumpGen_host_identLatch (s : State) (k : ObjKey) : (s.bumpGen k).host.identLatch = s.host.identLatch := rfl
@[simp] theorem State.bumpGen_host_resetArm (s : State) (k : ObjKey) : (s.bumpGen k).host.resetArm = s.host.resetArm := rfl
@[simp] theorem State.bumpGen_host_irq (s : State) (k : ObjKey) : (s.bumpGen k).host.irq = s.host.irq := rfl
@[simp] theorem State.bumpGen_host_msix (s : State) (k : ObjKey) : (s.bumpGen k).host.msix = s.host.msix := rfl
@[simp] theorem State.bumpGen_host_pba (s : State) (k : ObjKey) : (s.bumpGen k).host.pba = s.host.pba := rfl
@[simp] theorem State.bumpGen_host_devGen (s : State) (k : ObjKey) : (s.bumpGen k).host.devGen = s.host.devGen := rfl
@[simp] theorem State.bumpGen_host_held (s : State) (k : ObjKey) : (s.bumpGen k).host.held = s.host.held := rfl
@[simp] theorem State.bumpGen_host_deferred (s : State) (k : ObjKey) : (s.bumpGen k).host.deferred = s.host.deferred := rfl
@[simp] theorem State.bumpGen_host_m0Window (s : State) (k : ObjKey) : (s.bumpGen k).host.m0Window = s.host.m0Window := rfl
@[simp] theorem State.bumpGen_host_m0Peers (s : State) (k : ObjKey) : (s.bumpGen k).host.m0Peers = s.host.m0Peers := rfl
@[simp] theorem State.bumpGen_host_devCfg (s : State) (k : ObjKey) : (s.bumpGen k).host.devCfg = s.host.devCfg := rfl
@[simp] theorem State.bumpGen_host_clearArm (s : State) (k : ObjKey) : (s.bumpGen k).host.clearArm = s.host.clearArm := rfl
@[simp] theorem State.bumpGen_host_ctrRange (s : State) (k : ObjKey) : (s.bumpGen k).host.ctrRange = s.host.ctrRange := rfl
@[simp] theorem State.bumpGen_host_pairs (s : State) (k : ObjKey) : (s.bumpGen k).host.pairs = s.host.pairs := rfl
@[simp] theorem State.bumpGen_host_ctr (s : State) (k : ObjKey) : (s.bumpGen k).host.ctr = s.host.ctr := rfl
@[simp] theorem State.bumpGen_host_evCtr (s : State) (k : ObjKey) : (s.bumpGen k).host.evCtr = s.host.evCtr := rfl
@[simp] theorem State.bumpGen_host_snapshot (s : State) (k : ObjKey) : (s.bumpGen k).host.snapshot = s.host.snapshot := rfl

@[simp] theorem State.drawn_host (s : State) : (s.drawn).host = s.host := rfl
@[simp] theorem State.drawn_sys (s : State) : (s.drawn).sys = s.sys := rfl
@[simp] theorem State.drawn_selv (s : State) : (s.drawn).selv = s.selv := rfl
@[simp] theorem State.drawn_ports (s : State) : (s.drawn).ports = s.ports := rfl
@[simp] theorem State.drawn_buf (s : State) : (s.drawn).buf = s.buf := rfl
@[simp] theorem State.drawn_task (s : State) : (s.drawn).task = s.task := rfl
@[simp] theorem State.drawn_rules (s : State) : (s.drawn).rules = s.rules := rfl
@[simp] theorem State.drawn_weft (s : State) : (s.drawn).weft = s.weft := rfl
@[simp] theorem State.drawn_tm (s : State) : (s.drawn).tm = s.tm := rfl
@[simp] theorem State.drawn_fab (s : State) : (s.drawn).fab = s.fab := rfl
@[simp] theorem State.drawn_lock (s : State) : (s.drawn).lock = s.lock := rfl
@[simp] theorem State.drawn_tab (s : State) : (s.drawn).tab = s.tab := rfl
@[simp] theorem State.drawn_dram (s : State) : (s.drawn).dram = s.dram := rfl
@[simp] theorem State.drawn_out (s : State) : (s.drawn).out = s.out := rfl
@[simp] theorem State.drawn_pending (s : State) : (s.drawn).pending = s.pending := rfl
@[simp] theorem State.drawn_time_now (s : State) : (s.drawn).time.now = s.time.now := rfl
@[simp] theorem State.drawn_time_wall (s : State) : (s.drawn).time.wall = s.time.wall := rfl
@[simp] theorem State.drawn_time_frac (s : State) : (s.drawn).time.frac = s.time.frac := rfl
@[simp] theorem State.drawn_time_cfg (s : State) : (s.drawn).time.cfg = s.time.cfg := rfl
@[simp] theorem State.drawn_time_st (s : State) : (s.drawn).time.st = s.time.st := rfl
@[simp] theorem State.drawn_time_lastStep (s : State) : (s.drawn).time.lastStep = s.time.lastStep := rfl
@[simp] theorem State.drawn_time_goodRun (s : State) : (s.drawn).time.goodRun = s.time.goodRun := rfl
@[simp] theorem State.drawn_time_badRun (s : State) : (s.drawn).time.badRun = s.time.badRun := rfl
@[simp] theorem State.drawn_time_todSet (s : State) : (s.drawn).time.todSet = s.time.todSet := rfl
@[simp] theorem State.drawn_time_lastPps (s : State) : (s.drawn).time.lastPps = s.time.lastPps := rfl
@[simp] theorem State.drawn_time_ppsHigh (s : State) : (s.drawn).time.ppsHigh = s.time.ppsHigh := rfl
@[simp] theorem State.drawn_time_picks (s : State) : (s.drawn).time.picks = s.time.picks := rfl
@[simp] theorem State.drawn_time_ptpClock (s : State) : (s.drawn).time.ptpClock = s.time.ptpClock := rfl
@[simp] theorem State.drawn_time_ptpPorts (s : State) : (s.drawn).time.ptpPorts = s.time.ptpPorts := rfl
@[simp] theorem State.drawn_time_ptpSt (s : State) : (s.drawn).time.ptpSt = s.time.ptpSt := rfl

@[simp] theorem State.emit_time (s : State) (o : Output) : (s.emit o).time = s.time := rfl
@[simp] theorem State.emit_host (s : State) (o : Output) : (s.emit o).host = s.host := rfl
@[simp] theorem State.emit_sys (s : State) (o : Output) : (s.emit o).sys = s.sys := rfl
@[simp] theorem State.emit_selv (s : State) (o : Output) : (s.emit o).selv = s.selv := rfl
@[simp] theorem State.emit_ports (s : State) (o : Output) : (s.emit o).ports = s.ports := rfl
@[simp] theorem State.emit_buf (s : State) (o : Output) : (s.emit o).buf = s.buf := rfl
@[simp] theorem State.emit_task (s : State) (o : Output) : (s.emit o).task = s.task := rfl
@[simp] theorem State.emit_rules (s : State) (o : Output) : (s.emit o).rules = s.rules := rfl
@[simp] theorem State.emit_weft (s : State) (o : Output) : (s.emit o).weft = s.weft := rfl
@[simp] theorem State.emit_tm (s : State) (o : Output) : (s.emit o).tm = s.tm := rfl
@[simp] theorem State.emit_fab (s : State) (o : Output) : (s.emit o).fab = s.fab := rfl
@[simp] theorem State.emit_lock (s : State) (o : Output) : (s.emit o).lock = s.lock := rfl
@[simp] theorem State.emit_tab (s : State) (o : Output) : (s.emit o).tab = s.tab := rfl
@[simp] theorem State.emit_dram (s : State) (o : Output) : (s.emit o).dram = s.dram := rfl
@[simp] theorem State.emit_pending (s : State) (o : Output) : (s.emit o).pending = s.pending := rfl

@[simp] theorem State.modCore_time (s : State) (c : Nat) (f : Core → Core) : (s.modCore c f).time = s.time := rfl
@[simp] theorem State.modCore_host (s : State) (c : Nat) (f : Core → Core) : (s.modCore c f).host = s.host := rfl
@[simp] theorem State.modCore_sys (s : State) (c : Nat) (f : Core → Core) : (s.modCore c f).sys = s.sys := rfl
@[simp] theorem State.modCore_selv (s : State) (c : Nat) (f : Core → Core) : (s.modCore c f).selv = s.selv := rfl
@[simp] theorem State.modCore_ports (s : State) (c : Nat) (f : Core → Core) : (s.modCore c f).ports = s.ports := rfl
@[simp] theorem State.modCore_buf (s : State) (c : Nat) (f : Core → Core) : (s.modCore c f).buf = s.buf := rfl
@[simp] theorem State.modCore_task (s : State) (c : Nat) (f : Core → Core) : (s.modCore c f).task = s.task := rfl
@[simp] theorem State.modCore_rules (s : State) (c : Nat) (f : Core → Core) : (s.modCore c f).rules = s.rules := rfl
@[simp] theorem State.modCore_tm (s : State) (c : Nat) (f : Core → Core) : (s.modCore c f).tm = s.tm := rfl
@[simp] theorem State.modCore_fab (s : State) (c : Nat) (f : Core → Core) : (s.modCore c f).fab = s.fab := rfl
@[simp] theorem State.modCore_lock (s : State) (c : Nat) (f : Core → Core) : (s.modCore c f).lock = s.lock := rfl
@[simp] theorem State.modCore_tab (s : State) (c : Nat) (f : Core → Core) : (s.modCore c f).tab = s.tab := rfl
@[simp] theorem State.modCore_dram (s : State) (c : Nat) (f : Core → Core) : (s.modCore c f).dram = s.dram := rfl
@[simp] theorem State.modCore_out (s : State) (c : Nat) (f : Core → Core) : (s.modCore c f).out = s.out := rfl
@[simp] theorem State.modCore_pending (s : State) (c : Nat) (f : Core → Core) : (s.modCore c f).pending = s.pending := rfl
@[simp] theorem State.modCore_weft_prog (s : State) (c : Nat) (f : Core → Core) : (s.modCore c f).weft.prog = s.weft.prog := rfl
@[simp] theorem State.modCore_weft_progs (s : State) (c : Nat) (f : Core → Core) : (s.modCore c f).weft.progs = s.weft.progs := rfl
@[simp] theorem State.modCore_weft_ops (s : State) (c : Nat) (f : Core → Core) : (s.modCore c f).weft.ops = s.weft.ops := rfl
@[simp] theorem State.modCore_weft_nextOp (s : State) (c : Nat) (f : Core → Core) : (s.modCore c f).weft.nextOp = s.weft.nextOp := rfl
@[simp] theorem State.modCore_weft_sealed (s : State) (c : Nat) (f : Core → Core) : (s.modCore c f).weft.sealed = s.weft.sealed := rfl
@[simp] theorem State.modCore_weft_saved (s : State) (c : Nat) (f : Core → Core) : (s.modCore c f).weft.saved = s.weft.saved := rfl
@[simp] theorem State.modCore_weft_badTiles (s : State) (c : Nat) (f : Core → Core) : (s.modCore c f).weft.badTiles = s.weft.badTiles := rfl
@[simp] theorem State.modCore_weft_nextSpare (s : State) (c : Nat) (f : Core → Core) : (s.modCore c f).weft.nextSpare = s.weft.nextSpare := rfl
@[simp] theorem State.modCore_weft_underTest (s : State) (c : Nat) (f : Core → Core) : (s.modCore c f).weft.underTest = s.weft.underTest := rfl

@[simp] theorem State.modTh_time (s : State) (c t : Nat) (f : Thread → Thread) : (s.modTh c t f).time = s.time := rfl
@[simp] theorem State.modTh_host (s : State) (c t : Nat) (f : Thread → Thread) : (s.modTh c t f).host = s.host := rfl
@[simp] theorem State.modTh_sys (s : State) (c t : Nat) (f : Thread → Thread) : (s.modTh c t f).sys = s.sys := rfl
@[simp] theorem State.modTh_selv (s : State) (c t : Nat) (f : Thread → Thread) : (s.modTh c t f).selv = s.selv := rfl
@[simp] theorem State.modTh_ports (s : State) (c t : Nat) (f : Thread → Thread) : (s.modTh c t f).ports = s.ports := rfl
@[simp] theorem State.modTh_buf (s : State) (c t : Nat) (f : Thread → Thread) : (s.modTh c t f).buf = s.buf := rfl
@[simp] theorem State.modTh_task (s : State) (c t : Nat) (f : Thread → Thread) : (s.modTh c t f).task = s.task := rfl
@[simp] theorem State.modTh_rules (s : State) (c t : Nat) (f : Thread → Thread) : (s.modTh c t f).rules = s.rules := rfl
@[simp] theorem State.modTh_tm (s : State) (c t : Nat) (f : Thread → Thread) : (s.modTh c t f).tm = s.tm := rfl
@[simp] theorem State.modTh_fab (s : State) (c t : Nat) (f : Thread → Thread) : (s.modTh c t f).fab = s.fab := rfl
@[simp] theorem State.modTh_lock (s : State) (c t : Nat) (f : Thread → Thread) : (s.modTh c t f).lock = s.lock := rfl
@[simp] theorem State.modTh_tab (s : State) (c t : Nat) (f : Thread → Thread) : (s.modTh c t f).tab = s.tab := rfl
@[simp] theorem State.modTh_dram (s : State) (c t : Nat) (f : Thread → Thread) : (s.modTh c t f).dram = s.dram := rfl
@[simp] theorem State.modTh_out (s : State) (c t : Nat) (f : Thread → Thread) : (s.modTh c t f).out = s.out := rfl
@[simp] theorem State.modTh_pending (s : State) (c t : Nat) (f : Thread → Thread) : (s.modTh c t f).pending = s.pending := rfl
@[simp] theorem State.modTh_weft_prog (s : State) (c t : Nat) (f : Thread → Thread) : (s.modTh c t f).weft.prog = s.weft.prog := rfl
@[simp] theorem State.modTh_weft_progs (s : State) (c t : Nat) (f : Thread → Thread) : (s.modTh c t f).weft.progs = s.weft.progs := rfl
@[simp] theorem State.modTh_weft_ops (s : State) (c t : Nat) (f : Thread → Thread) : (s.modTh c t f).weft.ops = s.weft.ops := rfl
@[simp] theorem State.modTh_weft_nextOp (s : State) (c t : Nat) (f : Thread → Thread) : (s.modTh c t f).weft.nextOp = s.weft.nextOp := rfl
@[simp] theorem State.modTh_weft_sealed (s : State) (c t : Nat) (f : Thread → Thread) : (s.modTh c t f).weft.sealed = s.weft.sealed := rfl
@[simp] theorem State.modTh_weft_saved (s : State) (c t : Nat) (f : Thread → Thread) : (s.modTh c t f).weft.saved = s.weft.saved := rfl
@[simp] theorem State.modTh_weft_badTiles (s : State) (c t : Nat) (f : Thread → Thread) : (s.modTh c t f).weft.badTiles = s.weft.badTiles := rfl
@[simp] theorem State.modTh_weft_nextSpare (s : State) (c t : Nat) (f : Thread → Thread) : (s.modTh c t f).weft.nextSpare = s.weft.nextSpare := rfl
@[simp] theorem State.modTh_weft_underTest (s : State) (c t : Nat) (f : Thread → Thread) : (s.modTh c t f).weft.underTest = s.weft.underTest := rfl

@[simp] theorem State.modLink_time (s : State) (k : Nat) (f : FabLink → FabLink) : (s.modLink k f).time = s.time := rfl
@[simp] theorem State.modLink_host (s : State) (k : Nat) (f : FabLink → FabLink) : (s.modLink k f).host = s.host := rfl
@[simp] theorem State.modLink_sys (s : State) (k : Nat) (f : FabLink → FabLink) : (s.modLink k f).sys = s.sys := rfl
@[simp] theorem State.modLink_selv (s : State) (k : Nat) (f : FabLink → FabLink) : (s.modLink k f).selv = s.selv := rfl
@[simp] theorem State.modLink_ports (s : State) (k : Nat) (f : FabLink → FabLink) : (s.modLink k f).ports = s.ports := rfl
@[simp] theorem State.modLink_buf (s : State) (k : Nat) (f : FabLink → FabLink) : (s.modLink k f).buf = s.buf := rfl
@[simp] theorem State.modLink_task (s : State) (k : Nat) (f : FabLink → FabLink) : (s.modLink k f).task = s.task := rfl
@[simp] theorem State.modLink_rules (s : State) (k : Nat) (f : FabLink → FabLink) : (s.modLink k f).rules = s.rules := rfl
@[simp] theorem State.modLink_weft (s : State) (k : Nat) (f : FabLink → FabLink) : (s.modLink k f).weft = s.weft := rfl
@[simp] theorem State.modLink_tm (s : State) (k : Nat) (f : FabLink → FabLink) : (s.modLink k f).tm = s.tm := rfl
@[simp] theorem State.modLink_lock (s : State) (k : Nat) (f : FabLink → FabLink) : (s.modLink k f).lock = s.lock := rfl
@[simp] theorem State.modLink_tab (s : State) (k : Nat) (f : FabLink → FabLink) : (s.modLink k f).tab = s.tab := rfl
@[simp] theorem State.modLink_dram (s : State) (k : Nat) (f : FabLink → FabLink) : (s.modLink k f).dram = s.dram := rfl
@[simp] theorem State.modLink_out (s : State) (k : Nat) (f : FabLink → FabLink) : (s.modLink k f).out = s.out := rfl
@[simp] theorem State.modLink_pending (s : State) (k : Nat) (f : FabLink → FabLink) : (s.modLink k f).pending = s.pending := rfl
@[simp] theorem State.modLink_fab_cfg (s : State) (k : Nat) (f : FabLink → FabLink) : (s.modLink k f).fab.cfg = s.fab.cfg := rfl
@[simp] theorem State.modLink_fab_st (s : State) (k : Nat) (f : FabLink → FabLink) : (s.modLink k f).fab.st = s.fab.st := rfl
@[simp] theorem State.modLink_fab_rxStreams (s : State) (k : Nat) (f : FabLink → FabLink) : (s.modLink k f).fab.rxStreams = s.fab.rxStreams := rfl
@[simp] theorem State.modLink_fab_txStreams (s : State) (k : Nat) (f : FabLink → FabLink) : (s.modLink k f).fab.txStreams = s.fab.txStreams := rfl
@[simp] theorem State.modLink_fab_lsas (s : State) (k : Nat) (f : FabLink → FabLink) : (s.modLink k f).fab.lsas = s.fab.lsas := rfl
@[simp] theorem State.modLink_fab_ownLsaSeq (s : State) (k : Nat) (f : FabLink → FabLink) : (s.modLink k f).fab.ownLsaSeq = s.fab.ownLsaSeq := rfl
@[simp] theorem State.modLink_fab_routes (s : State) (k : Nat) (f : FabLink → FabLink) : (s.modLink k f).fab.routes = s.fab.routes := rfl
@[simp] theorem State.modLink_fab_cmdRoutes (s : State) (k : Nat) (f : FabLink → FabLink) : (s.modLink k f).fab.cmdRoutes = s.fab.cmdRoutes := rfl
@[simp] theorem State.modLink_fab_twin (s : State) (k : Nat) (f : FabLink → FabLink) : (s.modLink k f).fab.twin = s.fab.twin := rfl
@[simp] theorem State.modLink_fab_hb (s : State) (k : Nat) (f : FabLink → FabLink) : (s.modLink k f).fab.hb = s.fab.hb := rfl
@[simp] theorem State.modLink_fab_hbCount (s : State) (k : Nat) (f : FabLink → FabLink) : (s.modLink k f).fab.hbCount = s.fab.hbCount := rfl
@[simp] theorem State.modLink_fab_twinMode (s : State) (k : Nat) (f : FabLink → FabLink) : (s.modLink k f).fab.twinMode = s.fab.twinMode := rfl
@[simp] theorem State.modLink_fab_disc (s : State) (k : Nat) (f : FabLink → FabLink) : (s.modLink k f).fab.disc = s.fab.disc := rfl
@[simp] theorem State.modLink_fab_idSet (s : State) (k : Nat) (f : FabLink → FabLink) : (s.modLink k f).fab.idSet = s.fab.idSet := rfl
@[simp] theorem State.modLink_fab_conflictAt (s : State) (k : Nat) (f : FabLink → FabLink) : (s.modLink k f).fab.conflictAt = s.fab.conflictAt := rfl
@[simp] theorem State.modLink_fab_tookOver (s : State) (k : Nat) (f : FabLink → FabLink) : (s.modLink k f).fab.tookOver = s.fab.tookOver := rfl
@[simp] theorem State.modLink_fab_remote (s : State) (k : Nat) (f : FabLink → FabLink) : (s.modLink k f).fab.remote = s.fab.remote := rfl
@[simp] theorem State.modLink_fab_windows (s : State) (k : Nat) (f : FabLink → FabLink) : (s.modLink k f).fab.windows = s.fab.windows := rfl

@[simp] theorem State.modQueue_time (s : State) (n : Nat) (f : Queue → Queue) : (s.modQueue n f).time = s.time := rfl
@[simp] theorem State.modQueue_host (s : State) (n : Nat) (f : Queue → Queue) : (s.modQueue n f).host = s.host := rfl
@[simp] theorem State.modQueue_sys (s : State) (n : Nat) (f : Queue → Queue) : (s.modQueue n f).sys = s.sys := rfl
@[simp] theorem State.modQueue_selv (s : State) (n : Nat) (f : Queue → Queue) : (s.modQueue n f).selv = s.selv := rfl
@[simp] theorem State.modQueue_ports (s : State) (n : Nat) (f : Queue → Queue) : (s.modQueue n f).ports = s.ports := rfl
@[simp] theorem State.modQueue_buf (s : State) (n : Nat) (f : Queue → Queue) : (s.modQueue n f).buf = s.buf := rfl
@[simp] theorem State.modQueue_task (s : State) (n : Nat) (f : Queue → Queue) : (s.modQueue n f).task = s.task := rfl
@[simp] theorem State.modQueue_rules (s : State) (n : Nat) (f : Queue → Queue) : (s.modQueue n f).rules = s.rules := rfl
@[simp] theorem State.modQueue_weft (s : State) (n : Nat) (f : Queue → Queue) : (s.modQueue n f).weft = s.weft := rfl
@[simp] theorem State.modQueue_fab (s : State) (n : Nat) (f : Queue → Queue) : (s.modQueue n f).fab = s.fab := rfl
@[simp] theorem State.modQueue_lock (s : State) (n : Nat) (f : Queue → Queue) : (s.modQueue n f).lock = s.lock := rfl
@[simp] theorem State.modQueue_tab (s : State) (n : Nat) (f : Queue → Queue) : (s.modQueue n f).tab = s.tab := rfl
@[simp] theorem State.modQueue_dram (s : State) (n : Nat) (f : Queue → Queue) : (s.modQueue n f).dram = s.dram := rfl
@[simp] theorem State.modQueue_out (s : State) (n : Nat) (f : Queue → Queue) : (s.modQueue n f).out = s.out := rfl
@[simp] theorem State.modQueue_pending (s : State) (n : Nat) (f : Queue → Queue) : (s.modQueue n f).pending = s.pending := rfl
@[simp] theorem State.modQueue_tm_shapers (s : State) (n : Nat) (f : Queue → Queue) : (s.modQueue n f).tm.shapers = s.tm.shapers := rfl
@[simp] theorem State.modQueue_tm_ports (s : State) (n : Nat) (f : Queue → Queue) : (s.modQueue n f).tm.ports = s.tm.ports := rfl
@[simp] theorem State.modQueue_tm_treadles (s : State) (n : Nat) (f : Queue → Queue) : (s.modQueue n f).tm.treadles = s.tm.treadles := rfl

@[simp] theorem State.modShaper_time (s : State) (n : Nat) (f : Shaper → Shaper) : (s.modShaper n f).time = s.time := rfl
@[simp] theorem State.modShaper_host (s : State) (n : Nat) (f : Shaper → Shaper) : (s.modShaper n f).host = s.host := rfl
@[simp] theorem State.modShaper_sys (s : State) (n : Nat) (f : Shaper → Shaper) : (s.modShaper n f).sys = s.sys := rfl
@[simp] theorem State.modShaper_selv (s : State) (n : Nat) (f : Shaper → Shaper) : (s.modShaper n f).selv = s.selv := rfl
@[simp] theorem State.modShaper_ports (s : State) (n : Nat) (f : Shaper → Shaper) : (s.modShaper n f).ports = s.ports := rfl
@[simp] theorem State.modShaper_buf (s : State) (n : Nat) (f : Shaper → Shaper) : (s.modShaper n f).buf = s.buf := rfl
@[simp] theorem State.modShaper_task (s : State) (n : Nat) (f : Shaper → Shaper) : (s.modShaper n f).task = s.task := rfl
@[simp] theorem State.modShaper_rules (s : State) (n : Nat) (f : Shaper → Shaper) : (s.modShaper n f).rules = s.rules := rfl
@[simp] theorem State.modShaper_weft (s : State) (n : Nat) (f : Shaper → Shaper) : (s.modShaper n f).weft = s.weft := rfl
@[simp] theorem State.modShaper_fab (s : State) (n : Nat) (f : Shaper → Shaper) : (s.modShaper n f).fab = s.fab := rfl
@[simp] theorem State.modShaper_lock (s : State) (n : Nat) (f : Shaper → Shaper) : (s.modShaper n f).lock = s.lock := rfl
@[simp] theorem State.modShaper_tab (s : State) (n : Nat) (f : Shaper → Shaper) : (s.modShaper n f).tab = s.tab := rfl
@[simp] theorem State.modShaper_dram (s : State) (n : Nat) (f : Shaper → Shaper) : (s.modShaper n f).dram = s.dram := rfl
@[simp] theorem State.modShaper_out (s : State) (n : Nat) (f : Shaper → Shaper) : (s.modShaper n f).out = s.out := rfl
@[simp] theorem State.modShaper_pending (s : State) (n : Nat) (f : Shaper → Shaper) : (s.modShaper n f).pending = s.pending := rfl
@[simp] theorem State.modShaper_tm_queues (s : State) (n : Nat) (f : Shaper → Shaper) : (s.modShaper n f).tm.queues = s.tm.queues := rfl
@[simp] theorem State.modShaper_tm_ports (s : State) (n : Nat) (f : Shaper → Shaper) : (s.modShaper n f).tm.ports = s.tm.ports := rfl
@[simp] theorem State.modShaper_tm_treadles (s : State) (n : Nat) (f : Shaper → Shaper) : (s.modShaper n f).tm.treadles = s.tm.treadles := rfl

@[simp] theorem State.modPortTm_time (s : State) (p : Nat) (f : PortTm → PortTm) : (s.modPortTm p f).time = s.time := rfl
@[simp] theorem State.modPortTm_host (s : State) (p : Nat) (f : PortTm → PortTm) : (s.modPortTm p f).host = s.host := rfl
@[simp] theorem State.modPortTm_sys (s : State) (p : Nat) (f : PortTm → PortTm) : (s.modPortTm p f).sys = s.sys := rfl
@[simp] theorem State.modPortTm_selv (s : State) (p : Nat) (f : PortTm → PortTm) : (s.modPortTm p f).selv = s.selv := rfl
@[simp] theorem State.modPortTm_ports (s : State) (p : Nat) (f : PortTm → PortTm) : (s.modPortTm p f).ports = s.ports := rfl
@[simp] theorem State.modPortTm_buf (s : State) (p : Nat) (f : PortTm → PortTm) : (s.modPortTm p f).buf = s.buf := rfl
@[simp] theorem State.modPortTm_task (s : State) (p : Nat) (f : PortTm → PortTm) : (s.modPortTm p f).task = s.task := rfl
@[simp] theorem State.modPortTm_rules (s : State) (p : Nat) (f : PortTm → PortTm) : (s.modPortTm p f).rules = s.rules := rfl
@[simp] theorem State.modPortTm_weft (s : State) (p : Nat) (f : PortTm → PortTm) : (s.modPortTm p f).weft = s.weft := rfl
@[simp] theorem State.modPortTm_fab (s : State) (p : Nat) (f : PortTm → PortTm) : (s.modPortTm p f).fab = s.fab := rfl
@[simp] theorem State.modPortTm_lock (s : State) (p : Nat) (f : PortTm → PortTm) : (s.modPortTm p f).lock = s.lock := rfl
@[simp] theorem State.modPortTm_tab (s : State) (p : Nat) (f : PortTm → PortTm) : (s.modPortTm p f).tab = s.tab := rfl
@[simp] theorem State.modPortTm_dram (s : State) (p : Nat) (f : PortTm → PortTm) : (s.modPortTm p f).dram = s.dram := rfl
@[simp] theorem State.modPortTm_out (s : State) (p : Nat) (f : PortTm → PortTm) : (s.modPortTm p f).out = s.out := rfl
@[simp] theorem State.modPortTm_pending (s : State) (p : Nat) (f : PortTm → PortTm) : (s.modPortTm p f).pending = s.pending := rfl
@[simp] theorem State.modPortTm_tm_queues (s : State) (p : Nat) (f : PortTm → PortTm) : (s.modPortTm p f).tm.queues = s.tm.queues := rfl
@[simp] theorem State.modPortTm_tm_shapers (s : State) (p : Nat) (f : PortTm → PortTm) : (s.modPortTm p f).tm.shapers = s.tm.shapers := rfl
@[simp] theorem State.modPortTm_tm_treadles (s : State) (p : Nat) (f : PortTm → PortTm) : (s.modPortTm p f).tm.treadles = s.tm.treadles := rfl

@[simp] theorem State.modTreadle_time (s : State) (p : Nat) (f : Treadle → Treadle) : (s.modTreadle p f).time = s.time := rfl
@[simp] theorem State.modTreadle_host (s : State) (p : Nat) (f : Treadle → Treadle) : (s.modTreadle p f).host = s.host := rfl
@[simp] theorem State.modTreadle_sys (s : State) (p : Nat) (f : Treadle → Treadle) : (s.modTreadle p f).sys = s.sys := rfl
@[simp] theorem State.modTreadle_selv (s : State) (p : Nat) (f : Treadle → Treadle) : (s.modTreadle p f).selv = s.selv := rfl
@[simp] theorem State.modTreadle_ports (s : State) (p : Nat) (f : Treadle → Treadle) : (s.modTreadle p f).ports = s.ports := rfl
@[simp] theorem State.modTreadle_buf (s : State) (p : Nat) (f : Treadle → Treadle) : (s.modTreadle p f).buf = s.buf := rfl
@[simp] theorem State.modTreadle_task (s : State) (p : Nat) (f : Treadle → Treadle) : (s.modTreadle p f).task = s.task := rfl
@[simp] theorem State.modTreadle_rules (s : State) (p : Nat) (f : Treadle → Treadle) : (s.modTreadle p f).rules = s.rules := rfl
@[simp] theorem State.modTreadle_weft (s : State) (p : Nat) (f : Treadle → Treadle) : (s.modTreadle p f).weft = s.weft := rfl
@[simp] theorem State.modTreadle_fab (s : State) (p : Nat) (f : Treadle → Treadle) : (s.modTreadle p f).fab = s.fab := rfl
@[simp] theorem State.modTreadle_lock (s : State) (p : Nat) (f : Treadle → Treadle) : (s.modTreadle p f).lock = s.lock := rfl
@[simp] theorem State.modTreadle_tab (s : State) (p : Nat) (f : Treadle → Treadle) : (s.modTreadle p f).tab = s.tab := rfl
@[simp] theorem State.modTreadle_dram (s : State) (p : Nat) (f : Treadle → Treadle) : (s.modTreadle p f).dram = s.dram := rfl
@[simp] theorem State.modTreadle_out (s : State) (p : Nat) (f : Treadle → Treadle) : (s.modTreadle p f).out = s.out := rfl
@[simp] theorem State.modTreadle_pending (s : State) (p : Nat) (f : Treadle → Treadle) : (s.modTreadle p f).pending = s.pending := rfl
@[simp] theorem State.modTreadle_tm_queues (s : State) (p : Nat) (f : Treadle → Treadle) : (s.modTreadle p f).tm.queues = s.tm.queues := rfl
@[simp] theorem State.modTreadle_tm_shapers (s : State) (p : Nat) (f : Treadle → Treadle) : (s.modTreadle p f).tm.shapers = s.tm.shapers := rfl
@[simp] theorem State.modTreadle_tm_ports (s : State) (p : Nat) (f : Treadle → Treadle) : (s.modTreadle p f).tm.ports = s.tm.ports := rfl

@[simp] theorem State.modCtx_time (s : State) (c : Nat) (f : Ctx → Ctx) : (s.modCtx c f).time = s.time := rfl
@[simp] theorem State.modCtx_host (s : State) (c : Nat) (f : Ctx → Ctx) : (s.modCtx c f).host = s.host := rfl
@[simp] theorem State.modCtx_sys (s : State) (c : Nat) (f : Ctx → Ctx) : (s.modCtx c f).sys = s.sys := rfl
@[simp] theorem State.modCtx_selv (s : State) (c : Nat) (f : Ctx → Ctx) : (s.modCtx c f).selv = s.selv := rfl
@[simp] theorem State.modCtx_ports (s : State) (c : Nat) (f : Ctx → Ctx) : (s.modCtx c f).ports = s.ports := rfl
@[simp] theorem State.modCtx_buf (s : State) (c : Nat) (f : Ctx → Ctx) : (s.modCtx c f).buf = s.buf := rfl
@[simp] theorem State.modCtx_rules (s : State) (c : Nat) (f : Ctx → Ctx) : (s.modCtx c f).rules = s.rules := rfl
@[simp] theorem State.modCtx_weft (s : State) (c : Nat) (f : Ctx → Ctx) : (s.modCtx c f).weft = s.weft := rfl
@[simp] theorem State.modCtx_tm (s : State) (c : Nat) (f : Ctx → Ctx) : (s.modCtx c f).tm = s.tm := rfl
@[simp] theorem State.modCtx_fab (s : State) (c : Nat) (f : Ctx → Ctx) : (s.modCtx c f).fab = s.fab := rfl
@[simp] theorem State.modCtx_lock (s : State) (c : Nat) (f : Ctx → Ctx) : (s.modCtx c f).lock = s.lock := rfl
@[simp] theorem State.modCtx_tab (s : State) (c : Nat) (f : Ctx → Ctx) : (s.modCtx c f).tab = s.tab := rfl
@[simp] theorem State.modCtx_dram (s : State) (c : Nat) (f : Ctx → Ctx) : (s.modCtx c f).dram = s.dram := rfl
@[simp] theorem State.modCtx_out (s : State) (c : Nat) (f : Ctx → Ctx) : (s.modCtx c f).out = s.out := rfl
@[simp] theorem State.modCtx_pending (s : State) (c : Nat) (f : Ctx → Ctx) : (s.modCtx c f).pending = s.pending := rfl
@[simp] theorem State.modCtx_task_groups (s : State) (c : Nat) (f : Ctx → Ctx) : (s.modCtx c f).task.groups = s.task.groups := rfl
@[simp] theorem State.modCtx_task_tasks (s : State) (c : Nat) (f : Ctx → Ctx) : (s.modCtx c f).task.tasks = s.task.tasks := rfl
@[simp] theorem State.modCtx_task_lists (s : State) (c : Nat) (f : Ctx → Ctx) : (s.modCtx c f).task.lists = s.task.lists := rfl
@[simp] theorem State.modCtx_task_order (s : State) (c : Nat) (f : Ctx → Ctx) : (s.modCtx c f).task.order = s.task.order := rfl
@[simp] theorem State.modCtx_task_cfg (s : State) (c : Nat) (f : Ctx → Ctx) : (s.modCtx c f).task.cfg = s.task.cfg := rfl
@[simp] theorem State.modCtx_task_delays (s : State) (c : Nat) (f : Ctx → Ctx) : (s.modCtx c f).task.delays = s.task.delays := rfl
@[simp] theorem State.modCtx_task_domains (s : State) (c : Nat) (f : Ctx → Ctx) : (s.modCtx c f).task.domains = s.task.domains := rfl
@[simp] theorem State.modCtx_task_handbacks (s : State) (c : Nat) (f : Ctx → Ctx) : (s.modCtx c f).task.handbacks = s.task.handbacks := rfl

@[simp] theorem State.modBg_time (s : State) (n : Nat) (f : BgTask → BgTask) : (s.modBg n f).time = s.time := rfl
@[simp] theorem State.modBg_host (s : State) (n : Nat) (f : BgTask → BgTask) : (s.modBg n f).host = s.host := rfl
@[simp] theorem State.modBg_sys (s : State) (n : Nat) (f : BgTask → BgTask) : (s.modBg n f).sys = s.sys := rfl
@[simp] theorem State.modBg_selv (s : State) (n : Nat) (f : BgTask → BgTask) : (s.modBg n f).selv = s.selv := rfl
@[simp] theorem State.modBg_ports (s : State) (n : Nat) (f : BgTask → BgTask) : (s.modBg n f).ports = s.ports := rfl
@[simp] theorem State.modBg_buf (s : State) (n : Nat) (f : BgTask → BgTask) : (s.modBg n f).buf = s.buf := rfl
@[simp] theorem State.modBg_rules (s : State) (n : Nat) (f : BgTask → BgTask) : (s.modBg n f).rules = s.rules := rfl
@[simp] theorem State.modBg_weft (s : State) (n : Nat) (f : BgTask → BgTask) : (s.modBg n f).weft = s.weft := rfl
@[simp] theorem State.modBg_tm (s : State) (n : Nat) (f : BgTask → BgTask) : (s.modBg n f).tm = s.tm := rfl
@[simp] theorem State.modBg_fab (s : State) (n : Nat) (f : BgTask → BgTask) : (s.modBg n f).fab = s.fab := rfl
@[simp] theorem State.modBg_lock (s : State) (n : Nat) (f : BgTask → BgTask) : (s.modBg n f).lock = s.lock := rfl
@[simp] theorem State.modBg_tab (s : State) (n : Nat) (f : BgTask → BgTask) : (s.modBg n f).tab = s.tab := rfl
@[simp] theorem State.modBg_dram (s : State) (n : Nat) (f : BgTask → BgTask) : (s.modBg n f).dram = s.dram := rfl
@[simp] theorem State.modBg_out (s : State) (n : Nat) (f : BgTask → BgTask) : (s.modBg n f).out = s.out := rfl
@[simp] theorem State.modBg_pending (s : State) (n : Nat) (f : BgTask → BgTask) : (s.modBg n f).pending = s.pending := rfl
@[simp] theorem State.modBg_task_groups (s : State) (n : Nat) (f : BgTask → BgTask) : (s.modBg n f).task.groups = s.task.groups := rfl
@[simp] theorem State.modBg_task_ctxs (s : State) (n : Nat) (f : BgTask → BgTask) : (s.modBg n f).task.ctxs = s.task.ctxs := rfl
@[simp] theorem State.modBg_task_lists (s : State) (n : Nat) (f : BgTask → BgTask) : (s.modBg n f).task.lists = s.task.lists := rfl
@[simp] theorem State.modBg_task_order (s : State) (n : Nat) (f : BgTask → BgTask) : (s.modBg n f).task.order = s.task.order := rfl
@[simp] theorem State.modBg_task_cfg (s : State) (n : Nat) (f : BgTask → BgTask) : (s.modBg n f).task.cfg = s.task.cfg := rfl
@[simp] theorem State.modBg_task_delays (s : State) (n : Nat) (f : BgTask → BgTask) : (s.modBg n f).task.delays = s.task.delays := rfl
@[simp] theorem State.modBg_task_domains (s : State) (n : Nat) (f : BgTask → BgTask) : (s.modBg n f).task.domains = s.task.domains := rfl
@[simp] theorem State.modBg_task_handbacks (s : State) (n : Nat) (f : BgTask → BgTask) : (s.modBg n f).task.handbacks = s.task.handbacks := rfl

theorem State.port_modPort (s : State) (p : Nat) (f : PortState → PortState) (h : Tab.wf ({} : PortState) s.ports = true) :
    (s.modPort p f).port p = f (s.port p) := Tab.get_upd_self h p f
theorem State.port_modPort_ne (s : State) (p : Nat) (f : PortState → PortState) (j : Nat) (h : Tab.wf ({} : PortState) s.ports = true) (hj : j ≠ p) :
    (s.modPort p f).port j = s.port j := Tab.get_upd_ne h p j f hj

theorem State.ring_modRing (s : State) (r : Nat) (f : GenRing → GenRing) (h : Tab.wf ({} : GenRing) s.buf.rings = true) :
    (s.modRing r f).ring r = f (s.ring r) := Tab.get_upd_self h r f
theorem State.ring_modRing_ne (s : State) (r : Nat) (f : GenRing → GenRing) (j : Nat) (h : Tab.wf ({} : GenRing) s.buf.rings = true) (hj : j ≠ r) :
    (s.modRing r f).ring j = s.ring j := Tab.get_upd_ne h r j f hj

theorem State.warp_modWarp (s : State) (p : Nat) (f : WarpPair → WarpPair) (h : Tab.wf ({} : WarpPair) s.buf.warps = true) :
    (s.modWarp p f).warp p = f (s.warp p) := Tab.get_upd_self h p f
theorem State.warp_modWarp_ne (s : State) (p : Nat) (f : WarpPair → WarpPair) (j : Nat) (h : Tab.wf ({} : WarpPair) s.buf.warps = true) (hj : j ≠ p) :
    (s.modWarp p f).warp j = s.warp j := Tab.get_upd_ne h p j f hj

theorem State.pool_modPool (s : State) (b : Nat) (f : Pool → Pool) (h : Tab.wf ({} : Pool) s.buf.pools = true) :
    (s.modPool b f).pool b = f (s.pool b) := Tab.get_upd_self h b f
theorem State.pool_modPool_ne (s : State) (b : Nat) (f : Pool → Pool) (j : Nat) (h : Tab.wf ({} : Pool) s.buf.pools = true) (hj : j ≠ b) :
    (s.modPool b f).pool j = s.pool j := Tab.get_upd_ne h b j f hj

theorem State.sl_modSl (s : State) (n : Nat) (f : SliceHost → SliceHost) (h : Tab.wf ({} : SliceHost) s.host.slices = true) :
    (s.modSl n f).sl n = f (s.sl n) := Tab.get_upd_self h n f
theorem State.sl_modSl_ne (s : State) (n : Nat) (f : SliceHost → SliceHost) (j : Nat) (h : Tab.wf ({} : SliceHost) s.host.slices = true) (hj : j ≠ n) :
    (s.modSl n f).sl j = s.sl j := Tab.get_upd_ne h n j f hj

theorem State.hr_modHr (s : State) (r : Nat) (f : HostRing → HostRing) (h : Tab.wf ({} : HostRing) s.host.rings = true) :
    (s.modHr r f).hr r = f (s.hr r) := Tab.get_upd_self h r f
theorem State.hr_modHr_ne (s : State) (r : Nat) (f : HostRing → HostRing) (j : Nat) (h : Tab.wf ({} : HostRing) s.host.rings = true) (hj : j ≠ r) :
    (s.modHr r f).hr j = s.hr j := Tab.get_upd_ne h r j f hj

theorem State.pick_modPick (s : State) (k : Nat) (f : PickState → PickState) (h : Tab.wf ({} : PickState) s.time.picks = true) :
    (s.modPick k f).pick k = f (s.pick k) := Tab.get_upd_self h k f
theorem State.pick_modPick_ne (s : State) (k : Nat) (f : PickState → PickState) (j : Nat) (h : Tab.wf ({} : PickState) s.time.picks = true) (hj : j ≠ k) :
    (s.modPick k f).pick j = s.pick j := Tab.get_upd_ne h k j f hj

theorem State.core_modCore (s : State) (c : Nat) (f : Core → Core) (h : Tab.wf ({} : Core) s.weft.cores = true) :
    (s.modCore c f).core c = f (s.core c) := Tab.get_upd_self h c f
theorem State.core_modCore_ne (s : State) (c : Nat) (f : Core → Core) (j : Nat) (h : Tab.wf ({} : Core) s.weft.cores = true) (hj : j ≠ c) :
    (s.modCore c f).core j = s.core j := Tab.get_upd_ne h c j f hj

theorem State.link_modLink (s : State) (k : Nat) (f : FabLink → FabLink) (h : Tab.wf ({} : FabLink) s.fab.links = true) :
    (s.modLink k f).link k = f (s.link k) := Tab.get_upd_self h k f
theorem State.link_modLink_ne (s : State) (k : Nat) (f : FabLink → FabLink) (j : Nat) (h : Tab.wf ({} : FabLink) s.fab.links = true) (hj : j ≠ k) :
    (s.modLink k f).link j = s.link j := Tab.get_upd_ne h k j f hj

theorem State.queue_modQueue (s : State) (n : Nat) (f : Queue → Queue) (h : Tab.wf ({} : Queue) s.tm.queues = true) :
    (s.modQueue n f).queue n = f (s.queue n) := Tab.get_upd_self h n f
theorem State.queue_modQueue_ne (s : State) (n : Nat) (f : Queue → Queue) (j : Nat) (h : Tab.wf ({} : Queue) s.tm.queues = true) (hj : j ≠ n) :
    (s.modQueue n f).queue j = s.queue j := Tab.get_upd_ne h n j f hj

theorem State.treadle_modTreadle (s : State) (p : Nat) (f : Treadle → Treadle) (h : Tab.wf ({} : Treadle) s.tm.treadles = true) :
    (s.modTreadle p f).treadle p = f (s.treadle p) := Tab.get_upd_self h p f
theorem State.treadle_modTreadle_ne (s : State) (p : Nat) (f : Treadle → Treadle) (j : Nat) (h : Tab.wf ({} : Treadle) s.tm.treadles = true) (hj : j ≠ p) :
    (s.modTreadle p f).treadle j = s.treadle j := Tab.get_upd_ne h p j f hj

theorem State.bg_modBg (s : State) (n : Nat) (f : BgTask → BgTask) (h : Tab.wf ({} : BgTask) s.task.tasks = true) :
    (s.modBg n f).bg n = f (s.bg n) := Tab.get_upd_self h n f
theorem State.bg_modBg_ne (s : State) (n : Nat) (f : BgTask → BgTask) (j : Nat) (h : Tab.wf ({} : BgTask) s.task.tasks = true) (hj : j ≠ n) :
    (s.modBg n f).bg j = s.bg j := Tab.get_upd_ne h n j f hj

end Sys2Proof.Machine
end

