-- ==== Sys2Proof/Laws/Cmds.lean ====
section
/-!
SUPPORT. Command packets: what reserving reply tiles leaves alone, and that an admitted packet executes.
-/
namespace Sys2Proof.Machine

/-- What every step of a fold keeps, the fold keeps. -/
theorem foldl_keeps {α σ β : Type} (φ : σ → β) (g : σ → α → σ) (h : ∀ s x, φ (g s x) = φ s) (l : List α) (s : σ) :
    φ (l.foldl g s) = φ s := by
  induction l generalizing s with
  | nil => rfl
  | cons x r ih => rw [List.foldl_cons, ih, h]

/-- Reserving reply tiles changes the slice and the outward record only (R559). -/
theorem State.reserve_keeps {β : Type} (φ : State → β) (he : ∀ s o, φ (State.emit s o) = φ s)
    (hm : ∀ s n f, φ (State.modSl s n f) = φ s) (s : State) (n : Nat) (seq : BitVec 16) (k : Nat) (b : Bool) :
    φ (s.reserve n seq k b) = φ s := by
  unfold State.reserve
  rw [hm]
  exact foldl_keeps φ _ (fun s i => he s _) _ s

/-- The same of a command's own reservation. -/
theorem State.reserveOnce_keeps {β : Type} (φ : State → β) (he : ∀ s o, φ (State.emit s o) = φ s)
    (hm : ∀ s n f, φ (State.modSl s n f) = φ s) (s : State) (q : Cmd) (k : Nat) : φ (s.reserveOnce q k) = φ s := by
  unfold State.reserveOnce
  split
  · split
    · rfl
    · exact State.reserve_keeps φ he hm s _ _ _ _
  · rfl

@[simp] theorem State.reserveOnce_sys (s : State) (q : Cmd) (k : Nat) : (s.reserveOnce q k).sys = s.sys :=
  State.reserveOnce_keeps (·.sys) (fun _ _ => rfl) (fun _ _ _ => rfl) s q k
@[simp] theorem State.reserveOnce_fab (s : State) (q : Cmd) (k : Nat) : (s.reserveOnce q k).fab = s.fab :=
  State.reserveOnce_keeps (·.fab) (fun _ _ => rfl) (fun _ _ _ => rfl) s q k
@[simp] theorem State.reserveOnce_devId (s : State) (q : Cmd) (k : Nat) : (s.reserveOnce q k).devId = s.devId :=
  State.reserveOnce_keeps (·.devId) (fun _ _ => rfl) (fun _ _ _ => rfl) s q k
@[simp] theorem State.reserveOnce_held (s : State) (q : Cmd) (k : Nat) : (s.reserveOnce q k).host.held = s.host.held :=
  State.reserveOnce_keeps (·.host.held) (fun _ _ => rfl) (fun _ _ _ => rfl) s q k
@[simp] theorem State.reserveOnce_snapshot (s : State) (q : Cmd) (k : Nat) :
    (s.reserveOnce q k).host.snapshot = s.host.snapshot :=
  State.reserveOnce_keeps (·.host.snapshot) (fun _ _ => rfl) (fun _ _ _ => rfl) s q k
@[simp] theorem State.reserveOnce_gen (s : State) (q : Cmd) (k : Nat) (x : ObjKey) :
    (s.reserveOnce q k).gen x = s.gen x :=
  State.reserveOnce_keeps (·.gen x) (fun _ _ => rfl) (fun _ _ _ => rfl) s q k

/-- No check of a list fails when each condition is false. -/
theorem firstFail_none (l : List (Bool × Status)) : firstFail l = none ↔ ∀ x ∈ l, x.1 = false := by
  induction l with
  | nil => simp [firstFail]
  | cons a r ih =>
    obtain ⟨c, e⟩ := a
    cases c <;> simp [firstFail, ih]

/-- The command IDs fit the DEVICE byte. -/
theorem id_lt (d : BitVec 6) : (d.setWidth 8).toNat < 64 := by
  rw [BitVec.toNat_setWidth]
  have := d.isLt
  omega

/-- What an admitted command packet passes: every check up to its last ones, and nothing holds it back. -/
theorem checks_of_admits {info : OpInfo} {q : Cmd} {s : State} {p : Plan}
    (h : s.admits info q p.keys p.changes p.replyTiles = true) (hg : p.needGen = false ∨ named q = true)
    (hb : ∀ x ∈ p.bad, x.1 = false) (ho : p.owns = true) (hh : p.hold = false) :
    s.sys.stopped = false ∧ q.device = s.devId.setWidth 8 ∧ wireChecks s info q p = none ∧
      rightChecks s info p = none ∧ s.mustHold q p = false ∧
      ((q.expGen == 0xFFFFFFFF) = true ∨ (q.expGen == (Option.map s.gen p.keys.head?).getD 0) = true) := by
  simp only [State.admits, Bool.and_eq_true, decide_eq_true_eq, Bool.or_eq_true, Bool.not_eq_true'] at h
  obtain ⟨⟨⟨⟨⟨⟨⟨⟨⟨⟨⟨⟨⟨⟨h1, h2⟩, h3⟩, h4⟩, h5⟩, h6⟩, h7⟩, h8⟩, h9⟩, h10⟩, h11⟩, h12⟩, h13⟩, h14⟩, h15⟩ := h
  have hwire : wireChecks s info q p = none := by
    unfold wireChecks
    rw [firstFail_none]
    intro x hx
    rcases List.mem_append.1 hx with hx | hx
    · simp only [List.mem_cons, List.not_mem_nil, or_false] at hx
      rcases hx with rfl | rfl | rfl | rfl | rfl | rfl | rfl | rfl | rfl
      · revert h2
        unfold State.jtagShut
        cases q.path <;> simp_all
      · revert h2
        cases q.path <;> simp_all
      · simpa using h3
      · have := id_lt s.devId
        rw [h4]; simpa using this
      · simp; omega
      · simp only [decide_eq_false_iff_not, not_and, not_or]
        intro hp
        simp only [hp, bne_self_eq_false, Bool.false_eq_true, false_or, beq_iff_eq] at h7
        simpa using h7
      · exact decide_eq_false (fun hn => hn h8)
      · rcases h9 with h9 | h9 <;> simp only [h9, decide_eq_false_iff_not] <;> simp
      · rcases hg with hg | hg
        · simp [hg]
        · simp only [named] at hg
          revert hg
          cases q.path <;> simp_all
    · exact hb x hx
  have hright : rightChecks s info p = none := by
    unfold rightChecks
    rw [firstFail_none]
    intro x hx
    simp only [List.mem_cons, List.not_mem_nil, or_false] at hx
    rcases hx with rfl | rfl
    · simp [ho]
    · rcases h11 with h11 | h11 <;> simp_all
  have hhold : s.mustHold q p = false := by
    unfold State.mustHold
    rw [hh, h13, h14]
    revert h12
    cases s.host.snapshot <;> simp
  exact ⟨h1, h4, hwire, hright, hhold, h15⟩

/-- An admitted command packet comes to its last checks. -/
theorem reaches_of_admits {info : OpInfo} {q : Cmd} {s : State} {p : Plan}
    (h : s.admits info q p.keys p.changes p.replyTiles = true) (hg : p.needGen = false ∨ named q = true)
    (hb : ∀ x ∈ p.bad, x.1 = false) (ho : p.owns = true) (hh : p.hold = false) : s.reaches info q p = true := by
  obtain ⟨-, h4, hw, hr, hm, -⟩ := checks_of_admits h hg hb ho hh
  simp [State.reaches, h4, hw, hr, hm]

/-- Reserving reply tiles changes no check. -/
theorem rightChecks_reserveOnce (s : State) (q : Cmd) (k : Nat) (info : OpInfo) (p : Plan) :
    rightChecks (s.reserveOnce q k) info p = rightChecks s info p := by simp only [rightChecks, State.reserveOnce_sys]
/-- Nor whether the packet waits. -/
theorem mustHold_reserveOnce (s : State) (q : Cmd) (k : Nat) (p : Plan) :
    (s.reserveOnce q k).mustHold q p = s.mustHold q p := by
  simp only [State.mustHold, State.reserveOnce_held, State.reserveOnce_snapshot, State.reserveOnce_fab]

/-- An admitted command packet whose own conditions hold executes. -/
theorem runPlan_of_admits {info : OpInfo} {q : Cmd} {s : State} {p : Plan}
    (h : s.admits info q p.keys p.changes p.replyTiles = true) (hg : p.needGen = false ∨ named q = true)
    (hb : ∀ x ∈ p.bad, x.1 = false) (ho : p.owns = true) (hh : p.hold = false) (hw : ∀ x ∈ p.own, x.1 = false) :
    runPlan info q s p = execPlan info q
      { keys := p.keys, changes := p.changes, eff := p.eff, data := p.data, status := p.status, tiles := p.tiles
        replyTiles := p.replyTiles, handle := p.handle, wait := p.wait } := by
  obtain ⟨h1, h4, hwire, hright, hhold, h15⟩ := checks_of_admits h hg hb ho hh
  have hlate : lateChecks (s.reserveOnce q p.replyTiles) q p = none := by
    unfold lateChecks
    rw [firstFail_none]
    intro x hx
    rcases List.mem_cons.1 hx with rfl | hx
    · have e2 : Option.map (s.reserveOnce q p.replyTiles).gen p.keys.head? = Option.map s.gen p.keys.head? := by
        cases p.keys.head? <;> simp
      simp only [e2, decide_eq_false_iff_not, not_and, Decidable.not_not]
      intro hne
      rcases h15 with h15 | h15
      · exact absurd (by simpa using h15) hne
      · simpa using h15
    · exact hw x hx
  unfold runPlan
  rw [hwire]
  simp only [State.reserveOnce_devId, h4, rightChecks_reserveOnce, hright, mustHold_reserveOnce, hhold, hlate, ne_eq,
    not_true_eq_false, if_false, Bool.false_eq_true]
  rfl

/-- An admitted command packet whose own conditions hold executes. -/
theorem runCmd_of_admits {info : OpInfo} {q : Cmd} {s : State} {p : Plan}
    (h : s.admits info q p.keys p.changes p.replyTiles = true) (hg : p.needGen = false ∨ named q = true)
    (hb : ∀ x ∈ p.bad, x.1 = false) (ho : p.owns = true) (hh : p.hold = false) (hw : ∀ x ∈ p.own, x.1 = false) :
    runCmd info q s p = .next (execPlan info q
      { keys := p.keys, changes := p.changes, eff := p.eff, data := p.data, status := p.status, tiles := p.tiles
        replyTiles := p.replyTiles, handle := p.handle, wait := p.wait }) := by
  simp only [runCmd, ok, (checks_of_admits h hg hb ho hh).1, Bool.false_eq_true, if_false, runPlan_of_admits h hg hb ho hh hw]

/-- The same of a stream command, admitted before and after it verifies its slots. -/
theorem runVerified_of_admits {info : OpInfo} {q : Cmd} {ns : List Nat} {s : State} {plan : State → Plan}
    (h0 : s.admits info q (plan s).keys (plan s).changes (plan s).replyTiles = true)
    (g0 : (plan s).needGen = false ∨ named q = true) (b0 : ∀ x ∈ (plan s).bad, x.1 = false)
    (o0 : (plan s).owns = true) (hh0 : (plan s).hold = false)
    (h : (s.seVerified ns).admits info q (plan (s.seVerified ns)).keys (plan (s.seVerified ns)).changes
      (plan (s.seVerified ns)).replyTiles = true)
    (hg : (plan (s.seVerified ns)).needGen = false ∨ named q = true) (hb : ∀ x ∈ (plan (s.seVerified ns)).bad, x.1 = false)
    (ho : (plan (s.seVerified ns)).owns = true) (hh : (plan (s.seVerified ns)).hold = false)
    (hw : ∀ x ∈ (plan (s.seVerified ns)).own, x.1 = false) :
    runVerified info q ns s plan = .next (let p := plan (s.seVerified ns)
      execPlan info q
        { keys := p.keys, changes := p.changes, eff := p.eff, data := p.data, status := p.status, tiles := p.tiles
          replyTiles := p.replyTiles, handle := p.handle, wait := p.wait }) := by
  simp only [runVerified, ok, (checks_of_admits h0 g0 b0 o0 hh0).1, Bool.false_eq_true, if_false,
    reaches_of_admits h0 g0 b0 o0 hh0, if_true, runPlan_of_admits h hg hb ho hh hw]

end Sys2Proof.Machine
end

