-- ==== Sys2Proof/Laws/Decode.lean ====
section
/-!
SUPPORT. Fields of a word written as its fields side by side, for the encoder and decoder of R284.
-/
namespace Sys2Proof

/-- A field that lies in the lower part. -/
theorem extract_low {v w start len : Nat} {x : BitVec v} {y : BitVec w} (h : start + len ≤ w) :
    (x ++ y).extractLsb' start len = y.extractLsb' start len := BitVec.extractLsb'_append_eq_of_add_le h
/-- A field that lies in the upper part. -/
theorem extract_high {v w start len : Nat} {x : BitVec v} {y : BitVec w} (h : w ≤ start) :
    (x ++ y).extractLsb' start len = x.extractLsb' (start - w) len := BitVec.extractLsb'_append_eq_of_le h
theorem extract_all {w : Nat} (x : BitVec w) : x.extractLsb' 0 w = x := by simp
theorem extract_zero {n k w : Nat} : (0#n).extractLsb' k w = 0#w := by simp
/-- A word whose reserved fields are 0 is the instruction. -/
theorem only_eq {p : Bool} {i : WeftOp} (h : p = true) : only p i = some i := by simp [only, h]

end Sys2Proof
end

