-- ==== Sys2Proof/Laws/Issue.lean ====
section
/-!
SUPPORT. What a Weft instruction that issues answers, and what a request that is served answers.
-/
namespace Sys2Proof.Machine

/-- An instruction that issues answers what issuing changes and then its own effect. -/
theorem issue_of {s : State} {c t : Nat} {op : WeftOp} {run : State → State} (h : s.issues c t op = true) :
    ok s (s.issue c t op run) = .next (s.does c t run) := by
  simp only [State.issues, Bool.and_eq_true, Bool.not_eq_true', beq_iff_eq, Bool.and_eq_false_imp] at h
  obtain ⟨⟨⟨⟨⟨⟨h1, h2⟩, h3⟩, h4⟩, h5⟩, h6⟩, h7⟩ := h
  have h8 : decodeWeft (s.progWord (s.th c t).pc) = some op := h5
  have h9 : ((s.th c t).onEnd && noLoopEnd op) = false := by
    cases h : (s.th c t).onEnd <;> simp_all
  simp only [State.issued, h5, Option.map_some, Option.getD_some] at h7
  simp only [ok, State.issue, State.does, State.issued, h1, h2, h3, h4, h5, h8, h9, State.checked, h7, Option.map_some,
    Option.getD_some, ne_eq, not_true_eq_false, if_false, Bool.not_true, Bool.false_eq_true]

/-- Only a device that runs issues. -/
theorem issues_run {s : State} {c t : Nat} {op : WeftOp} (h : s.issues c t op = true) : s.sys.stopped = false := by
  simp only [State.issues, Bool.and_eq_true, Bool.not_eq_true'] at h
  grind

/-- Two effects that agree on the issued state answer the same. -/
theorem does_congr {s : State} {c t : Nat} {f g : State → State} (h : f (s.issued c t) = g (s.issued c t)) :
    (Host.Outcome.next (s.does c t f) : Out) = .next (s.does c t g) := by simp only [State.does, h]

/-- Two updates that agree on a thread make the same state. -/
theorem modTh_congr {s : State} {c t : Nat} {f g : Thread → Thread} (h : f (s.th c t) = g (s.th c t)) :
    s.modTh c t f = s.modTh c t g := by
  simp only [State.modTh, State.modCore, Tab.upd]
  have h' : f (Tab.get {} (Tab.get {} s.weft.cores c).threads t) = g (Tab.get {} (Tab.get {} s.weft.cores c).threads t) := h
  simp only [h']

theorem bytesOf_length {w : Nat} (v : BitVec w) (n : Nat) : (bytesOf v n).length = n := by simp [bytesOf]

/-- A request that stands in flight and passes the common checks of R311 answers what its service gives. -/
theorem serve_asked {s : State} {k code op : Nat} {o : HelperOp} {lens : Nat → Bool} {packet : Bool}
    {run : State → HelperOp → Served} (h : s.asked k code op o = true) (hl : lens o.word.blen.toNat = true)
    (hp : (packet && o.inst.task) = false) :
    ok s (s.serve k code op lens packet run) = .next ((run s o).close o) := by
  simp only [State.asked, Bool.and_eq_true, Bool.not_eq_true', beq_iff_eq] at h
  simp only [ok, h.1, State.serve, h.2, hl, hp]
  simp

end Sys2Proof.Machine
end

