-- ==== Sys2Proof/Laws/Objects.lean ====
section
/-!
SUPPORT. What a command that is refused, or that only reads, leaves alone: the device's objects (`SameObjects`), lemma by
lemma down the path of a command packet.
-/
namespace Sys2Proof.Machine

theorem SameObjects.refl (s : State) : SameObjects s s := by
  unfold SameObjects; and_intros <;> first | rfl | exact fun w => ⟨w, fun _ => rfl⟩

theorem SameObjects.trans {a b c : State} (h : SameObjects a b) (k : SameObjects b c) : SameObjects a c := by
  simp only [SameObjects] at *
  grind

/-- A slice's replies, rings and interrupts are no part of its configuration. -/
theorem same_modSl (s : State) (n : Nat) (f : SliceHost → SliceHost) (hf : ∀ h, (f h).cfg = h.cfg) :
    SameObjects s (s.modSl n f) := by
  unfold SameObjects
  and_intros
  all_goals first
    | rfl
    | skip
  refine fun w => ⟨Tab.wf_upd w n f, fun m => ?_⟩
  show (Tab.get ({} : SliceHost) (Tab.upd {} s.host.slices n f) m).cfg = (Tab.get ({} : SliceHost) s.host.slices m).cfg
  by_cases e : m = n
  · subst e; rw [Tab.get_upd_self w, hf]
  · rw [Tab.get_upd_ne w n m f e]

theorem same_emit (s : State) (o : Output) : SameObjects s (s.emit o) := by unfold SameObjects; and_intros <;> first | rfl | exact fun w => ⟨w, fun _ => rfl⟩

theorem same_foldl {α : Type} (g : State → α → State) (h : ∀ s x, SameObjects s (g s x)) (l : List α) (s : State) : SameObjects s (l.foldl g s) := by
  induction l generalizing s with
  | nil => exact SameObjects.refl s
  | cons x r ih => exact (h s x).trans (ih _)

theorem same_reserve (s : State) (n : Nat) (q : BitVec 16) (k : Nat) (b : Bool) : SameObjects s (s.reserve n q k b) := by
  unfold State.reserve
  exact (same_foldl _ (fun s i => same_emit s _) _ s).trans (same_modSl _ _ _ fun h => rfl)

theorem same_reserveOnce (s : State) (q : Cmd) (k : Nat) : SameObjects s (s.reserveOnce q k) := by
  unfold State.reserveOnce
  split
  · split
    · exact SameObjects.refl s
    · exact same_reserve ..
  · exact SameObjects.refl s

theorem same_writeSlots (s : State) (n : Nat) (v : Resv) (r : Reply) : SameObjects s (s.writeSlots n v r) := by
  unfold State.writeSlots
  dsimp only
  split
  · exact same_modSl _ _ _ fun h => rfl
  · exact (same_foldl _ (fun s i => same_emit s _) _ s).trans (same_emit _ _)

theorem same_signal (s : State) (n o : Nat) : SameObjects s (s.signal n o) := by
  unfold State.signal
  dsimp only
  split
  · unfold SameObjects; and_intros <;> first | rfl | exact fun w => ⟨w, fun _ => rfl⟩
  · split
    · unfold SameObjects; and_intros <;> first | rfl | exact fun w => ⟨w, fun _ => rfl⟩
    · exact same_emit _ _

theorem same_linkSend (s : State) (k : Nat) (f : FabFrame) : SameObjects s (s.linkSend k f) := by
  unfold State.linkSend
  refine SameObjects.trans ?_ (same_emit _ _)
  split
  · exact SameObjects.refl s
  · unfold State.linkKeep SameObjects; and_intros <;> first | rfl | exact fun w => ⟨w, fun _ => rfl⟩

theorem same_fabricSend (s : State) (q : Cmd) (a b : Nat) (r : Reply) : SameObjects s (s.fabricSend q a b r) := by
  unfold State.fabricSend
  split
  · exact same_linkSend _ _ _
  · exact SameObjects.refl s

theorem same_fabricReply (s : State) (q : Cmd) (a b : Nat) (r : Reply) : SameObjects s (s.fabricReply q a b r) := by
  unfold State.fabricReply
  refine SameObjects.trans ?_ (same_fabricSend _ _ _ _ _)
  unfold SameObjects; and_intros <;> first | rfl | exact fun w => ⟨w, fun _ => rfl⟩

theorem same_bumpBy (s : State) (c : Ctr) (i k : Nat) : SameObjects s (s.bumpBy c i k) := by
  unfold SameObjects; and_intros <;> first | rfl | exact fun w => ⟨w, fun _ => rfl⟩

theorem same_sendOwn (s : State) (p : Nat) (f : List Byte) : SameObjects s (s.sendOwn p f) :=
  ((same_emit s _).trans (same_bumpBy _ .txFrames p 1)).trans (same_bumpBy _ .txBytes p f.length)

/-- A command that waits changes nothing but the queue of those that wait. -/
theorem same_held (s : State) (h : List Held) : SameObjects s { s with host.held := h } := by
  unfold SameObjects; and_intros <;> first | rfl | exact fun w => ⟨w, fun _ => rfl⟩

theorem same_deliver (s : State) (q : Cmd) (k : Nat) (r : Reply) : SameObjects s (s.deliver q k r) := by
  unfold State.deliver
  split
  · dsimp only
    split
    all_goals
      refine (same_modSl s 0 (fun h => { h with window := recordReply h.window r k }) fun h => rfl).trans ?_
      unfold SameObjects; and_intros <;> first | rfl | exact fun w => ⟨w, fun _ => rfl⟩
  · refine (same_modSl s 0 (fun h => { h with window := recordReply h.window r k }) fun h => rfl).trans ?_
    unfold SameObjects; and_intros <;> first | rfl | exact fun w => ⟨w, fun _ => rfl⟩
  · next n _ =>
    have k1 := same_modSl s n.val (fun h => { h with window := recordReply h.window r k }) fun h => rfl
    dsimp only
    split
    · exact k1
    · refine k1.trans ((same_reserveOnce _ q k).trans ?_)
      generalize State.reserveOnce _ q k = s2
      have k3 := same_foldl (fun s v => s.writeSlots n.val v r) (fun s v => same_writeSlots s n.val v r)
        (List.filter (fun v => decide (v.seq = r.seq)) (s2.sl n.val).resv) s2
      generalize List.foldl (fun s v => s.writeSlots n.val v r) s2 _ = s3 at k3 ⊢
      have k4 := k3.trans (same_modSl s3 n.val (fun h => { h with resv := h.resv.filter fun v => v.seq ≠ r.seq }) fun h => rfl)
      split
      · exact k4
      · exact k4.trans (same_signal ..)
  · dsimp only
    refine SameObjects.trans ?_ (same_sendOwn _ _ _)
    (unfold SameObjects; and_intros) <;> first | rfl | exact fun w => ⟨w, fun _ => rfl⟩
  · exact same_fabricReply ..
  · exact same_fabricSend ..
  · exact same_emit _ _

theorem same_answer (s : State) (q : Cmd) (ks : List ObjKey) (k : Nat) (r : Reply) (h : r.status ≠ .ok ∨ q.twinned r.opcode = false ) : SameObjects s (s.answer q ks k r) := by
  unfold State.answer
  rw [if_neg (by grind)]
  exact same_deliver ..

theorem same_complete (s : State) (q : Cmd) (ks : List ObjKey) (k : Nat) (r : Reply) (h : r.status ≠ .ok ∨ q.twinned r.opcode = false) : SameObjects s (s.complete q ks k r) := by
  unfold State.complete
  exact (same_modSl _ _ _ fun h => by dsimp only; split <;> rfl).trans (same_answer _ _ _ _ _ h)

theorem same_forward (s : State) (i : OpInfo) (q : Cmd) (p : Plan) : SameObjects s (s.forwardCmd i q p) := by
  unfold State.forwardCmd
  dsimp only
  split
  · exact same_complete _ _ _ _ _ (.inl (by simp [failReply]))
  · next l _ =>
    have k1 := same_linkSend s l { kind := 1, dest := (BitVec.ofNat 6 q.device.toNat), port := 63, src := s.devId, payload := q.bytes i.opcode }
    refine SameObjects.trans k1 ?_
    unfold SameObjects; and_intros <;> first | rfl | exact fun w => ⟨w, fun _ => rfl⟩

theorem same_voidArm (s : State) (i : OpInfo) (q : Cmd) : SameObjects s (s.voidArm i q) := by
  unfold State.voidArm
  split
  · unfold SameObjects; and_intros <;> first | rfl | exact fun w => ⟨w, fun _ => rfl⟩
  · exact SameObjects.refl s

theorem firstFail_mem {l : List (Bool × Status)} {e : Status} (h : firstFail l = some e) : (true, e) ∈ l := by
  induction l with
  | nil => simp [firstFail] at h
  | cons a r ih =>
    obtain ⟨c, x⟩ := a
    cases c <;> simp_all [firstFail]

theorem same_runPlan {i : OpInfo} {q : Cmd} {s : State} {p : Plan}
    (h : ∃ e, rightChecks (s.reserveOnce q p.replyTiles) i p = some e ∧ e ≠ .ok) (hp : ∀ x ∈ p.bad, x.2 ≠ .ok) : SameObjects s (runPlan i q s p) := by
  unfold runPlan
  split
  · next e he =>
    refine same_complete _ _ _ _ _ (.inl ?_)
    have := firstFail_mem he
    simp only [List.mem_append, List.mem_cons, List.not_mem_nil, or_false] at this
    simp only [failReply]
    rcases this with h | h
    · clear hp he
      rcases h with h | h | h | h | h | h | h | h | h <;> (have e2 : e = _ := congrArg Prod.snd h; rw [e2]; first | exact (by decide : Status.badParam ≠ .ok) | exact (by decide : Status.badLength ≠ .ok) | exact (by decide : Status.badOpcode ≠ .ok))
    · exact hp _ h
  · refine (same_reserveOnce s q p.replyTiles).trans ?_
    dsimp only
    split
    · exact same_forward ..
    · split
      · exact same_held _ _
      · obtain ⟨e, he, hne⟩ := h
        rw [he]
        exact same_complete _ _ _ _ _ (.inl hne)

theorem runCmd_mode {i : OpInfo} {q : Cmd} {s t : State} {p : Plan} (h : runCmd i q s p = .next t)
    (hm : i.modes.allows s.sys.mode = false ∨ (s.sys.recovery = true ∧ recoveryOps.contains i.opcode = false)) (hp : ∀ x ∈ p.bad, x.2 ≠ .ok) : SameObjects s t := by
  have k : SameObjects s (runPlan i q s p) := by
    refine same_runPlan ?_ hp
    have e : (s.reserveOnce q p.replyTiles).sys = s.sys := by simp
    unfold rightChecks firstFail
    rw [e]
    cases p.owns with
    | false => exact ⟨.notOwner, rfl, by decide⟩
    | true =>
      refine ⟨.wrongMode, ?_, by decide⟩
      rcases hm with hm | ⟨h1, h2⟩ <;> simp_all [firstFail]
  unfold runCmd ok at h
  cases h
  split
  · exact SameObjects.refl s
  · exact k

theorem runCmd_owns {i : OpInfo} {q : Cmd} {s t : State} {p : Plan} (h : runCmd i q s p = .next t)
    (hm : p.owns = false) (hp : ∀ x ∈ p.bad, x.2 ≠ .ok) : SameObjects s t := by
  have k : SameObjects s (runPlan i q s p) := by
    refine same_runPlan ?_ hp
    exact ⟨.notOwner, by simp [rightChecks, firstFail, hm], by decide⟩
  unfold runCmd ok at h
  cases h
  split
  · exact SameObjects.refl s
  · exact k

theorem same_execPlan_get {i : OpInfo} {q : Cmd} {p : Plan} (hc : p.changes = false) (hw : p.wait = none)
    (ht : ∀ l a g, q.path ≠ .twin l a g) (hr : q.twinned i.opcode = false) : SameObjects p.eff (execPlan i q p) := by
  unfold execPlan
  rw [hw]
  have e : ∀ s : State, s.changed p = s := fun s => by simp [State.changed, hc]
  have e2 : ∀ s : State, s.twinGen q p = s := fun s => by
    unfold State.twinGen; split
    · next h _ => exact absurd h (ht _ _ _)
    · rfl
  simp only [e, e2]
  exact (same_reserveOnce _ q _).trans ((same_voidArm _ i q).trans (same_complete _ _ _ _ _ (.inr hr)))

theorem runCmd_get {i : OpInfo} {q : Cmd} {s t : State} {p : Plan} (h : runCmd i q s p = .next t) (he : p.eff = s)
    (hc : p.changes = false) (hw : p.wait = none)
    (ht : ∀ l a g, q.path ≠ .twin l a g) (hr : q.twinned i.opcode = false) : SameObjects s t := by
  have k : SameObjects s (runPlan i q s p) := by
    unfold runPlan
    split
    · exact same_complete _ _ _ _ _ (.inr hr)
    · have k0 := same_reserveOnce s q p.replyTiles
      dsimp only
      split
      · exact k0.trans (same_forward ..)
      · split
        · exact k0.trans (same_held _ _)
        · split
          · exact k0.trans (same_complete _ _ _ _ _ (.inr hr))
          · split
            · exact k0.trans ((same_voidArm _ i q).trans (same_complete _ _ _ _ _ (.inr hr)))
            · have := same_execPlan_get (p := p) (i := i) (q := q) hc hw ht hr
              rw [he] at this
              exact this
  unfold runCmd ok at h
  cases h
  split
  · exact SameObjects.refl s
  · exact k

end Sys2Proof.Machine
end

