-- ==== Sys2Proof/Laws/Snapshot.lean ====
section
/-!
SUPPORT. The size of a SNAPSHOT without table space and counters is bounded, whatever the state (R582).
-/
namespace Sys2Proof.Machine

/-- Records of at most 64 tiles add up to at most 64 tiles an object. -/
theorem sum_filterMap_le {α : Type} (f : α → Option (List Tile)) (h : ∀ a l, f a = some l → l.length ≤ 64) (l : List α) :
    ((l.filterMap f).map List.length).sum ≤ 64 * l.length := by
  induction l with
  | nil => simp
  | cons a r ih =>
    rw [List.filterMap_cons]
    cases hf : f a with
    | none => simp only [List.length_cons]; omega
    | some x =>
      have := h a x hf
      simp only [List.map_cons, List.sum_cons, List.length_cons]
      omega

theorem snapRun_length (op n : Nat) : (snapRun op n).length = n := by simp [snapRun]

/-- As many objects of one kind for each of a list. -/
theorem length_flatMap_const {α β : Type} (f : α → List β) (k : Nat) (h : ∀ a, (f a).length = k) (l : List α) :
    (l.flatMap f).length = k * l.length := by
  induction l with
  | nil => rfl
  | cons a r ih => rw [List.flatMap_cons, List.length_append, h, ih, List.length_cons, Nat.mul_succ, Nat.add_comm]

/-- The objects of the configuration. -/
theorem snapObjects_length : snapObjects.length = 67099 := by
  unfold snapObjects
  simp only [List.length_append, snapRun_length, List.length_map, List.length_range, List.flatMap_cons,
    List.flatMap_nil, List.length_nil]
  rw [length_flatMap_const _ 8]
  · rw [List.length_range]
  · intro h
    simp only [List.length_append, List.length_map, List.length_cons, List.length_nil]

/-- The configuration records of any scope, with the header, fit 4,294,337 tiles. -/
theorem snapSize_le (s : State) (n : Nat) : s.snapSize n 0 ≤ 4294337 := by
  have h : ((s.snapConfig n).map List.length).sum ≤ 64 * snapObjects.length := by
    unfold State.snapConfig
    apply sum_filterMap_le
    intro o l hl
    dsimp only at hl
    split at hl
    · cases hl
    · rw [Option.map_eq_some_iff] at hl
      obtain ⟨r, _, rfl⟩ := hl
      simp [snapRecord]
  rw [snapObjects_length] at h
  unfold State.snapSize
  simp
  omega

end Sys2Proof.Machine
end

