-- ==== Sys2Proof/Laws/Weft.lean ====
section
/-!
SUPPORT. The Weft cores: what an instruction that issues does, that every part of an instruction keeps the cores in good
order (`State.weftGood`), and what none of them changes.
-/
namespace Sys2Proof.Machine

/-! ## Good order of threads -/

theorem goodPc_next {pc : Nat} (h : goodPc pc = true) : goodPc (nextPc pc) = true := by
  simp only [goodPc, nextPc, Bool.and_eq_true, beq_iff_eq, bne_iff_ne] at *
  split <;> omega

theorem goodPc_target {s : State} {c t : Nat} {a : Word} (h : s.goodTarget c t a = true) : goodPc a.toNat = true := by
  simp only [State.goodTarget, goodPc, Bool.and_eq_true, decide_eq_true_eq, beq_iff_eq, bne_iff_ne] at *
  omega

theorem all_get {α : Type} (d : α) (m : Tab α) (P : α → Bool) (hd : P d = true) (h : m.all (fun p => P p.2) = true) (i : Nat) : P (Tab.get d m i) = true := by
  induction m with
  | nil => exact hd
  | cons p r ih =>
    obtain ⟨k, v⟩ := p
    simp only [List.all_cons, Bool.and_eq_true] at h
    simp only [Tab.get]
    split
    · exact h.1
    · split
      · exact hd
      · exact ih h.2

theorem all_upd {α : Type} [DecidableEq α] (d : α) (m : Tab α) (P : α → Bool) (h : m.all (fun p => P p.2) = true) (i : Nat) (f : α → α)
    (hf : P (f (Tab.get d m i)) = true) : (Tab.upd d m i f).all (fun p => P p.2) = true := by
  unfold Tab.upd Tab.set
  split
  · exact Tab.all_erase _ m i h
  · exact Tab.all_insert _ m i _ h hf

theorem good_default : Thread.good {} = true := by decide

theorem core_default : Core.good {} = true := by decide

theorem weftGood_iff (s : State) : s.weftGood = true ↔ Tab.wf ({} : Core) s.weft.cores = true ∧ s.weft.cores.all (fun p => p.2.good) = true ∧ Tab.wf (0 : Byte) s.dram.mem = true := by
  simp [State.weftGood, and_assoc]

theorem good_core {s : State} (h : s.weftGood = true) (c : Nat) : (s.core c).good = true :=
  all_get _ _ Core.good core_default ((weftGood_iff s).1 h).2.1 c

theorem core_th {k : Core} (h : k.good = true) (t : Nat) : (k.th t).good = true := by
  simp only [Core.good, Bool.and_eq_true] at h
  exact all_get _ _ Thread.good good_default h.1.1.2 t

theorem good_modCore {s : State} (h : s.weftGood = true) (c : Nat) (f : Core → Core) (hf : ∀ k, k.good = true → (f k).good = true) : (s.modCore c f).weftGood = true := by
  have h' := (weftGood_iff s).1 h
  refine (weftGood_iff _).2 ⟨Tab.wf_upd h'.1 c f, all_upd _ _ Core.good h'.2.1 c f (hf _ (good_core h c)), h'.2.2⟩

theorem core_modTh {k : Core} (h : k.good = true) (t : Nat) (f : Thread → Thread) (hf : (f (k.th t)).good = true) :
    Core.good { k with threads := Tab.upd {} k.threads t f } = true := by
  simp only [Core.good, Bool.and_eq_true] at h ⊢
  exact ⟨⟨⟨Tab.wf_upd h.1.1.1 t f, all_upd _ _ Thread.good h.1.1.2 t f hf⟩, h.1.2⟩, h.2⟩

theorem good_modTh {s : State} (h : s.weftGood = true) (c t : Nat) (f : Thread → Thread) (hf : ∀ h, h.good = true → (f h).good = true) : (s.modTh c t f).weftGood = true :=
  good_modCore h c _ fun k hk => core_modTh hk t f (hf _ (core_th hk t))

theorem good_of {s t : State} (h : s.weftGood = true) (hw : t.weft.cores = s.weft.cores) (hd : t.dram.mem = s.dram.mem) : t.weftGood = true := by
  rw [weftGood_iff] at *; rw [hw, hd]; exact h

theorem th_parts {h : Thread} : h.good = true ↔ goodPc h.pc = true ∧ (∀ l ∈ h.loops, goodPc l.ls = true ∧ goodPc l.le = true) ∧ h.loops.length ≤ 3 ∧ Tab.wf (0 : Word) h.regs = true := by
  simp [Thread.good, List.all_eq_true, and_assoc]

theorem good_setReg {h : Thread} (g : h.good = true) (r : BitVec 5) (v : Word) : (h.setReg r v).good = true := by
  unfold Thread.setReg
  split
  · exact g
  · rw [th_parts] at *
    exact ⟨g.1, g.2.1, g.2.2.1, Tab.wf_set g.2.2.2 _ _⟩

theorem good_count {h : Thread} (g : h.good = true) : h.count.good = true := by
  unfold Thread.count; split <;> exact g

theorem count_pc (h : Thread) : h.count.pc = h.pc := by unfold Thread.count; split <;> rfl

theorem count_loops (h : Thread) : h.count.loops = h.loops := by unfold Thread.count; split <;> rfl

theorem good_pcs {h : Thread} (g : h.good = true) (pc : Nat) (hp : goodPc pc = true) (ls : List LoopLevel) (hl : ls.length ≤ 3) (hs : ∀ l ∈ ls, goodPc l.ls = true ∧ goodPc l.le = true) :
    Thread.good { h.count with pc := pc, loops := ls } = true := by
  have := good_count g
  rw [th_parts] at *
  exact ⟨hp, hs, hl, this.2.2.2⟩

theorem good_advance {h : Thread} (g : h.good = true) : h.advance.good = true := by
  have g' := th_parts.1 g
  unfold Thread.advance
  split
  · next l hl =>
    have hm : l ∈ h.loops := by
      unfold Thread.atLe at hl
      split at hl
      · next l2 e =>
        split at hl
        · cases hl; exact List.mem_of_getLast? e
        · cases hl
      · cases hl
    have hdl : ∀ x ∈ h.loops.dropLast, goodPc x.ls = true ∧ goodPc x.le = true := fun x hx => g'.2.1 x (List.dropLast_subset _ hx)
    have hne : h.loops ≠ [] := List.ne_nil_of_mem hm
    split
    · refine good_pcs g _ (g'.2.1 l hm).1 _ ?_ ?_
      · have := List.length_pos_of_ne_nil hne
        have := g'.2.2.1
        simp only [List.length_append, List.length_dropLast, List.length_singleton]; omega
      · intro x hx
        rcases List.mem_append.1 hx with hx | hx
        · exact hdl x hx
        · simp at hx; subst hx; exact g'.2.1 l hm
    · refine good_pcs g _ (goodPc_next (g'.2.1 l hm).2) _ ?_ hdl
      have := g'.2.2.1
      simp only [List.length_dropLast]; omega
  · have := good_pcs g _ (goodPc_next g'.1) h.loops g'.2.2.1 g'.2.1
    rwa [← count_loops h] at this

theorem good_putReg {s : State} (h : s.weftGood = true) (c t : Nat) (a : BitVec 5) (v : Word) : (s.putReg c t a v).weftGood = true :=
  good_modTh h c t _ fun _ g => good_advance (good_setReg g a v)

theorem good_adv {s : State} (h : s.weftGood = true) (c t : Nat) : (s.modTh c t Thread.advance).weftGood = true :=
  good_modTh h c t _ fun _ g => good_advance g

theorem leave_sub (p : Priv) (pc tgt : Nat) (l : List LoopLevel) : ∃ k, leaveLoops p pc tgt l = l.drop k := by
  induction l with
  | nil => exact ⟨0, rfl⟩
  | cons x r ih =>
    unfold leaveLoops
    split
    · obtain ⟨k, hk⟩ := ih; exact ⟨k + 1, by simp [hk]⟩
    · exact ⟨0, rfl⟩

theorem good_goto {h : Thread} (g : h.good = true) (tgt : Nat) (b : Bool) (ht : goodPc tgt = true) : (h.goto tgt b).good = true := by
  have g' := th_parts.1 g
  unfold Thread.goto
  refine good_pcs g _ ht _ ?_ ?_
  · split
    · obtain ⟨k, hk⟩ := leave_sub h.priv h.pc tgt h.loops.reverse
      rw [hk]; have := g'.2.2.1; simp; omega
    · exact g'.2.2.1
  · split
    · obtain ⟨k, hk⟩ := leave_sub h.priv h.pc tgt h.loops.reverse
      intro l hl
      rw [hk, List.mem_reverse] at hl
      exact g'.2.1 l (List.mem_reverse.1 (List.mem_of_mem_drop hl))
    · exact g'.2.1

/-- A change of every thread of a list that keeps each in good order. -/
theorem threads_good (f : Nat → Thread → Thread) (hf : ∀ i h, h.good = true → (f i h).good = true) (l : List Nat)
    (m : Tab Thread) (a : Tab.wf ({} : Thread) m = true) (b : m.all (fun p => p.2.good) = true) :
    Tab.wf ({} : Thread) (l.foldl (fun (m : Tab Thread) i => Tab.upd {} m i (f i)) m) = true ∧
      (l.foldl (fun (m : Tab Thread) i => Tab.upd {} m i (f i)) m).all (fun p => p.2.good) = true := by
  induction l generalizing m with
  | nil => exact ⟨a, b⟩
  | cons x r ih =>
    rw [List.foldl_cons]
    exact ih _ (Tab.wf_upd a _ _) (all_upd _ _ Thread.good b _ _ (hf x _ (all_get _ _ Thread.good good_default b x)))

/-- A core whose threads are replaced by others in good order. -/
theorem core_threads {k j : Core} (hk : k.good = true) (h1 : Tab.wf ({} : Thread) j.threads = true)
    (h2 : j.threads.all (fun p => p.2.good) = true) (h3 : j.cs = k.cs) (h4 : j.lmem = k.lmem) : j.good = true := by
  simp only [Core.good, Bool.and_eq_true] at hk ⊢
  rw [h3, h4]
  exact ⟨⟨⟨h1, h2⟩, hk.1.2⟩, hk.2⟩

theorem core_wf {k : Core} (hk : k.good = true) : Tab.wf ({} : Thread) k.threads = true ∧ k.threads.all (fun p => p.2.good) = true := by
  simp only [Core.good, Bool.and_eq_true] at hk
  exact hk.1.1

theorem good_squash {s : State} (h : s.weftGood = true) (c n : Nat) : (s.squashYounger c n).weftGood = true := good_of h rfl rfl

theorem good_stop {s : State} (h : s.weftGood = true) (c t k pc : Nat) (a : Word) : (s.stopCore c t k pc a).weftGood = true := by
  unfold State.stopCore
  refine good_modCore (good_squash h c 4) c _ fun k hk => ?_
  have g := threads_good (fun _ h => { h with st := .stopped, attach := none, miss := none }) (fun _ _ g => g) (List.range 8)
    k.threads (core_wf hk).1 (core_wf hk).2
  exact core_threads hk g.1 g.2 rfl rfl

/-! ## Good order of the cores -/

theorem good_bump {s : State} (h : s.weftGood = true) (x : Ctr) (i : Nat) : (s.bump x i).weftGood = true :=
  good_of h rfl rfl

theorem good_drawn {s : State} (h : s.weftGood = true) : s.drawn.weftGood = true := good_of h rfl rfl

theorem good_fault {s : State} (h : s.weftGood = true) (c t : Nat) (e : Cause) (a : Word) :
    (s.fault c t e a).weftGood = true := good_stop h ..

/-- A change of a thread that leaves its PC, loops and registers alone. -/
theorem good_same {h g : Thread} (hg : h.good = true) (h1 : g.pc = h.pc) (h2 : g.loops = h.loops)
    (h3 : g.regs = h.regs) : g.good = true := by
  rw [th_parts] at *
  rw [h1, h2, h3]
  exact hg

/-- A change of a core that leaves its threads, shared registers and local memory alone. -/
theorem core_same {k j : Core} (hk : k.good = true) (h1 : j.threads = k.threads) (h2 : j.cs = k.cs)
    (h3 : j.lmem = k.lmem) : j.good = true := by
  simp only [Core.good] at *
  rw [h1, h2, h3]
  exact hk

theorem good_lmWrite {s : State} (h : s.weftGood = true) (c a : Nat) (bs : List Byte) :
    (s.lmWrite c a bs).weftGood = true :=
  good_modCore h c _ fun k hk => by
    simp only [Core.good, Bool.and_eq_true] at hk ⊢
    exact ⟨hk.1, Mem.wf_write hk.2 a bs⟩

theorem good_memWrite {s : State} (h : s.weftGood = true) (a : Nat) (bs : List Byte) :
    ({ s with dram.mem := Mem.write s.dram.mem a bs } : State).weftGood = true := by
  rw [weftGood_iff] at *
  exact ⟨h.1, h.2.1, Mem.wf_write h.2.2 a bs⟩

/-! ## What replies and the cache leave alone -/

/-- The cores and DRAM's contents. -/
def State.wm (s : State) : WeftState × Mem := (s.weft, s.dram.mem)

theorem good_wm {s t : State} (h : s.weftGood = true) (e : t.wm = s.wm) : t.weftGood = true := by
  simp only [State.wm, Prod.mk.injEq] at e
  exact good_of h (by rw [e.1]) e.2

theorem wm_reserveOnce (s : State) (q : Cmd) (k : Nat) : (s.reserveOnce q k).wm = s.wm :=
  State.reserveOnce_keeps State.wm (fun _ _ => rfl) (fun _ _ _ => rfl) s q k

theorem wm_linkSend (s : State) (k : Nat) (f : FabFrame) : (s.linkSend k f).wm = s.wm := by
  unfold State.linkSend State.linkKeep
  split <;> rfl

theorem wm_fold {α : Type} (g : State → α → State) (h : ∀ s x, (g s x).wm = s.wm) (l : List α) (s : State) :
    (l.foldl g s).wm = s.wm := foldl_keeps State.wm g h l s

theorem wm_writeSlots (s : State) (n : Nat) (v : Resv) (r : Reply) : (s.writeSlots n v r).wm = s.wm := by
  unfold State.writeSlots
  dsimp only
  split
  · rfl
  · exact wm_fold (fun (s : State) i => s.emit (.hostTile n (((State.sl _ n).cqSlot (v.first.toNat + i + 1)).1)
      (sealTile (r.tiles.getD i 0)))) (fun _ _ => rfl) _ s

theorem wm_signal (s : State) (n o : Nat) : (s.signal n o).wm = s.wm := by
  unfold State.signal
  dsimp only
  split
  · rfl
  · split <;> rfl

theorem wm_fabricSend (s : State) (q : Cmd) (a b : Nat) (r : Reply) : (s.fabricSend q a b r).wm = s.wm := by
  unfold State.fabricSend
  split
  · exact wm_linkSend ..
  · rfl

theorem wm_fabricReply (s : State) (q : Cmd) (a b : Nat) (r : Reply) : (s.fabricReply q a b r).wm = s.wm :=
  wm_fabricSend ..

theorem wm_deliver (s : State) (q : Cmd) (k : Nat) (r : Reply) : (s.deliver q k r).wm = s.wm := by
  unfold State.deliver
  split
  · dsimp only; split <;> rfl
  · rfl
  · next n _ =>
    dsimp only
    split
    · rfl
    · have e1 := wm_reserveOnce (s.modSl n.val fun h => { h with window := recordReply h.window r k }) q k
      generalize State.reserveOnce _ q k = s2 at e1 ⊢
      have e3 := wm_fold (fun s v => s.writeSlots n.val v r) (fun s v => wm_writeSlots s n.val v r)
        (List.filter (fun v => decide (v.seq = r.seq)) (s2.sl n.val).resv) s2
      generalize List.foldl (fun s v => s.writeSlots n.val v r) s2 _ = s3 at e3 ⊢
      split
      · exact e3.trans e1
      · exact (wm_signal ..).trans (e3.trans e1)
  · rfl
  · exact wm_fabricReply ..
  · exact wm_fabricSend ..
  · rfl

theorem good_evTake {h : Thread} (g : h.good = true) : h.evTake.good = true :=
  good_same (good_setReg g h.evDest ((h.evPend &&& h.evMask).setWidth 64)) rfl rfl rfl

theorem good_evWake {h : Thread} (g : h.good = true) : h.evWake.good = true := by
  unfold Thread.evWake
  split
  · exact good_same (good_evTake g) rfl rfl rfl
  · exact g

theorem good_raise {s : State} (h : s.weftGood = true) (n c t l : Nat) : (s.raiseLine n c t l).1.weftGood = true := by
  unfold State.raiseLine
  split
  · exact good_modTh h c t _ fun _ g => good_evWake (good_same g rfl rfl rfl)
  · exact good_bump h ..

theorem good_modSl {s : State} (h : s.weftGood = true) (n : Nat) (f : SliceHost → SliceHost) :
    (s.modSl n f).weftGood = true := good_of h rfl rfl

theorem wm_markDirty (s : State) (i : Nat) : (s.markDirty i).wm = s.wm := by
  unfold State.markDirty
  split
  · split <;> rfl
  · rfl

theorem wm_evict (s : State) (l : CacheLine) : (s.evict l).wm = s.wm := by
  unfold State.evict
  split
  · dsimp only; split <;> rfl
  · rfl

theorem wm_victim (s : State) (cid line : Nat) : (s.victim cid line).2.wm = s.wm := by
  unfold State.victim
  dsimp only
  split <;> rfl

theorem wm_meetFault (s : State) (i : Nat) : (s.meetFault i).1.wm = s.wm := by
  unfold State.meetFault
  split
  · rfl
  · dsimp only
    split
    · rfl
    · split <;> rfl

theorem wm_cacheTouch (s : State) (cid line : Nat) (w : Bool) : (s.cacheTouch cid line w).1.wm = s.wm := by
  unfold State.cacheTouch
  dsimp only
  split
  · dsimp only
    split <;> split <;> first | exact (wm_markDirty ..).trans (wm_meetFault ..) | exact wm_meetFault ..
  · split
    · rfl
    · split
      · rfl
      · dsimp only
        have e := wm_victim (s.cacheMiss cid) cid line
        generalize State.victim _ cid line = p at e ⊢
        obtain ⟨i, s1⟩ := p
        have e2 : ∀ u : State, u.wm = s1.wm → (if w = true then u.markDirty i else u).wm = s.wm := by
          intro u hu
          split
          · exact (wm_markDirty ..).trans (hu.trans e)
          · exact hu.trans e
        refine e2 _ ?_
        split
        · exact wm_evict ..
        · rfl

theorem wm_cacheRange (s : State) (cid a k : Nat) (w : Bool) : (s.cacheRange cid a k w).wm = s.wm :=
  wm_fold _ (fun s l => wm_cacheTouch s cid l w) _ s

theorem good_cachedWrite {s : State} (h : s.weftGood = true) (cid a : Nat) (bs : List Byte) :
    (s.cachedWrite cid a bs).weftGood = true := by
  unfold State.cachedWrite
  exact good_memWrite (good_wm h (wm_cacheRange s cid a bs.length true)) a bs

theorem good_ringStoreItem {s : State} (h : s.weftGood = true) (g : GenRing) (x : BitVec 512) :
    (s.ringStoreItem g x).weftGood = true := by
  unfold State.ringStoreItem
  split
  · exact good_cachedWrite h ..
  · exact h

theorem good_ringPush {s : State} (h : s.weftGood = true) (r : Nat) (x : BitVec 512) :
    (ringPush s r x).1.weftGood = true := by
  unfold ringPush
  dsimp only
  split
  · exact h
  · have h1 : ((s.ringStoreItem (s.ring r) x).modRing r fun g => g.push x).weftGood = true :=
      good_of (good_ringStoreItem h (s.ring r) x) rfl rfl
    dsimp only
    split
    · exact good_raise h1 ..
    · exact h1

theorem good_postItem {s : State} (h : s.weftGood = true) (n : Nat) (code : BitVec 16) (kind : BitVec 8) (w : Word32)
    (p : BitVec 288) : (s.postItem n code kind w p).weftGood = true := by
  unfold State.postItem
  dsimp only
  split
  · exact good_modSl (good_ringPush h _ _) ..
  · exact h

theorem good_queueSelv {s : State} (h : s.weftGood = true) (e : SelvEntry) : (s.queueSelv e).weftGood = true := by
  unfold State.queueSelv
  split <;> exact good_of h rfl rfl

theorem good_evCount {s : State} (h : s.weftGood = true) (i : Nat) :
    ({ s with host.evCtr := Tab.upd 0 s.host.evCtr i satInc } : State).weftGood = true := good_of h rfl rfl

theorem good_report {s : State} (h : s.weftGood = true) (code : BitVec 16) (w : Word32) (p : BitVec 288) (n : Nat) :
    (s.report code w p n).weftGood = true := by
  unfold State.report
  have h1 := good_evCount (good_queueSelv h
    { area := 0, code := code, mode := s.sys.mode, wall := s.wall, handle := w, payload := p }) code.toNat
  split
  · exact good_postItem h1 ..
  · exact good_postItem (good_postItem h1 ..) ..

theorem good_desync {s : State} (h : s.weftGood = true) : s.desync.weftGood = true := by
  unfold State.desync
  split
  · exact h
  · exact good_report (s := { s with fab.st.twinDesync := 1 }) (good_of h rfl rfl) ..

theorem good_answer {s : State} (h : s.weftGood = true) (q : Cmd) (ks : List ObjKey) (k : Nat) (r : Reply) :
    (s.answer q ks k r).weftGood = true := by
  unfold State.answer
  split
  · split
    · dsimp only
      split
      · exact good_wm h (wm_linkSend ..)
      · exact good_wm (good_desync h) (wm_deliver ..)
    · split
      · exact good_wm (good_desync h) (wm_deliver ..)
      · exact good_wm h (wm_deliver ..)
  · exact good_wm h (wm_deliver ..)

theorem good_finish {s : State} (h : s.weftGood = true) (f : Wait → Bool) (e : Status) (d : BitVec 352) (l : List Tile) :
    (s.finish f e d l).weftGood = true := by
  unfold State.finish
  split
  · exact h
  · next d' _ =>
    have h1 : ({ s with host.deferred := s.host.deferred.erase d' } : State).weftGood = true := good_of h rfl rfl
    unfold State.complete
    exact good_answer (good_modSl h1 ..) ..

theorem good_afterStep {s : State} (h : s.weftGood = true) (c t : Nat) : (s.afterStep c t).weftGood = true := by
  unfold State.afterStep
  dsimp only
  split
  · refine good_finish (good_modTh h c t (fun h => { h with
      st := .halted, from' := h.st, stepping := false, haltReq := false, haltAt := s.now }) fun _ g => ?_) ..
    exact good_same g rfl rfl rfl
  · exact h

/-! ## Every instruction keeps good order -/

/-- A change of one thread that keeps it, as it is, in good order. -/
theorem good_upd1 {s : State} (h : s.weftGood = true) (c t : Nat) (f : Thread → Thread)
    (hf : (f (s.th c t)).good = true) : (s.modTh c t f).weftGood = true := by
  have h' := (weftGood_iff s).1 h
  refine (weftGood_iff _).2 ⟨?_, ?_, h'.2.2⟩
  · exact Tab.wf_upd h'.1 c fun k => { k with threads := Tab.upd {} k.threads t f }
  · exact all_upd ({} : Core) s.weft.cores Core.good h'.2.1 c (fun k => { k with threads := Tab.upd {} k.threads t f })
      (core_modTh (good_core h c) t f hf)

theorem good_useTile {k : Core} (hk : k.good = true) (i : Nat) : (k.useTile i).good = true := by
  unfold Core.useTile
  split
  · exact hk
  · exact core_same hk rfl rfl rfl

theorem good_cycle {k : Core} (hk : k.good = true) (t n : Nat) : (k.cycle t n).good = true := by
  have g := threads_good (fun i h => { h with bar := if i = t then n else h.bar - 1 })
    (fun _ h g => good_same g rfl rfl rfl) (List.range 8) k.threads (core_wf hk).1 (core_wf hk).2
  unfold Core.cycle
  generalize List.range 8 = l at g ⊢
  exact core_threads hk g.1 g.2 rfl rfl

theorem good_checked {s u : State} (h : s.weftGood = true) (hu : u.weftGood = true) (c t : Nat) (op : WeftOp) :
    (s.checked c t op u).weftGood = true := by
  unfold State.checked
  split
  · split
    · exact good_fault h ..
    · exact hu
  · exact hu

/-- An instruction keeps the cores in good order when its effect does. -/
theorem good_issue {s : State} (h : s.weftGood = true) (c t : Nat) (op : WeftOp) (run : State → State)
    (hr : ∀ u : State, u.weftGood = true → (run u).weftGood = true) : (s.issue c t op run).weftGood = true := by
  unfold State.issue
  dsimp only
  split
  · exact h
  · split
    · exact good_fault h ..
    · split
      · exact good_bump (good_modTh h c t (fun h => { h with miss := some _ }) fun _ g => good_same g rfl rfl rfl) ..
      · split
        · exact good_fault (good_bump h ..) ..
        · split
          · exact h
          · have h1 : ∀ k : Core, k.good = true →
                Core.good { (k.useTile ((s.th c t).pc / 64)).cycle t (opBar op) with progress := true } = true := fun k hk => by
              have g := good_cycle (good_useTile hk ((s.th c t).pc / 64)) t (opBar op)
              generalize Core.cycle _ _ _ = j at g ⊢
              exact core_same g rfl rfl rfl
            have h2 := good_modTh (good_bump (good_modCore h c _ h1) .issued c) c t (fun h => { h with skipBp := false })
              fun _ g => good_same g rfl rfl rfl
            split
            · exact good_fault h2 ..
            · exact good_afterStep (good_checked h2 (hr _ h2) ..) ..

theorem good_load {s : State} (h : s.weftGood = true) (c t : Nat) (a : BitVec 5) (addr : Word) (n : Nat) (x y : Bool) :
    (s.load c t a addr n x y).weftGood = true := by
  unfold State.load
  split
  · exact good_fault h ..
  · split
    · exact good_fault h ..
    · exact good_putReg h ..
    · split
      · next e =>
        refine good_modTh (good_wm h ?_) c t _ fun _ g => good_same g rfl rfl rfl
        have := wm_cacheTouch s ((s.sl (s.sliceOf c t)).cfg.winCid.toNat) (by assumption / 64) false
        rw [e] at this; exact this
      · next e =>
        refine good_putReg (good_wm h ?_) ..
        have := wm_cacheTouch s ((s.sl (s.sliceOf c t)).cfg.winCid.toNat) (by assumption / 64) false
        rw [e] at this; exact this

theorem good_store {s : State} (h : s.weftGood = true) (c t : Nat) (addr : Word) (bs : List Byte) :
    (s.store c t addr bs).weftGood = true := by
  unfold State.store
  split
  · exact good_fault h ..
  · split
    · exact good_fault h ..
    · exact good_adv (good_lmWrite h ..) ..
    · split
      · next e =>
        refine good_modTh (good_wm h ?_) c t _ fun _ g => good_same g rfl rfl rfl
        exact (congrArg (State.wm ∘ Prod.fst) e.symm).trans (wm_cacheTouch ..)
      · next e =>
        refine good_adv (good_memWrite (good_wm h ?_) ..) ..
        exact (congrArg (State.wm ∘ Prod.fst) e.symm).trans (wm_cacheTouch ..)

theorem good_shared {s : State} (h : s.weftGood = true) (c t : Nat) (a : BitVec 5) (n : BitVec 4) (f : Word → Word) :
    (s.shared c t a n f).weftGood = true := by
  unfold State.shared
  dsimp only
  split
  · exact good_fault h ..
  · refine good_putReg (good_modCore h c _ fun k hk => ?_) ..
    simp only [Core.good, Bool.and_eq_true] at hk ⊢
    exact ⟨⟨hk.1.1, Tab.wf_set hk.1.2 _ _⟩, hk.2⟩

theorem good_to {s : State} (h : s.weftGood = true) (c t : Nat) (a : Word) : (s.goto c t a).weftGood = true := by
  unfold State.goto
  split
  · exact good_fault h ..
  · next e => exact good_modTh (good_squash h ..) c t _ fun _ g => good_goto g _ _ (goodPc_target (by simpa using e))

theorem good_branch {s : State} (h : s.weftGood = true) (c t : Nat) (b : Bool) (o : Word) :
    (s.branch c t b o).weftGood = true := by
  unfold State.branch
  split
  · exact good_to h ..
  · exact good_adv h ..

theorem good_jump {s : State} (h : s.weftGood = true) (c t n : Nat) (a : BitVec 5) (x : Word) :
    (s.jump c t n a x).weftGood = true := by
  unfold State.jump
  split
  · exact good_fault h ..
  · next e => exact good_modTh (good_squash h ..) c t _ fun _ g => good_goto (good_setReg g ..) _ _ (goodPc_target (by simpa using e))

theorem goodPc_mod {n : Nat} (h : goodPc (BitVec.ofNat 64 n).toNat = true) : goodPc n = true := by
  rw [BitVec.toNat_ofNat] at h
  simp only [goodPc, Bool.and_eq_true, beq_iff_eq, bne_iff_ne] at *
  omega

theorem good_loopSetup {s : State} (h : s.weftGood = true) (c t n e : Nat) : (s.loopSetup c t n e).weftGood = true := by
  have hth := core_th (good_core h c) t
  unfold State.loopSetup
  dsimp only
  split
  · exact good_fault h ..
  · split
    · exact good_fault h ..
    · split
      · exact good_fault h ..
      · next hlen hle =>
        have hle' : goodPc ((s.th c t).pc + 4 * e) = true := goodPc_mod (goodPc_target (s := s) (c := c) (t := t) (by simpa using hle))
        have g := th_parts.1 hth
        split
        · refine good_upd1 (good_squash h ..) c t _ ?_
          have := good_pcs hth _ (goodPc_next hle') (s.th c t).loops g.2.2.1 g.2.1
          rwa [← count_loops (s.th c t)] at this
        · refine good_upd1 (good_squash h ..) c t _ ?_
          refine good_pcs hth _ (goodPc_next g.1) _ ?_ ?_
          · simp only [List.length_append, List.length_singleton]; exact Nat.lt_of_not_le hlen
          · intro l hl
            rcases List.mem_append.1 hl with hl | hl
            · exact g.2.1 l hl
            · simp only [List.mem_singleton] at hl
              subst hl
              exact ⟨goodPc_next g.1, hle'⟩

theorem good_evStart {h : Thread} (g : h.good = true) (a : BitVec 5) (m : BitVec 8) : (h.evStart a m).good = true := by
  have g1 : Thread.good { h.advance with evMask := m, evDest := a } = true := good_same (good_advance g) rfl rfl rfl
  unfold Thread.evStart
  dsimp only
  split
  · exact good_evTake g1
  · exact good_same g1 rfl rfl rfl

theorem good_supervisor {s : State} (h : s.weftGood = true) (c t : Nat) (n : BitVec 10) :
    (s.supervisor c t n).weftGood = true := by
  unfold State.supervisor
  dsimp only
  split
  · exact good_fault h ..
  · split
    · exact good_fault h ..
    · next e =>
      refine good_modTh (good_squash h ..) c t _ fun h g => ?_
      have g' := th_parts.1 g
      have := good_pcs g _ (goodPc_target (by simpa using e)) h.loops g'.2.2.1 g'.2.1
      rw [← count_loops h] at this
      exact good_same this rfl rfl rfl

theorem good_supReturn {s : State} (h : s.weftGood = true) (c t : Nat) : (s.supReturn c t).weftGood = true := by
  unfold State.supReturn
  dsimp only
  split
  · exact good_fault h ..
  · split
    · exact good_fault h ..
    · split
      · exact good_fault h ..
      · next e =>
        have g := core_th (good_core h c) t
        refine good_upd1 (good_squash h ..) c t _ ?_
        have g' := th_parts.1 g
        have e' : s.goodTarget c t (s.th c t).sepc = true := by simpa using e
        have := good_pcs g _ (goodPc_target e') (s.th c t).loops g'.2.2.1 g'.2.1
        rw [← count_loops] at this
        exact good_same this rfl rfl rfl

theorem good_readCr {s : State} (h : s.weftGood = true) (c t : Nat) (a : BitVec 5) (n : Nat) :
    (s.readCr c t a n).weftGood = true := by
  unfold State.readCr
  dsimp only
  split
  · split
    · exact good_putReg (good_drawn h) ..
    · exact good_fault h ..
  · split
    · exact good_fault h ..
    · split
      · exact good_fault h ..
      · exact good_putReg h ..

/-- A thread with one loop's count changed. -/
theorem good_count_set {h : Thread} (g : h.good = true) (i v : Nat) :
    Thread.good { h with loops := h.loops.modify i fun l => { l with lc := v } } = true := by
  rw [th_parts] at *
  refine ⟨g.1, ?_, by simpa using g.2.2.1, g.2.2.2⟩
  intro l hl
  obtain ⟨j, hj, e⟩ := List.mem_iff_getElem.1 hl
  rw [List.getElem_modify] at e
  have hj' : j < h.loops.length := by simpa using hj
  have := g.2.1 h.loops[j] (List.getElem_mem hj')
  split at e <;> (subst e; exact this)

theorem good_set {s : State} (h : s.weftGood = true) (c t : Nat) (f : Thread → Thread)
    (hf : ∀ h : Thread, h.good = true → (f h).good = true) : (s.modTh c t fun h => (f h).advance).weftGood = true :=
  good_modTh h c t _ fun _ g => good_advance (hf _ g)

theorem good_writeCr {s : State} (h : s.weftGood = true) (c t : Nat) (v : Word) (n : Nat) :
    (s.writeCr c t v n).weftGood = true := by
  unfold State.writeCr
  dsimp only
  split
  · split
    · exact good_set h c t id fun _ g => g
    · exact good_fault h ..
  · split
    · split
      · exact good_fault h ..
      · split
        · exact good_fault h ..
        · exact good_set h c t (fun h => { h with cpen := v }) fun _ g => good_same g rfl rfl rfl
    · split
      · split
        · exact good_fault h ..
        · exact good_set h c t (fun h => { h with sepc := v }) fun _ g => good_same g rfl rfl rfl
      · split
        · split
          · exact good_set h c t (fun h => { h with scause := v }) fun _ g => good_same g rfl rfl rfl
          · exact good_fault h ..
        · split
          · exact good_set (good_squash h ..) c t _ fun _ g => good_count_set g _ _
          · exact good_fault h ..

theorem good_close {r : Served} (h : r.state.weftGood = true) (o : HelperOp) : (r.close o).weftGood = true := by
  unfold Served.close
  dsimp only
  split
  · exact good_of h rfl rfl
  · split
    · exact good_of h rfl rfl
    · exact good_of h rfl rfl

theorem good_sendReq {s : State} (h : s.weftGood = true) (c t : Nat) (a b : BitVec 5) (g : BitVec 12) (k : Bool) :
    (s.sendReq c t a b g k).weftGood = true := by
  unfold State.sendReq
  dsimp only
  split
  · exact good_fault h ..
  · split
    · next p i _ _ =>
      have h1 : ∀ (l : List HelperOp) (n : Nat) (r : List (Nat × Nat)),
          (({ s.drawn with weft.ops := l, weft.nextOp := n } : State).modTh c t fun h =>
            if k = true then { h.advance with depcnt := h.depcnt + 1, unsettled := h.unsettled ++ r } else h.advance).weftGood
            = true := fun l n r => by
        refine good_modTh (good_of h rfl rfl) c t _ fun h' g => ?_
        split
        · exact good_same (good_advance g) rfl rfl rfl
        · exact good_advance g
      have h2 : ∀ l n r e o, ((refuse (({ s.drawn with weft.ops := l, weft.nextOp := n } : State).modTh c t fun h =>
            if k = true then { h.advance with depcnt := h.depcnt + 1, unsettled := h.unsettled ++ r } else h.advance) e).close
            o).weftGood = true := fun l n r e o => good_close (r := refuse _ e) (h1 l n r) o
      split
      · exact h2 ..
      · split
        · exact h2 ..
        · split
          · exact h2 ..
          · exact h1 ..
    · exact good_fault h ..

theorem good_cpReg {s : State} (h : s.weftGood = true) (c t n : Nat) (run : State → State)
    (hr : (run s).weftGood = true) : (s.cpReg c t n run).weftGood = true := by
  unfold State.cpReg
  split
  · exact good_fault h ..
  · exact hr

theorem good_cp2Reg {s : State} (h : s.weftGood = true) (c t : Nat) (run : State → State)
    (hr : (run s).weftGood = true) : (s.cp2Reg c t run).weftGood = true := by
  unfold State.cp2Reg
  split
  · exact good_fault h ..
  · exact hr

theorem good_cpMem {s : State} (h : s.weftGood = true) (c t n x : Nat) (a : Word) (l g : Nat) :
    (s.cpMem c t n x a l g).weftGood = true := by
  unfold State.cpMem
  dsimp only
  split
  · exact good_fault h ..
  · split
    · exact good_fault h ..
    · split
      · next i _ _ =>
        refine good_modTh (good_modCore h c (fun k => { k with
          cpOps := k.cpOps ++ [⟨n, t, i, (s.th c t).priv, x, a.toNat, g, (s.th c t).pc⟩] }) fun k hk => core_same hk rfl rfl rfl) c t
          (fun h => { h.advance with depcnt := h.depcnt + 1 }) fun _ g => good_same (good_advance g) rfl rfl rfl
      · exact good_fault h ..

theorem good_cp2Mem {s : State} (h : s.weftGood = true) (c t x : Nat) (a : Word) (l g : Nat) :
    (s.cp2Mem c t x a l g).weftGood = true := by
  unfold State.cp2Mem
  split
  · exact good_fault h ..
  · exact good_cpMem h ..

theorem good_cpAcquire {s : State} (h : s.weftGood = true) (c t n : Nat) (a : BitVec 5) :
    (s.cpAcquire c t n a).weftGood = true := by
  unfold State.cpAcquire
  dsimp only
  split
  · exact good_fault h ..
  · split
    · exact good_putReg h ..
    · refine good_putReg (good_modCore h c _ fun k hk => ?_) ..
      unfold Core.cpReset
      repeat' split
      all_goals exact core_same hk rfl rfl rfl

theorem good_cpRelease {s : State} (h : s.weftGood = true) (c t n : Nat) : (s.cpRelease c t n).weftGood = true :=
  good_cpReg h c t n _ (good_adv (good_modCore h c (fun k => { k with cpOwner := Tab.set none k.cpOwner n none })
    fun _ hk => core_same hk rfl rfl rfl) ..)

/-- The model's one rule about a stopped device, for good order. -/
theorem good_ok {s t u : State} (h : s.weftGood = true) (ht : t.weftGood = true) (e : ok s t = .next u) :
    u.weftGood = true := by
  unfold ok at e
  cases e
  split
  · exact h
  · exact ht

end Sys2Proof.Machine
end

