-- ==== Sys2Proof/Tests/Slice0.lean ====
section
/-!
SUPPORT. Tests of this slice: ill-formed commands refused, words written out from the encodings of R284, worked examples
of the spec, and for every statement with hypotheses a state and operands that meet them.
-/
namespace Sys2Proof.Tests
open Sys2Proof.Machine

/- One test after another: tests elaborated at once would each hold a thread while it waits for the kernel's answer to the
tests before it. -/
set_option Elab.async false

/-- A small state: COMMISSION, with DRAM. -/
def w0 : State :=
  { State.reset with sys.mode := .commission, sys.hostReady := true, dram.st.state := 1, dram.st.sizeMib := 1024 }

/-- A command of SL0 that names a handle. -/
def pk (h : Nat) (params : BitVec 352 := 0) (cont : List Tile := []) : Cmd :=
  { path := .sq 0, handle := BitVec.ofNat 32 h, params := params, cont := cont }

/-- A task instance of slice 0. -/
def wInst : Inst := ⟨true, 0, 0, 0, 0, 0, false, 0, false, 0, {}⟩

/-- The same state with one core. -/
def wCore (k : Core) : State := { w0 with weft.cores := [(0, k)] }
/-- An active core with one thread, thread 1. -/
def wTh (h : Thread) : State := wCore { st.state := 0, threads := [(1, h)] }

/-- The same state with a thread on which a task of slice 0 runs, halted by its debugger. -/
def wDbg : State := wTh { st := .halted, dbg := some 0, inst := some wInst }

/-- The same state with one slice, one port, one pick clock, one link, one queue or one treadle, number 0. -/
def wSl (h : SliceHost) : State := { w0 with host.slices := [(0, h)] }
def wPort (p : PortState) : State := { w0 with ports := [(0, p)] }
def wPick (p : PickState) : State := { w0 with time.now := 10000000000, time.picks := [(0, p)] }
def wLink (l : FabLink) : State := { w0 with fab.links := [(0, l)], time.now := 1000000 }
def wQueue (q : Queue) : State := { w0 with tm.queues := [(0, q)] }
def wTreadle (d : Treadle) : State := { w0 with tm.treadles := [(0, d)] }
/-- Start-up at a step, some time after it began. -/
def wStart (n : Nat) : State := { State.reset with sys.step := n, time.now := 1000000000000 }

/-- A PTP message of the device's domain, and port 0 with its engine running. -/
def wMsg (k : PtpKind) : PtpMsg :=
  { kind := k, domain := 0, transport := 0, twoStep := false, source := 0, seq := 0, parent := 0, steps := 0 }
def wPtp (p : PtpSt) (r : PtpRun) : State :=
  { w0 with
    time.ptpPorts := [(0, { enable := 1 })], time.cfg.source := 1, time.st.ptpPort := 0, ports := [(0, { st.linkUp := 1 })]
    time.ptpClock.clockType := 1, time.ptpSt := [(0, p)], time.ptpRun := [(0, r)] }

/-- A 64-byte frame with its FCS. -/
def wFrame : List Byte :=
  let f := List.replicate 60 (0 : Byte)
  f ++ bytesOf (crc32 f) 4

/-- A state with a free cell pool and a warp ring whose frames go to it. -/
def wPool : State :=
  { w0 with buf.pools := [(0, { cfg.enable := 1, cfg.reserve := 16, cfg.limit := 64 })] }

/-- A command tile of one tile, and the frame that brings it to the management port. -/
def wTile : Tile := sealTile (put 512 40 (1 : BitVec 8))
/-- A link frame of a kind, with a good CRC. -/
def wRx (kind : Nat) : LinkRx :=
  let f : FabFrame := { kind := kind }
  ⟨0, f.bytes, false⟩
/-- `wTile` written out. -/
def wMgmtTile : Tile :=
  0x80f886ed000000000000000000000000000000000000000000000000000000000000000000000000000000000000000000000000000000000000010000000000
/-- The frame that brings `wTile` to M0, its bytes and FCS written out. -/
def wMgmt : List Byte :=
  List.replicate 12 (0 : Byte) ++ [0x88, 0xB5, 1, 0, 0, 0] ++
    bytesOf wMgmtTile 64 ++ bytesOf (681241109 : Word32) 4

/-- A counted helper request of slice 0's task on core 0, thread 1. -/
def wOp (helper op blen : Nat) (block : List Byte) : HelperOp :=
  { id := 0, core := 0, thread := 1, inst := wInst, counted := true, tag := 0
    word := { helper := BitVec.ofNat 8 helper, op := BitVec.ofNat 8 op, blen := BitVec.ofNat 7 blen }, addr := 0x11000, block := block }
/-- The same with its result. -/
def wEnded (o : HelperOp) : HelperOp := { o with done := some [] }
/-- A state with one request, its task still on its thread. -/
def wHelp (o : HelperOp) : State :=
  { wTh { st := .waiting, inst := some wInst, depcnt := 1 } with weft.ops := [o] }
/-- A state with one request, by a task on its thread that works for a packet. -/
def wPkt (o : HelperOp) : HelperOp := { o with inst := { wInst with task := false }, pkt := some 0 }
def wHelpPkt (o : HelperOp) : State :=
  { wTh { st := .waiting, inst := some { wInst with task := false }, depcnt := 1 } with
    weft.ops := [o], task.ctxs := [(0, { pkt := some 0, record := { st := .opened } })] }
/-- A block: zeros with bytes at offsets. -/
def wBlock (n : Nat) (l : List (Nat × Byte)) : List Byte :=
  (List.range n).map fun i => ((l.find? fun x => x.1 = i).map (·.2)).getD 0

/-- A thread of slice 0 on thread 1 of core 0, at a cached instruction of its program. -/
def wAt (op : WeftOp) (h : Thread := {}) (k : Core := {}) : State :=
  { w0 with
    weft.progs := [(0, { enable := 1, progBase := 128, progTiles := 64, supvEn := 1, supvEntry := 8384 })]
    weft.prog := [(130, (encodeWeft op).setWidth 480)]
    weft.cores := [(0, { k with
      st.state := 0, icache := [(2, [130])]
      threads := [(1, { h with st := .running, pc := 8320, inst := some wInst })] })] }

/-! ## Well-formedness: each check refuses an ill-formed instruction and admits its boundary (R288, R298) -/

theorem test_wf_ext : WeftOp.wellFormed (.ext 1 2 60 3) = true ∧ WeftOp.wellFormed (.ext 1 2 60 4) = false := by decide
theorem test_wf_exts : WeftOp.wellFormed (.exts 1 2 0 63) = true ∧ WeftOp.wellFormed (.exts 1 2 1 63) = false := by decide
theorem test_wf_ins : WeftOp.wellFormed (.ins 1 2 63 0) = true ∧ WeftOp.wellFormed (.ins 1 2 63 1) = false := by decide
theorem test_wf_evwait : WeftOp.wellFormed (.evwait 1 1) = true ∧ WeftOp.wellFormed (.evwait 1 0) = false := by decide

/-! ## Words written out field by field (R284): the major at bits 31:25, then the fields of its form -/

theorem test_words_alu : decodeWeft (0b0000001#7 ++ 0b01010#5 ++ 0b10110#5 ++ 0b00001#5 ++ 0b0000000001#10) = some (.sub 10 22 1) ∧
    decodeWeft (0b0000100#7 ++ 0b11111#5 ++ 0b00001#5 ++ 0b100000000000000#15) = some (.ori 31 1 0x4000) := by decide +kernel
theorem test_words_memory : decodeWeft (0b0011011#7 ++ 0b00011#5 ++ 0b00100#5 ++ 0b111111111111000#15) = some (.std 3 4 0x7FF8) ∧
    decodeWeft (0b0010101#7 ++ 0b00011#5 ++ 0b00100#5 ++ 0b000000000000010#15) = some (.ldhs 3 4 2) := by decide +kernel
theorem test_words_control : decodeWeft (0b0110010#7 ++ 0b00001#5 ++ 0b00010#5 ++ 0b000#3 ++ 0b100000000000#12) = some (.cblt 1 2 0x800) ∧
    decodeWeft (0b1001011#7 ++ 0b0000000000000000000#19 ++ 0b101#3 ++ 0b011#3) = some (.evsend 5 3) ∧
    decodeWeft (0b1001111#7 ++ 0b0000000000000000000000000#25) = some .sret := by decide +kernel
theorem test_words_coprocessor : decodeWeft (0b1110110#7 ++ 0b00000#5 ++ 0b00000#5 ++ 0b00000#5 ++ 0b0000000001#10) = some (.cprel false) := by
  decide +kernel
/-- No instruction: an extract past bit 63, and an unused register field that is not 0 (R285, R288). -/
theorem test_words_refused :
    decodeWeft (0b0000111#7 ++ 0b00001#5 ++ 0b00010#5 ++ 0b111100#6 ++ 0b000100#6 ++ 0b000#3) = none ∧
    decodeWeft (0b1110110#7 ++ 0b00001#5 ++ 0b00000#5 ++ 0b00000#5 ++ 0b0000000001#10) = none := by decide +kernel

/-! ## Worked examples of the spec -/

/-- R6: the check value of CRC-32C over "123456789". -/
theorem test_crc32c : crc32c [0x31, 0x32, 0x33, 0x34, 0x35, 0x36, 0x37, 0x38, 0x39] = 0xE3069283 := by decide +kernel

/-- The worked example of chapter 3 (R74): 262,144 pk at 49.8 Hz are reached 5,020,081 ns after the anchor, at 50 Hz after
5,000,000 ns. -/
theorem test_pick_reached :
    firstReach 262144 [⟨1000, 0, 0, 0, 0x31CCCCCCCD⟩] = some (1000 + 5020081) ∧
    firstReach 262144 [⟨1000, 0, 0, 0, 0x3200000000⟩] = some (1000 + 5000000) := by decide +kernel

/-- The same example (R72): at 50 Hz 10,000,000 ns are 0x8_0000 pk, with remainder 0. -/
theorem test_pick_run : Seg.run ⟨0, 0, 0, 0, 0x3200000000⟩ 10000000 = (0x80000, 0) := by decide +kernel

/-- The table of chapter 15 (R455): a list of cycle 1,000,000 ns committed at …123,456,789 starts at …124,000,000; at
…123,998,500, at …125,000,000. -/
theorem test_treadle_start :
    ({ w0 with time.wall := 1700000000123456789 }).startOf { cycleTime := 1000000, baseTime := 1700000000000000000 } =
      1700000000124000000 ∧
    ({ w0 with time.wall := 1700000000123998500 }).startOf { cycleTime := 1000000, baseTime := 1700000000000000000 } =
      1700000000125000000 := by decide +kernel

/-! ## Witnesses of the general statements -/

/-- A command's meaning answers a next state. -/
theorem ok_next (s t : State) : ∃ u, ok s t = .next u := ⟨_, rfl⟩

/-- StepRunsTheFrontCommand. -/
theorem test_front : ({ w0 with pending := [Instr.ping (pk 0)] }).pending = Instr.ping (pk 0) :: [] := rfl

/-- EmptyQueueIsATick, a device that runs and one that is stopped; StoppedDeviceWaitsForReset. -/
theorem test_idle : w0.pending = [] ∧ w0.sys.stopped = false ∧ w0.dram.met = [] ∧ ({ w0 with sys.stopped := true } : State).pending = [] ∧
    ({ w0 with sys.stopped := true } : State).sys.stopped = true := by decide +kernel
theorem test_stopped (src : ResetSrc) : Instr.ping (pk 0) ≠ .reset src := by simp

/-- ModesRefuseCommands: a command outside BOOT's set. -/
theorem test_modes_boot : (∃ t, exec (.streamGet (pk 5)) State.reset = .next t) ∧ State.reset.sys.mode = .boot :=
  ⟨ok_next _ _, rfl⟩
/-- One of COMMISSION only, and WALL_SET, in RUN. -/
theorem test_modes_run : (∃ t, exec (.fabricIdSet (pk 0)) { w0 with sys.mode := .run } = .next t) ∧
    ∃ t, exec (.wallSet (pk 0)) { w0 with sys.mode := .run } = .next t := ⟨ok_next _ _, ok_next _ _⟩
/-- One that the recovery firmware does not serve. -/
theorem test_modes_recovery : ∃ t, exec (.deviceConfig (pk 0)) { State.reset with sys.recovery := true } = .next t :=
  ok_next _ _

/-- DeviceScopeCommandsAreSl0s: a command of slice 5 for the device. -/
theorem test_device_scope : (∃ t, exec (.deviceConfig { pk 0 with path := .sq 5, slice := 5 }) w0 = .next t) ∧
    w0.requester { pk 0 with path := .sq 5, slice := 5 } ≠ 0 := ⟨ok_next _ _, by decide +kernel⟩

/-- ReadsChangeNothing: a GET without CLEAR. -/
theorem test_read : (pk 5).clear = false ∧ (∀ l a g, (pk 5).path ≠ .twin l a g) ∧ ∃ t, exec (.lockGet (pk 5)) w0 = .next t :=
  ⟨by decide +kernel, nofun, ok_next _ _⟩

/-- A plan that fails no check of its own. -/
def wPlan (s : State) : Plan := { keys := [(.lock, 3)], bad := [(false, .badParam)], own := [(false, .busy)], eff := s }

/-- FailedChecksChangeNothing: the statuses, and each of its cases: check 7 (an unused parameter byte), another device,
check 10, check 13 alone. -/
theorem test_failed_checks :
    (∀ x ∈ (wPlan w0).bad, x.2 ≠ .ok) ∧ (∀ x ∈ (wPlan w0).own, x.2 ≠ .ok) ∧
    wireChecks w0 (actOp 0xA03 .live 0) (pk 3 1) (wPlan w0) ≠ none ∧
    ({ pk 3 with device := 63 } : Cmd).device ≠ w0.devId.setWidth 8 ∧
    rightChecks w0 (actOp 0xA03 .live 0) { wPlan w0 with owns := false } ≠ none ∧
    w0.mustHold (pk 3) { wPlan w0 with own := [(true, .busy)] } = false ∧
    lateChecks w0 (pk 3) { wPlan w0 with own := [(true, .busy)] } ≠ none := by decide +kernel

/-- ExecutedChangesCountOnce: a plan that changes one object. -/
theorem test_executed : (wPlan w0).changes = true ∧ (∀ l a g, (pk 3).path ≠ .twin l a g) ∧
    (wPlan w0).eff.fab.st.twinState = 0 ∧ ((wPlan w0).keys.map genKey).Nodup ∧
    Tab.wf (1 : Word32) (wPlan w0).eff.host.gens = true := ⟨rfl, nofun, rfl, by decide +kernel, by decide +kernel⟩

/-- UsedNumberIsRefused: SEQ 7 is in slice 0's window with another CHECK. -/
def wUsed : State := { w0 with host.slices := [(0, { window := [{ seq := 7, check := 1, reply := none }] })] }
def wTile7 : Tile := put 512 48 (7 : BitVec 16) ||| put 512 480 (2 : Word32)
theorem test_used_number : cmdOf (.sq 0) wTile7 [] = ((cmdOf (.sq 0) wTile7 []).1, (cmdOf (.sq 0) wTile7 []).2) ∧
    (∀ t ∈ ([] : List Tile), tileOk t = true) := ⟨Prod.mk.eta.symm, List.forall_mem_nil _⟩
theorem test_used_entry :
    (wUsed.windowOf (cmdOf (.sq 0) wTile7 []).2).find? (fun e => e.seq = (cmdOf (.sq 0) wTile7 []).2.seq) =
      some { seq := 7, check := 1, reply := none } := by decide +kernel
theorem test_used_check : ((1 : Word32) == (cmdOf (.sq 0) wTile7 []).2.check) = false ∧
    Tab.wf ({} : SliceHost) wUsed.host.slices = true := by decide +kernel

/-- InterruptStatusBits: slice 63 with no vector, one with an unmasked vector, and a device that runs. -/
theorem test_interrupts : (w0.sl (63 : Fin 64).val).cfg.vecCount = 0 ∧
    (({ wSl { cfg.vecCount := 4 } with host.msix := [(12, 1)] } : State).msixByte 12).getLsbD 0 = false ∧
    w0.sys.stopped = false := by decide +kernel

/-- RingsKeepTheNewestItems: a ring with room, a full one, an empty one, and one whose oldest item is popped. -/
theorem test_rings :
    let s : State := { w0 with buf.rings := [(1, { cfg.depthLog2 := 1, cfg.markEn := 0, items := [1] }), (2, { cfg.depthLog2 := 0, items := [1] })] }
    Tab.wf ({} : GenRing) s.buf.rings = true ∧ (s.ring 1).resetting = false ∧ (s.ring 2).resetting = false ∧
      (s.ring 1).items.length ≠ (s.ring 1).depth ∧ (s.ring 2).items.length = (s.ring 2).depth ∧ (s.ring 3).items = [] ∧
      (s.ring 1).items = 1 :: [] ∧ (s.ring 1).popped = 0 ∧ (s.ring 1).cfg.markEn = 0 := by decide +kernel

/-- LockBreakPassesTheLockOn: lock 5 held, and free. -/
theorem test_lock_break :
    let s : State := { w0 with lock.locks := [(5, { holder := some ⟨0, 1, 0, 3⟩ })] }
    Can.lockBreak (pk 5) s = true ∧ (s.lk (pk 5).h).holder.isSome = true ∧ Can.lockBreak (pk 5) w0 = true ∧
      (w0.lk (pk 5).h).holder = none ∧ w0.fab.st.twinState = 0 := by decide +kernel
theorem test_no_twin (h : Nat) : ∀ l a g, (pk h).path ≠ .twin l a g := nofun

/-- HoldAndSafeFreeEveryLock: a lock held and one free. -/
theorem test_hold_locks :
    let s : State := { w0 with lock.locks := [(5, { holder := some ⟨0, 1, 0, 3⟩ })] }
    Tab.wf ({} : Lock) s.lock.locks = true ∧ (s.lk 5).holder.isSome = true ∧ (s.lk 6).holder = none := by decide +kernel

/-- ResetKeepsTheRecordOnly. -/
theorem test_records_kept : w0.selv.stopped = false ∧ w0.selv.newBad = false := by decide
/-- R646: a brown-out that tears the copy being written leaves the other. -/
theorem test_records_torn : (({ w0 with selv.opened := true, selv.fabricId := some 5 } : State).tear.afterReset 0).selv.fabricId = none ∧
    (({ w0 with selv.fabricId := some 5 } : State).afterReset 0).selv.fabricId = some 5 := by decide +kernel

/-- WeftEncodingRoundTrip and WeftWordsMeanOneInstruction. -/
theorem test_round_trip : WeftOp.wellFormed (.add 31 0 31) = true := rfl
theorem test_one_meaning : decodeWeft 0xFC000000 = none ∧ decodeWeft (encodeWeft (.ldd 1 2 0x7FFF)) = some (.ldd 1 2 0x7FFF) := by
  decide +kernel

/-- A thread at an instruction that issues, in good order. -/
theorem test_weft_good :
    let s := wAt (.add 31 30 29)
    let i := Instr.wAdd 0 1 31 30 29
    Instr.weft i = some (0, 1, .add 31 30 29) ∧ s.weftGood = true ∧ s.issues 0 1 (.add 31 30 29) = true ∧
      s.fab.st.twinState = 0 ∧ Tab.wf ({} : Core) s.weft.cores = true ∧
      ({ s with pending := [i] } : State).weftGood = true ∧ (Instr.weft i).isSome = true := by decide +kernel
/-- WeftKeepsGoodOrder, WeftStaysOnItsCore, WeftRegisterFrame: it answers a next state. -/
theorem test_weft_next : ∃ u, exec (.wAdd 0 1 31 30 29) (wAt (.add 31 30 29)) = .next u := ok_next _ _
/-- WeftRegisterFrame's clauses: an instruction that writes no register, and those that are exceptions to a clause. -/
theorem test_weft_dest : WeftOp.dest (.std 1 2 0) = none ∧ WeftOp.dest (.add 31 1 2) = some 31 ∧
    WeftOp.writesShared (.csadd 1 2 3) = true ∧ WeftOp.writesShared (.add 1 2 3) = false := by decide
/-- WeftMemoryFrame: a store that reaches the last double word of the thread's slice, and one that reaches nothing. -/
theorem test_weft_store :
    let s := wAt (.std 1 2 0) { regs := [(2, 0xFF8)] }
    let n := wAt (.std 1 2 0) { regs := [(2, 0x2000)] }
    s.weftGood = true ∧ s.issues 0 1 (.std 1 2 0) = true ∧ WeftOp.isStore (.std 1 2 0) = true ∧
      WeftOp.access (.std 1 2 0) = some (2, 0, 8) ∧ (s.locate 0 1 0xFF8).isSome = true ∧ (n.locate 0 1 0x2000).isSome = false ∧
      WeftOp.isStore (.ldd 1 2 0) = false := by decide +kernel

/-- WeftFaultConditions: no instruction at the PC, a PC that may not be fetched, a misaligned access and one that reaches
nothing; and that the counter and the table of operations have room. -/
theorem test_weft_faults :
    let a := wAt (.ldd 1 2 4) { regs := [(2, 0x10000)] }
    let b := wAt (.ldd 1 2 0) { regs := [(2, 0x2000)] }
    let c := { a with weft.prog := [] }
    let d := { a with weft.progs := [] }
    a.issues 0 1 (.ldd 1 2 4) = true ∧ WeftOp.access (.ldd 1 2 4) = some (2, 4, 8) ∧ a.weftGood = true ∧
      (a.rg 0 1 2 + (4 : BitVec 15).signExtend 64).toNat % 8 ≠ 0 ∧
      b.issues 0 1 (.ldd 1 2 0) = true ∧ (b.rg 0 1 2 + (0 : BitVec 15).signExtend 64).toNat % 8 = 0 ∧
      b.locate 0 1 (b.rg 0 1 2 + (0 : BitVec 15).signExtend 64) = none ∧
      a.counterFull 0 1 = false ∧ a.opsFull = false ∧ a.selected 0 = some 1 ∧ c.selected 0 = some 1 ∧ c.goodTarget 0 1 (BitVec.ofNat 64 (c.th 0 1).pc) = true ∧
      (c.core 0).cached ((c.th 0 1).pc / 64) = true ∧ decodeWeft (c.progWord (c.th 0 1).pc) = none ∧
      d.selected 0 = some 1 ∧ d.goodTarget 0 1 (BitVec.ofNat 64 (d.th 0 1).pc) = false := by decide +kernel
/-- Its last clause: a load of a word whose parity is bad. -/
theorem test_weft_parity :
    let s := wAt (.ldd 1 2 8) {} { badWords := [8705] }
    s.selected 0 = some 1 ∧ WeftOp.access (.ldd 1 2 8) = some (2, 8, 8) ∧ WeftOp.isStore (.ldd 1 2 8) = false ∧
      s.weftGood = true ∧ s.goodTarget 0 1 (BitVec.ofNat 64 (s.th 0 1).pc) = true ∧
      (s.core 0).cached ((s.th 0 1).pc / 64) = true ∧ s.atPc 0 1 = some (.ldd 1 2 8) ∧
      ((s.th 0 1).onEnd && noLoopEnd (.ldd 1 2 8)) = false ∧
      (s.rg 0 1 2 + (8 : BitVec 15).signExtend 64).toNat % 8 = 0 ∧
      s.locate 0 1 (s.rg 0 1 2 + (8 : BitVec 15).signExtend 64) = some (.lm 69640) ∧
      (s.issued 0 1).parityFault 0 1 (.ldd 1 2 8) = some 8 := by decide +kernel

/-- FaultStopsTheWholeCore and RegisterZeroDiscardsWrites: reset is in good order. -/
theorem test_good : State.reset.weftGood = true := by decide +kernel

/-! ## Completion: for each group of commands, states and operands that meet every condition `Can` of the group -/

/-- DeviceAndSliceCommands. -/
theorem test_can_DeviceAndSliceCommands :
    [Can.deviceConfig (pk 0 0 [0]) w0,
     Can.deviceGet (pk 0) w0,
     Can.modeSet (pk 0 (dat 16 (4 : BitVec 8))) w0,
     Can.ping (pk 0) w0,
     Can.sliceConfig (pk 1 0 [SliceCfg.toTile {}]) w0,
     Can.sliceGet (pk 0) w0,
     Can.sliceQuiesce (pk 1) ({ w0 with host.slices := [(1, { st.state := 1 })] }),
     Can.sliceResume (pk 1) ({ w0 with host.slices := [(1, { st.state := 3 })] }),
     Can.sliceReset (pk 1) ({ w0 with host.slices := [(1, { st.state := 3 })] })].all id = true := by decide +kernel
/-- PortClockAndTimeCommands. -/
theorem test_can_PortClockAndTimeCommands :
    [Can.portConfig (pk 0 0 [PortCfg.toTile {}]) w0,
     Can.portGet (pk 0) w0,
     Can.pickConfig (pk 0 0 [PickCfg.toTile {}]) w0,
     Can.pickGet (pk 0) w0,
     Can.pickSelect (pk 0) ({ w0 with time.now := 1000000000, time.picks := [(0, { cfg.qualCycles := 0, st.state := 3, pri.runFrom := some 0, pri.lost := false })] }),
     Can.pickConvert (pk 0) w0,
     Can.wallConfig (pk 0 0 [WallCfg.toTile {}]) w0,
     Can.wallGet (pk 0) w0,
     Can.wallSet (pk 0) w0,
     Can.ptpClockConfig (pk 0 0 [PtpClock.toTile {}]) w0,
     Can.ptpPortConfig (pk 0 0 [0]) w0,
     Can.ptpGet (pk 0) w0].all id = true := by decide +kernel
/-- RuleSetCommands. -/
theorem test_can_RuleSetCommands :
    [Can.heddleWrite (pk 0 0 [0]) w0,
     Can.keyselWrite (pk 0 0 [0]) w0,
     Can.parsePortWrite (pk 0 0 [ParsePort.toTile {}]) w0,
     Can.ruleRangeSet (pk 0) w0,
     Can.ruleWrite (pk 0 0 [0, 0, 0]) ({ w0 with rules.bank1.ranges := [(0, ⟨0, 16, 0, 4⟩)] }),
     Can.profileWrite (pk 0 0 [Profile.toTile {}]) ({ w0 with rules.bank1.ranges := [(0, ⟨0, 16, 0, 4⟩)] }),
     Can.commitRuleset { pk 0 with expGen := 1 } w0,
     Can.rulesetDiscard (pk 0) w0,
     Can.rulesetGet (pk 0) w0,
     Can.rulesetRead (pk 0) w0,
     Can.ruleGet (pk 0) w0,
     Can.itConfig (pk 0) w0].all id = true ∧
    [Can.itWrite (pk 0 (dat 18 (1 : BitVec 16)) [0]) w0,
     Can.itGet (pk 0 (dat 18 (1 : BitVec 16))) w0,
     Can.hashKeySet (pk 0 0 [0, 0, 0]) w0,
     Can.hashKeyGet (pk 0) w0].all id = true := ⟨by decide +kernel, by decide +kernel⟩
/-- TableCommands. -/
theorem test_can_TableCommands :
    [Can.tablePartSet (pk 0 0 [0]) w0,
     Can.tablePartGet (pk 0) w0,
     Can.tableConfig (pk 0 0 [TableCfg.toTile {}]) w0,
     Can.tableConfigGet (pk 0) w0,
     Can.stationWrite (pk 0 (dat 16 (0xFFFFFFFF : BitVec 32)) [Station.toTile { valid := 1, mac := 0x0200000000AA }]) ({ w0 with tab.parts := [(0, { enable := 1, stQuota := 4, sePinQuota := 4, seMainQuota := 4, rtQuota := 4 })] }),
     Can.stationDelete (pk 0 (dat 20 (5 : BitVec 32))) ({ w0 with tab.parts := [(0, { enable := 1, stQuota := 4, sePinQuota := 4, seMainQuota := 4, rtQuota := 4 })], tab.stations := [(5, { valid := 1 })] }),
     Can.stationFlush (pk 0) ({ w0 with tab.parts := [(0, { enable := 1, stQuota := 4, sePinQuota := 4, seMainQuota := 4, rtQuota := 4 })] }),
     Can.stationGet (pk 0 (dat 20 (5 : BitVec 32))) ({ w0 with tab.parts := [(0, { enable := 1, stQuota := 4, sePinQuota := 4, seMainQuota := 4, rtQuota := 4 })], tab.stations := [(5, { valid := 1 })] }),
     Can.streamWrite (pk 0 (dat 16 (0xFFFFFFFF : BitVec 32)) [Stream.toTile { flags := 3 }]) ({ w0 with tab.parts := [(0, { enable := 1, stQuota := 4, sePinQuota := 4, seMainQuota := 4, rtQuota := 4 })] }),
     Can.streamDelete (pk 0 (dat 20 (5 : BitVec 32))) ({ w0 with tab.parts := [(0, { enable := 1, stQuota := 4, sePinQuota := 4, seMainQuota := 4, rtQuota := 4 })], tab.streams := [(5, { flags := 3 })] }),
     Can.streamGet (pk 0 (dat 20 (5 : BitVec 32))) ({ w0 with tab.parts := [(0, { enable := 1, stQuota := 4, sePinQuota := 4, seMainQuota := 4, rtQuota := 4 })], tab.streams := [(5, { flags := 3 })] }),
     Can.routeAdd (pk 0 0 [Route.toTile { valid := 1 }]) ({ w0 with tab.parts := [(0, { enable := 1, stQuota := 4, sePinQuota := 4, seMainQuota := 4, rtQuota := 4 })] })].all id = true ∧
    [Can.routeDelete (pk 0 (dat 20 (5 : BitVec 32))) ({ w0 with tab.parts := [(0, { enable := 1, stQuota := 4, sePinQuota := 4, seMainQuota := 4, rtQuota := 4 })], tab.routes := [(5, { valid := 1 })] }),
     Can.routeGet (pk 0 (dat 20 (5 : BitVec 32))) ({ w0 with tab.parts := [(0, { enable := 1, stQuota := 4, sePinQuota := 4, seMainQuota := 4, rtQuota := 4 })], tab.routes := [(5, { valid := 1 })] })].all id = true := ⟨by decide +kernel, by decide +kernel⟩
/-- PolicerAndTrafficCommands. -/
theorem test_can_PolicerAndTrafficCommands :
    [Can.policerConfig (pk 0 0 [0]) w0,
     Can.policerGet (pk 0) w0,
     Can.queueAssign (pk 0) w0,
     Can.queueConfig (pk 0 0 [QueueCfg.toTile {}]) w0,
     Can.queueGet (pk 0) w0,
     Can.shaperConfig (pk 0 0 [0]) w0,
     Can.shaperGet (pk 0) w0,
     Can.portSchedConfig (pk 0 0 [PortSched.toTile {}]) w0,
     Can.portSchedGet (pk 0) w0,
     Can.treadleConfig (pk 0 0 [0]) w0,
     Can.treadleWrite (pk 0 (dat 18 (1 : BitVec 16)) [0]) w0,
     Can.treadleCommit { pk 0 with expGen := 1 } w0].all id = true ∧
    [Can.treadleAbort (pk 0) ({ w0 with tm.treadles := [(0, { st.pending := 1 })] }),
     Can.treadleGet (pk 0) w0].all id = true := ⟨by decide +kernel, by decide +kernel⟩
/-- RingAndPoolCommands. -/
theorem test_can_RingAndPoolCommands :
    [Can.ringConfig (pk 0 0 [RingCfg.toTile {}]) w0,
     Can.ringGet (pk 0) w0,
     Can.chanConfig (pk 0 0 [ChanCfg.toTile {}]) ({ w0 with buf.rings := [(0, { cfg.kind := 1 })] }),
     Can.chanGet (pk 0) ({ w0 with buf.rings := [(0, { cfg.kind := 1 })] }),
     Can.warpConfig (pk 0 0 [WarpCfg.toTile {}]) ({ w0 with buf.pools := [(0, { cfg.enable := 1 })] }),
     Can.warpGet (pk 0) w0,
     Can.poolConfig (pk 0 0 [0]) w0,
     Can.poolGet (pk 0) w0,
     Can.hrAssign (pk 0) w0,
     Can.hrConfig (pk 0 0 [HrCfg.toTile {}]) w0,
     Can.hrGet (pk 0) w0,
     Can.hrKick (pk 0) w0].all id = true := by decide +kernel
/-- CoreAndProgramCommands. -/
theorem test_can_CoreAndProgramCommands :
    [Can.coreConfig (pk 0 0 [0]) w0,
     Can.coreGet (pk 0) w0,
     Can.coreRetest (pk 0) ({ w0 with weft.cores := [(0, { st.state := 5 })] }),
     Can.progRegionSet (pk 0 (dat 20 (128 : BitVec 32))) w0,
     Can.progConfig (pk 0 0 [ProgCfg.toTile {}]) w0,
     Can.progGet (pk 0) w0,
     Can.programLoad (pk 0 (dat 16 (128 : BitVec 32)) [0]) ({ w0 with weft.progs := [(0, { progTiles := 1 })] }),
     Can.progCommit (pk 0) w0,
     Can.tgConfig (pk 0 0 [TgCfg.toTile {}]) w0,
     Can.tgGet (pk 0) w0,
     Can.dispatchConfig (pk 0 0 [DispatchCfg.toTile {}]) w0,
     Can.dispatchGet (pk 0) w0].all id = true := by decide +kernel
/-- TaskAndDomainCommands. -/
theorem test_can_TaskAndDomainCommands :
    [Can.taskCreate (pk 0) w0,
     Can.taskConfig (pk 0 0 [TaskObj.toTile {}]) ({ w0 with task.tasks := [(0, { live := true })] }),
     Can.taskKick (pk 0) ({ w0 with task.tasks := [(0, { live := true })] }),
     Can.taskCancel (pk 0) ({ w0 with task.tasks := [(0, { live := true })] }),
     Can.taskReset (pk 0) ({ w0 with task.tasks := [(0, { live := true, obj.state := 4 })] }),
     Can.taskDestroy (pk 0) ({ w0 with task.tasks := [(0, { live := true })] }),
     Can.taskGet (pk 0) ({ w0 with task.tasks := [(0, { live := true })] }),
     Can.delayArm (pk 0) ({ w0 with task.tasks := [(0, { live := true })] }),
     Can.delayDisarm (pk 0) ({ w0 with task.delays := [(0, { e.valid := 1 })] }),
     Can.delayGet (pk 0) ({ w0 with task.delays := [(0, { e.valid := 1 })] }),
     Can.odConfig (pk 0 0 [OdCfg.toTile {}]) w0,
     Can.odGet (pk 0) w0].all id = true := by decide +kernel
/-- LockDramAndCacheCommands. -/
theorem test_can_LockDramAndCacheCommands :
    [Can.lockConfig (pk 0 0 [LockCfg.toTile {}]) w0,
     Can.lockGet (pk 0) w0,
     Can.lockBreak (pk 0) w0,
     Can.lockUnitConfig (pk 0 0 [0]) w0,
     Can.lockUnitGet (pk 0) w0,
     Can.dramGet (pk 0) w0,
     Can.dramLayoutSet (pk 0 0 [0]) w0,
     Can.cacheConfig (pk 0 0 [CacheCfg.toTile {}]) w0,
     Can.cacheGet (pk 0) w0,
     Can.cacheMaint (pk 0 (dat 17 (1 : BitVec 8))) w0].all id = true := by decide +kernel
/-- FabricCommands. -/
theorem test_can_FabricCommands :
    [Can.fabricConfig (pk 0 0 [FabCfg.toTile {}]) w0,
     Can.fabricGet (pk 0) w0,
     Can.fabricLinkConfig (pk 0 0 [0]) w0,
     Can.fabricLinkGet (pk 0) w0,
     Can.fabricDiscover (pk 0) ({ w0 with fab.cfg.root := 1 }),
     Can.fabricIdSet (pk 0) w0,
     Can.fabricRouteGet (pk 0) w0,
     Can.routePin (pk 0) w0,
     Can.routeUnpin (pk 0) w0,
     Can.fabricTwinConfig (pk 0 0 [TwinCfg.toTile {}]) w0,
     Can.fabricTwinGet (pk 0) w0].all id = true := by decide +kernel
/-- SelvedgeImageAndStatisticsCommands. -/
theorem test_can_SelvedgeImageAndStatisticsCommands :
    [Can.selvedgeRead (pk 0 (dat 24 (1 : BitVec 8))) w0,
     Can.selvedgeClearArm (pk 0) w0,
     Can.selvedgeClear (pk 0 (dat 20 (7 : BitVec 32))) ({ w0 with host.clearArm := some (7, 0, 0, .sq 0) }),
     Can.imageWrite (pk 1 0 [0]) w0,
     Can.statsRead (pk 0) w0,
     Can.counterRangeSet (pk 0) w0,
     Can.counterRead (pk 0 (dat 20 (1 : BitVec 8))) ({ w0 with host.ctrRange := [(0, (0, 4))] }),
     Can.counterRangeGet (pk 0) w0].all id = true := by decide +kernel
/-- DebugCommands. -/
theorem test_can_DebugCommands :
    [Can.debugAttach (pk 0) w0,
     Can.debugDetach (pk 0 (dat 16 (1 : BitVec 8))) (wDbg),
     Can.debugHalt (pk 0 (dat 16 (1 : BitVec 8))) (wDbg),
     Can.debugResume (pk 0 (dat 16 (1 : BitVec 8))) (wDbg),
     Can.debugStep (pk 0 (dat 16 (1 : BitVec 8))) (wDbg),
     Can.debugBreak (pk 0 (dat 16 (1 : BitVec 8))) (wDbg),
     Can.debugRead (pk 0 (dat 16 (1 : BitVec 8) ||| dat 24 (8 : BitVec 16))) (wDbg),
     Can.debugWrite (pk 0 (dat 16 (1 : BitVec 8) ||| dat 24 (8 : BitVec 16)) [0]) (wDbg),
     Can.jtagChallenge (pk 0) w0,
     Can.jtagUnlock (pk 0) w0].all id = true := by decide +kernel
/-- HostInterfaceEvents. -/
theorem test_can_HostInterfaceEvents :
    [Can.heldCommandExecute 0 (⟨0x005, pk 0, []⟩) ({ w0 with host.held := [⟨0x005, pk 0, []⟩] }),
     Can.identRead 0 4 w0,
     Can.devResetWrite w0,
     Can.devResetWrite_act 5 ({ w0 with host.resetArm := some 5 }),
     Can.devResetWrite_disarm 0 w0,
     Can.devResetArmExpiry 5 ({ w0 with host.resetArm := some 5, time.now := 6 }),
     Can.irqStatusWrite w0,
     Can.mboxInWrite (wTile.extractLsb' 480 32) ({ w0 with host.mboxIn := wTile }),
     Can.mboxInWrite_overrun ({ w0 with host.mboxPending := true }),
     Can.sqTailWrite 0 1 (wSl { st.state := 1 }),
     Can.sqTailWrite_resync 0 0x80000000 (wSl { st.state := 1, st.sqHalted := 1 }),
     Can.cqHeadWrite 0 0 (wSl { st.state := 1 })].all id = true ∧
    [Can.barRegisterWrite 0x100 w0,
     Can.barRegisterWrite_bad 1 4 w0,
     Can.hostReset w0,
     Can.sqFetch 0 wTile ([]) (wSl { st.state := 1, sqTail := 1 }),
     Can.sqFetch_error 0 (wSl { st.state := 1, sqTail := 1 }),
     Can.eventItemCopy 0 (put 512 0 (7 : BitVec 8)) ({ wSl { st.state := 1, cfg.evtEn := 1 } with buf.rings := [(0, { cfg.kind := 3, cfg.itemSize := 2, items := [put 512 0 (7 : BitVec 8)] })] }),
     Can.hrPoll 0 (put 128 120 (1 : BitVec 1)) ({ wSl { st.state := 1 } with host.rings := [(0, { cfg.enable := 1, cfg.dir := 1 })] }),
     Can.hrRxWriteback 0 ({ item := 0, buf := 0, bytes := [] }) ([]) ({ w0 with host.rings := [(0, { inFlight := [{ item := 0, buf := 0, bytes := [] }] })] }),
     Can.selfDrainExpiry 0 0 (wSl { st.state := 4, drainEnd := some 0 }),
     Can.quiesceTimeout 0 (⟨.quiesce 0 0, 0x103, pk 0, [], 1⟩) 0 ({ w0 with host.deferred := [⟨.quiesce 0 0, 0x103, pk 0, [], 1⟩] }),
     Can.quiesceDone 0 (wSl { st.state := 2 })].all id = true ∧
    [Can.hrTxItem 0 (put 128 64 (64 : BitVec 16) ||| put 128 120 (1 : BitVec 1)) wFrame ({ wPool with host.slices := [(0, { st.state := 1 })], host.rings := [(0, { cfg.enable := 1, cfg.dir := 0 })] })].all id = true := ⟨by decide +kernel, by decide +kernel, by decide +kernel⟩
/-- PacketArrivalEvents. -/
theorem test_can_PacketArrivalEvents :
    [Can.frameReceive 0 (.whole wFrame) {} 0 ({ wPool with ports := [(0, { cfg.enable := 1, st.linkUp := 1 })] }),
     Can.preemptVerifySend 0 (wPort { st.preemptState := 1 }),
     Can.preemptVerifySend_failed 0 (wPort { st.preemptState := 1, verifyTries := 3 }),
     Can.preemptVerifyResponse 0 (wPort { st.preemptState := 1 }),
     Can.pcsLockLoss .lock w0,
     Can.pcsLockLoss_autoneg 0 (wPort { cfg.anEn := 1 }),
     Can.tsCalibrationDone 0 (wPort { st.pcsLock := 1 }),
     Can.linkUpDeclare 0 (wPort { cfg.enable := 1, st.pcsLock := 1, st.tsCalDone := 1 }),
     Can.ptpMessageReceive 0 (wMsg .announce) (wPtp { portState := 9 } { delayOpen := true }),
     Can.ptpMessageReceive_sync 0 (wMsg .sync) (wPtp { portState := 9 } { delayOpen := true }),
     Can.ptpMessageReceive_delayResp 0 (wMsg .delayResp) (wPtp { portState := 9 } { delayOpen := true }),
     Can.ptpAnnounceTimeout 0 { wPtp { portState := 9 } {} with time.now := 1000000000000 },
     Can.ppsInEdge ({ w0 with time.cfg.source := 2 })].all id = true ∧
    [Can.ppsInTimeout 0 ({ w0 with time.cfg.source := 2, time.lastPps := some 0, time.now := 3000000000 }),
     Can.ppsOutPulse ({ w0 with time.cfg.ppsOutEn := 1, time.wall := 1000000000 }),
     Can.phaseEdge w0,
     Can.phaseMissed 0 true 0 (wPick { cfg.primary := 1, st.state := 3, st.freqEst := 0x10000000000000, pri.lastEdge := some 0, pri.lost := false }),
     Can.encZPulse w0,
     Can.encoderUpdate 0 true 0 (wPick { cfg.primary := 3, st.state := 3, pri.encEdge := some 0, pri.zSeen := true }),
     Can.encZTimeout 0 true 0 (wPick { cfg.primary := 3, st.state := 3, pri.lastZ := some 0 }),
     Can.synthUpdate 0 true (wPick { st.state := 1 }),
     Can.steerMiss 0 true 0 (wPick { cfg.primary := 5, cfg.nomFreq := 0x03E80000, st.state := 3, pri.lastEdge := some 0, pri.lost := false }),
     Can.holdLimitExpiry 0 (wPick { st.state := 4, cfg.holdLimit := 1, segs := [⟨0, 0, 0, 0, 0x10000000000000⟩] }),
     Can.holdLimitExpiry_fallback 0 (wPick { cfg.fallback := 1, cfg.qualCycles := 0, st.state := 4, cfg.holdLimit := 1, segs := [⟨0, 0, 0, 0, 0x10000000000000⟩], fb := { lost := false, runFrom := some 0 } }),
     Can.pcsLockAcquire 0 (wPort { cfg.enable := 1 })].all id = true ∧
    [Can.autonegDone 0 (wPort { cfg.enable := 1, cfg.anEn := 1, st.pcsLock := 1 }),
     Can.linkTrainingDone 0 (wPort { cfg.enable := 1, cfg.ltEn := 1 }),
     Can.encCountEdge w0,
     Can.ppsOutFall ({ w0 with time.ppsHigh := true, time.now := 2000000000 }),
     Can.ptpMessageSend 0 .sync (wPtp { portState := 6 } {})].all id = true := ⟨by decide +kernel, by decide +kernel, by decide +kernel⟩
/-- DispatchAndCoreEvents. -/
theorem test_can_DispatchAndCoreEvents :
    [Can.parseStart 0 ({ w0 with buf.warps := [(0, { exp := { w := 1, slots := [(0, { state := .written, desc := 0 })] } })] }),
     Can.parseStart_handback (⟨0, 0, true, 0⟩) ({ w0 with task.handbacks := [⟨0, 0, true, 0⟩] }),
     Can.dispatch (⟨8, 0, 0, ⟨true, 0, 0, false⟩, 0, 0⟩) ({ wCore { st.state := 0 } with task.groups := [(0, { enable := 1, coreMask := 1 })], task.lists := [(8, [⟨true, 0, 0, false⟩])], task.tasks := [(0, { live := true })] }),
     Can.dispatch_normal (⟨0, 0, 0, ⟨true, 0, 0, false⟩, 0, 1⟩) ({ wCore { st.state := 0 } with task.groups := [(0, { enable := 1, coreMask := 1 })], task.lists := [(0, [⟨true, 0, 0, false⟩])], task.tasks := [(0, { live := true })] }),
     Can.entryTileRewrite 200 ({ w0 with weft.badTiles := [200] }),
     Can.runLimitExpiry 0 1 wInst ({ wTh { st := .running, inst := some wInst } with task.groups := [(0, { runLimitBg := 1 })], time.now := 1001 }),
     Can.taskEndAccept 0 1 wInst (wTh { st := .running, inst := some wInst, atEnd := true }),
     Can.reedCommit 0 0 ([]) ({ w0 with task.domains := [(0, { recs := [0] })], task.ctxs := [(0, { record := { st := .ready } })] }),
     Can.orderSkip 0 0 ([]) ({ w0 with task.domains := [(0, { cfg.orderTimeout := 1000, recs := [0] })], task.ctxs := [(0, { record := { st := .opened } })], time.now := 1000000000 }),
     Can.watchdogVisit 0 (wCore { st.state := 0, progress := true }),
     Can.watchdogVisit_stopped 0 (wCore { st.state := 2 }),
     Can.watchdogVisit_hang 0 1 (wTh { st := .running, inst := some wInst })].all id = true ∧
    [Can.coreSelftestDone 0 (wCore { st.state := 3, toJudge := true }),
     Can.coreSelftestDone_fail 0 (wCore { st.state := 3 }),
     Can.coreJoinDone 0 (wCore { st.state := 4 }),
     Can.spareTest 0 (wCore { st.state := 1 }),
     Can.spareTest_done 0 ({ wCore { st.state := 3 } with weft.underTest := some 0 }),
     Can.coreRetestDone 0 ({ wCore { st.state := 3 } with host.deferred := [⟨.coreRetest 0, 0x903, pk 0, [], 1⟩] })].all id = true := ⟨by decide +kernel, by decide +kernel⟩
/-- ProgramAndCompletionEvents. -/
theorem test_can_ProgramAndCompletionEvents :
    [Can.programTileRewrite 200 ({ w0 with weft.badTiles := [200] }),
     Can.icacheFillDone 0 200 1 ([]) (wTh { st := .running, miss := some 200 }),
     Can.programStoreScrub w0,
     Can.progDrainEnd 0 ({ w0 with weft.progs := [(0, { draining := 1 })] }),
     Can.rulesetDrainEnd ({ w0 with rules.state := .draining }),
     Can.rulesetCopyDone ({ w0 with rules.state := .copying }),
     Can.ruleScrub w0,
     Can.rulesetTileRewrite w0,
     Can.delayFire 0 ({ w0 with task.delays := [(0, { e.valid := 1 })] }),
     Can.delayFire_bad 0 ({ w0 with task.delays := [(0, { e.valid := 1, e.owner := 3 })] }),
     Can.helperCompletion 0 (wEnded (wOp 6 5 4 [])) ([]) (wHelp (wEnded (wOp 6 5 4 []))),
     Can.coprocessorCompletion 0 false (⟨1, 1, wInst, .u, 0, 0, 0, 0⟩) (wCore { st.state := 0, threads := [(1, { st := .running, inst := some wInst })], cpOps := [⟨1, 1, wInst, .u, 0, 0, 0, 0⟩] })].all id = true ∧
    [Can.coprocessorCompletion_parity 0 false (⟨1, 1, wInst, .u, 0, 0, 0, 0⟩) 0 (wCore { st.state := 0, threads := [(1, { st := .running, inst := some wInst })], cpOps := [⟨1, 1, wInst, .u, 0, 0, 0, 0⟩], badWords := [8704] }),
     Can.breakpointHit 0 1 (wTh { st := .running, dbg := some 0, inst := some wInst, pc := 8192, bps := [(0, 8192)] }),
     Can.memTimeout 0 1 ({ line := 0, addr := 0, phys := 0, bytes := 8, load := true }) ({ wTh { st := .running, attach := some { line := 0, addr := 0, phys := 0, bytes := 8, load := true } } with time.now := 10000 })].all id = true := ⟨by decide +kernel, by decide +kernel⟩
/-- RingAndEgressEvents: LAUNCH_DUE (the port's latency is no number of the spec's, so this is no evaluation). -/
def wLaunch : State := wQueue { cfg.launch := 1, onchip := [{ e := { launchEn := 1 } }] }
theorem test_can_launchDue : Can.launchDue 0 { e := { launchEn := 1 } } [] wLaunch = true := by
  have h : wLaunch.launchDue 0 { e := { launchEn := 1 } } = true := by
    simp only [State.launchDue, State.dueAt]
    simp
  simp only [Can.launchDue, Fin.val_zero, h]
  decide +kernel
/-- RingAndEgressEvents. -/
theorem test_can_RingAndEgressEvents :
    [Can.leaseExpiry 0 (⟨0, 1, 0, 0⟩) ({ w0 with lock.locks := [(0, { holder := some ⟨0, 1, 0, 0⟩ })] }),
     Can.ringPointerMismatch 0 ({ w0 with buf.rings := [(0, { cfg.enable := 1 })] }),
     Can.ringPointerMismatch_host 0 ({ w0 with host.rings := [(0, { cfg.enable := 1 })] }),
     Can.ringPointerMismatch_warp w0,
     Can.ringResetDone 0 ({ w0 with buf.rings := [(0, { resetting := true })] }),
     Can.ringResetDone_warp w0,
     Can.portSelect w0,
     Can.txComplete 0 ({ queue := 0, entry := {}, bytes := wFrame, tc := 0, started := 0 }) (wPort { tx := some { queue := 0, entry := {}, bytes := wFrame, tc := 0, started := 0 } }),
     Can.spillRefill 0 ({ e := {} }) ([]) { wQueue { dram := [{ e := {} }] } with dram.mem := Mem.write [] 0 (bytesOf ({} : QEntry).toTile 64) },
     Can.prefetchComplete 0 0 (wQueue { cfg.enable := 1, onchip := [{ e := { dram := 1 } }] }),
     Can.telemetrySample 0 { wQueue { cfg.telemEn := 1 } with time.now := 1000 },
     Can.treadleEntryBegin 0 (wTreadle { st.active := 1 })].all id = true ∧
    [Can.treadleEntryBegin_next 0 ({ wTreadle { st.active := 1, begun := true, actHdr := { count := 2 } } with time.now := 1000 }),
     Can.treadleSwitch 0 (wTreadle { st.pending := 1 }),
     Can.treadleCopyDone 0 (wTreadle { st.pending := 2 }),
     Can.treadleEntryRewrite 0 3 (wTreadle { st.active := 1, badEnts := [3], foundBad := [3] }),
     Can.treadleReposition 0 (wTreadle { st.active := 1, begun := true, jumps := 1 })].all id = true := ⟨by decide +kernel, by decide +kernel⟩
/-- TableEvents. -/
theorem test_can_TableEvents :
    [Can.ageTick w0,
     Can.stationAgerVisit 0 ({ w0 with tab.stations := [(0, { valid := 1 })], tab.now16 := 1000 }),
     Can.flushWalkEnd 0 (⟨0, []⟩) ({ w0 with tab.flushes := [⟨0, []⟩] }),
     Can.tableScrub 0 0 (some .whole) .whole w0,
     Can.tableScrub 2 131071 (some .whole) .whole w0,
     Can.tableScrub_stream 0 w0,
     Can.mirrorRepair 0 true ({ w0 with tab.badHalf := [(0, true)] }),
     Can.tableRestoreDone 2 0 (Route.toTile { valid := 1 }) ({ w0 with tab.bad := [(2, 0)] }),
     Can.tableRestoreDone_lost 2 0 ({ w0 with tab.bad := [(2, 0)] }),
     Can.routeRebuild w0].all id = true := by decide +kernel
/-- MemoryEvents. -/
theorem test_can_MemoryEvents :
    [Can.cacheFillDone 0 ({ line := 0, filling := true }) ({ w0 with dram.lines := [(0, some { line := 0, filling := true })] }),
     Can.writebackDone ({ line := 0 }) ([]) ({ w0 with dram.evb := [{ line := 0 }] }),
     Can.lineClean 0 ({ line := 0, dirty := true }) ({ w0 with dram.lines := [(0, some { line := 0, dirty := true })], time.now := 100000, dram.cacheSt.state := 0 }),
     Can.cacheScrub w0,
     Can.cacheMaintDone (⟨0, none⟩) ([]) ({ w0 with dram.maint := [⟨0, none⟩] }),
     Can.cacheFlushDone ({ w0 with dram.cacheSt.state := 1 }),
     Can.requestAged ({ w0 with dram.st.state := 2 }),
     Can.refreshDeadline ({ w0 with dram.st.state := 2 }),
     Can.refreshRateRead ({ w0 with dram.st.state := 2 }),
     Can.driftTrack ({ w0 with dram.st.state := 2 }),
     Can.ecsRead ({ w0 with dram.st.state := 2 })].all id = true := by decide +kernel
/-- FabricAndTwinEvents. -/
theorem test_can_FabricAndTwinEvents :
    [Can.fabricDataReceive 0 (wRx 0) { kind := 0, port := 63 } (wLink { st.state := 3 }),
     Can.fabricCommandReceive 0 (wRx 1) { kind := 1, port := 63 } (wLink { st.state := 3 }),
     Can.fabricReplyReceive 0 (wRx 2) { kind := 2, port := 63 } (wLink { st.state := 3 }),
     Can.helloReceive 0 (wRx 3) { kind := 3, port := 63 } (wLink { st.state := 3 }),
     Can.helloSend w0,
     Can.discoverReceive 0 (wRx 4) { kind := 4, port := 63 } (wLink { st.state := 3 }),
     Can.answerReceive 0 (wRx 5) { kind := 5, port := 63 } (wLink { st.state := 3 }),
     Can.discoverWindowEnd 0 ({ w0 with fab.disc.until' := some 0 }),
     Can.fabricIdSetTimeout 1 0 ({ w0 with fab.idSet := some (1, 0) }),
     Can.lsaReceive 0 (wRx 6) { kind := 6, port := 63 } (wLink { st.state := 3 }),
     Can.lsaFlood w0,
     Can.idConflictClear ({ w0 with fab.st.idState := 2, time.now := 10000000 })].all id = true ∧
    [Can.routeRecompute w0,
     Can.linkAckReceive 0 ({ seq := 0, frame := { kind := 0 }, sentAt := 0 }) ([]) 0 (wLink { retry := [{ seq := 0, frame := { kind := 0 }, sentAt := 0 }] }),
     Can.linkAckReceive_nak 0 ({ seq := 0, frame := { kind := 0 }, sentAt := 0 }) ([]) 0 (wLink { retry := [{ seq := 0, frame := { kind := 0 }, sentAt := 0 }] }),
     Can.retryTimeout 0 ({ seq := 0, frame := { kind := 0 }, sentAt := 0 }) ([]) (wLink { st.state := 3, retry := [{ seq := 0, frame := { kind := 0 }, sentAt := 0 }] }),
     Can.fabricLinkDown 0 (wLink { lock := true }),
     Can.fabricLinkDown_hello 0 (wLink { st.state := 3 }),
     Can.fabHoldExpiry 0 ({ w0 with fab.rxStreams := [(0, { holding := true })], time.now := 1000000 }),
     Can.heartbeatSend w0,
     Can.heartbeatReceive 0 (wRx 7) { kind := 7, port := 63 } (wLink { st.state := 3 }),
     Can.heartbeatPathLoss 0 ({ w0 with fab.hb := [(0, ⟨true, 0⟩), (1, ⟨true, 0⟩)], fab.twin.npaths := 2, time.now := 8000 }),
     Can.heartbeatPathLoss_shadow 0 ({ w0 with fab.hb := [(0, ⟨true, 0⟩)], time.now := 8000, sys.mode := .shadow }),
     Can.timeSend w0].all id = true ∧
    [Can.timeReceive 0 (wRx 8) { kind := 8, port := 63 } (wLink { st.state := 3 }),
     Can.cmdTimeoutExpiry ({ cmd := pk 0, opcode := 0x005, keys := [], target := 1, due := 0 }) ({ w0 with fab.remote := [{ cmd := pk 0, opcode := 0x005, keys := [], target := 1, due := 0 }] }),
     Can.twinListenEnd 0 ({ w0 with sys.listen := some (0, false) }),
     Can.twinListenEnd_heard 0 ({ w0 with sys.listen := some (0, true), host.deferred := [⟨.modeSet, 0x003, pk 0, [], 1⟩] }),
     Can.fabricBlockLock 0 (wLink { cfg.enable := 1 })].all id = true := ⟨by decide +kernel, by decide +kernel, by decide +kernel⟩
/-- ModeAndBoardEvents. -/
theorem test_can_ModeAndBoardEvents :
    [Can.modeChangeDone .commission .hold ({ w0 with sys.modeChange := some (.commission, .hold) }),
     Can.modeChangeDone_safe .commission ({ w0 with sys.modeChange := some (.commission, .safe) }),
     Can.cpWatchdog w0,
     Can.selvedgeWrite ({ area := 0, code := 0x0101, mode := .commission, wall := 0, handle := 0, payload := 0 }) ({ w0 with selv.opened := true, selv.queue := [{ area := 0, code := 0x0101, mode := .commission, wall := 0, handle := 0, payload := 0 }] }),
     Can.selvedgeWrite_fail ({ area := 0, code := 0x0101, mode := .commission, wall := 0, handle := 0, payload := 0 }) ({ w0 with selv.opened := true, selv.queue := [{ area := 0, code := 0x0101, mode := .commission, wall := 0, handle := 0, payload := 0 }] }),
     Can.powerFail ({ w0 with selv.opened := true }),
     Can.powerRestored ({ w0 with selv.stopped := true }),
     Can.reset w0,
     Can.reset_n w0,
     Can.startupStepDone ({ pass := true }) (wStart 1),
     Can.startupStepDone_fail ({ pass := false }) (wStart 1),
     Can.stepLimitExpiry (wStart 1)].all id = true ∧
    [Can.bootWdg (wStart 1),
     Can.autoRestart ({ w0 with sys.mode := .safe, sys.safeSince := some 0, sys.autoRestart := true, sys.boot.autoRestartS := 1, time.now := 1000000000 }),
     Can.refclkLoss w0,
     Can.refclkLoss_pcie w0,
     Can.thermAlert true w0,
     Can.thermTrip w0,
     Can.snapshotCopyDone (⟨0, 0, 0, true, 0, 0, [], 0⟩) ({ w0 with host.snapshot := some ⟨0, 0, 0, true, 0, 0, [], 0⟩ }),
     Can.snapshotDone (⟨0, 0, 0, true, 0, 0, [], 0⟩) ({ w0 with host.snapshot := some ⟨0, 0, 0, true, 0, 0, [], 0⟩ }),
     Can.sysXinLoss w0,
     Can.refclkRestore w0].all id = true := ⟨by decide +kernel, by decide +kernel⟩
/-- LookupAndCounterRequests. -/
theorem test_can_LookupAndCounterRequests :
    [Can.hStreamFind 0 [] (wOp 1 1 5 (wBlock 40 [])) 26532 ({ wHelp (wOp 1 1 5 (wBlock 40 [])) with tab.parts := [(0, { enable := 1 })], tab.streams := [(26532, { flags := 3 })] }),
     Can.hFindPinned 0 [] (wOp 1 2 5 (wBlock 40 [])) 26532 ({ wHelp (wOp 1 2 5 (wBlock 40 [])) with tab.parts := [(0, { enable := 1 })], tab.streams := [(26532, { flags := 3 })] }),
     Can.hSeqRecv 0 [] (wPkt (wOp 1 3 3 (wBlock 24 []))) 0 0 ({ wHelpPkt (wPkt (wOp 1 3 3 (wBlock 24 []))) with tab.parts := [(0, { enable := 1 })], tab.streams := [(0, { flags := 3, seqCfg := SeqCfg.toTile { mode := 1, src := 2 } })] }),
     Can.hSeqGen 0 [] (wPkt (wOp 1 4 3 (wBlock 24 []))) 0 ({ wHelpPkt (wPkt (wOp 1 4 3 (wBlock 24 []))) with tab.parts := [(0, { enable := 1 })], tab.streams := [(0, { flags := 3, seqCfg := SeqCfg.toTile { mode := 1, src := 2 } })] }),
     Can.hStationFind 0 [] (wOp 2 1 4 (wBlock 32 [])) 185288 ({ wHelp (wOp 2 1 4 (wBlock 32 [])) with tab.parts := [(0, { enable := 1 })], tab.stations := [(185288, { valid := 1 })] }),
     Can.hLearn 0 [] (wOp 2 2 4 (wBlock 32 []))  ({ wHelp (wOp 2 2 4 (wBlock 32 [])) with tab.parts := [(0, { enable := 1, stQuota := 4 })] }),
     Can.hFind4 0 false false (wOp 3 1 6 (wBlock 48 [])) 0 ({ wHelp (wOp 3 1 6 (wBlock 48 [])) with tab.parts := [(0, { enable := 1 })], tab.routes := [(0, { valid := 1, af := 0 })] }),
     Can.hFind6 0 false false (wOp 3 2 6 (wBlock 48 [])) 0 ({ wHelp (wOp 3 2 6 (wBlock 48 [])) with tab.parts := [(0, { enable := 1 })], tab.routes := [(0, { valid := 1, af := 1 })] }),
     Can.hMeter 0  (wOp 4 1 2 (wBlock 16 [(12, 64)]))  ({ wHelp (wOp 4 1 2 (wBlock 16 [(12, 64)])) with rules.policers := [(0, { cfg.enable := 1 })] }),
     Can.hCounterAdd 0  (wOp 5 1 3 (wBlock 24 []))  ({ wHelp (wOp 5 1 3 (wBlock 24 [])) with host.ctrRange := [(0, (0, 4))] }),
     Can.hCounterHelperRead 0  (wOp 5 2 4 (wBlock 32 []))  ({ wHelp (wOp 5 2 4 (wBlock 32 [])) with host.ctrRange := [(0, (0, 4))] })].all id = true := by decide +kernel
/-- LockAndChannelRequests. -/
theorem test_can_LockAndChannelRequests :
    [Can.hLockAcquire 0  (wOp 6 1 2 (wBlock 16 []))  ({ wHelp (wOp 6 1 2 (wBlock 16 [])) with lock.locks := [(0, { cfg.enable := 1 })] }),
     Can.hLockAcquire_queued 0  (wOp 6 1 2 (wBlock 16 []))  ({ wHelp (wOp 6 1 2 (wBlock 16 [])) with lock.locks := [(0, { cfg.enable := 1, holder := some ⟨1, 2, 0, 0⟩ })] }),
     Can.hLockRelease 0  (wOp 6 2 2 (wBlock 16 []))  ({ wHelp (wOp 6 2 2 (wBlock 16 [])) with lock.locks := [(0, { cfg.enable := 1, holder := some ⟨0, 1, 0, 0⟩ })] }),
     Can.hLockRenew 0  (wOp 6 3 2 (wBlock 16 []))  ({ wHelp (wOp 6 3 2 (wBlock 16 [])) with lock.locks := [(0, { cfg.enable := 1, holder := some ⟨0, 1, 0, 0⟩ })] }),
     Can.hLockCancel 0  (wOp 6 4 2 (wBlock 16 []))  ({ wHelp (wOp 6 4 2 (wBlock 16 [])) with lock.locks := [(0, { cfg.enable := 1, queue := [⟨⟨0, 1, 0, 0⟩, 0⟩] })] }),
     Can.hLockQuery 0  (wOp 6 5 4 (wBlock 32 []))  ({ wHelp (wOp 6 5 4 (wBlock 32 [])) with lock.locks := [(0, { cfg.enable := 1 })] }),
     Can.hChStage 0  (wOp 7 1 4 (wBlock 32 []))  ({ wHelp (wOp 7 1 4 (wBlock 32 [])) with buf.rings := [(0, { cfg.kind := 1, cfg.enable := 1, items := [7] })], lock.chans := [(0, { cfg := { prodCore := 0, prodThread := 1, consCore := 0, consThread := 1, msgMax := 2 } })] }),
     Can.hChCommit 0  (wOp 7 2 2 (wBlock 16 []))  ({ wHelp (wOp 7 2 2 (wBlock 16 [])) with buf.rings := [(0, { cfg.kind := 1, cfg.enable := 1, items := [7] })], lock.chans := [(0, { cfg := { prodCore := 0, prodThread := 1, consCore := 0, consThread := 1, msgMax := 2 } })], lock.stages := [(1, ⟨0, [7]⟩)] }),
     Can.hChAbort 0  (wOp 7 3 2 (wBlock 16 []))  ({ wHelp (wOp 7 3 2 (wBlock 16 [])) with buf.rings := [(0, { cfg.kind := 1, cfg.enable := 1, items := [7] })], lock.chans := [(0, { cfg := { prodCore := 0, prodThread := 1, consCore := 0, consThread := 1, msgMax := 2 } })], lock.stages := [(1, ⟨0, [7]⟩)] }),
     Can.hChPop 0  (wOp 7 4 6 (wBlock 48 [])) 1 ({ wHelp (wOp 7 4 6 (wBlock 48 [])) with buf.rings := [(0, { cfg.kind := 1, cfg.enable := 1, items := [7] })], lock.chans := [(0, { cfg := { prodCore := 0, prodThread := 1, consCore := 0, consThread := 1, msgMax := 2 }, msgs := [1] })] })].all id = true := by decide +kernel
/-- PoolRingTimeAndTaskRequests. -/
theorem test_can_PoolRingTimeAndTaskRequests :
    [Can.hPoolAlloc 0  (wOp 8 1 2 (wBlock 16 [])) (((wHelp (wOp 8 1 2 (wBlock 16 []))) |> (fun s => ({ s with buf.pools := [(0, { cfg.enable := 1, cfg.reserve := 16, cfg.limit := 64 })] } : State))).allocOne 0 |>.getD (w0, 0)) ({ wHelp (wOp 8 1 2 (wBlock 16 [])) with buf.pools := [(0, { cfg.enable := 1, cfg.reserve := 16, cfg.limit := 64 })] }),
     Can.hRefAdd 0  (wOp 8 2 2 (wBlock 16 []))  ({ wHelp (wOp 8 2 2 (wBlock 16 [])) with buf.pools := [(0, { cfg.enable := 1, cfg.reserve := 16, cfg.limit := 64 })], buf.recs := [(0, { alloc := 1, refcnt := 1 })] }),
     Can.hFree 0  (wOp 8 3 2 (wBlock 16 []))  ({ wHelp (wOp 8 3 2 (wBlock 16 [])) with buf.pools := [(0, { cfg.enable := 1, cfg.reserve := 16, cfg.limit := 64 })], buf.recs := [(0, { alloc := 1, refcnt := 1 })] }),
     Can.hRingPush 0  (wOp 9 1 4 (wBlock 32 []))  ({ wHelp (wOp 9 1 4 (wBlock 32 [])) with buf.rings := [(0, { cfg.enable := 1 })] }),
     Can.hRingPop 0  (wOp 9 2 4 (wBlock 32 [])) 7 ({ wHelp (wOp 9 2 4 (wBlock 32 [])) with buf.rings := [(0, { cfg.enable := 1, items := [7] })] }),
     Can.hRingMark 0  (wOp 9 3 2 (wBlock 16 []))  ({ wHelp (wOp 9 3 2 (wBlock 16 [])) with buf.rings := [(0, { cfg.enable := 1, cfg.markEn := 1 })] }),
     Can.hRingRewind 0  (wOp 9 4 2 (wBlock 16 [])) 0 ({ wHelp (wOp 9 4 2 (wBlock 16 [])) with buf.rings := [(0, { cfg.enable := 1, cfg.markEn := 1, mark := some 0 })] }),
     Can.hRingRelease 0  (wOp 9 5 2 (wBlock 16 [(10, 1)]))  ({ wHelp (wOp 9 5 2 (wBlock 16 [(10, 1)])) with buf.rings := [(0, { cfg.enable := 1, cfg.markEn := 1, popped := 1 })] }),
     Can.hTsConvert 0  (wOp 10 1 4 (wBlock 32 []))  (wHelp (wOp 10 1 4 (wBlock 32 []))),
     Can.hPickSteer 0  (wOp 10 2 4 (wBlock 32 [(8, 1)]))  ({ wHelp (wOp 10 2 4 (wBlock 32 [(8, 1)])) with time.picks := [(0, { cfg.primary := 5, st.state := 2, segs := [⟨0, 0, 0, 0, 0x10000000000⟩] })] }),
     Can.hTaskKickHelper 0  (wOp 11 1 2 (wBlock 16 []))  ({ wHelp (wOp 11 1 2 (wBlock 16 [])) with task.tasks := [(0, { live := true })] }),
     Can.hTaskCancelHelper 0  (wOp 11 2 2 (wBlock 16 []))  ({ wHelp (wOp 11 2 2 (wBlock 16 [])) with task.tasks := [(0, { live := true })] })].all id = true ∧
    [Can.hDelayArmHelper 0  (wOp 11 3 5 (wBlock 40 [])) 0 ({ wHelp (wOp 11 3 5 (wBlock 40 [])) with task.tasks := [(0, { live := true })] }),
     Can.hDelayDisarmHelper 0  (wOp 11 4 2 (wBlock 16 []))  ({ wHelp (wOp 11 4 2 (wBlock 16 [])) with task.delays := [(0, { e.valid := 1 })] }),
     Can.hOrigin 0  (wOp 12 1 5 (wBlock 40 [(16, 8)])) (((wHelp (wOp 12 1 5 (wBlock 40 [(16, 8)]))) |> (fun s => ({ s with buf.pools := [(0, { cfg.enable := 1, cfg.reserve := 16, cfg.limit := 64 })] } : State))) |> (fun s => (s.storeFrame 0 (s.metaTile s.now 0) (List.replicate 8 0)).getD (w0, 0))) ({ wHelp (wOp 12 1 5 (wBlock 40 [(16, 8)])) with buf.pools := [(0, { cfg.enable := 1, cfg.reserve := 16, cfg.limit := 64 })] }),
     Can.hLaunchSet 0  (wPkt (wOp 12 2 3 (wBlock 24 [])))  (wHelpPkt (wPkt (wOp 12 2 3 (wBlock 24 [])))),
     Can.hHostSet 0  (wPkt (wOp 12 3 2 (wBlock 16 [])))  (wHelpPkt (wPkt (wOp 12 3 2 (wBlock 16 [])))),
     Can.hCrcRange 0  (wPkt (wOp 13 1 3 (wBlock 24 [(12, 4)]))) 0 ({ wHelpPkt (wPkt (wOp 13 1 3 (wBlock 24 [(12, 4)]))) with task.ctxs := [(0, { pkt := some 0, record := { st := .opened }, desc.length := 64 })] })].all id = true := ⟨by decide +kernel, by decide +kernel⟩
/-! The further forms of PoolRingTimeAndTaskRequests. -/

/-- Pool 0 of slice 0, with one cell of a frame allocated. -/
def wCell (s : State) : State :=
  { s with
    buf.pools := [(0, { cfg.enable := 1, cfg.reserve := 16, cfg.limit := 64 })]
    buf.recs := [(0, { alloc := 1, refcnt := 1, last := 1, fill := 64 })] }
/-- A FREE of a whole frame, an arm of KIND COMPLETE, and an origin frame of eight bytes with a tail. -/
def wFreeOp : HelperOp := wOp 8 3 2 (wBlock 16 [(9, 1)])
def wDelayOp : HelperOp := wOp 11 3 5 (wBlock 40 [(9, 1)])
def wTailOp : HelperOp := wOp 12 1 5 (wBlock 40 [(10, 4), (16, 8)])
/-- Delay entries from `k` on, all armed. -/
def wDelays (k n : Nat) : Tab DelayObj := (List.range' k n).map fun i => (i, { e.valid := 1 })

theorem wDelays_armed (n : Nat) : ∀ k i, k ≤ i → i < k + n → (Tab.get {} (wDelays k n) i).e.valid = 1 := by
  induction n with
  | zero => intro k i _ _; omega
  | succ n ih =>
    intro k i _ _
    simp only [wDelays, List.range'_succ, List.map_cons, Tab.get]
    split
    · rfl
    · rw [if_neg (by omega)]
      exact ih (k + 1) i (by omega) (by omega)

theorem test_can_freeWhole : Can.hFree_whole 0 wFreeOp (wCell (wHelp wFreeOp)) = true := by decide +kernel
theorem test_can_delayComplete : Can.hDelayArmHelper_complete 0 wDelayOp 0 (wHelp wDelayOp) = true := by decide +kernel
theorem test_can_delayWaits :
    Can.hDelayArmHelper_waits 0 wDelayOp { wHelp wDelayOp with task.delays := wDelays 0 4096 } = true := by
  have h : State.freeDelay { wHelp wDelayOp with task.delays := wDelays 0 4096 } = none := by
    unfold State.freeDelay firstIdx State.delay
    refine List.find?_eq_none.2 fun i hi => ?_
    simp only [wDelays_armed 4096 0 i (Nat.zero_le _) (by simpa using hi)]
    decide
  unfold Can.hDelayArmHelper_waits
  rw [h]
  generalize wDelays 0 4096 = d
  rfl
theorem test_can_originTail :
    let s := wCell (wHelp wTailOp)
    Can.hOrigin_tail 0 wTailOp 0 [] ((s.storeFrame 0 (s.metaTile (s.now * 1000) 0) (List.replicate 8 0)).getD (w0, 0)) s = true := by
  decide +kernel

/-- WeftArithmetic. -/
theorem test_can_WeftArithmetic :
    [Can.wAdd 0 1 1 2 3 (wAt (.add 1 2 3) {} {}),
     Can.wSub 0 1 1 2 3 (wAt (.sub 1 2 3) {} {}),
     Can.wAnd 0 1 1 2 3 (wAt (.and 1 2 3) {} {}),
     Can.wOr 0 1 1 2 3 (wAt (.or 1 2 3) {} {}),
     Can.wXor 0 1 1 2 3 (wAt (.xor 1 2 3) {} {}),
     Can.wAndn 0 1 1 2 3 (wAt (.andn 1 2 3) {} {}),
     Can.wSll 0 1 1 2 3 (wAt (.sll 1 2 3) {} {}),
     Can.wSrl 0 1 1 2 3 (wAt (.srl 1 2 3) {} {}),
     Can.wSra 0 1 1 2 3 (wAt (.sra 1 2 3) {} {}),
     Can.wRol 0 1 1 2 3 (wAt (.rol 1 2 3) {} {}),
     Can.wSlt 0 1 1 2 3 (wAt (.slt 1 2 3) {} {}),
     Can.wSltu 0 1 1 2 3 (wAt (.sltu 1 2 3) {} {})].all id = true ∧
    [Can.wSeq 0 1 1 2 3 (wAt (.seq 1 2 3) {} {}),
     Can.wMin 0 1 1 2 3 (wAt (.min 1 2 3) {} {}),
     Can.wMax 0 1 1 2 3 (wAt (.max 1 2 3) {} {}),
     Can.wMinu 0 1 1 2 3 (wAt (.minu 1 2 3) {} {}),
     Can.wMaxu 0 1 1 2 3 (wAt (.maxu 1 2 3) {} {}),
     Can.wMul 0 1 1 2 3 (wAt (.mul 1 2 3) {} {}),
     Can.wMulh 0 1 1 2 3 (wAt (.mulh 1 2 3) {} {}),
     Can.wMulhu 0 1 1 2 3 (wAt (.mulhu 1 2 3) {} {}),
     Can.wAddi 0 1 1 2 0 (wAt (.addi 1 2 0) {} {}),
     Can.wAndi 0 1 1 2 0 (wAt (.andi 1 2 0) {} {}),
     Can.wOri 0 1 1 2 0 (wAt (.ori 1 2 0) {} {}),
     Can.wXori 0 1 1 2 0 (wAt (.xori 1 2 0) {} {})].all id = true ∧
    [Can.wSlli 0 1 1 2 1 (wAt (.slli 1 2 1) {} {}),
     Can.wSrli 0 1 1 2 1 (wAt (.srli 1 2 1) {} {}),
     Can.wSrai 0 1 1 2 1 (wAt (.srai 1 2 1) {} {}),
     Can.wRoli 0 1 1 2 1 (wAt (.roli 1 2 1) {} {}),
     Can.wExt 0 1 1 2 3 7 (wAt (.ext 1 2 3 7) {} {}),
     Can.wExts 0 1 1 2 3 7 (wAt (.exts 1 2 3 7) {} {}),
     Can.wIns 0 1 1 2 3 7 (wAt (.ins 1 2 3 7) {} {}),
     Can.wLi 0 1 1 1 0 (wAt (.li 1 1 0) {} {}),
     Can.wLik 0 1 1 1 0 (wAt (.lik 1 1 0) {} {}),
     Can.wBsw16 0 1 1 2 (wAt (.bsw16 1 2) {} {}),
     Can.wBsw32 0 1 1 2 (wAt (.bsw32 1 2) {} {}),
     Can.wBsw64 0 1 1 2 (wAt (.bsw64 1 2) {} {})].all id = true ∧
    [Can.wClz 0 1 1 2 (wAt (.clz 1 2) {} {}),
     Can.wCtz 0 1 1 2 (wAt (.ctz 1 2) {} {}),
     Can.wPopc 0 1 1 2 (wAt (.popc 1 2) {} {})].all id = true := ⟨by decide +kernel, by decide +kernel, by decide +kernel, by decide +kernel⟩
/-- WeftLoadsAndStores. -/
theorem test_can_WeftLoadsAndStores :
    [Can.wLdb 0 1 1 2 0 69632 (wAt (.ldb 1 2 0) {} {}),
     Can.wLdh 0 1 1 2 0 69632 (wAt (.ldh 1 2 0) {} {}),
     Can.wLdw 0 1 1 2 0 69632 (wAt (.ldw 1 2 0) {} {}),
     Can.wLdd 0 1 1 2 0 69632 (wAt (.ldd 1 2 0) {} {}),
     Can.wLdbs 0 1 1 2 0 69632 (wAt (.ldbs 1 2 0) {} {}),
     Can.wLdhs 0 1 1 2 0 69632 (wAt (.ldhs 1 2 0) {} {}),
     Can.wLdws 0 1 1 2 0 69632 (wAt (.ldws 1 2 0) {} {}),
     Can.wStb 0 1 1 2 0 69632 (wAt (.stb 1 2 0) {} {}),
     Can.wSth 0 1 1 2 0 69632 (wAt (.sth 1 2 0) {} {}),
     Can.wStw 0 1 1 2 0 69632 (wAt (.stw 1 2 0) {} {}),
     Can.wStd 0 1 1 2 0 69632 (wAt (.std 1 2 0) {} {}),
     Can.wLdhn 0 1 1 2 0 69632 (wAt (.ldhn 1 2 0) {} {})].all id = true ∧
    [Can.wLdwn 0 1 1 2 0 69632 (wAt (.ldwn 1 2 0) {} {}),
     Can.wSthn 0 1 1 2 0 69632 (wAt (.sthn 1 2 0) {} {}),
     Can.wStwn 0 1 1 2 0 69632 (wAt (.stwn 1 2 0) {} {})].all id = true := ⟨by decide +kernel, by decide +kernel⟩
/-- A thread of slice 0 at an instruction whose base register holds the first address of the slice's DRAM window, and a
cache that holds these lines: the window's first one, or none. -/
def wWindow (op : WeftOp) (lines : Tab (Option CacheLine)) : State :=
  { wAt op { regs := [(2, 0x100000000)], priv := .s } {} with
    host.slices := [(0, { cfg.winBase := 0x20000000, cfg.winMib := 2, cfg.winCid := 4 })], dram.lines := lines }
def wLine : Tab (Option CacheLine) := [(cacheSet 0x800000 * 16, some { line := 0x800000 })]
/-- WeftDramWindow: a load and a store, each with the line in the cache and without it. -/
theorem test_can_WeftDramWindow :
    Instr.weft (.wLdhs 0 1 1 2 2) = some (0, 1, .ldhs 1 2 2) ∧ Instr.weft (.wSthn 0 1 1 2 2) = some (0, 1, .sthn 1 2 2) ∧
    [wLine, []].all (fun l => [WeftOp.ldhs 1 2 2, .sthn 1 2 2].all fun op =>
      (weftAccess op).any (fun e => e.toDram 0 1 op 0x20000002 (wWindow op l)) &&
        ((wWindow op l).cacheTouch 4 0x800000 false).2 == l.isEmpty) = true := by decide +kernel
/-- WeftSharedRegisters. -/
theorem test_can_WeftSharedRegisters :
    [Can.wCsrd 0 1 1 1 (wAt (.csrd 1 1) { priv := .m } {}),
     Can.wCsswp 0 1 1 2 1 (wAt (.csswp 1 2 1) { priv := .m } {}),
     Can.wCsadd 0 1 1 2 1 (wAt (.csadd 1 2 1) { priv := .m } {}),
     Can.wCsand 0 1 1 2 1 (wAt (.csand 1 2 1) { priv := .m } {}),
     Can.wCsor 0 1 1 2 1 (wAt (.csor 1 2 1) { priv := .m } {}),
     Can.wCscas 0 1 1 2 3 1 (wAt (.cscas 1 2 3 1) { priv := .m } {})].all id = true := by decide +kernel
/-- WeftBranchesAndLoops. -/
theorem test_can_WeftBranchesAndLoops :
    [Can.wCbeq_skip 0 1 1 2 1 (wAt (.cbeq 1 2 1) { regs := [(1, 1), (2, 2)] } {}),
     Can.wCbeq 0 1 1 2 1 (wAt (.cbeq 1 2 1) { regs := [(1, 2), (2, 2)] } {}),
     Can.wCbne_skip 0 1 1 2 1 (wAt (.cbne 1 2 1) { regs := [(1, 2), (2, 2)] } {}),
     Can.wCbne 0 1 1 2 1 (wAt (.cbne 1 2 1) { regs := [(1, 1), (2, 2)] } {}),
     Can.wCblt_skip 0 1 1 2 1 (wAt (.cblt 1 2 1) { regs := [(1, 2), (2, 2)] } {}),
     Can.wCblt 0 1 1 2 1 (wAt (.cblt 1 2 1) { regs := [(1, 1), (2, 2)] } {}),
     Can.wCbge_skip 0 1 1 2 1 (wAt (.cbge 1 2 1) { regs := [(1, 1), (2, 2)] } {}),
     Can.wCbge 0 1 1 2 1 (wAt (.cbge 1 2 1) { regs := [(1, 2), (2, 2)] } {}),
     Can.wCbltu_skip 0 1 1 2 1 (wAt (.cbltu 1 2 1) { regs := [(1, 2), (2, 2)] } {}),
     Can.wCbltu 0 1 1 2 1 (wAt (.cbltu 1 2 1) { regs := [(1, 1), (2, 2)] } {}),
     Can.wCbgeu_skip 0 1 1 2 1 (wAt (.cbgeu 1 2 1) { regs := [(1, 1), (2, 2)] } {}),
     Can.wCbgeu 0 1 1 2 1 (wAt (.cbgeu 1 2 1) { regs := [(1, 2), (2, 2)] } {})].all id = true ∧
    [Can.wCbeqi_skip 0 1 1 2 1 (wAt (.cbeqi 1 2 1) { regs := [(1, 1), (2, 2)] } {}),
     Can.wCbeqi 0 1 1 2 1 (wAt (.cbeqi 1 2 1) { regs := [(1, 2), (2, 2)] } {}),
     Can.wCbnei_skip 0 1 1 2 1 (wAt (.cbnei 1 2 1) { regs := [(1, 2), (2, 2)] } {}),
     Can.wCbnei 0 1 1 2 1 (wAt (.cbnei 1 2 1) { regs := [(1, 1), (2, 2)] } {}),
     Can.wCblti_skip 0 1 1 2 1 (wAt (.cblti 1 2 1) { regs := [(1, 2), (2, 2)] } {}),
     Can.wCblti 0 1 1 2 1 (wAt (.cblti 1 2 1) { regs := [(1, 1), (2, 2)] } {}),
     Can.wCbgei_skip 0 1 1 2 1 (wAt (.cbgei 1 2 1) { regs := [(1, 1), (2, 2)] } {}),
     Can.wCbgei 0 1 1 2 1 (wAt (.cbgei 1 2 1) { regs := [(1, 2), (2, 2)] } {}),
     Can.wCbltui_skip 0 1 1 2 1 (wAt (.cbltui 1 2 1) { regs := [(1, 2), (2, 2)] } {}),
     Can.wCbltui 0 1 1 2 1 (wAt (.cbltui 1 2 1) { regs := [(1, 1), (2, 2)] } {}),
     Can.wCbgeui_skip 0 1 1 2 1 (wAt (.cbgeui 1 2 1) { regs := [(1, 1), (2, 2)] } {}),
     Can.wCbgeui 0 1 1 2 1 (wAt (.cbgeui 1 2 1) { regs := [(1, 2), (2, 2)] } {})].all id = true ∧
    [Can.wJ 0 1 1 1 (wAt (.j 1 1) {} {}),
     Can.wJr 0 1 1 2 0 (wAt (.jr 1 2 0) { regs := [(2, 8324)] } {}),
     Can.wLoop 0 1 2 1 (wAt (.loop 2 1) { regs := [(2, 5)] } {}),
     Can.wLoop_zero 0 1 2 1 (wAt (.loop 2 1) {} {}),
     Can.wLoopi 0 1 5 1 (wAt (.loopi 5 1) { regs := [(2, 5)] } {}),
     Can.wLoopi_zero 0 1 0 1 (wAt (.loopi 0 1) {} {})].all id = true := ⟨by decide +kernel, by decide +kernel, by decide +kernel⟩
/-- WeftTasksAndControl. -/
theorem test_can_WeftTasksAndControl :
    [Can.wReqC 0 1 1 2 5 69632 wInst (wAt (.reqC 1 2 5) { regs := [(2, 0x00040101)] } {}),
     Can.wReqP 0 1 1 2 5 69632 wInst (wAt (.reqP 1 2 5) { regs := [(2, 0x00040101)] } {}),
     Can.wWait 0 1 (wAt (.wait) {} {}),
     Can.wWait_held 0 1 (wAt (.wait) { depcnt := 1 } {}),
     Can.wEvwait 0 1 1 6 (wAt (.evwait 1 6) { evPend := 2 } {}),
     Can.wEvwait_held 0 1 1 6 (wAt (.evwait 1 6) {} {}),
     Can.wEvsend 0 1 2 3 (wAt (.evsend 2 3) {} {}),
     Can.wEnd 0 1 (wAt (.endTask) {} {}),
     Can.wFault 0 1 7 (wAt (.fault 7) {} {}),
     Can.wScall 0 1 1 (wAt (.scall 1) {} {}),
     Can.wSret 0 1 (wAt (.sret) { priv := .s, sepc := 8320 } {}),
     Can.wMfcr 0 1 1 1 (wAt (.mfcr 1 1) {} {})].all id = true ∧
    [Can.wMtcr 0 1 2 8 (wAt (.mtcr 2 8) { priv := .s } {}),
     Can.wMtcr_cpen 0 1 2 4 (wAt (.mtcr 2 4) { priv := .m } {}),
     Can.wMtcr_loop 0 1 2 0x18 (wAt (.mtcr 2 0x18) {} {})].all id = true := ⟨by decide +kernel, by decide +kernel⟩
/-- WeftRegisterCoprocessors. -/
theorem test_can_WeftRegisterCoprocessors :
    [Can.wCrcc 0 1 1 2 3 2 (wAt (.crcc 1 2 3 2) {} { cpOwner := [(1, some 1), (2, some 1)] }),
     Can.wCrce 0 1 1 2 3 2 (wAt (.crce 1 2 3 2) {} { cpOwner := [(1, some 1), (2, some 1)] }),
     Can.wCrcz 0 1 1 2 3 (wAt (.crcz 1 2 3) {} { cpOwner := [(1, some 1), (2, some 1)] }),
     Can.wHmix 0 1 1 2 3 (wAt (.hmix 1 2 3) {} { cpOwner := [(1, some 1), (2, some 1)] }),
     Can.wPfeed 0 1 2 3 (wAt (.pfeed 2 3) {} { cpOwner := [(1, some 1), (2, some 1)] }),
     Can.wPre 0 1 1 3 (wAt (.pre 1 3) {} { cpOwner := [(1, some 1), (2, some 1)] }),
     Can.wPim 0 1 1 3 (wAt (.pim 1 3) {} { cpOwner := [(1, some 1), (2, some 1)] }),
     Can.wPmag 0 1 1 3 (wAt (.pmag 1 3) {} { cpOwner := [(1, some 1), (2, some 1)] }),
     Can.wPang 0 1 1 3 (wAt (.pang 1 3) {} { cpOwner := [(1, some 1), (2, some 1)] }),
     Can.wCpacq 0 1 false 1 (wAt (.cpacq false 1) {} { cpSlice := [(1, some 0)] }),
     Can.wCpacq_held 0 1 false 1 1 (wAt (.cpacq false 1) {} { cpOwner := [(1, some 1), (2, some 1)] }),
     Can.wCprel 0 1 false (wAt (.cprel false) {} { cpOwner := [(1, some 1), (2, some 1)] })].all id = true := by decide +kernel
/-- WeftMemoryCoprocessors. -/
theorem test_can_WeftMemoryCoprocessors :
    [Can.wGkey 0 1 2 69632 wInst (wAt (.gkey 2) {} { cpOwner := [(1, some 1), (2, some 1)] }),
     Can.wGiv 0 1 2 69632 wInst (wAt (.giv 2) {} { cpOwner := [(1, some 1), (2, some 1)] }),
     Can.wGaad 0 1 2 69632 wInst (wAt (.gaad 2) {} { cpOwner := [(1, some 1), (2, some 1)] }),
     Can.wGenc 0 1 2 69632 wInst (wAt (.genc 2) {} { cpOwner := [(1, some 1), (2, some 1)] }),
     Can.wGdec 0 1 2 69632 wInst (wAt (.gdec 2) {} { cpOwner := [(1, some 1), (2, some 1)] }),
     Can.wGtag 0 1 2 69632 wInst (wAt (.gtag 2) {} { cpOwner := [(1, some 1), (2, some 1)] }),
     Can.wGver 0 1 2 69632 wInst (wAt (.gver 2) {} { cpOwner := [(1, some 1), (2, some 1)] }),
     Can.wPcfg 0 1 2 69632 wInst (wAt (.pcfg 2) {} { cpOwner := [(1, some 1), (2, some 1)] }),
     Can.wPfeedm 0 1 2 3 69632 wInst (wAt (.pfeedm 2 3) {} { cpOwner := [(2, some 1)], cp2.opmode := 1 }),
     Can.wPgetm 0 1 2 69632 wInst (wAt (.pgetm 2) {} { cpOwner := [(2, some 1)], cp2.opmode := 1 }),
     Can.wCpsave 0 1 false 2 69632 wInst (wAt (.cpsave false 2) {} { cpOwner := [(1, some 1), (2, some 1)] }),
     Can.wCpload 0 1 false 2 69632 wInst (wAt (.cpload false 2) {} { cpOwner := [(1, some 1), (2, some 1)] })].all id = true := by decide +kernel

/-- A flash whose slot 1 holds an image of 11 units: header, signature block, one unit of each firmware, no script. -/
def wFlash : State :=
  let h : Tile := sealTile (put 512 0 (0x4D566464 : Word32) ||| put 512 32 (1 : Word32) ||| put 512 128 (11 : Word32) |||
    put 512 160 (4 : Word32) ||| put 512 192 (9 : Word32) ||| put 512 224 (1 : Word32) ||| put 512 256 (10 : Word32) |||
    put 512 288 (1 : Word32))
  { w0 with sys.flash := (131072, h) :: (List.range 10).map fun u => (131073 + u, sealTile 0) }

/-- SelvedgeImageAndStatisticsCommands: IMAGE_COMMIT is admitted once its image's signature verifies (the spec gives no key,
so this is a premise). -/
theorem test_can_imageCommit (hs : Config.signatureOk ((List.range 9).map fun u => wFlash.unit 1 u) = true) :
    Can.imageCommit (pk 1 (dat 16 (11 : BitVec 32))) wFlash = true := by
  have h1 : ImageHdr.ofTile (wFlash.unit 1 0) = some ⟨0, 0, 11, 4, 9, 1, 10, 1, 0, 0⟩ := by decide +kernel
  have h2 : ((wFlash.sections 1 ⟨0, 0, 11, 4, 9, 1, 10, 1, 0, 0⟩).all fun p => decide (p.1 + p.2 ≤ 11)) = true ∧
      apart (wFlash.sections 1 ⟨0, 0, 11, 4, 9, 1, 10, 1, 0, 0⟩) = true ∧ decide (wFlash.selv.fuseLevel ≤ 0) = true ∧
      ((List.range 11).all fun u => tileOk (wFlash.unit 1 u)) = true := by decide +kernel
  have hi : wFlash.imageOk 1 = some ⟨0, 0, 11, 4, 9, 1, 10, 1, 0, 0⟩ := by
    unfold State.imageOk
    rw [h1]
    simp only [h2.1, h2.2.1, h2.2.2.1, h2.2.2.2, hs, Bool.and_self, if_true]
  have hq : (pk 1 (dat 16 (11 : BitVec 32))).h = 1 := by decide +kernel
  have hu : (pk 1 (dat 16 (11 : BitVec 32))).u32 16 = 11 := by decide +kernel
  have ha : wFlash.admits (actOp 0xD21 .live (used 16 4)) (pk 1 (dat 16 (11 : BitVec 32))) [(.image, 1)] true 1 = true := by
    decide +kernel
  have hl : wFlash.loadedFrom 1 = false := by decide +kernel
  have hs0 : isSl0 wFlash (pk 1 (dat 16 (11 : BitVec 32))) = true := by decide +kernel
  unfold Can.imageCommit
  simp only [hq, hu, hi, ha, hl, hs0]
  decide

/-- DeviceAndSliceCommands: SNAPSHOT of slice 1 into a buffer of 1 GiB. -/
def wSnap : Cmd := { pk 0 (dat 24 (0x40000000 : BitVec 64)) with path := .sq 1, slice := 1 }
theorem test_can_snapshot : Can.snapshot wSnap w0 = true := by
  have hb : w0.snapSize 1 0#8 ≤ 4294337 := snapSize_le w0 1
  have h1 : w0.requester wSnap = 1 := by decide +kernel
  have h2 : wSnap.u64 24 = 0x40000000 := by decide +kernel
  have h3 : wSnap.u64 16 = 0 := by decide +kernel
  have h4 : wSnap.u8 32 = 0 := by decide +kernel
  have h5 : wSnap.h = 0 := by decide +kernel
  have h6 : w0.admits (actOp 0x004 .live (used 16 17)) wSnap [(.device, 0)] false 1 = true := by decide +kernel
  have h7 : w0.host.snapshot.isSome = false := rfl
  have h8 : decide ((0x40000000 : BitVec 64).toNat < 64 * w0.snapSize 1 0#8) = false := by
    rw [show (0x40000000 : BitVec 64).toNat = 1073741824 from rfl]
    exact decide_eq_false (by omega)
  unfold Can.snapshot
  simp only [h1, h2, h3, h4, h5, h6, h7, h8]
  decide

/-! The frame that brings `wTile` to M0, its FCS in two halves. -/

theorem wMgmt_fcs : crc32 (wMgmt.take 82) = 681241109#32 := by
  have h : wMgmt.take 82 = wMgmt.take 41 ++ (wMgmt.drop 41).take 41 := by decide +kernel
  have h1 : crcRun 0xEDB88320 (BitVec.allOnes 32) (wMgmt.take 41) = 2741935968#32 := by decide +kernel
  have h2 : crcRun 0xEDB88320 2741935968#32 ((wMgmt.drop 41).take 41) = 3613726186#32 := by decide +kernel
  unfold crc32
  rw [h, crcRun, List.foldl_append, ← crcRun, ← crcRun, h1, h2]
  decide
theorem wMgmt_tile : leBits 512 (slice (slice wMgmt 18 64) 0 64) = wMgmtTile := by decide +kernel
theorem wMgmt_check : tileOk (wMgmtTile) = true := by decide +kernel
theorem wMgmt_trailer : leBits 32 (slice wMgmt 82 4) = 681241109#32 := by decide +kernel
/-- HostInterfaceEvents: the frame is a command of M0. -/
theorem test_can_mgmtCommandFrame :
    Can.mgmtCommandFrame wMgmt { w0 with host.devCfg := { mgmtEn := 1 }, ports := [(32, {})] } = true := by
  have h0 : wMgmt.length = 86 := by decide +kernel
  unfold Can.mgmtCommandFrame
  simp only [h0, Nat.reduceSub, wMgmt_fcs, wMgmt_tile, wMgmt_check, wMgmt_trailer]
  decide +kernel

end Sys2Proof.Tests
end

/-!
Program, rule-set, delay and completion events (O44): one lemma for each event and form, then the statement itself.
An event that may take place runs on a device that has not stopped (`ok_of_running`); the rest of its `Can.x` decides
the guards of its `exec` arm.
-/
namespace Sys2Proof.Machine

/-- A device that has not stopped answers the state an arm gives it. -/
theorem ok_of_running {s : State} (t : State) (h : s.sys.stopped = false) : ok s t = .next t := by
  simp only [ok, h, Bool.false_eq_true, if_false]

/-! ## The program store (R50, R268 to R270) -/

theorem exec_programTileRewrite_of_can {tile : Fin 131072} {s : State} (h : Can.programTileRewrite tile s = true) :
    exec (.programTileRewrite tile) s = .next (s.rewriteProg tile) := by
  simp only [Can.programTileRewrite, Bool.and_eq_true, Bool.not_eq_true'] at h
  obtain ⟨running, bad⟩ := h
  exact (ok_of_running _ running).trans (by rw [if_pos bad])

theorem exec_icacheFillDone_of_can {c : Fin 68} {tile : Fin 131072} {t : Nat} {ts : List Nat} {s : State}
    (h : Can.icacheFillDone c tile t ts s = true) :
    exec (.icacheFillDone c tile false) s = .next (
      (t :: ts).foldl (fun (s : State) t => s.modTh c t fun h => { h with miss := none })
        (s.modCore c fun k => k.fillTile tile)) := by
  simp only [Can.icacheFillDone, Bool.and_eq_true, Bool.not_eq_true', beq_iff_eq] at h
  obtain ⟨⟨running, active⟩, waiting⟩ := h
  refine (ok_of_running _ running).trans ?_
  simp only [waiting, active, Bool.not_true, Bool.false_eq_true, if_false]

theorem exec_programStoreScrub_of_can {tile : Fin 131072} {s : State} (h : Can.programStoreScrub s = true) :
    exec (.programStoreScrub tile true) s = .next (s.rewriteProg tile) := by
  simp only [Can.programStoreScrub, Bool.not_eq_true'] at h
  exact ok_of_running _ h

theorem exec_progDrainEnd_of_can {n : Fin 64} {s : State} (h : Can.progDrainEnd n s = true) :
    exec (.progDrainEnd n) s = .next (
      (s.modProg n fun p => { p with draining := 0 }).finish (· == .progCommit n) .ok 0 []) := by
  simp only [Can.progDrainEnd, Bool.and_eq_true, Bool.not_eq_true', beq_iff_eq] at h
  obtain ⟨⟨running, draining⟩, unused⟩ := h
  refine (ok_of_running _ running).trans ?_
  rw [if_neg (by rw [draining, unused]; decide)]

/-! ## The rule set (R174, R183) -/

theorem exec_rulesetDrainEnd_of_can {s : State} (h : Can.rulesetDrainEnd s = true) :
    exec .rulesetDrainEnd s = .next { s with rules.state := .copying } := by
  simp only [Can.rulesetDrainEnd, Bool.and_eq_true, Bool.not_eq_true', beq_iff_eq] at h
  obtain ⟨⟨running, draining⟩, empty⟩ := h
  exact (ok_of_running _ running).trans (by rw [if_pos ⟨draining, empty⟩])

theorem exec_rulesetCopyDone_of_can {s : State} (h : Can.rulesetCopyDone s = true) :
    exec .rulesetCopyDone s = .next (
      let c := s.curBank
      let s1 := s.modStaged fun b => { c with version := b.version, inflight := b.inflight }
      ({ s1 with rules.state := .idle } : State).finish (fun w => w == Wait.rulesetCopy) .ok 0 []) := by
  simp only [Can.rulesetCopyDone, Bool.and_eq_true, Bool.not_eq_true', beq_iff_eq] at h
  obtain ⟨running, copying⟩ := h
  exact (ok_of_running _ running).trans (by rw [if_pos copying])

theorem exec_ruleScrub_of_can {found : List (Bool × Fin 8192)} {s : State} (h : Can.ruleScrub s = true) :
    exec (.ruleScrub found) s = .next (
      let l := found.map fun (b, r) => (b, r.val)
      let rest := (s.rules.bank0.badRules.map fun r => (false, r)) ++ s.rules.bank1.badRules.map fun r => (true, r)
      (l ++ rest.filter fun x => !l.contains x).foldl (fun (s : State) x => s.rewriteRule x.1 x.2) s) := by
  simp only [Can.ruleScrub, Bool.not_eq_true'] at h
  exact ok_of_running _ h

theorem exec_rulesetTileRewrite_of_can {b : Bool} {kind : Fin 7} {idx : Fin 16384} {s : State}
    (h : Can.rulesetTileRewrite s = true) :
    exec (.rulesetTileRewrite b kind idx) s = .next (
      if kind = 4 then s.rewriteRule b idx.val
      else s.rewriteTile kind.val idx.val (put 288 0 (bit b)) (s.ruleObjOwner b kind.val idx.val)) := by
  simp only [Can.rulesetTileRewrite, Bool.not_eq_true'] at h
  exact ok_of_running _ h

/-! ## Delay entries (R217, R219) -/

/-- An entry that may fire passes every guard of DELAY_FIRE, whether its parity is good or not. -/
theorem exec_delayFire_of_can {i : Fin 4096} {s : State} (h : Can.delayFire i s = true) (bad : Bool) :
    exec (.delayFire i bad) s = .next (
      if bad then (s.delayTaken (s.delay i).e.scale.toNat).delayBad i
      else (s.delayTaken (s.delay i).e.scale.toNat).fire i) := by
  simp only [Can.delayFire, Bool.and_eq_true, Bool.not_eq_true', beq_iff_eq] at h
  obtain ⟨⟨⟨⟨⟨running, valid⟩, due⟩, first⟩, turn⟩, room⟩ := h
  refine (ok_of_running _ running).trans ?_
  rw [if_neg (by simp [valid, due, first, turn, room])]

/-- Taking an entry of a list changes no entry. -/
@[simp] theorem State.delayTaken_delay (s : State) (k i : Nat) : (s.delayTaken k).delay i = s.delay i := rfl

/-- A bad entry of a slice other than SL0 is reported to SL0 and to its owner. -/
theorem State.delayBad_of_owned {s : State} {i : Nat} (h : (s.delay i).e.owner ≠ 0) :
    s.delayBad i =
      (((s.freeDelayAt i).bump .delayParity 0).notice 0 0x0005 i (put 64 0 (s.delay i).e.owner)).notice
        (s.delay i).e.owner.toNat 0x0005 i (put 64 0 (s.delay i).e.owner) := by
  simp only [State.delayBad, if_neg h]

theorem exec_delayFire_of_can_bad {i : Fin 4096} {s : State} (h : Can.delayFire_bad i s = true) :
    exec (.delayFire i true) s = .next (
      let d := s.delay i
      let pay : Word := put 64 0 d.e.owner
      ((((s.delayTaken d.e.scale.toNat).freeDelayAt i).bump .delayParity 0).notice 0 0x0005 i pay).notice
        d.e.owner.toNat 0x0005 i pay) := by
  obtain ⟨can, owned⟩ : Can.delayFire i s = true ∧ ((s.delay i).e.owner.toNat != 0) = true := Bool.and_eq_true_iff.mp h
  have owned : ((s.delayTaken (s.delay i).e.scale.toNat).delay i).e.owner ≠ 0 := fun h0 => by
    simp only [State.delayTaken_delay] at h0
    simp [h0] at owned
  rw [exec_delayFire_of_can can, if_pos rfl, State.delayBad_of_owned owned]
  rfl

/-! ## Helpers and coprocessors (R209, R342, R678) -/

theorem exec_helperCompletion_of_can {k : Nat} {o : HelperOp} {out : List (Nat × List Byte)} {s : State}
    (h : Can.helperCompletion k o out s = true) :
    exec (.helperCompletion k) s = .next (
      (out.foldl (fun (s : State) w => s.lmWrite o.core (o.addr + w.1) w.2)
        ({ s with weft.ops := s.weft.ops.erase o } : State)).modTh o.core o.thread Thread.countDown) := by
  simp only [Can.helperCompletion, Bool.and_eq_true, Bool.not_eq_true', beq_iff_eq] at h
  obtain ⟨⟨⟨running, op⟩, done⟩, present⟩ := h
  refine (ok_of_running _ running).trans ?_
  simp only [op, done, present, if_true]

theorem exec_coprocessorCompletion_of_can {c : Fin 68} {cp : Bool} {x : CpOp} {s : State}
    (h : Can.coprocessorCompletion c cp x s = true) :
    exec (.coprocessorCompletion c cp) s = .next (
      let r := s.cpRun c x
      (r.writes.foldl (fun (s : State) w => s.lmWrite c w.1 w.2)
        (r.state.drawn.modCore c fun k => { k with cpOps := k.cpOps.erase x })).modTh c x.thread Thread.countDown) := by
  simp only [Can.coprocessorCompletion, Bool.and_eq_true, Bool.not_eq_true', beq_iff_eq, Option.isNone_iff_eq_none] at h
  obtain ⟨⟨⟨running, oldest⟩, good⟩, present⟩ := h
  refine (ok_of_running _ running).trans ?_
  simp only [oldest, good, present, if_true]

theorem exec_coprocessorCompletion_of_can_parity {c : Fin 68} {cp : Bool} {x : CpOp} {a : Word} {s : State}
    (h : Can.coprocessorCompletion_parity c cp x a s = true) :
    exec (.coprocessorCompletion c cp) s = .next (
      ((s.cpRun c x).state.drawn.modCore c fun k => { k with cpOps := k.cpOps.erase x }).stopCore c x.thread
        Cause.lmParity.code x.pc a) := by
  simp only [Can.coprocessorCompletion_parity, Bool.and_eq_true, Bool.not_eq_true', beq_iff_eq] at h
  obtain ⟨⟨⟨running, oldest⟩, parity⟩, active⟩ := h
  refine (ok_of_running _ running).trans ?_
  simp only [oldest, parity, active, if_true]

/-! ## Threads that halt or stop (R258, R281) -/

theorem exec_breakpointHit_of_can {c : Fin 68} {t : Fin 8} {s : State} (h : Can.breakpointHit c t s = true) :
    exec (.breakpointHit c t) s = .next (
      (s.modTh c t fun h =>
        { h with st := .halted, from' := .running, skipBp := true, stepping := false, haltReq := false, haltAt := s.now }).finish
        (fun w => w == .debugHalt c.val t.val || w == .debugStep c.val t.val) .ok 0 []) := by
  simp only [Can.breakpointHit, Bool.and_eq_true, Bool.not_eq_true'] at h
  obtain ⟨⟨running, issuable⟩, atBreak⟩ := h
  exact (ok_of_running _ running).trans (by rw [if_pos ⟨issuable, atBreak⟩])

theorem exec_memTimeout_of_can {c : Fin 68} {t : Fin 8} {x : Attach} {s : State} (h : Can.memTimeout c t x s = true) :
    exec (.memTimeout c t) s = .next (s.fault c t .memTimeout (BitVec.ofNat 64 x.addr)) := by
  simp only [Can.memTimeout, Bool.and_eq_true, Bool.not_eq_true', beq_iff_eq, decide_eq_true_eq] at h
  obtain ⟨⟨⟨running, attached⟩, active⟩, late⟩ := h
  refine (ok_of_running _ running).trans ?_
  simp only [attached, if_pos (And.intro active late)]

/-- Settles O44: each event answers what its lemma above says. -/
theorem programAndCompletionEvents : Obligations.ProgramAndCompletionEvents := by
  unfold Obligations.ProgramAndCompletionEvents
  exact ⟨fun _ _ h => exec_programTileRewrite_of_can h,
    fun _ _ _ _ _ h => exec_icacheFillDone_of_can h,
    fun _ _ h => exec_programStoreScrub_of_can h,
    fun _ _ h => exec_progDrainEnd_of_can h,
    fun _ h => exec_rulesetDrainEnd_of_can h,
    fun _ h => exec_rulesetCopyDone_of_can h,
    fun _ _ h => exec_ruleScrub_of_can h,
    fun _ _ _ _ h => exec_rulesetTileRewrite_of_can h,
    fun _ _ h => exec_delayFire_of_can h false,
    fun _ _ h => exec_delayFire_of_can_bad h,
    fun _ _ _ _ h => exec_helperCompletion_of_can h,
    fun _ _ _ _ h => exec_coprocessorCompletion_of_can h,
    fun _ _ _ _ _ h => exec_coprocessorCompletion_of_can_parity h,
    fun _ _ _ h => exec_breakpointHit_of_can h,
    fun _ _ _ _ h => exec_memTimeout_of_can h⟩

end Sys2Proof.Machine

/-!
Port, pick-clock, wall-time and PTP commands (O30): one lemma for each command, then the statement itself. An admitted
packet executes once its own conditions hold (`runCmd_of_admits`); the rest of its `Can.x` decides those conditions.
-/
namespace Sys2Proof.Machine

/-! ## Ports (R99, R101) -/

theorem exec_portConfig_of_can {q : Cmd} {s : State} (h : Can.portConfig q s = true) :
    exec (.portConfig q) s = .next (
      execPlan (setOp 0x201 .live PortCfg.rsv) q
        { keys := [(.port, q.h)]
          eff := s.setPortCfg q.h (PortCfg.ofTile (q.tile 1)) }) := by
  simp only [Can.portConfig, Bool.and_eq_true, Bool.not_eq_true', decide_eq_true_eq] at h
  obtain ⟨⟨⟨⟨⟨⟨admitted, isPort⟩, ownLanes⟩, good⟩, sl0⟩, lanesFree⟩, fixed⟩ := h
  exact runCmd_of_admits admitted (.inl rfl) (by simp [isPort, ownLanes, good]) sl0 rfl
    (List.forall_mem_cons.2 ⟨lanesFree, List.forall_mem_singleton.2 fixed⟩)

theorem exec_portGet_of_can {q : Cmd} {s : State} (h : Can.portGet q s = true) :
    exec (.portGet q) s = .next (
      execPlan (getOp 0x202 .live) q
        { keys := [(.port, q.h)]
          changes := false
          replyTiles := 3
          eff := if q.clear then s.modPort q.h fun t =>
                { t with st := { t.st with linkDownCount := 0, fecCorrected := 0, fecUncorrected := 0 } } else s
          tiles := [(s.port q.h).cfg.toTile, (s.portStatus q.h).toTile] }) := by
  simp only [Can.portGet, Bool.and_eq_true, Bool.not_eq_true', decide_eq_true_eq] at h
  obtain ⟨⟨⟨admitted, isPort⟩, ownLanes⟩, mayClear⟩ := h
  exact runCmd_of_admits admitted (.inl rfl) (by simp [isPort, ownLanes]) mayClear rfl (by simp)

/-! ## Pick clocks (R89 to R92, R602) -/

theorem exec_pickConfig_of_can {q : Cmd} {s : State} (h : Can.pickConfig q s = true) :
    exec (.pickConfig q) s = .next (
      execPlan (setOp 0x301 .live PickCfg.rsv) q
        { keys := [(.pick, q.h)]
          eff := s.modPick q.h fun p => p.configure (PickCfg.ofTile (q.tile 1)) s.now s.wall }) := by
  simp only [Can.pickConfig, Bool.and_eq_true, Bool.not_eq_true', decide_eq_true_eq] at h
  obtain ⟨⟨⟨⟨⟨admitted, isPick⟩, good⟩, sl0⟩, fixed⟩, unnamed⟩ := h
  exact runCmd_of_admits admitted (.inl rfl) (by simp [isPick, good]) sl0 rfl
    (List.forall_mem_cons.2 ⟨fixed, List.forall_mem_singleton.2 unnamed⟩)

theorem exec_pickGet_of_can {q : Cmd} {s : State} (h : Can.pickGet q s = true) :
    exec (.pickGet q) s = .next (
      execPlan (getOp 0x302 .live) q
        { keys := [(.pick, q.h)]
          changes := false
          replyTiles := 3
          eff := if q.clear then s.modPick q.h fun p =>
                { p with st := { p.st with missedRef := 0, pulseReject := 0, steerStale := 0, reverse := 0
                                           sourceSwitches := 0 } } else s
          tiles := [(s.pick q.h).set.toTile, (s.pickStatus q.h).toTile] }) := by
  simp only [Can.pickGet, Bool.and_eq_true, decide_eq_true_eq] at h
  obtain ⟨⟨admitted, isPick⟩, mayClear⟩ := h
  exact runCmd_of_admits admitted (.inl rfl) (by simp [isPick]) mayClear rfl (by simp)

theorem exec_pickSelect_of_can {q : Cmd} {s : State} (h : Can.pickSelect q s = true) :
    exec (.pickSelect q) s = .next (
      execPlan (actOp 0x303 .live (used 16 1)) q
        { keys := [(.pick, q.h)]
          eff := if (s.pick q.h).active (q.u8 16 = 0) then s else s.switchPick q.h (q.u8 16 = 0) }) := by
  simp only [Can.pickSelect, Bool.and_eq_true, Bool.not_eq_true', decide_eq_true_eq] at h
  obtain ⟨⟨⟨⟨⟨⟨admitted, isPick⟩, isRole⟩, sl0⟩, enabled⟩, acquired⟩, valid⟩ := h
  exact runCmd_of_admits admitted (.inl rfl) (by simp [isPick, isRole]) sl0 rfl
    (List.forall_mem_singleton.2 (by simp only [enabled, acquired, valid, Bool.or_self]))

theorem exec_pickConvert_of_can {q : Cmd} {s : State} (h : Can.pickConvert q s = true) :
    exec (.pickConvert q) s = .next (
      let c := s.convert (q.u8 16) (q.u8 17) (q.u64 24).toNat
      execPlan (actOp 0x304 .live (used 16 2 ||| used 24 8)) q
        { changes := false
          eff := s
          data := dat 16 (BitVec.ofNat 64 (if c.status < 2 then c.value else 0)) ||| dat 24 (BitVec.ofNat 8 c.status) }) := by
  simp only [Can.pickConvert, Bool.and_eq_true, decide_eq_true_eq] at h
  obtain ⟨⟨⟨admitted, handle0⟩, isFrom⟩, isTo⟩ := h
  exact runCmd_of_admits admitted (.inl rfl) (by simp [handle0, isFrom, isTo]) rfl rfl (by simp)

/-! ## Wall time (R67, R71, R603) -/

theorem exec_wallConfig_of_can {q : Cmd} {s : State} (h : Can.wallConfig q s = true) :
    exec (.wallConfig q) s = .next (
      execPlan (setOp 0x310 .live WallCfg.rsv) q
        { keys := [(.wall, 0)]
          eff := s.setWallCfg (WallCfg.ofTile (q.tile 1)) }) := by
  simp only [Can.wallConfig, Bool.and_eq_true, Bool.not_eq_true', decide_eq_true_eq] at h
  obtain ⟨⟨⟨admitted, handle0⟩, good⟩, sl0⟩ := h
  exact runCmd_of_admits admitted (.inl rfl) (by simp [handle0, good]) sl0 rfl (by simp)

theorem exec_wallGet_of_can {q : Cmd} {s : State} (h : Can.wallGet q s = true) :
    exec (.wallGet q) s = .next (
      execPlan (getOp 0x311 .live) q
        { keys := [(.wall, 0)]
          changes := false
          replyTiles := 3
          eff := if q.clear then
                { s with time.st := { s.time.st with ppsReject := 0, ptpMgmtDrop := 0, wallSteps := 0 } } else s
          tiles := [s.time.cfg.toTile,
            { s.time.st with wallNow := s.wall, grandmaster := bit s.isGrandmaster }.toTile] }) := by
  simp only [Can.wallGet, Bool.and_eq_true, decide_eq_true_eq] at h
  obtain ⟨⟨admitted, handle0⟩, mayClear⟩ := h
  exact runCmd_of_admits admitted (.inl rfl) (by simp [handle0]) mayClear rfl (by simp)

theorem exec_wallSet_of_can {q : Cmd} {s : State} (h : Can.wallSet q s = true) :
    exec (.wallSet q) s = .next (
      execPlan (actOp 0x312 .chs (used 16 8)) q
        { keys := [(.wall, 0)]
          eff := { s with time.todSet := true }.stepWall (q.u64 16) }) := by
  simp only [Can.wallSet, Bool.and_eq_true, decide_eq_true_eq] at h
  obtain ⟨⟨admitted, handle0⟩, sl0⟩ := h
  exact runCmd_of_admits admitted (.inl rfl) (by simp [handle0]) sl0 rfl (by simp)

/-! ## PTP (R604 to R606) -/

theorem exec_ptpClockConfig_of_can {q : Cmd} {s : State} (h : Can.ptpClockConfig q s = true) :
    exec (.ptpClockConfig q) s = .next (
      execPlan (setOp 0x320 .live PtpClock.rsv) q
        { keys := [(.ptpClock, 0)]
          eff := s.setPtpClock (PtpClock.ofTile (q.tile 1)) }) := by
  simp only [Can.ptpClockConfig, Bool.and_eq_true, decide_eq_true_eq] at h
  obtain ⟨⟨⟨⟨admitted, handle0⟩, isType⟩, timeout⟩, sl0⟩ := h
  exact runCmd_of_admits admitted (.inl rfl) (by simp [handle0, isType, timeout]) sl0 rfl (by simp)

theorem exec_ptpPortConfig_of_can {q : Cmd} {s : State} (h : Can.ptpPortConfig q s = true) :
    exec (.ptpPortConfig q) s = .next (
      execPlan (setOp 0x321 .live PtpPort.rsv) q
        { keys := [(.ptpPort, q.h)]
          eff := s.setPtpPort q.h (PtpPort.ofTile (q.tile 1)) }) := by
  simp only [Can.ptpPortConfig, Bool.and_eq_true, Bool.not_eq_true', decide_eq_true_eq] at h
  obtain ⟨⟨⟨⟨⟨⟨⟨admitted, isPort⟩, ownLanes⟩, transport⟩, sync⟩, pdelay⟩, announce⟩, sl0⟩ := h
  exact runCmd_of_admits admitted (.inl rfl) (List.forall_mem_cons.2 ⟨by simp [isPort, ownLanes],
    List.forall_mem_singleton.2 (by simp only [transport, sync, pdelay, announce, Bool.not_true, Bool.or_self])⟩)
    sl0 rfl (by simp)

theorem exec_ptpGet_of_can {q : Cmd} {s : State} (h : Can.ptpGet q s = true) :
    exec (.ptpGet q) s = .next (
      execPlan (getOp 0x322 .live) q
        { keys := [(.ptpPort, q.h)]
          changes := false
          replyTiles := 4
          eff := if q.clear then s.modPtpSt q.h fun t =>
                { t with syncRx := 0, announceRx := 0, delayRx := 0, timeouts := 0 } else s
          tiles := [s.time.ptpClock.toTile, (s.ptpPort q.h).toTile, (s.ptpSt q.h).toTile] }) := by
  simp only [Can.ptpGet, Bool.and_eq_true, Bool.not_eq_true', decide_eq_true_eq] at h
  obtain ⟨⟨⟨admitted, isPort⟩, ownLanes⟩, mayClear⟩ := h
  exact runCmd_of_admits admitted (.inl rfl) (by simp [isPort, ownLanes]) mayClear rfl (by simp)

/-- Settles O30: each command answers what its lemma above says. -/
theorem portClockAndTimeCommands : Obligations.PortClockAndTimeCommands := by
  unfold Obligations.PortClockAndTimeCommands
  exact ⟨fun _ _ h => exec_portConfig_of_can h,
    fun _ _ h => exec_portGet_of_can h,
    fun _ _ h => exec_pickConfig_of_can h,
    fun _ _ h => exec_pickGet_of_can h,
    fun _ _ h => exec_pickSelect_of_can h,
    fun _ _ h => exec_pickConvert_of_can h,
    fun _ _ h => exec_wallConfig_of_can h,
    fun _ _ h => exec_wallGet_of_can h,
    fun _ _ h => exec_wallSet_of_can h,
    fun _ _ h => exec_ptpClockConfig_of_can h,
    fun _ _ h => exec_ptpPortConfig_of_can h,
    fun _ _ h => exec_ptpGet_of_can h⟩

end Sys2Proof.Machine

/-!
Arrival, link and clock events (O42): one lemma for each event and form, then the statement itself. An event that may
take place runs on a device that has not stopped (`ok_of_running`); the rest of its `Can.x` decides the guards of its
`exec` arm.
-/
namespace Sys2Proof.Machine

/-- A device that has not stopped takes an event whose guard holds. -/
theorem ok_if_of_running {s : State} {guard : Prop} [Decidable guard] (t : State) (running : s.sys.stopped = false)
    (holds : guard) : ok s (if guard then t else s) = .next t :=
  (ok_of_running _ running).trans (congrArg Host.Outcome.next (if_pos holds))

/-! ## Frames (R102) -/

/-- A good frame that is no management command and has been stored is counted. -/
theorem State.macReceive_of_stored {s s1 : State} {p : Nat} {f : RxFrame} {line : RxLine} {age : Nat}
    (good : s.rxDrop ((s.port p).cfgAt (s.now - age)) f line = none) (data : s.isMgmt p (rxBytes f) = false)
    (stored : s.intake 0 p (((s.port p).cfgAt (s.now - age)).classOf (rxBytes f)) (s.rxPoint p (s.now - age))
      (s.rxPoint p s.now) (rxBytes f) = some s1) :
    s.macReceive p f line age = (s1.bump .rxFrames p).bumpBy .rxBytes p (rxBytes f).length := by
  simp only [State.macReceive, good, data, stored, Bool.false_eq_true, if_false]

theorem exec_frameReceive_of_can {p : Fin 33} {f : RxFrame} {line : RxLine} {age : Nat} {s : State}
    (h : Can.frameReceive p f line age s = true) :
    exec (.frameReceive p f line age) s = .next (
      let s1 := (if (s.port p).cfg.loop = 2 then s.emit (.frame p (rxBytes f)) else s).countFec p line
      let c := (s1.port p).cfgAt (s1.now - age)
      ((((s1.intake 0 p (c.classOf (rxBytes f)) (s1.rxPoint p (s1.now - age)) (s1.rxPoint p s1.now) (rxBytes f)).getD s1).bump
        .rxFrames p).bumpBy .rxBytes p (rxBytes f).length)) := by
  simp only [Can.frameReceive, Bool.and_eq_true, Bool.not_eq_true', beq_iff_eq, bne_iff_ne] at h
  obtain ⟨⟨⟨⟨⟨⟨running, notLooped⟩, enabled⟩, up⟩, good⟩, data⟩, room⟩ := h
  refine (ok_of_running _ running).trans ?_
  rw [if_neg notLooped, if_neg (not_or.mpr ⟨enabled, up⟩)]
  obtain ⟨_, stored⟩ := Option.isSome_iff_exists.mp room
  rw [State.macReceive_of_stored good data stored]
  simp only [stored, Option.getD_some]

/-! ## Preemption's verification (R110) -/

theorem exec_preemptVerifySend_of_can {p : Fin 33} {s : State} (h : Can.preemptVerifySend p s = true) :
    exec (.preemptVerifySend p) s = .next (
      (s.modPort p fun t => { t with verifyTries := t.verifyTries + 1, verifyAt := some s.now }).emit (.verify p)) := by
  simp only [Can.preemptVerifySend, Bool.and_eq_true, Bool.not_eq_true', beq_iff_eq, decide_eq_true_eq] at h
  obtain ⟨⟨⟨running, verifying⟩, due⟩, few⟩ := h
  refine (ok_of_running _ running).trans ?_
  rw [if_pos ⟨verifying, due⟩, if_neg (Nat.not_le.mpr few)]

theorem exec_preemptVerifySend_of_can_failed {p : Fin 33} {s : State} (h : Can.preemptVerifySend_failed p s = true) :
    exec (.preemptVerifySend p) s = .next (s.modPort p fun t => { t with st.preemptState := 3 }) := by
  simp only [Can.preemptVerifySend_failed, Bool.and_eq_true, Bool.not_eq_true', beq_iff_eq, decide_eq_true_eq] at h
  obtain ⟨⟨⟨running, verifying⟩, due⟩, spent⟩ := h
  refine (ok_of_running _ running).trans ?_
  rw [if_pos ⟨verifying, due⟩, if_pos spent]

theorem exec_preemptVerifyResponse_of_can {p : Fin 33} {s : State} (h : Can.preemptVerifyResponse p s = true) :
    exec (.preemptVerifyResponse p) s = .next (s.modPort p fun t => { t with st.preemptState := 2 }) := by
  simp only [Can.preemptVerifyResponse, Bool.and_eq_true, Bool.not_eq_true', beq_iff_eq] at h
  obtain ⟨running, verifying⟩ := h
  exact ok_if_of_running _ running verifying

/-! ## Link state (R114, R119) -/

theorem exec_pcsLockLoss_of_can {p : Fin 33} {why : PcsLoss} {s : State} (h : Can.pcsLockLoss why s = true) :
    exec (.pcsLockLoss p why) s = .next (s.linkDown p) := by
  simp only [Can.pcsLockLoss, Bool.and_eq_true, Bool.not_eq_true', bne_iff_ne] at h
  obtain ⟨running, lost⟩ := h
  refine (ok_of_running _ running).trans ?_
  cases why with
  | lock => rfl
  | alignment => rfl
  | autoneg => exact absurd rfl lost

theorem exec_pcsLockLoss_of_can_autoneg {p : Fin 33} {s : State} (h : Can.pcsLockLoss_autoneg p s = true) :
    exec (.pcsLockLoss p .autoneg) s = .next (
      let o := (s.port p).st
      let a := (s.port p).ltDone
      (s.linkDown p).modPort p fun t =>
        { t with st.pcsLock := o.pcsLock, st.tsCalDone := o.tsCalDone, st.fecActive := o.fecActive, ltDone := a }) := by
  simp only [Can.pcsLockLoss_autoneg, Bool.and_eq_true, Bool.not_eq_true', bne_iff_ne] at h
  obtain ⟨running, hasAutoneg⟩ := h
  exact (ok_of_running _ running).trans (congrArg Host.Outcome.next (if_neg hasAutoneg))

theorem exec_pcsLockAcquire_of_can {p : Fin 33} {s : State} (h : Can.pcsLockAcquire p s = true) :
    exec (.pcsLockAcquire p) s = .next (
      s.modPort p fun t => { t with st.pcsLock := 1, st.tsCalDone := 0, st.fecActive := t.cfg.fec, lockAt := s.now }) := by
  simp only [Can.pcsLockAcquire, Bool.and_eq_true, Bool.not_eq_true', beq_iff_eq] at h
  obtain ⟨⟨⟨running, enabled⟩, ownLanes⟩, clocked⟩ := h
  exact ok_if_of_running _ running ⟨enabled, by rw [ownLanes]; rfl, clocked⟩

theorem exec_tsCalibrationDone_of_can {p : Fin 33} {s : State} (h : Can.tsCalibrationDone p s = true) :
    exec (.tsCalibrationDone p) s = .next (s.modPort p fun t => { t with st.tsCalDone := 1 }) := by
  simp only [Can.tsCalibrationDone, Bool.and_eq_true, Bool.not_eq_true', beq_iff_eq] at h
  obtain ⟨running, locked⟩ := h
  exact ok_if_of_running _ running locked

theorem exec_autonegDone_of_can {p : Fin 33} {s : State} (h : Can.autonegDone p s = true) :
    exec (.autonegDone p) s = .next (s.modPort p fun t => { t with st.anDone := 1 }) := by
  simp only [Can.autonegDone, Bool.and_eq_true, Bool.not_eq_true', beq_iff_eq] at h
  obtain ⟨⟨⟨⟨running, enabled⟩, hasAutoneg⟩, locked⟩, clocked⟩ := h
  exact ok_if_of_running _ running ⟨enabled, hasAutoneg, locked, clocked⟩

theorem exec_linkTrainingDone_of_can {p : Fin 33} {s : State} (h : Can.linkTrainingDone p s = true) :
    exec (.linkTrainingDone p) s = .next (s.modPort p fun t => { t with ltDone := true }) := by
  simp only [Can.linkTrainingDone, Bool.and_eq_true, Bool.not_eq_true', beq_iff_eq] at h
  obtain ⟨⟨running, enabled⟩, hasTraining⟩ := h
  exact ok_if_of_running _ running ⟨enabled, hasTraining⟩

theorem exec_linkUpDeclare_of_can {p : Fin 33} {s : State} (h : Can.linkUpDeclare p s = true) :
    exec (.linkUpDeclare p) s = .next (
      s.modPort p fun t =>
        { t with st.linkUp := 1, st.linkChangeWall := s.wall, verifyTries := 0, verifyAt := none
                 st.preemptState := t.preemptStart }) := by
  simp only [Can.linkUpDeclare, Bool.and_eq_true, Bool.not_eq_true'] at h
  obtain ⟨running, mayRise⟩ := h
  exact ok_if_of_running _ running mayRise

/-! ## PTP messages (R65, R66) -/

/-- A message of its domain goes to the engine of an ordinary or boundary clock. -/
theorem exec_ptpMessageReceive_of_mine {p : Fin 33} {m : PtpMsg} {s : State} (running : s.sys.stopped = false)
    (mine : s.ptpMine p m = true) (ends : s.time.ptpClock.clockType.toNat < 3) :
    exec (.ptpMessageReceive p m) s = .next (s.ptpTake p m) := by
  refine (ok_of_running _ running).trans ?_
  rw [if_neg (by simp [mine]), if_neg (Nat.not_le.mpr ends)]

theorem State.ptpTake_of_announce {s : State} {p : Nat} {m : PtpMsg} (kind : m.kind = .announce) :
    s.ptpTake p m =
      ((s.modPtpSt p fun t => { t with announceRx := satInc t.announceRx, parentId := m.parent, stepsRemoved := m.steps }
        ).modPtpRun p fun r => { r with heardAt := s.now }).bestMaster p := by
  simp only [State.ptpTake, kind]

/-- A slave port measures its offset by a one-step Sync. -/
theorem State.ptpTake_of_sync {s : State} {p : Nat} {m : PtpMsg} (kind : m.kind = .sync) (oneStep : m.twoStep = false)
    (slave : (s.ptpSt p).portState = 8 ∨ (s.ptpSt p).portState = 9) :
    s.ptpTake p m = (s.modPtpSt p fun t => { t with syncRx := satInc t.syncRx }).ptpOffset p := by
  simp only [State.ptpTake, kind, oneStep, slave, not_true_eq_false, Bool.false_eq_true, if_false]

/-- A slave port measures its delay by the answer that it awaits. -/
theorem State.ptpTake_of_delayResp {s : State} {p : Nat} {m : PtpMsg} (kind : m.kind = .delayResp)
    (mech : (s.ptpPort p).delayMech = 0) (slave : (s.ptpSt p).portState = 8 ∨ (s.ptpSt p).portState = 9)
    (awaited : (s.ptpRun p).delayOpen = true) :
    s.ptpTake p m =
      ((s.modPtpSt p fun t => { t with delayRx := satInc t.delayRx }).modPtpRun p fun r =>
        { r with delayOpen := false }).ptpDelayOf p := by
  simp only [State.ptpTake, kind, mech, slave, awaited, and_self, if_true]

theorem exec_ptpMessageReceive_of_can {p : Fin 33} {m : PtpMsg} {s : State} (h : Can.ptpMessageReceive p m s = true) :
    exec (.ptpMessageReceive p m) s = .next (
      ((s.modPtpSt p fun t => { t with announceRx := satInc t.announceRx, parentId := m.parent, stepsRemoved := m.steps }
        ).modPtpRun p fun r => { r with heardAt := s.now }).bestMaster p) := by
  simp only [Can.ptpMessageReceive, Bool.and_eq_true, Bool.not_eq_true', decide_eq_true_eq, beq_iff_eq] at h
  obtain ⟨⟨⟨running, mine⟩, ends⟩, kind⟩ := h
  rw [exec_ptpMessageReceive_of_mine running mine ends, State.ptpTake_of_announce kind]

theorem exec_ptpMessageReceive_of_can_sync {p : Fin 33} {m : PtpMsg} {s : State}
    (h : Can.ptpMessageReceive_sync p m s = true) :
    exec (.ptpMessageReceive p m) s = .next (
      (s.modPtpSt p fun t => { t with syncRx := satInc t.syncRx }).ptpOffset p) := by
  simp only [Can.ptpMessageReceive_sync, Bool.and_eq_true, Bool.or_eq_true, Bool.not_eq_true', decide_eq_true_eq,
    beq_iff_eq] at h
  obtain ⟨⟨⟨⟨⟨running, mine⟩, ends⟩, kind⟩, oneStep⟩, slave⟩ := h
  rw [exec_ptpMessageReceive_of_mine running mine ends, State.ptpTake_of_sync kind oneStep slave]

theorem exec_ptpMessageReceive_of_can_delayResp {p : Fin 33} {m : PtpMsg} {s : State}
    (h : Can.ptpMessageReceive_delayResp p m s = true) :
    exec (.ptpMessageReceive p m) s = .next (
      ((s.modPtpSt p fun t => { t with delayRx := satInc t.delayRx }).modPtpRun p fun r =>
        { r with delayOpen := false }).ptpDelayOf p) := by
  simp only [Can.ptpMessageReceive_delayResp, Bool.and_eq_true, Bool.or_eq_true, Bool.not_eq_true', decide_eq_true_eq,
    beq_iff_eq] at h
  obtain ⟨⟨⟨⟨⟨⟨running, mine⟩, ends⟩, kind⟩, mech⟩, slave⟩, awaited⟩ := h
  rw [exec_ptpMessageReceive_of_mine running mine ends, State.ptpTake_of_delayResp kind mech slave awaited]

theorem exec_ptpAnnounceTimeout_of_can {p : Fin 33} {s : State} (h : Can.ptpAnnounceTimeout p s = true) :
    exec (.ptpAnnounceTimeout p) s = .next (
      (((s.modPtpSt p fun t => { t with timeouts := satInc t.timeouts }).modPtpRun p fun r =>
        { r with heardAt := s.now }).bestMaster p).setUnsync) := by
  simp only [Can.ptpAnnounceTimeout, Bool.and_eq_true, Bool.not_eq_true', beq_iff_eq] at h
  obtain ⟨⟨⟨running, timedOut⟩, source⟩, selected⟩ := h
  refine (ok_of_running _ running).trans ?_
  rw [if_neg (by simp [timedOut]), if_pos ⟨source, selected⟩]

theorem exec_ptpMessageSend_of_can {p : Fin 33} {k : PtpTx} {s : State} (h : Can.ptpMessageSend p k s = true) :
    exec (.ptpMessageSend p k) s = .next (s.ptpSendKind p k) := by
  simp only [Can.ptpMessageSend, Bool.and_eq_true, Bool.not_eq_true'] at h
  obtain ⟨running, due⟩ := h
  exact ok_if_of_running _ running due

/-! ## PPS (R66, R69, R70) -/

theorem exec_ppsInEdge_of_can {s : State} (h : Can.ppsInEdge s = true) :
    exec .ppsInEdge s = .next (
      let t := (s.wall.toNat : Int) - s.time.cfg.ppsInComp.toInt
      let m := t % 1000000000
      ({ s with time.lastPps := some s.now } : State).wallOffset (if m ≥ 500000000 then m - 1000000000 else m) true) := by
  simp only [Can.ppsInEdge, Bool.and_eq_true, Bool.not_eq_true', beq_iff_eq, bne_iff_ne] at h
  obtain ⟨⟨running, source⟩, unsync⟩ := h
  refine (ok_of_running _ running).trans ?_
  rw [if_neg (not_not.mpr source), if_neg fun wild => unsync wild.2]

theorem exec_ppsInTimeout_of_can {t : Nat} {s : State} (h : Can.ppsInTimeout t s = true) :
    exec .ppsInTimeout s = .next s.setUnsync := by
  simp only [Can.ppsInTimeout, Bool.and_eq_true, Bool.not_eq_true', beq_iff_eq, decide_eq_true_eq] at h
  obtain ⟨⟨⟨running, source⟩, last⟩, late⟩ := h
  exact ok_if_of_running _ running (by simp [source, last, late])

theorem exec_ppsOutPulse_of_can {s : State} (h : Can.ppsOutPulse s = true) :
    exec .ppsOutPulse s = .next (
      ({ s with time.ppsHigh := true, time.ppsAt := s.now } : State).emit (.ppsOut true)) := by
  simp only [Can.ppsOutPulse, Bool.and_eq_true, Bool.not_eq_true'] at h
  obtain ⟨⟨⟨running, on⟩, low⟩, due⟩ := h
  exact ok_if_of_running _ running (by simp [on, low, due])

theorem exec_ppsOutFall_of_can {s : State} (h : Can.ppsOutFall s = true) :
    exec .ppsOutFall s = .next (({ s with time.ppsHigh := false } : State).emit (.ppsOut false)) := by
  simp only [Can.ppsOutFall, Bool.and_eq_true, Bool.not_eq_true', decide_eq_true_eq] at h
  obtain ⟨⟨running, high⟩, ended⟩ := h
  exact ok_if_of_running _ running (by simp [high, ended])

/-! ## Sources of the pick clocks (R75 to R79) -/

theorem exec_phaseEdge_of_can {input : Fin 2} {rising : Bool} {held : Nat} {s : State} (h : Can.phaseEdge s = true) :
    exec (.phaseEdge input rising held) s = .next (
      s.eachRole fun s k pri => s.phaseEdgeOf k pri rising held (1 + input)) := by
  simp only [Can.phaseEdge, Bool.not_eq_true'] at h
  exact ok_of_running _ h

theorem exec_phaseMissed_of_can {k : Fin 4} {pri : Bool} {t : Nat} {s : State} (h : Can.phaseMissed k pri t s = true) :
    exec (.phaseMissed k pri) s = .next (s.missOne k pri) := by
  simp only [Can.phaseMissed, Bool.and_eq_true, Bool.or_eq_true, Bool.not_eq_true', beq_iff_eq, decide_eq_true_eq] at h
  obtain ⟨⟨⟨⟨⟨running, last⟩, on⟩, present⟩, phase⟩, late⟩ := h
  refine (ok_of_running _ running).trans ?_
  simp only [last]
  rw [if_pos (by simp [on, present, phase, late])]

theorem exec_encZPulse_of_can {enc : Fin 2} {s : State} (h : Can.encZPulse s = true) :
    exec (.encZPulse enc) s = .next (s.eachRole fun s k pri => s.encZOf k pri (3 + enc)) := by
  simp only [Can.encZPulse, Bool.not_eq_true'] at h
  exact ok_of_running _ h

theorem exec_encCountEdge_of_can {enc : Fin 2} {up : Bool} {s : State} (h : Can.encCountEdge s = true) :
    exec (.encCountEdge enc up) s = .next (s.eachRole fun s k pri => s.encEdgeOf k pri up (3 + enc)) := by
  simp only [Can.encCountEdge, Bool.not_eq_true'] at h
  exact ok_of_running _ h

theorem exec_encoderUpdate_of_can {k : Fin 4} {pri : Bool} {t : Nat} {s : State} (h : Can.encoderUpdate k pri t s = true) :
    exec (.encoderUpdate k pri) s = .next (
      let p := s.pick k
      let n := ((p.src pri).encCount % (max p.cfg.encCpr.toNat 1 : Int)).toNat
      (s.upNoted k pri).refEvent k pri t (n * cyc / max p.cfg.encCpr.toNat 1)) := by
  simp only [Can.encoderUpdate, Bool.and_eq_true, Bool.or_eq_true, Bool.not_eq_true', beq_iff_eq] at h
  obtain ⟨⟨⟨⟨⟨⟨running, edge⟩, on⟩, encoder⟩, zSeen⟩, kept⟩, due⟩ := h
  refine (ok_of_running _ running).trans ?_
  simp only [edge]
  rw [if_pos (by simp [on, encoder, zSeen, kept, due])]

theorem exec_encZTimeout_of_can {k : Fin 4} {pri : Bool} {t : Nat} {s : State} (h : Can.encZTimeout k pri t s = true) :
    exec (.encZTimeout k pri) s = .next (s.loseSource k pri) := by
  simp only [Can.encZTimeout, Bool.and_eq_true, Bool.or_eq_true, Bool.not_eq_true', beq_iff_eq, decide_eq_true_eq] at h
  obtain ⟨⟨⟨⟨running, last⟩, on⟩, encoder⟩, late⟩ := h
  exact ok_if_of_running _ running (by simp [last, on, encoder, late])

theorem exec_synthUpdate_of_can {k : Fin 4} {pri : Bool} {s : State} (h : Can.synthUpdate k pri s = true) :
    exec (.synthUpdate k pri) s = .next (
      (s.upNoted k pri).refEvent k pri s.now (synthPick (s.pick k).cfg 0 s.wall.toNat % cyc)) := by
  simp only [Can.synthUpdate, Bool.and_eq_true, Bool.not_eq_true', beq_iff_eq] at h
  obtain ⟨⟨⟨running, on⟩, synth⟩, due⟩ := h
  exact ok_if_of_running _ running (by simp [on, synth, due])

theorem exec_steerMiss_of_can {k : Fin 4} {pri : Bool} {t : Nat} {s : State} (h : Can.steerMiss k pri t s = true) :
    exec (.steerMiss k pri) s = .next (s.loseSource k pri) := by
  simp only [Can.steerMiss, Bool.and_eq_true, Bool.not_eq_true', beq_iff_eq, decide_eq_true_eq] at h
  obtain ⟨⟨⟨⟨⟨running, last⟩, on⟩, steered⟩, present⟩, late⟩ := h
  exact ok_if_of_running _ running (by simp [last, on, steered, present, late])

/-! ## The end of holdover (R88) -/

/-- At its limit a holdover ends on the fallback, where that is valid and is not the source that was lost, and else in
FREE (R88 steps 3 and 6). -/
theorem exec_holdLimitExpiry_of_limit {k : Fin 4} {s : State} (running : s.sys.stopped = false)
    (holdover : (s.pick k).st.state = 4) (limited : (s.pick k).cfg.holdLimit ≠ 0)
    (reached : (s.pick k).cfg.holdLimit.toNat ≤ (s.pick k).holdCyclesNow s.now) :
    exec (.holdLimitExpiry k) s = .next (
      if !(s.pick k).fbHoldover && (s.pick k).valid false ((s.pick k).at s.now) then s.switchPick k false
      else ((s.modPick k fun p => { p with st.state := 5, st.holdCycles := satNat 32 (p.holdCyclesNow s.now) }).reportDev
        0x0803 k 0).returnSource k) :=
  ok_if_of_running _ running (by simpa [holdover, reached] using limited)

theorem exec_holdLimitExpiry_of_can {k : Fin 4} {s : State} (h : Can.holdLimitExpiry k s = true) :
    exec (.holdLimitExpiry k) s = .next (
      ((s.modPick k fun p => { p with st.state := 5, st.holdCycles := satNat 32 (p.holdCyclesNow s.now) }).reportDev
        0x0803 k 0).returnSource k) := by
  simp only [Can.holdLimitExpiry, Bool.and_eq_true, Bool.not_eq_true', beq_iff_eq, bne_iff_ne, decide_eq_true_eq] at h
  obtain ⟨⟨⟨⟨running, holdover⟩, limited⟩, reached⟩, noFallback⟩ := h
  rw [exec_holdLimitExpiry_of_limit running holdover limited reached, noFallback]
  rfl

theorem exec_holdLimitExpiry_of_can_fallback {k : Fin 4} {s : State} (h : Can.holdLimitExpiry_fallback k s = true) :
    exec (.holdLimitExpiry k) s = .next (s.switchPick k false) := by
  simp only [Can.holdLimitExpiry_fallback, Bool.and_eq_true, Bool.not_eq_true', beq_iff_eq, bne_iff_ne,
    decide_eq_true_eq] at h
  obtain ⟨⟨⟨⟨⟨running, holdover⟩, limited⟩, reached⟩, own⟩, valid⟩ := h
  rw [exec_holdLimitExpiry_of_limit running holdover limited reached, if_pos (by simp [own, valid])]

/-- Settles O42: each event answers what its lemma above says. -/
theorem packetArrivalEvents : Obligations.PacketArrivalEvents := by
  unfold Obligations.PacketArrivalEvents
  exact ⟨fun _ _ _ _ _ h => exec_frameReceive_of_can h,
    fun _ _ h => exec_preemptVerifySend_of_can h,
    fun _ _ h => exec_preemptVerifySend_of_can_failed h,
    fun _ _ h => exec_preemptVerifyResponse_of_can h,
    fun _ _ _ h => exec_pcsLockLoss_of_can h,
    fun _ _ h => exec_pcsLockLoss_of_can_autoneg h,
    fun _ _ h => exec_tsCalibrationDone_of_can h,
    fun _ _ h => exec_linkUpDeclare_of_can h,
    fun _ _ _ h => exec_ptpMessageReceive_of_can h,
    fun _ _ _ h => exec_ptpMessageReceive_of_can_sync h,
    fun _ _ _ h => exec_ptpMessageReceive_of_can_delayResp h,
    fun _ _ h => exec_ptpAnnounceTimeout_of_can h,
    fun _ h => exec_ppsInEdge_of_can h,
    fun _ _ h => exec_ppsInTimeout_of_can h,
    fun _ h => exec_ppsOutPulse_of_can h,
    fun _ _ _ _ h => exec_phaseEdge_of_can h,
    fun _ _ _ _ h => exec_phaseMissed_of_can h,
    fun _ _ h => exec_encZPulse_of_can h,
    fun _ _ _ _ h => exec_encoderUpdate_of_can h,
    fun _ _ _ _ h => exec_encZTimeout_of_can h,
    fun _ _ _ h => exec_synthUpdate_of_can h,
    fun _ _ _ _ h => exec_steerMiss_of_can h,
    fun _ _ h => exec_holdLimitExpiry_of_can h,
    fun _ _ h => exec_holdLimitExpiry_of_can_fallback h,
    fun _ _ h => exec_pcsLockAcquire_of_can h,
    fun _ _ h => exec_autonegDone_of_can h,
    fun _ _ h => exec_linkTrainingDone_of_can h,
    fun _ _ _ h => exec_encCountEdge_of_can h,
    fun _ h => exec_ppsOutFall_of_can h,
    fun _ _ _ h => exec_ptpMessageSend_of_can h⟩

end Sys2Proof.Machine

/-!
General rings keep the newest items (O15). The ring store's data moves through the cache and an event line may be raised
beside it: neither reaches the buffers (`State.cachedWrite_buf`, `State.raiseLine_buf`), so each ring operation is one
update of one ring.
-/
namespace Sys2Proof.Machine

/-! ## Cached accesses and event lines leave the buffers alone -/

@[simp] theorem State.markDirty_buf (s : State) (i : Nat) : (s.markDirty i).buf = s.buf := by
  unfold State.markDirty
  split
  · split <;> rfl
  · rfl

@[simp] theorem State.evict_buf (s : State) (l : CacheLine) : (s.evict l).buf = s.buf := by
  unfold State.evict
  dsimp only
  split
  · split <;> rfl
  · rfl

@[simp] theorem State.victim_buf (s : State) (cid line : Nat) : (s.victim cid line).2.buf = s.buf := by
  unfold State.victim
  dsimp only
  split <;> rfl

@[simp] theorem State.meetFault_buf (s : State) (i : Nat) : (s.meetFault i).1.buf = s.buf := by
  unfold State.meetFault
  dsimp only
  split
  · rfl
  · split
    · rfl
    · split <;> rfl

@[simp] theorem State.cacheMiss_buf (s : State) (cid : Nat) : (s.cacheMiss cid).buf = s.buf := rfl
@[simp] theorem State.setLine_buf (s : State) (i : Nat) (l : Option CacheLine) : (s.setLine i l).buf = s.buf := rfl

@[simp] theorem State.cacheTouch_buf (s : State) (cid line : Nat) (w : Bool) : (s.cacheTouch cid line w).1.buf = s.buf := by
  simp only [State.cacheTouch]
  split
  case h_1 => simp only [apply_ite State.buf, State.markDirty_buf, State.cacheMiss_buf, State.bump_buf,
    State.meetFault_buf, ite_self]
  case h_2 =>
    split
    · rfl
    · split
      · rfl
      · simp only [apply_ite State.buf, State.markDirty_buf, State.setLine_buf, ite_self]
        split
        · exact (State.evict_buf ..).trans (State.victim_buf ..)
        · exact State.victim_buf ..

@[simp] theorem State.cacheRange_buf (s : State) (cid a k : Nat) (w : Bool) : (s.cacheRange cid a k w).buf = s.buf :=
  foldl_keeps (·.buf) _ (fun s l => State.cacheTouch_buf s cid l w) _ s

@[simp] theorem State.cachedWrite_buf (s : State) (cid a : Nat) (bs : List Byte) : (s.cachedWrite cid a bs).buf = s.buf :=
  State.cacheRange_buf s cid a bs.length true

@[simp] theorem State.raiseLine_buf (s : State) (n c t line : Nat) : (s.raiseLine n c t line).1.buf = s.buf := by
  unfold State.raiseLine
  split <;> rfl

/-! ## The item store of a ring (R124) -/

@[simp] theorem State.ringStoreItem_buf (s : State) (g : GenRing) (x : BitVec 512) : (s.ringStoreItem g x).buf = s.buf := by
  unfold State.ringStoreItem
  split
  · exact State.cachedWrite_buf ..
  · rfl

@[simp] theorem State.ringReadItem_buf (s : State) (g : GenRing) (x : BitVec 512) :
    (s.ringReadItem g x).1.buf = s.buf := by
  unfold State.ringReadItem
  split
  · exact State.cacheRange_buf ..
  · rfl

theorem State.ringReadItem_item (s : State) (g : GenRing) (x : BitVec 512) :
    (s.ringReadItem g x).2 =
      if g.cfg.store = 1 then leBits 512 (Mem.read s.dram.mem (g.itemAt g.p) g.itemBytes) else x := by
  unfold State.ringReadItem
  split <;> rfl

/-- A ring is read from the buffers alone. -/
theorem State.ring_of_buf {s t : State} (h : t.buf = s.buf) (r : Nat) : t.ring r = s.ring r := by
  unfold State.ring
  rw [h]

/-- After a change of ring `r` made on a state with the same buffers, ring `r` has changed so and no other has. -/
theorem State.ring_modRing_of_buf {s t u : State} {r : Nat} {f : GenRing → GenRing}
    (wf : Tab.wf ({} : GenRing) s.buf.rings = true) (ht : t.buf = s.buf) (hu : u.buf = (t.modRing r f).buf) :
    u.ring r = f (s.ring r) ∧ ∀ m, m ≠ r → u.ring m = s.ring m := by
  rw [← ht] at wf
  exact ⟨by rw [State.ring_of_buf hu, State.ring_modRing _ _ _ wf, State.ring_of_buf ht],
    fun m hm => by rw [State.ring_of_buf hu, State.ring_modRing_ne _ _ _ _ wf hm, State.ring_of_buf ht]⟩

/-! ## Push and pop of a ring that is not resetting (R130, R131) -/

theorem ringPush_of_open {s : State} {r : Nat} (x : BitVec 512) (opened : (s.ring r).resetting = false) :
    ringPush s r x =
      (let g := s.ring r
       let s1 := (s.ringStoreItem g x).modRing r fun g => g.push x
       (if g.items.length = 0 ∧ g.cfg.neEvEn = 1 then
          (s1.raiseLine g.cfg.owner.toNat g.cfg.neCore.toNat g.cfg.neThread.toNat g.cfg.neLine.toNat).1 else s1,
        if g.items.length = g.depth then 0x02 else 0x00)) := by
  simp only [ringPush, opened, Bool.false_eq_true, if_false]

theorem ringPop_of_open {s : State} {r : Nat} {x : BitVec 512} (opened : (s.ring r).resetting = false)
    (oldest : (s.ring r).items[(s.ring r).popped]? = some x) :
    ringPop s r =
      (let y := s.ringReadItem (s.ring r) x
       (if (s.ring r).cfg.markEn = 1 then y.1.modRing r fun g => { g with popped := g.popped + 1 }
          else y.1.modRing r fun g => { g with items := g.items.drop 1 }, y.2, 0x00)) := by
  simp only [ringPop, opened, oldest, Bool.false_eq_true, if_false]
  split <;> rfl

theorem ringPop_of_empty {s : State} {r : Nat} (opened : (s.ring r).resetting = false) (empty : (s.ring r).items = []) :
    ringPop s r = (s, BitVec.allOnes 512, 0x01) := by
  simp only [ringPop, opened, empty, List.getElem?_nil, Bool.false_eq_true, if_false]

theorem GenRing.push_items (g : GenRing) (x : BitVec 512) :
    (g.push x).items = (if g.items.length = g.depth then g.items.drop 1 else g.items) ++ [x] := by
  simp only [GenRing.push, beq_iff_eq]

theorem GenRing.push_lost (g : GenRing) (x : BitVec 512) :
    (g.push x).lost = if g.items.length = g.depth then satInc g.lost else g.lost := by
  simp only [GenRing.push, beq_iff_eq]

/-- A push is the push of its ring and of no other, whether or not the event line of R125 is raised. -/
theorem ringPush_rings {s : State} {r : Nat} (x : BitVec 512) (wf : Tab.wf ({} : GenRing) s.buf.rings = true)
    (opened : (s.ring r).resetting = false) :
    (ringPush s r x).1.ring r = (s.ring r).push x ∧ ∀ m, m ≠ r → (ringPush s r x).1.ring m = s.ring m := by
  refine State.ring_modRing_of_buf (f := fun g => g.push x) wf (State.ringStoreItem_buf s (s.ring r) x) ?_
  rw [ringPush_of_open x opened]
  dsimp only
  split
  · exact State.raiseLine_buf ..
  · rfl

/-- A pop without MARK_EN drops the oldest item of its ring and touches no other. -/
theorem ringPop_rings {s : State} {r : Nat} {x : BitVec 512} (wf : Tab.wf ({} : GenRing) s.buf.rings = true)
    (opened : (s.ring r).resetting = false) (oldest : (s.ring r).items[(s.ring r).popped]? = some x)
    (unmarked : (s.ring r).cfg.markEn = 0) :
    (ringPop s r).1.ring r = { s.ring r with items := (s.ring r).items.drop 1 } ∧
      ∀ m, m ≠ r → (ringPop s r).1.ring m = s.ring m := by
  refine State.ring_modRing_of_buf (f := fun g => { g with items := g.items.drop 1 }) wf
    (State.ringReadItem_buf s (s.ring r) x) ?_
  rw [ringPop_of_open opened oldest]
  dsimp only
  rw [if_neg (by simp [unmarked])]

/-- Settles O15: a push and a pop each change their own ring as R130 and R131 say. -/
theorem ringsKeepTheNewestItems : Obligations.RingsKeepTheNewestItems := by
  unfold Obligations.RingsKeepTheNewestItems
  intro s r x wf opened
  refine ⟨?pushed, ringPop_of_empty opened, ?popped⟩
  case pushed =>
    obtain ⟨own, others⟩ := ringPush_rings x wf opened
    exact ⟨by rw [own, GenRing.push_items], by rw [own, GenRing.push_lost], by rw [ringPush_of_open x opened], others⟩
  case popped =>
    intro y ys items popped unmarked
    have oldest : (s.ring r).items[(s.ring r).popped]? = some y := by rw [items, popped]; rfl
    obtain ⟨own, others⟩ := ringPop_rings wf opened oldest unmarked
    refine ⟨?_, by rw [own, items]; rfl, others⟩
    rw [ringPop_of_open opened oldest]
    exact congrArg (·, 0x00) (State.ringReadItem_item s (s.ring r) y)

end Sys2Proof.Machine

/-!
Ring, channel, warp-ring, pool and host-ring commands (O34): one lemma for each command, then the statement itself. An
admitted packet executes once its own conditions hold (`runCmd_of_admits`); the rest of its `Can.x` decides those
conditions.
-/
namespace Sys2Proof.Machine

/-! ## General rings and channels (R126, R127, R366, R374) -/

theorem exec_ringConfig_of_can {q : Cmd} {s : State} (h : Can.ringConfig q s = true) :
    exec (.ringConfig q) s = .next (
      let c := RingCfg.ofTile (q.tile 1)
      let o := (s.ring q.h).cfg
      execPlan (setOp 0x801 .live RingCfg.rsv) q
        { keys := [(.ring, q.h)]
          eff :=
            let s1 := s.modRing q.h fun g =>
              if c.enable = 0 then { g.discard with cfg := c }
              else if o.enable = 0 then { g with cfg := c, items := [], w := 0, popped := 0, mark := none, markLost := false }
              else { g with cfg := c }
            if c.enable = 0 ∨ o.enable = 0 then s1.noMessages q.h else s1 }) := by
  simp only [Can.ringConfig, Bool.and_eq_true, Bool.not_eq_true'] at h
  obtain ⟨⟨⟨⟨⟨⟨⟨admitted, isRing⟩, good⟩, inDram⟩, owns⟩, storeRoom⟩, dramRoom⟩, fixed⟩ := h
  exact runCmd_of_admits admitted (.inl rfl)
    (List.forall_mem_cons.2 ⟨by simpa using isRing,
      List.forall_mem_cons.2 ⟨good, List.forall_mem_singleton.2 inDram⟩⟩) owns rfl
    (List.forall_mem_cons.2 ⟨storeRoom, List.forall_mem_cons.2 ⟨dramRoom, List.forall_mem_singleton.2 fixed⟩⟩)

theorem exec_ringGet_of_can {q : Cmd} {s : State} (h : Can.ringGet q s = true) :
    exec (.ringGet q) s = .next (
      let g := s.ring q.h
      execPlan (getOp 0x802 .live) q
        { keys := [(.ring, q.h)]
          changes := false
          replyTiles := 3
          eff := if q.clear then s.modRing q.h GenRing.clear else s
          tiles := [g.cfg.toTile, g.status.toTile] }) := by
  simp only [Can.ringGet, Bool.and_eq_true, decide_eq_true_eq] at h
  obtain ⟨⟨admitted, isRing⟩, mayRead⟩ := h
  exact runCmd_of_admits admitted (.inl rfl) (by simp [isRing]) mayRead rfl (by simp)

theorem exec_chanConfig_of_can {q : Cmd} {s : State} (h : Can.chanConfig q s = true) :
    exec (.chanConfig q) s = .next (
      execPlan (setOp 0x803 .live ChanCfg.rsv) q
        { keys := [(.chan, q.h)]
          eff := s.modChan q.h fun k => { k with cfg := ChanCfg.ofTile (q.tile 1) } }) := by
  simp only [Can.chanConfig, Bool.and_eq_true, Bool.not_eq_true'] at h
  obtain ⟨⟨⟨⟨⟨⟨⟨⟨admitted, isRing⟩, producer⟩, consumer⟩, messages⟩, isChannel⟩, fits⟩, owns⟩, disabled⟩ := h
  simp only [decide_eq_true_eq] at isRing producer consumer isChannel fits
  exact runCmd_of_admits admitted (.inl rfl)
    (List.forall_mem_cons.2 ⟨by simp [isRing, producer, consumer, messages],
      List.forall_mem_singleton.2 (by simp [isChannel, fits])⟩) owns rfl
    (List.forall_mem_singleton.2 disabled)

theorem exec_chanGet_of_can {q : Cmd} {s : State} (h : Can.chanGet q s = true) :
    exec (.chanGet q) s = .next (
      let g := s.ring q.h
      let k := s.chan q.h
      execPlan (getOp 0x804 .live) q
        { keys := [(.chan, q.h)]
          changes := false
          replyTiles := 3
          eff := if q.clear then (s.modChan q.h fun k => { k with commits := 0, msgLost := 0, stageLost := 0 }).modRing q.h
                GenRing.clear else s
          data := dat 16 k.commits ||| dat 20 k.msgLost ||| dat 24 k.stageLost
          tiles := [k.cfg.toTile, g.status.toTile] }) := by
  simp only [Can.chanGet, Bool.and_eq_true, decide_eq_true_eq] at h
  obtain ⟨⟨⟨admitted, isRing⟩, isChannel⟩, mayRead⟩ := h
  exact runCmd_of_admits admitted (.inl rfl) (by simp [isRing, isChannel]) mayRead rfl (by simp)

/-! ## Warp rings (R127, R141) -/

theorem exec_warpConfig_of_can {q : Cmd} {s : State} (h : Can.warpConfig q s = true) :
    exec (.warpConfig q) s = .next (
      let c := WarpCfg.ofTile (q.tile 1)
      let o := s.warp q.h
      execPlan (setOp 0x810 .all WarpCfg.rsv) q
        { keys := [(.warp, q.h)]
          eff := s.modWarp q.h fun w =>
            { cfg := c
              exp := if c.expDepthLog2 = o.cfg.expDepthLog2 then w.exp else { w.exp with w := 0, p := 0, l := 0, slots := [] }
              norm := if c.normDepthLog2 = o.cfg.normDepthLog2 then w.norm
                else { w.norm with w := 0, p := 0, l := 0, slots := [] } } }) := by
  simp only [Can.warpConfig, Bool.and_eq_true, Bool.not_eq_true'] at h
  obtain ⟨⟨⟨⟨⟨⟨⟨⟨⟨⟨⟨⟨admitted, isPort⟩, ownLanes⟩, expDepth⟩, normDepth⟩, sl0⟩, rxPool⟩, rxPoolX⟩, room⟩, portOff⟩, mode⟩,
    expEmpty⟩, normEmpty⟩ := h
  exact runCmd_of_admits admitted (.inl rfl)
    (List.forall_mem_cons.2 ⟨by simpa [ownLanes] using isPort,
      List.forall_mem_singleton.2 (by simp [expDepth, normDepth])⟩) sl0 rfl
    (List.forall_mem_cons.2 ⟨by simpa using And.intro rxPool rxPoolX, List.forall_mem_cons.2 ⟨room,
      List.forall_mem_cons.2 ⟨portOff, List.forall_mem_cons.2 ⟨mode, List.forall_mem_cons.2 ⟨expEmpty, List.forall_mem_singleton.2 normEmpty⟩⟩⟩⟩⟩)

theorem exec_warpGet_of_can {q : Cmd} {s : State} (h : Can.warpGet q s = true) :
    exec (.warpGet q) s = .next (
      let w := s.warp q.h
      execPlan (getOp 0x811 .all) q
        { keys := [(.warp, q.h)]
          changes := false
          replyTiles := 4
          eff := if q.clear then s.modWarp q.h fun w => { w with exp := w.exp.clear, norm := w.norm.clear } else s
          tiles := [w.cfg.toTile, (w.exp.status w.cfg.expDepthLog2.toNat).toTile,
              (w.norm.status w.cfg.normDepthLog2.toNat).toTile] }) := by
  simp only [Can.warpGet, Bool.and_eq_true, Bool.not_eq_true', decide_eq_true_eq] at h
  obtain ⟨⟨⟨admitted, isPort⟩, ownLanes⟩, mayClear⟩ := h
  exact runCmd_of_admits admitted (.inl rfl) (by simp [isPort, ownLanes]) mayClear rfl (by simp)

/-! ## Pools (R150, R611) -/

theorem exec_poolConfig_of_can {q : Cmd} {s : State} (h : Can.poolConfig q s = true) :
    exec (.poolConfig q) s = .next (
      let c := PoolCfg.ofTile (q.tile 1)
      let o := (s.pool q.h).cfg
      execPlan (setOp 0x820 .live PoolCfg.rsv) q
        { keys := [(.pool, q.h)]
          eff := ((if o.enable = 1 ∧ c.enable = 0 then s.freePool q.h else s).modPool q.h fun p =>
            { p with cfg := c }).noteFrees s }) := by
  simp only [Can.poolConfig, Bool.and_eq_true, Bool.not_eq_true'] at h
  obtain ⟨⟨⟨⟨⟨⟨⟨⟨admitted, isPool⟩, good⟩, sl0⟩, apart⟩, cellRoom⟩, bufRoom⟩, fixed⟩, empty⟩ := h
  exact runCmd_of_admits admitted (.inl rfl)
    (List.forall_mem_cons.2 ⟨by simpa using isPool, List.forall_mem_singleton.2 good⟩) sl0 rfl
    (List.forall_mem_cons.2 ⟨apart, List.forall_mem_cons.2 ⟨cellRoom, List.forall_mem_cons.2 ⟨bufRoom,
      List.forall_mem_cons.2 ⟨fixed, List.forall_mem_singleton.2 empty⟩⟩⟩⟩)

theorem exec_poolGet_of_can {q : Cmd} {s : State} (h : Can.poolGet q s = true) :
    exec (.poolGet q) s = .next (
      let p := s.pool q.h
      let free := BitVec.ofNat 32 (s.freeCount q.h)
      execPlan (getOp 0x821 .live) q
        { keys := [(.pool, q.h)]
          changes := false
          replyTiles := 3
          eff := if q.clear then s.modPool q.h fun p =>
                { p with st := { held := p.st.held, lostBuf := p.st.lostBuf, lowFree := free } } else s
          tiles := [p.cfg.toTile, { p.st with freeCount := free }.toTile] }) := by
  simp only [Can.poolGet, Bool.and_eq_true, decide_eq_true_eq] at h
  obtain ⟨⟨admitted, isPool⟩, mayRead⟩ := h
  exact runCmd_of_admits admitted (.inl rfl) (by simp [isPool]) mayRead rfl (by simp)

/-! ## Host rings (R575, R576, R610) -/

theorem exec_hrAssign_of_can {q : Cmd} {s : State} (h : Can.hrAssign q s = true) :
    exec (.hrAssign q) s = .next (
      execPlan (actOp 0x830 .live (used 16 1)) q
        { keys := [(.hr, q.h)]
          eff := s.modHr q.h fun g => { g with cfg := { g.cfg with owner := BitVec.ofNat 6 (q.u8 16) } } }) := by
  simp only [Can.hrAssign, Bool.and_eq_true, Bool.not_eq_true'] at h
  obtain ⟨⟨⟨⟨admitted, isRing⟩, isSlice⟩, sl0⟩, disabled⟩ := h
  simp only [decide_eq_true_eq] at isRing isSlice
  exact runCmd_of_admits admitted (.inl rfl) (by simp [isRing, isSlice]) sl0 rfl
    (List.forall_mem_singleton.2 disabled)

theorem exec_hrConfig_of_can {q : Cmd} {s : State} (h : Can.hrConfig q s = true) :
    exec (.hrConfig q) s = .next (
      let c := HrCfg.ofTile (q.tile 1)
      let o := (s.hr q.h).cfg
      execPlan (setOp 0x831 .live HrCfg.rsv) q
        { keys := [(.hr, q.h)]
          eff := s.modHr q.h fun g =>
            if o.enable = 0 ∧ c.enable = 1 then { g with cfg := c, pos := 0, ready := [], kick := false, readAt := 0 }
            else if c.enable = 0 then { g with cfg := c, ready := [], kick := false }
            else { g with cfg := c } }) := by
  simp only [Can.hrConfig, Bool.and_eq_true, Bool.not_eq_true'] at h
  obtain ⟨⟨⟨⟨⟨⟨⟨⟨⟨⟨admitted, isRing⟩, depth⟩, poll⟩, aligned⟩, owns⟩, sameOwner⟩, vector⟩, drainRoom⟩, fixed⟩, idle⟩ := h
  simp only [decide_eq_true_eq] at isRing aligned sameOwner
  exact runCmd_of_admits admitted (.inl rfl)
    (List.forall_mem_singleton.2 (by simp [isRing, depth, poll, aligned])) owns idle
    (List.forall_mem_cons.2 ⟨by simp [sameOwner], List.forall_mem_cons.2 ⟨vector, List.forall_mem_cons.2 ⟨drainRoom,
      List.forall_mem_singleton.2 fixed⟩⟩⟩)

theorem exec_hrGet_of_can {q : Cmd} {s : State} (h : Can.hrGet q s = true) :
    exec (.hrGet q) s = .next (
      let g := s.hr q.h
      execPlan (getOp 0x832 .live) q
        { keys := [(.hr, q.h)]
          changes := false
          replyTiles := 2
          eff := s
          data := dat 16 g.pos
          tiles := [g.cfg.toTile] }) := by
  simp only [Can.hrGet, Bool.and_eq_true, decide_eq_true_eq] at h
  obtain ⟨⟨admitted, isRing⟩, mayRead⟩ := h
  exact runCmd_of_admits admitted (.inl rfl) (by simp [isRing]) mayRead rfl (by simp)

theorem exec_hrKick_of_can {q : Cmd} {s : State} (h : Can.hrKick q s = true) :
    exec (.hrKick q) s = .next (
      execPlan (actOp 0x833 .live 0) q
        { keys := [(.hr, q.h)]
          changes := false
          eff := s.modHr q.h fun g => { g with kick := g.cfg.enable = 1 } }) := by
  simp only [Can.hrKick, Bool.and_eq_true, decide_eq_true_eq] at h
  obtain ⟨⟨admitted, isRing⟩, owns⟩ := h
  exact runCmd_of_admits admitted (.inl rfl) (by simp [isRing]) (decide_eq_true owns) rfl (by simp)

/-- Settles O34: each command answers what its lemma above says. -/
theorem ringAndPoolCommands : Obligations.RingAndPoolCommands := by
  unfold Obligations.RingAndPoolCommands
  exact ⟨fun _ _ h => exec_ringConfig_of_can h,
    fun _ _ h => exec_ringGet_of_can h,
    fun _ _ h => exec_chanConfig_of_can h,
    fun _ _ h => exec_chanGet_of_can h,
    fun _ _ h => exec_warpConfig_of_can h,
    fun _ _ h => exec_warpGet_of_can h,
    fun _ _ h => exec_poolConfig_of_can h,
    fun _ _ h => exec_poolGet_of_can h,
    fun _ _ h => exec_hrAssign_of_can h,
    fun _ _ h => exec_hrConfig_of_can h,
    fun _ _ h => exec_hrGet_of_can h,
    fun _ _ h => exec_hrKick_of_can h⟩

end Sys2Proof.Machine

/-!
Pool, reference, ring, time, task, delay and packet requests (O52): one lemma for each request and form, then the
statement itself. A request that may be served answers what its operation gives (`serve_asked_eq`); the checks of R311
that a family of operations shares (`poolOp`, `ringOp`, `taskOp`) are passed once, each in a lemma of its own.
-/
namespace Sys2Proof.Machine

/-- A request that may be served answers the service that its operation gives. -/
theorem serve_asked_eq {s : State} {k code op : Nat} {o : HelperOp} {lens : Nat → Bool} {packet : Bool}
    {run : State → HelperOp → Served} {r : Served} (asked : s.asked k code op o = true)
    (len : lens o.word.blen.toNat = true) (kind : (packet && o.inst.task) = false) (hr : run s o = r) :
    ok s (s.serve k code op lens packet run) = .next (r.close o) :=
  (serve_asked asked len kind).trans (by rw [hr])

/-! ## Pools (R151, R154) -/

theorem poolOp_of_enabled {run : State → HelperOp → Nat → Served} {s : State} {o : HelperOp} (isPool : o.u 8 1 < 64)
    (enabled : (s.pool (o.u 8 1)).cfg.enable ≠ 0) : poolOp run s o = run s o (o.u 8 1) :=
  if_neg (not_or.mpr ⟨Nat.not_le.mpr isPool, enabled⟩)

theorem poolAlloc_of_owned {s : State} {b : Nat} {x : State × Nat} (alloc : s.allocOne b = some x) :
    poolAlloc s b (s.pool b).cfg.owner.toNat = (x.1, handleOf x.2, 0x00) := by
  simp only [poolAlloc, alloc, ne_eq, not_true_eq_false, if_false]

theorem exec_hPoolAlloc_of_can {k : Nat} {o : HelperOp} {x : State × Nat} {s : State} (h : Can.hPoolAlloc k o x s = true) :
    exec (.hPoolAlloc k) s = .next (
      Served.close
        { state := x.1.modRecd o fun r => { r with handles := r.handles ++ [handleOf x.2] }
          out := [(12, bytesOf ((handleOf x.2).setWidth 32) 4)] } o) := by
  simp only [Can.hPoolAlloc, Bool.and_eq_true, beq_iff_eq, bne_iff_ne, decide_eq_true_eq] at h
  obtain ⟨⟨⟨⟨⟨⟨⟨asked, len⟩, isPool⟩, enabled⟩, owned⟩, recorded⟩, alloc⟩, carried⟩ := h
  refine serve_asked_eq asked (decide_eq_true len) rfl ((poolOp_of_enabled isPool enabled).trans ?_)
  unfold allocOp
  rw [if_neg fun full => absurd full.2 (Nat.not_le.mpr recorded), ← owned, poolAlloc_of_owned alloc]
  dsimp only
  rw [if_pos rfl, if_pos carried]

theorem poolRefAdd_of_good {s : State} {b n : Nat} {h : BitVec 24} (good : s.poolCheck b n h = 0)
    (live : (s.cell (recOf h)).alloc ≠ 0) (room : (s.cell (recOf h)).refcnt ≠ 255) :
    poolRefAdd s b n h = (s.modRecord (recOf h) fun c => { c with refcnt := c.refcnt + 1 }, 0) := by
  simp only [poolRefAdd, good, live, room, ne_eq, not_true_eq_false, if_false]

theorem exec_hRefAdd_of_can {k : Nat} {o : HelperOp} {s : State} (h : Can.hRefAdd k o s = true) :
    exec (.hRefAdd k) s = .next (
      Served.close { state := s.modRecord (recOf (o.handleAt 12)) fun c => { c with refcnt := c.refcnt + 1 } } o) := by
  simp only [Can.hRefAdd, Bool.and_eq_true, beq_iff_eq, bne_iff_ne, decide_eq_true_eq] at h
  obtain ⟨⟨⟨⟨⟨⟨asked, len⟩, isPool⟩, enabled⟩, good⟩, live⟩, room⟩ := h
  refine serve_asked_eq asked (decide_eq_true len) rfl ((poolOp_of_enabled isPool enabled).trans ?_)
  rw [poolRefAdd_of_good good live room]
  rfl

/-- A FREE whose every record is good and allocated drops one reference of each (R154). -/
theorem poolFree_of_good {s : State} {b n : Nat} {h : BitVec 24} {whole : Bool} {is : List Nat}
    (cells : (if whole then s.chain chainFuel (recOf h) else [recOf h]) = is) (good : s.poolCheck b n h = 0)
    (sound : whole = true → s.frameBad h = none)
    (live : ∀ i ∈ is, s.poolCheck b n (handleOf i) = 0 ∧ (s.cell i).alloc ≠ 0) :
    poolFree s b n h whole = (is.foldl State.dropRef s, 0) := by
  have intact : ¬ (whole = true ∧ (s.frameBad h).isSome = true) := fun bad => by simp [sound bad.1] at bad
  have noneBad : (is.map fun i => if s.poolCheck b n (handleOf i) ≠ 0 then s.poolCheck b n (handleOf i)
      else if (s.cell i).alloc = 0 then 0x12 else 0).find? (· ≠ 0) = none := by
    rw [List.find?_eq_none]
    intro e he
    obtain ⟨i, hi, rfl⟩ := List.mem_map.1 he
    obtain ⟨goodRec, allocated⟩ := live i hi
    rw [if_neg (not_not.mpr goodRec), if_neg allocated]
    decide
  unfold poolFree
  dsimp only
  rw [cells, good, noneBad, if_neg intact]
  simp

theorem freeOp_of_good {s : State} {o : HelperOp} {b : Nat} {is : List Nat} {hs : List (BitVec 24)}
    (freed : poolFree s b o.slice (o.handleAt 12) ((nthByte o.block 9).getLsbD 0) = (is.foldl State.dropRef s, 0))
    (handles : (if (nthByte o.block 9).getLsbD 0 then (s.chain chainFuel (recOf (o.handleAt 12))).map handleOf
      else [o.handleAt 12]) = hs) :
    freeOp s o b =
      { state := (is.foldl State.dropRef s).modRecd o fun r =>
          { r with handles := hs.foldl (fun l h => l.erase h) r.handles } } := by
  unfold freeOp
  dsimp only
  rw [freed, handles]
  rfl

theorem exec_hFree_of_can {k : Nat} {o : HelperOp} {s : State} (h : Can.hFree k o s = true) :
    exec (.hFree k) s = .next (
      Served.close
        { state := (s.dropRef (recOf (o.handleAt 12))).modRecd o fun r =>
            { r with handles := r.handles.erase (o.handleAt 12) } } o) := by
  simp only [Can.hFree, Bool.and_eq_true, Bool.not_eq_true', beq_iff_eq, bne_iff_ne, decide_eq_true_eq] at h
  obtain ⟨⟨⟨⟨⟨⟨⟨asked, len⟩, isPool⟩, enabled⟩, single⟩, good⟩, goodRec⟩, live⟩ := h
  have single := Bool.eq_false_iff.mp single
  have freed := poolFree_of_good (if_neg single) good (fun whole => absurd whole single)
    (List.forall_mem_singleton.2 ⟨goodRec, live⟩)
  refine serve_asked_eq asked (decide_eq_true len) rfl ((poolOp_of_enabled isPool enabled).trans ?_)
  rw [freeOp_of_good freed (if_neg single)]
  simp only [List.foldl_cons, List.foldl_nil]

theorem exec_hFree_of_can_whole {k : Nat} {o : HelperOp} {s : State} (h : Can.hFree_whole k o s = true) :
    exec (.hFree k) s = .next (
      let is := s.chain chainFuel (recOf (o.handleAt 12))
      Served.close
        { state := (is.foldl State.dropRef s).modRecd o fun r =>
            { r with handles := (is.map handleOf).foldl (fun l h => l.erase h) r.handles } } o) := by
  simp only [Can.hFree_whole, Bool.and_eq_true, beq_iff_eq, bne_iff_ne, decide_eq_true_eq, List.all_eq_true,
    Option.isNone_iff_eq_none] at h
  obtain ⟨⟨⟨⟨⟨⟨⟨asked, len⟩, isPool⟩, enabled⟩, whole⟩, good⟩, sound⟩, live⟩ := h
  exact serve_asked_eq asked (decide_eq_true len) rfl ((poolOp_of_enabled isPool enabled).trans
    (freeOp_of_good (poolFree_of_good (if_pos whole) good (fun _ => sound) live) (if_pos whole)))

/-! ## Rings (R130 to R132) -/

theorem ringOp_of_open {items : Bool} {bad : HelperOp → Bool} {run : State → HelperOp → Nat → Served} {s : State}
    {o : HelperOp} (isRing : o.u 8 2 < 4096) (len : items = true → o.word.blen.toNat = itemWords 1 s (o.u 8 2))
    (general : (s.ring (o.u 8 2)).cfg.kind = 0) (enabled : (s.ring (o.u 8 2)).cfg.enable ≠ 0) (good : bad o = false)
    (owned : (s.ring (o.u 8 2)).cfg.owner.toNat = o.slice) : ringOp items bad run s o = run s o (o.u 8 2) := by
  have fits : ¬ (items = true ∧ o.word.blen.toNat ≠ itemWords 1 s (o.u 8 2)) := fun wrong => wrong.2 (len wrong.1)
  unfold ringOp
  dsimp only
  rw [if_neg (Nat.not_le.mpr isRing), if_neg fits,
    if_neg (not_or.mpr ⟨not_not.mpr general, not_or.mpr ⟨enabled, Bool.eq_false_iff.mp good⟩⟩), if_neg (not_not.mpr owned)]

theorem exec_hRingPush_of_can {k : Nat} {o : HelperOp} {s : State} (h : Can.hRingPush k o s = true) :
    exec (.hRingPush k) s = .next (
      let r := o.u 8 2
      let g := s.ring r
      let x := leBits 512 (o.b 16 (s.ring r).itemBytes)
      let s1 := (s.ringStoreItem g x).modRing r fun g => g.push x
      Served.close
        { state := if g.items.length = 0 ∧ g.cfg.neEvEn = 1 then
              (s1.raiseLine g.cfg.owner.toNat g.cfg.neCore.toNat g.cfg.neThread.toNat g.cfg.neLine.toNat).1 else s1
          status := if g.items.length = g.depth then 0x02 else 0x00 } o) := by
  simp only [Can.hRingPush, Bool.and_eq_true, Bool.not_eq_true', beq_iff_eq, bne_iff_ne, decide_eq_true_eq] at h
  obtain ⟨⟨⟨⟨⟨⟨⟨asked, isRing⟩, general⟩, enabled⟩, owned⟩, opened⟩, blen⟩, len⟩ := h
  exact serve_asked_eq asked blen rfl
    ((ringOp_of_open isRing (fun _ => len) general enabled rfl owned).trans (congrArg ofPair (ringPush_of_open _ opened)))

theorem exec_hRingPop_of_can {k : Nat} {o : HelperOp} {x : BitVec 512} {s : State} (h : Can.hRingPop k o x s = true) :
    exec (.hRingPop k) s = .next (
      let r := o.u 8 2
      let y := s.ringReadItem (s.ring r) x
      Served.close
        { state := if (s.ring r).cfg.markEn = 1 then y.1.modRing r fun g => { g with popped := g.popped + 1 }
            else y.1.modRing r fun g => { g with items := g.items.drop 1 }
          out := [(16, bytesOf y.2 (s.ring r).itemBytes)] } o) := by
  simp only [Can.hRingPop, Bool.and_eq_true, Bool.not_eq_true', beq_iff_eq, bne_iff_ne, decide_eq_true_eq] at h
  obtain ⟨⟨⟨⟨⟨⟨⟨⟨asked, isRing⟩, general⟩, enabled⟩, owned⟩, opened⟩, blen⟩, len⟩, oldest⟩ := h
  refine serve_asked_eq asked blen rfl ((ringOp_of_open isRing (fun _ => len) general enabled rfl owned).trans ?_)
  rw [ringPop_of_open opened oldest]
  rfl

theorem ringMark_of_open {s : State} {r : Nat} (opened : (s.ring r).resetting = false)
    (marks : (s.ring r).cfg.markEn ≠ 0) :
    ringMark s r = (s.modRing r fun g => { g with mark := some g.p, markLost := false }, 0x00) := by
  simp only [ringMark, opened, marks, Bool.false_eq_true, if_false]

theorem exec_hRingMark_of_can {k : Nat} {o : HelperOp} {s : State} (h : Can.hRingMark k o s = true) :
    exec (.hRingMark k) s = .next (
      Served.close { state := s.modRing (o.u 8 2) fun g => { g with mark := some g.p, markLost := false } } o) := by
  simp only [Can.hRingMark, Bool.and_eq_true, Bool.not_eq_true', beq_iff_eq, bne_iff_ne, decide_eq_true_eq] at h
  obtain ⟨⟨⟨⟨⟨⟨⟨asked, isRing⟩, general⟩, enabled⟩, owned⟩, opened⟩, len⟩, marks⟩ := h
  exact serve_asked_eq asked (decide_eq_true len) rfl
    ((ringOp_of_open (items := false) isRing nofun general enabled rfl owned).trans
      (congrArg ofPair (ringMark_of_open opened marks)))

theorem ringRewind_of_marked {s : State} {r m : Nat} (opened : (s.ring r).resetting = false)
    (marks : (s.ring r).cfg.markEn ≠ 0) (kept : (s.ring r).markLost = false) (marked : (s.ring r).mark = some m) :
    ringRewind s r = (s.modRing r fun g => { g with popped := m - g.l }, 0x00) := by
  simp only [ringRewind, opened, marks, kept, marked, Bool.false_eq_true, if_false]

theorem exec_hRingRewind_of_can {k : Nat} {o : HelperOp} {m : Nat} {s : State} (h : Can.hRingRewind k o m s = true) :
    exec (.hRingRewind k) s = .next (
      Served.close { state := s.modRing (o.u 8 2) fun g => { g with popped := m - g.l } } o) := by
  simp only [Can.hRingRewind, Bool.and_eq_true, Bool.not_eq_true', beq_iff_eq, bne_iff_ne, decide_eq_true_eq] at h
  obtain ⟨⟨⟨⟨⟨⟨⟨⟨⟨asked, isRing⟩, general⟩, enabled⟩, owned⟩, opened⟩, len⟩, marks⟩, kept⟩, marked⟩ := h
  exact serve_asked_eq asked (decide_eq_true len) rfl
    ((ringOp_of_open (items := false) isRing nofun general enabled rfl owned).trans
      (congrArg ofPair (ringRewind_of_marked opened marks kept marked)))

theorem ringRelease_of_popped {s : State} {r n : Nat} (opened : (s.ring r).resetting = false)
    (marks : (s.ring r).cfg.markEn ≠ 0) (popped : n ≤ (s.ring r).popped) :
    ringRelease s r n = (s.modRing r fun g =>
      { g with items := g.items.drop n, popped := g.popped - n
               mark := match g.mark with | some m => if m < g.l + n then none else some m | none => none }, 0x00) :=
  (if_neg (Bool.eq_false_iff.mp opened)).trans ((if_neg marks).trans (if_neg (Nat.not_lt.mpr popped)))

theorem exec_hRingRelease_of_can {k : Nat} {o : HelperOp} {s : State} (h : Can.hRingRelease k o s = true) :
    exec (.hRingRelease k) s = .next (
      let n := o.u 10 2
      Served.close
        { state := s.modRing (o.u 8 2) fun g =>
            { g with items := g.items.drop n, popped := g.popped - n
                     mark := match g.mark with | some m => if m < g.l + n then none else some m | none => none } } o) := by
  simp only [Can.hRingRelease, Bool.and_eq_true, Bool.not_eq_true', beq_iff_eq, bne_iff_ne, decide_eq_true_eq] at h
  obtain ⟨⟨⟨⟨⟨⟨⟨⟨⟨asked, isRing⟩, general⟩, enabled⟩, owned⟩, opened⟩, len⟩, marks⟩, notNone⟩, popped⟩ := h
  exact serve_asked_eq asked (decide_eq_true len) rfl
    ((ringOp_of_open (items := false) isRing nofun general enabled (decide_eq_false notNone) owned).trans
      (congrArg ofPair (ringRelease_of_popped opened marks popped)))

/-! ## Time (R78, R327) -/

theorem exec_hTsConvert_of_can {k : Nat} {o : HelperOp} {s : State} (h : Can.hTsConvert k o s = true) :
    exec (.hTsConvert k) s = .next (
      let c := s.convert (o.u 8 1) (o.u 9 1) (o.u 16 8)
      Served.close
        { state := s, status := if c.status = 0 then 0 else 0x3A, out := [(24, bytesOf (BitVec.ofNat 64 c.value) 8)] } o) := by
  simp only [Can.hTsConvert, Bool.and_eq_true, beq_iff_eq, decide_eq_true_eq] at h
  obtain ⟨⟨⟨⟨asked, len⟩, isFrom⟩, isTo⟩, converts⟩ := h
  refine serve_asked_eq asked (decide_eq_true len) rfl ?_
  unfold convertOp
  dsimp only
  rw [if_neg (not_or.mpr ⟨Nat.not_lt.mpr isFrom, Nat.not_lt.mpr isTo⟩), if_pos converts]

theorem exec_hPickSteer_of_can {k : Nat} {o : HelperOp} {s : State} (h : Can.hPickSteer k o s = true) :
    exec (.hPickSteer k) s = .next (
      let n := o.u 8 1 - 1
      let p := s.pick n
      let t := o.u 16 8
      let v := s.wallToPick n t
      let ph := o.u 24 4 % 2 ^ 20
      let role (s : State) (pri : Bool) : State :=
        if p.code pri = 5 then s.refEventAt n pri (s.now - (s.wall.toNat - t)) (fun _ => ph) v.value s.now else s
      Served.close { state := (role (role s true) false).modPick n fun p => { p with lastSteer := some t } } o) := by
  simp only [Can.hPickSteer, Bool.and_eq_true, Bool.or_eq_true, Bool.not_eq_true', beq_iff_eq, decide_eq_true_eq] at h
  obtain ⟨⟨⟨⟨⟨⟨⟨⟨⟨asked, len⟩, isPick⟩, steers⟩, on⟩, steered⟩, past⟩, recent⟩, converts⟩, newer⟩ := h
  have fresh : ¬ (((s.pick (o.u 8 1 - 1)).code true ≠ 5 ∧ (s.pick (o.u 8 1 - 1)).code false ≠ 5) ∨
      o.u 16 8 > s.wall.toNat ∨ o.u 16 8 + 10000000 < s.wall.toNat ∨
      (s.wallToPick (o.u 8 1 - 1) (o.u 16 8)).status ≥ 2 ∨
      (s.pick (o.u 8 1 - 1)).lastSteer.any (fun l => o.u 16 8 ≤ l) = true) := by
    simp only [newer, Bool.false_eq_true, or_false]
    omega
  refine serve_asked_eq asked (decide_eq_true len) rfl ?_
  unfold steerOp
  dsimp only
  rw [if_neg (by simp [isPick]), if_neg (not_not.mpr steers), if_neg (by simp [on]), if_neg fresh]

/-! ## Tasks (R204, R221) -/

theorem taskOp_of_owned {run : State → HelperOp → Nat → Served} {s : State} {o : HelperOp} (isTask : o.u 8 2 < 2048)
    (live : (s.bg (o.u 8 2)).live = true) (owned : (s.bg (o.u 8 2)).obj.owner.toNat = o.slice) :
    taskOp run s o = run s o (o.u 8 2) := by
  unfold taskOp
  dsimp only
  rw [if_neg (not_or.mpr ⟨Nat.not_le.mpr isTask, by simp [live]⟩), if_neg (not_not.mpr owned)]

/-- A kick of an idle task makes it ready (R204). -/
theorem State.kick_of_idle {s : State} {n : Nat} (idle : (s.bg n).obj.state = 0) :
    s.kick n =
      ((s.modBg n fun b => { b with kickAt := some s.now, obj := { b.obj with state := 1 } }).pushReady
        (listKey (s.bg n).obj.tg.toNat (s.bg n).obj.prio.toNat) true n false, 0) := by
  simp only [State.kick, idle, if_true]

theorem exec_hTaskKickHelper_of_can {k : Nat} {o : HelperOp} {s : State} (h : Can.hTaskKickHelper k o s = true) :
    exec (.hTaskKickHelper k) s = .next (
      let b := (s.bg (o.u 8 2)).obj
      Served.close
        { state := (s.modBg (o.u 8 2) fun b => { b with kickAt := some s.now, obj := { b.obj with state := 1 } }).pushReady
            (listKey b.tg.toNat b.prio.toNat) true (o.u 8 2) false } o) := by
  simp only [Can.hTaskKickHelper, Bool.and_eq_true, beq_iff_eq, decide_eq_true_eq] at h
  obtain ⟨⟨⟨⟨⟨asked, len⟩, isTask⟩, live⟩, owned⟩, idle⟩ := h
  exact serve_asked_eq asked (decide_eq_true len) rfl
    ((taskOp_of_owned isTask live owned).trans (congrArg ofPair (State.kick_of_idle idle)))

theorem exec_hTaskCancelHelper_of_can {k : Nat} {o : HelperOp} {s : State} (h : Can.hTaskCancelHelper k o s = true) :
    exec (.hTaskCancelHelper k) s = .next (
      Served.close { state := s.cancel (o.u 8 2) ((nthByte o.block 10).getLsbD 0) } o) := by
  simp only [Can.hTaskCancelHelper, Bool.and_eq_true, beq_iff_eq, decide_eq_true_eq] at h
  obtain ⟨⟨⟨⟨asked, len⟩, isTask⟩, live⟩, owned⟩ := h
  exact serve_asked_eq asked (decide_eq_true len) rfl (taskOp_of_owned isTask live owned)

/-! ## Delay entries (R214, R216, R220) -/

/-- An arm that is asked for is made by `State.delayArm`. -/
theorem exec_hDelayArmHelper_of_asked {k : Nat} {o : HelperOp} {s : State} (asked : s.asked k 11 3 o = true) :
    exec (.hDelayArmHelper k) s = .next (s.delayArm o) := by
  simp only [State.asked, Bool.and_eq_true, Bool.not_eq_true', beq_iff_eq] at asked
  obtain ⟨running, named⟩ := asked
  refine (ok_of_running _ running).trans ?_
  rw [named]

/-- A good arm takes a free entry: one of KIND COMPLETE parks its request, and its handle is written at once (R216). -/
theorem State.delayArm_of_free {s : State} {o : HelperOp} {i : Nat} (len : o.word.blen = 5)
    (good : ¬ (o.delayReq.badField = true ∨ o.delayReq.kind = 1 ∧ (!o.counted) = true))
    (owns : s.delayOwns o.slice o.delayReq = true) (time : s.badTime o.delayReq = false)
    (free : s.freeDelay = some i) :
    s.delayArm o =
      if o.delayReq.kind = 1 then
        let s1 := s.armDelay o.slice i { o.delayReq with target := o.inst.target } o.tag (some o.id)
        let s2 := { s1 with weft.ops := s1.weft.ops.map fun (x : HelperOp) =>
          if x.id = o.id then { x with parked := true, held := false } else x }
        if s.carries o then s2.lmWrite o.core (o.addr + 32) (bytesOf (BitVec.ofNat 16 i) 2) else s2
      else Served.close
        { state := s.armDelay o.slice i o.delayReq o.tag none, out := [(32, bytesOf (BitVec.ofNat 16 i) 2)] } o := by
  simp only [State.delayArm, free]
  rw [if_neg (not_not.mpr len), if_neg good, if_neg (by simp [owns]), if_neg (by simp [time])]

/-- While every entry is armed a good arm waits, and counts once (R214). -/
theorem State.delayArm_of_full {s : State} {o : HelperOp} (len : o.word.blen = 5)
    (good : ¬ (o.delayReq.badField = true ∨ o.delayReq.kind = 1 ∧ (!o.counted) = true))
    (owns : s.delayOwns o.slice o.delayReq = true) (time : s.badTime o.delayReq = false) (full : s.freeDelay = none) :
    s.delayArm o =
      if o.held then s
      else ({ s with weft.ops := s.weft.ops.map fun (x : HelperOp) =>
        if x.id = o.id then { x with held := true } else x } : State).bump .delayHeld 0 := by
  simp only [State.delayArm, full]
  rw [if_neg (not_not.mpr len), if_neg good, if_neg (by simp [owns]), if_neg (by simp [time])]

theorem exec_hDelayArmHelper_of_can {k : Nat} {o : HelperOp} {i : Nat} {s : State}
    (h : Can.hDelayArmHelper k o i s = true) :
    exec (.hDelayArmHelper k) s = .next (
      Served.close
        { state := s.armDelay o.slice i o.delayReq o.tag none, out := [(32, bytesOf (BitVec.ofNat 16 i) 2)] } o) := by
  simp only [Can.hDelayArmHelper, Bool.and_eq_true, Bool.not_eq_true', beq_iff_eq, bne_iff_ne] at h
  obtain ⟨⟨⟨⟨⟨⟨asked, len⟩, good⟩, kind⟩, owns⟩, time⟩, free⟩ := h
  rw [exec_hDelayArmHelper_of_asked asked, State.delayArm_of_free len (by simp [good, kind]) owns time free, if_neg kind]

theorem exec_hDelayArmHelper_of_can_complete {k : Nat} {o : HelperOp} {i : Nat} {s : State}
    (h : Can.hDelayArmHelper_complete k o i s = true) :
    exec (.hDelayArmHelper k) s = .next (
      let s1 := s.armDelay o.slice i { o.delayReq with target := o.inst.target } o.tag (some o.id)
      ({ s1 with weft.ops := s1.weft.ops.map fun (x : HelperOp) =>
          if x.id = o.id then { x with parked := true, held := false } else x } : State).lmWrite o.core (o.addr + 32)
        (bytesOf (BitVec.ofNat 16 i) 2)) := by
  simp only [Can.hDelayArmHelper_complete, Bool.and_eq_true, Bool.not_eq_true', beq_iff_eq] at h
  obtain ⟨⟨⟨⟨⟨⟨⟨⟨asked, len⟩, good⟩, kind⟩, counted⟩, owns⟩, time⟩, free⟩, carried⟩ := h
  rw [exec_hDelayArmHelper_of_asked asked, State.delayArm_of_free len (by simp [good, counted]) owns time free,
    if_pos kind, if_pos carried]

theorem exec_hDelayArmHelper_of_can_waits {k : Nat} {o : HelperOp} {s : State}
    (h : Can.hDelayArmHelper_waits k o s = true) :
    exec (.hDelayArmHelper k) s = .next (
      ({ s with weft.ops := s.weft.ops.map fun (x : HelperOp) =>
          if x.id = o.id then { x with held := true } else x } : State).bump .delayHeld 0) := by
  simp only [Can.hDelayArmHelper_waits, Bool.and_eq_true, Bool.not_eq_true', beq_iff_eq, Option.isNone_iff_eq_none] at h
  obtain ⟨⟨⟨⟨⟨⟨⟨asked, len⟩, good⟩, kind⟩, owns⟩, time⟩, free⟩, held⟩ := h
  have good : ¬ (o.delayReq.badField = true ∨ o.delayReq.kind = 1 ∧ (!o.counted) = true) := by
    simp only [good, Bool.false_eq_true, false_or]
    simpa using kind
  rw [exec_hDelayArmHelper_of_asked asked, State.delayArm_of_full len good owns time free, if_neg (by simp [held])]

theorem exec_hDelayDisarmHelper_of_can {k : Nat} {o : HelperOp} {s : State} (h : Can.hDelayDisarmHelper k o s = true) :
    exec (.hDelayDisarmHelper k) s = .next (
      Served.close { state := s.freeDelayAt (o.u 8 2) } o) := by
  simp only [Can.hDelayDisarmHelper, Bool.and_eq_true, beq_iff_eq, bne_iff_ne, decide_eq_true_eq] at h
  obtain ⟨⟨⟨⟨asked, len⟩, isEntry⟩, armed⟩, owned⟩ := h
  refine serve_asked_eq asked (decide_eq_true len) rfl ?_
  dsimp only
  rw [if_neg (not_or.mpr ⟨Nat.not_le.mpr isEntry, armed⟩), if_neg (not_not.mpr owned)]

/-! ## Frames (R329, R330) -/

/-- The origin frame that a request makes of the frame stored at `h`, of `total` bytes (R330). -/
def State.originFrame (s : State) (o : HelperOp) (h : BitVec 24) (total : Nat) : Origin :=
  let r := o.originReq
  let od := if o.inst.task then (s.bg o.inst.idx).obj.originOd.toNat else r.od
  { desc :=
      { typeV := 2, tc := BitVec.ofNat 3 r.tc, inPort := 63, length := BitVec.ofNat 14 (max 60 total + 4)
        buf := h, od := BitVec.ofNat 12 od, tsWallLo := s.wall.setWidth 32
        queue := if r.fabric then 0 else BitVec.ofNat 13 r.queue, qvalid := bit !r.fabric
        outPort := if r.fabric then BitVec.ofNat 6 r.port else 63
        destDev := if r.fabric then BitVec.ofNat 6 r.dest else s.devId, fcsMode := 2, action := 1 }
    launch := if r.launch then some (BitVec.ofNat 3 r.scale, r.time) else none, own := r.own, slice := o.slice }

/-- An ORIGIN that passes its checks stores its bytes, appends its tail and records the frame (R330). -/
theorem originOp_of_good {s : State} {o : HelperOp} {tail : List Nat} {x : State × BitVec 24}
    (len : inR o.originReq.len 1 512 = true) (words : o.word.blen.toNat = 4 + (o.originReq.len + 7) / 8)
    (tailed : s.originTail o.originReq o.slice = (tail, 0))
    (short : o.originReq.len + (s.frameFrom tail).length ≤ 9596) (good : o.originReq.bad o.inst.task = false)
    (enabled : (s.pool o.originReq.pool).cfg.enable ≠ 0) (owned : (s.pool o.originReq.pool).cfg.owner.toNat = o.slice)
    (timed : (o.originReq.launch = false ∨ o.originReq.scale = 0) ∨ (s.pick (o.originReq.scale - 1)).on = true)
    (room : (s.recdOf o).origins.length < 8)
    (stored : s.storeFrame o.originReq.pool (s.metaTile (s.now * 1000) 0) (o.b 32 o.originReq.len) = some x)
    (carried : (x.1.withTail x.2 tail).carries o = true) :
    originOp s o =
      { state := (x.1.withTail x.2 tail).modRecd o fun c =>
          { c with origins := c.origins ++ [s.originFrame o x.2 (o.originReq.len + (s.frameFrom tail).length)] } } := by
  have onTime : ¬ (o.originReq.launch = true ∧ o.originReq.scale ≠ 0 ∧
      (!(s.pick (o.originReq.scale - 1)).on) = true) := by
    rintro ⟨launch, scale, off⟩
    rcases timed with (unset | wall) | on
    · exact absurd launch (Bool.eq_false_iff.mp unset)
    · exact scale wall
    · simp [on] at off
  simp only [originOp, tailed]
  rw [if_neg (not_not.mpr words), if_neg (by simp [len]), if_neg (by simp [good]), if_neg enabled,
    if_neg (not_not.mpr owned), if_neg (by simp), if_neg (Nat.not_lt.mpr short), if_neg onTime,
    if_neg (Nat.not_le.mpr room)]
  simp only [stored]
  rw [if_pos carried]
  rfl

theorem exec_hOrigin_of_can {k : Nat} {o : HelperOp} {x : State × BitVec 24} {s : State} (h : Can.hOrigin k o x s = true) :
    exec (.hOrigin k) s = .next (
      Served.close { state := x.1.modRecd o fun c =>
        { c with origins := c.origins ++ [s.originFrame o x.2 o.originReq.len] } } o) := by
  simp only [Can.hOrigin, Bool.and_eq_true, Bool.or_eq_true, Bool.not_eq_true', beq_iff_eq, bne_iff_ne,
    decide_eq_true_eq] at h
  obtain ⟨⟨⟨⟨⟨⟨⟨⟨⟨⟨⟨asked, blen⟩, len⟩, words⟩, plain⟩, good⟩, enabled⟩, owned⟩, timed⟩, room⟩, stored⟩, carried⟩ := h
  have short : o.originReq.len ≤ 512 := by
    simp only [inR, Bool.and_eq_true, decide_eq_true_eq] at len
    exact len.2
  exact serve_asked_eq asked blen rfl (originOp_of_good (tail := []) len words (by simp [State.originTail, plain])
    (Nat.le_trans short (by decide)) good enabled owned timed room
    stored carried)

theorem exec_hOrigin_of_can_tail {k : Nat} {o : HelperOp} {i : Nat} {is : List Nat} {x : State × BitVec 24} {s : State}
    (h : Can.hOrigin_tail k o i is x s = true) :
    exec (.hOrigin k) s = .next (
      Served.close { state := (x.1.withTail x.2 (i :: is)).modRecd o fun c =>
        { c with origins := c.origins ++
          [s.originFrame o x.2 (o.originReq.len + (s.frameFrom (i :: is)).length)] } } o) := by
  simp only [Can.hOrigin_tail, Bool.and_eq_true, Bool.or_eq_true, Bool.not_eq_true', beq_iff_eq, bne_iff_ne,
    decide_eq_true_eq] at h
  obtain ⟨⟨⟨⟨⟨⟨⟨⟨⟨⟨⟨⟨⟨asked, blen⟩, len⟩, words⟩, _⟩, tailed⟩, short⟩, good⟩, enabled⟩, owned⟩, timed⟩, room⟩, stored⟩,
    carried⟩ := h
  exact serve_asked_eq asked blen rfl (originOp_of_good len words tailed short good enabled owned timed room
    stored carried)

theorem exec_hLaunchSet_of_can {k : Nat} {o : HelperOp} {s : State} (h : Can.hLaunchSet k o s = true) :
    exec (.hLaunchSet k) s = .next (
      Served.close
        { state := s.modRecd o fun r => { r with launch := some (BitVec.ofNat 3 (o.u 8 1), BitVec.ofNat 64 (o.u 16 8)) } } o) := by
  simp only [Can.hLaunchSet, Bool.and_eq_true, Bool.or_eq_true, Bool.not_eq_true', beq_iff_eq, decide_eq_true_eq] at h
  obtain ⟨⟨⟨⟨asked, len⟩, packet⟩, isScale⟩, on⟩ := h
  refine serve_asked_eq asked (decide_eq_true len) (by simp [packet]) ?_
  unfold launchOp
  dsimp only
  rw [if_neg (Nat.not_lt.mpr isScale), if_neg]
  rintro ⟨scale, off⟩
  rcases on with wall | on
  · exact scale wall
  · simp [on] at off

theorem exec_hHostSet_of_can {k : Nat} {o : HelperOp} {s : State} (h : Can.hHostSet k o s = true) :
    exec (.hHostSet k) s = .next (
      Served.close { state := s.modRecd o fun r => { r with hostRing := some (o.u 8 2) } } o) := by
  simp only [Can.hHostSet, Bool.and_eq_true, Bool.not_eq_true', beq_iff_eq, decide_eq_true_eq] at h
  obtain ⟨⟨⟨⟨asked, len⟩, packet⟩, isRing⟩, owned⟩ := h
  refine serve_asked_eq asked (decide_eq_true len) (by simp [packet]) ?_
  unfold hostOp
  dsimp only
  rw [if_neg (Nat.not_le.mpr isRing), if_neg (not_not.mpr owned)]

/-! ## CRC_RANGE (R323) -/

theorem exec_hCrcRange_of_can {k : Nat} {o : HelperOp} {r : Nat} {s : State} (h : Can.hCrcRange k o r s = true) :
    exec (.hCrcRange k) s = .next (
      let d := (s.ctx r).desc
      let bs := slice (s.frameOf d.buf d.length.toNat) (o.u 10 2) (o.u 12 2)
      let init := BitVec.ofNat 32 (o.u 16 4)
      let v := if o.u 8 1 = 0 then crcRun 0x82F63B78 init bs
        else if o.u 8 1 = 1 then crcRun 0xEDB88320 init bs
        else BitVec.ofNat 32 (onesSum (o.u 16 2) bs)
      Served.close { state := s, out := [(20, bytesOf v 4)] } o) := by
  simp only [Can.hCrcRange, Bool.and_eq_true, Bool.not_eq_true', beq_iff_eq, bne_iff_ne, decide_eq_true_eq] at h
  obtain ⟨⟨⟨⟨⟨⟨asked, len⟩, packet⟩, record⟩, isAlg⟩, notEmpty⟩, inFrame⟩ := h
  refine serve_asked_eq asked (decide_eq_true len) (by simp [packet]) ?_
  simp only [crcOp, record]
  rw [if_neg (by omega)]

/-- Settles O52: each request answers what its lemma above says. -/
theorem poolRingTimeAndTaskRequests : Obligations.PoolRingTimeAndTaskRequests := by
  unfold Obligations.PoolRingTimeAndTaskRequests
  exact ⟨fun _ _ _ _ h => exec_hPoolAlloc_of_can h,
    fun _ _ _ h => exec_hRefAdd_of_can h,
    fun _ _ _ h => exec_hFree_of_can h,
    fun _ _ _ h => exec_hFree_of_can_whole h,
    fun _ _ _ h => exec_hRingPush_of_can h,
    fun _ _ _ _ h => exec_hRingPop_of_can h,
    fun _ _ _ h => exec_hRingMark_of_can h,
    fun _ _ _ _ h => exec_hRingRewind_of_can h,
    fun _ _ _ h => exec_hRingRelease_of_can h,
    fun _ _ _ h => exec_hTsConvert_of_can h,
    fun _ _ _ h => exec_hPickSteer_of_can h,
    fun _ _ _ h => exec_hTaskKickHelper_of_can h,
    fun _ _ _ h => exec_hTaskCancelHelper_of_can h,
    fun _ _ _ _ h => exec_hDelayArmHelper_of_can h,
    fun _ _ _ _ h => exec_hDelayArmHelper_of_can_complete h,
    fun _ _ _ h => exec_hDelayArmHelper_of_can_waits h,
    fun _ _ _ h => exec_hDelayDisarmHelper_of_can h,
    fun _ _ _ _ h => exec_hOrigin_of_can h,
    fun _ _ _ _ _ _ h => exec_hOrigin_of_can_tail h,
    fun _ _ _ h => exec_hLaunchSet_of_can h,
    fun _ _ _ h => exec_hHostSet_of_can h,
    fun _ _ _ _ h => exec_hCrcRange_of_can h⟩

end Sys2Proof.Machine

/-!
Rule-set, profile, indirection-table and hash-key commands (O31): one lemma for each command, then the statement itself.
An admitted packet executes once its own conditions hold (`runCmd_of_admits`); the rest of its `Can.x` decides those
conditions.
-/
namespace Sys2Proof.Machine

/-! ## Writes to the staged bank (R162, R167, R170, R171, R173, R607) -/

theorem exec_heddleWrite_of_can {q : Cmd} {s : State} (h : Can.heddleWrite q s = true) :
    exec (.heddleWrite q) s = .next (
      execPlan (setOp 0x401 .live Heddle.rsv) q
        { keys := [(.ruleset, 0)]
          eff := s.modStaged fun b => { b with heddles := Tab.set {} b.heddles q.h (Heddle.ofTile (q.tile 1)) } }) := by
  simp only [Can.heddleWrite, Bool.and_eq_true, Bool.not_eq_true', decide_eq_true_eq] at h
  obtain ⟨⟨⟨⟨admitted, isHeddle⟩, good⟩, sl0⟩, idle⟩ := h
  exact runCmd_of_admits admitted (.inl rfl) (by simp [isHeddle, good]) sl0 idle (by simp)

theorem exec_keyselWrite_of_can {q : Cmd} {s : State} (h : Can.keyselWrite q s = true) :
    exec (.keyselWrite q) s = .next (
      execPlan (setOp 0x402 .live (put 512 448 (BitVec.allOnes 32))) q
        { keys := [(.ruleset, 0)]
          eff := s.modStaged fun b => { b with keysel := (q.tile 1).extractLsb' 0 448 } }) := by
  simp only [Can.keyselWrite, Bool.and_eq_true, Bool.not_eq_true', decide_eq_true_eq] at h
  obtain ⟨⟨⟨admitted, handle0⟩, sl0⟩, idle⟩ := h
  exact runCmd_of_admits admitted (.inl rfl) (by simp [handle0]) sl0 idle (by simp)

theorem exec_parsePortWrite_of_can {q : Cmd} {s : State} (h : Can.parsePortWrite q s = true) :
    exec (.parsePortWrite q) s = .next (
      execPlan (setOp 0x403 .live ParsePort.rsv) q
        { keys := [(.ruleset, 0)]
          eff := s.modStaged fun b => { b with ports := Tab.set {} b.ports q.h (ParsePort.ofTile (q.tile 1)) } }) := by
  simp only [Can.parsePortWrite, Bool.and_eq_true, Bool.not_eq_true', decide_eq_true_eq] at h
  obtain ⟨⟨⟨⟨⟨admitted, isPort⟩, ownLanes⟩, good⟩, sl0⟩, idle⟩ := h
  exact runCmd_of_admits admitted (.inl rfl) (by simp [isPort, ownLanes, good]) sl0 idle (by simp)

theorem exec_ruleRangeSet_of_can {q : Cmd} {s : State} (h : Can.ruleRangeSet q s = true) :
    exec (.ruleRangeSet q) s = .next (
      let r : RuleRange := ⟨q.u16 16, q.u16 18, q.u16 20, q.u16 22⟩
      execPlan (actOp 0x404 .live (used 16 8)) q
        { keys := [(.ruleset, 0)]
          eff := s.modStaged fun b => { b with ranges := Tab.set {} b.ranges q.h r } }) := by
  simp only [Can.ruleRangeSet, Bool.and_eq_true, Bool.not_eq_true'] at h
  obtain ⟨⟨⟨⟨⟨⟨admitted, isSlice⟩, rulesFit⟩, profilesFit⟩, sl0⟩, apart⟩, idle⟩ := h
  exact runCmd_of_admits admitted (.inl rfl)
    (List.forall_mem_cons.2 ⟨by simpa using isSlice, List.forall_mem_singleton.2 (Bool.or_eq_false_iff.2 ⟨rulesFit, profilesFit⟩)⟩)
    sl0 idle (List.forall_mem_singleton.2 apart)

theorem exec_ruleWrite_of_can {q : Cmd} {s : State} (h : Can.ruleWrite q s = true) :
    exec (.ruleWrite q) s = .next (
      let v := ruleRecord q
      let r : Rule := { value := v.extractLsb' 0 512, mask := v.extractLsb' 512 512, valid := v.extractLsb' 1024 1
                        profile := v.extractLsb' 1025 10, countEn := v.extractLsb' 1035 1 }
      execPlan { opcode := 0x405, modes := .live, minTiles := 4, maxTiles := 4, tileRsv := put 512 76 (BitVec.allOnes 404) } q
        { keys := [(.ruleset, 0)]
          eff := s.modStaged fun b =>
            { b with rules := Tab.set {} b.rules q.h r, badRules := b.badRules.filter (· ≠ q.h) } }) := by
  simp only [Can.ruleWrite, Bool.and_eq_true, Bool.not_eq_true'] at h
  obtain ⟨⟨⟨⟨⟨admitted, isRule⟩, masked⟩, hasRule⟩, hasProfile⟩, idle⟩ := h
  exact runCmd_of_admits admitted (.inl rfl)
    (List.forall_mem_cons.2 ⟨by simpa using isRule, List.forall_mem_singleton.2 masked⟩)
    (Bool.and_eq_true_iff.2 ⟨hasRule, hasProfile⟩) idle (by simp)

theorem exec_profileWrite_of_can {q : Cmd} {s : State} (h : Can.profileWrite q s = true) :
    exec (.profileWrite q) s = .next (
      execPlan (setOp 0x406 .live Profile.rsv) q
        { keys := [(.ruleset, 0)]
          eff := s.modStaged fun b => { b with profiles := Tab.set {} b.profiles q.h (Profile.ofTile (q.tile 1)) } }) := by
  simp only [Can.profileWrite, Bool.and_eq_true, Bool.not_eq_true'] at h
  obtain ⟨⟨⟨⟨admitted, isProfile⟩, hasProfile⟩, owner⟩, idle⟩ := h
  exact runCmd_of_admits admitted (.inl rfl) (List.forall_mem_singleton.2 (by simpa using isProfile)) hasProfile idle
    (List.forall_mem_singleton.2 owner)

/-! ## The rule set as a whole (R183, R186, R189) -/

/-- A commit names its generation, so its packet is checked against it. -/
theorem exec_commitRuleset_of_can {q : Cmd} {s : State} (h : Can.commitRuleset q s = true) :
    exec (.commitRuleset q) s = .next (
      execPlan (actOp 0x410 .live 0) q
        { keys := [(.ruleset, 0)]
          eff := s.commitRules
          data := dat 16 (s.curBank.version + 1) }) := by
  simp only [Can.commitRuleset, Bool.and_eq_true, Bool.not_eq_true', decide_eq_true_eq] at h
  obtain ⟨⟨⟨⟨⟨admitted, generation⟩, handle0⟩, sl0⟩, good⟩, idle⟩ := h
  exact runCmd_of_admits admitted (.inr generation) (by simp [handle0]) sl0 idle (List.forall_mem_singleton.2 good)

theorem exec_rulesetDiscard_of_can {q : Cmd} {s : State} (h : Can.rulesetDiscard q s = true) :
    exec (.rulesetDiscard q) s = .next (
      execPlan (actOp 0x411 .live 0) q
        { keys := [(.ruleset, 0)]
          eff := { s with rules.state := .copying }
          wait := some .rulesetCopy }) := by
  simp only [Can.rulesetDiscard, Bool.and_eq_true, Bool.not_eq_true', decide_eq_true_eq] at h
  obtain ⟨⟨⟨admitted, handle0⟩, sl0⟩, idle⟩ := h
  exact runCmd_of_admits admitted (.inl rfl) (by simp [handle0]) sl0 idle (by simp)

theorem exec_rulesetGet_of_can {q : Cmd} {s : State} (h : Can.rulesetGet q s = true) :
    exec (.rulesetGet q) s = .next (
      let st : BitVec 8 := match s.rules.state with | .idle => 0 | .draining => 1 | .copying => 2
      execPlan (getOp 0x412 .live) q
        { keys := [(.ruleset, 0)]
          changes := false
          eff := s
          data := dat 16 st ||| dat 17 (BitVec.ofNat 8 s.rules.cur.toNat) ||| dat 18 s.curBank.version |||
            dat 20 (BitVec.ofNat 32 s.rules.bank0.inflight) ||| dat 24 (BitVec.ofNat 32 s.rules.bank1.inflight) |||
            dat 28 (BitVec.ofNat 32 (s.host.held.filter fun h => h.keys.contains (.ruleset, 0)).length) }) := by
  simp only [Can.rulesetGet, Bool.and_eq_true, decide_eq_true_eq] at h
  obtain ⟨⟨admitted, handle0⟩, mayClear⟩ := h
  exact runCmd_of_admits admitted (.inl rfl) (by simp [handle0]) mayClear rfl (by simp)

/-! ## Reads of a bank (R172, R607) -/

theorem exec_rulesetRead_of_can {q : Cmd} {s : State} (h : Can.rulesetRead q s = true) :
    exec (.rulesetRead q) s = .next (
      let b := if q.u8 16 = 0 then s.curBank else s.staged
      let k := q.u8 17
      let r := b.range q.h
      execPlan (actOp 0x413 .live (used 16 2)) q
        { keys := [(.ruleset, 0)]
          changes := false
          replyTiles := if k = 3 then 1 else if k = 4 then 4 else 2
          eff := s
          data := if k = 3 then dat 16 (BitVec.ofNat 16 r.ruleFirst) ||| dat 18 (BitVec.ofNat 16 r.ruleCount) |||
            dat 20 (BitVec.ofNat 16 r.profFirst) ||| dat 22 (BitVec.ofNat 16 r.profCount) else 0
          tiles := match k with
            | 0 => [(b.heddle q.h).toTile] | 1 => [b.keysel.setWidth 512] | 2 => [(b.port q.h).toTile]
            | 4 => ruleTiles (b.rule q.h) | 5 => [(b.profile q.h).toTile] | _ => [] }) := by
  simp only [Can.rulesetRead, Bool.and_eq_true, Bool.not_eq_true'] at h
  obtain ⟨⟨⟨⟨⟨admitted, isBank⟩, isKind⟩, inTable⟩, ownLanes⟩, mayRead⟩ := h
  simp only [decide_eq_true_eq] at isBank isKind inTable
  exact runCmd_of_admits admitted (.inl rfl)
    (List.forall_mem_cons.2 ⟨by simp [isBank, isKind],
      List.forall_mem_singleton.2 (Bool.or_eq_false_iff.2 ⟨decide_eq_false (Nat.not_le.2 inTable), ownLanes⟩)⟩)
    mayRead rfl (by simp)

theorem exec_ruleGet_of_can {q : Cmd} {s : State} (h : Can.ruleGet q s = true) :
    exec (.ruleGet q) s = .next (
      execPlan (getOp 0x414 .live) q
        { keys := [(.ruleset, 0)]
          changes := false
          replyTiles := 4
          eff := if q.clear then { s with rules.hits := Tab.set 0 s.rules.hits q.h 0 } else s
          data := dat 16 (Tab.get 0 s.rules.hits q.h)
          tiles := ruleTiles (s.curBank.rule q.h) }) := by
  simp only [Can.ruleGet, Bool.and_eq_true, decide_eq_true_eq] at h
  obtain ⟨⟨admitted, isRule⟩, mayRead⟩ := h
  exact runCmd_of_admits admitted (.inl rfl) (by simp [isRule]) mayRead rfl (by simp)

/-! ## Indirection tables (R177, R607) -/

/-- A range that holds no fault passes both its checks. -/
theorem itRange_good {q : Cmd} (h : (itRange q).all (!·.1) = true) : ∀ x ∈ itRange q, x.1 = false := fun x hx => by
  simpa using List.all_eq_true.1 h x hx

theorem exec_itConfig_of_can {q : Cmd} {s : State} (h : Can.itConfig q s = true) :
    exec (.itConfig q) s = .next (
      execPlan (actOp 0x420 .live (used 16 1)) q
        { keys := [(.it, q.h)]
          eff := s.modIt q.h fun t => { t with owner := BitVec.ofNat 6 (q.u8 16) } }) := by
  simp only [Can.itConfig, Bool.and_eq_true, decide_eq_true_eq] at h
  obtain ⟨⟨⟨admitted, isTable⟩, isSlice⟩, sl0⟩ := h
  exact runCmd_of_admits admitted (.inl rfl) (by simp [isTable, isSlice]) sl0 rfl (by simp)

theorem exec_itWrite_of_can {q : Cmd} {s : State} (h : Can.itWrite q s = true) :
    exec (.itWrite q) s = .next (
      let n := q.u16 18
      let f := q.u8 16
      execPlan { opcode := 0x421, modes := .live, minTiles := 2, maxTiles := 38, uses := used 16 1 ||| used 18 2 } q
        { keys := [(.it, q.h)]
          eff := s.modIt q.h fun t => { t with entries := (List.range n).foldl (fun m i =>
            Tab.set {} m (f + i) (ItEntry.ofTile (cmdEntry8 q i))) t.entries } }) := by
  simp only [Can.itWrite, Bool.and_eq_true, Bool.not_eq_true'] at h
  obtain ⟨⟨⟨⟨⟨⟨admitted, length⟩, range⟩, entries⟩, unusedZero⟩, reserved⟩, owns⟩ := h
  exact runCmd_of_admits admitted (.inl rfl)
    (List.forall_mem_cons.2 ⟨length, List.forall_mem_append.2 ⟨itRange_good range,
      List.forall_mem_cons.2 ⟨entries, List.forall_mem_cons.2 ⟨unusedZero, List.forall_mem_singleton.2 reserved⟩⟩⟩⟩)
    owns rfl (by simp)

theorem exec_itGet_of_can {q : Cmd} {s : State} (h : Can.itGet q s = true) :
    exec (.itGet q) s = .next (
      let n := q.u16 18
      let t := s.it q.h
      execPlan (actOp 0x422 .live (used 16 1 ||| used 18 2)) q
        { keys := [(.it, q.h)]
          changes := false
          replyTiles := 1 + (n + 6) / 7
          eff := s
          tiles := tiles8 n fun i => (Tab.get {} t.entries (q.u8 16 + i)).toTile }) := by
  simp only [Can.itGet, Bool.and_eq_true] at h
  obtain ⟨⟨admitted, range⟩, mayRead⟩ := h
  exact runCmd_of_admits admitted (.inl rfl) (itRange_good range) mayRead rfl (by simp)

/-! ## The hash key (R181) -/

theorem exec_hashKeySet_of_can {q : Cmd} {s : State} (h : Can.hashKeySet q s = true) :
    exec (.hashKeySet q) s = .next (
      let bs := bytesOf (q.tile 1) 60 ++ bytesOf (q.tile 2) 60 ++ bytesOf (q.tile 3) 12
      execPlan { opcode := 0x430, modes := .live, minTiles := 4, maxTiles := 4, tileRsv := put 512 96 (BitVec.allOnes 384) } q
        { keys := [(.hashKey, 0)]
          eff := { s with rules.secret := beBits 1056 bs } }) := by
  simp only [Can.hashKeySet, Bool.and_eq_true, decide_eq_true_eq] at h
  obtain ⟨⟨admitted, handle0⟩, sl0⟩ := h
  exact runCmd_of_admits admitted (.inl rfl) (by simp [handle0]) sl0 rfl (by simp)

theorem exec_hashKeyGet_of_can {q : Cmd} {s : State} (h : Can.hashKeyGet q s = true) :
    exec (.hashKeyGet q) s = .next (
      execPlan (getOp 0x431 .live) q
        { keys := [(.hashKey, 0)]
          changes := false
          eff := s
          data := dat 16 (crc32c (beBytes s.rules.secret 132)) }) := by
  simp only [Can.hashKeyGet, Bool.and_eq_true, decide_eq_true_eq] at h
  obtain ⟨⟨admitted, handle0⟩, sl0⟩ := h
  exact runCmd_of_admits admitted (.inl rfl) (by simp [handle0]) sl0 rfl (by simp)

/-- Settles O31: each command answers what its lemma above says. -/
theorem ruleSetCommands : Obligations.RuleSetCommands := by
  unfold Obligations.RuleSetCommands
  exact ⟨fun _ _ h => exec_heddleWrite_of_can h,
    fun _ _ h => exec_keyselWrite_of_can h,
    fun _ _ h => exec_parsePortWrite_of_can h,
    fun _ _ h => exec_ruleRangeSet_of_can h,
    fun _ _ h => exec_ruleWrite_of_can h,
    fun _ _ h => exec_profileWrite_of_can h,
    fun _ _ h => exec_commitRuleset_of_can h,
    fun _ _ h => exec_rulesetDiscard_of_can h,
    fun _ _ h => exec_rulesetGet_of_can h,
    fun _ _ h => exec_rulesetRead_of_can h,
    fun _ _ h => exec_ruleGet_of_can h,
    fun _ _ h => exec_itConfig_of_can h,
    fun _ _ h => exec_itWrite_of_can h,
    fun _ _ h => exec_itGet_of_can h,
    fun _ _ h => exec_hashKeySet_of_can h,
    fun _ _ h => exec_hashKeyGet_of_can h⟩

end Sys2Proof.Machine

/-!
Dispatch, ordering, watchdog and core events (O43): one lemma for each event and form, then the statement itself. An
event that may take place runs on a device that has not stopped (`ok_of_running`, `ok_if_of_running`); the rest of its
`Can.x` decides the guards of its `exec` arm.
-/
namespace Sys2Proof.Machine

/-! ## Two changes of one core

A change to a value other than the default reads back, and a second one replaces it, whatever the table holds. -/

/-- What an index reads after its change to a value that stays listed. -/
theorem Tab.get_upd_of_ne_default {α : Type} [DecidableEq α] {d : α} (m : Tab α) (i : Nat) {f : α → α}
    (listed : f (Tab.get d m i) ≠ d) : Tab.get d (Tab.upd d m i f) i = f (Tab.get d m i) := by
  rw [Tab.upd, Tab.set, if_neg listed, Tab.get_insert_self]

/-- A second pair for an index replaces the first. -/
theorem Tab.insert_insert_self {α : Type} (m : Tab α) (i : Nat) (x y : α) :
    Tab.insert i y (Tab.insert i x m) = Tab.insert i y m := by
  induction m with
  | nil => simp [Tab.insert]
  | cons p r ih =>
    obtain ⟨k, v⟩ := p
    rcases Nat.lt_trichotomy i k with below | rfl | above
    · simp [Tab.insert, below]
    · simp [Tab.insert]
    · simp [Tab.insert, Nat.not_lt_of_gt above, Nat.ne_of_gt above, ih]

/-- Two changes of an index that both stay listed are one. -/
theorem Tab.upd_upd_of_ne_default {α : Type} [DecidableEq α] {d : α} (m : Tab α) (i : Nat) {f g : α → α}
    (first : f (Tab.get d m i) ≠ d) (second : g (f (Tab.get d m i)) ≠ d) :
    Tab.upd d (Tab.upd d m i f) i g = Tab.upd d m i fun x => g (f x) := by
  rw [Tab.upd, Tab.get_upd_of_ne_default m i first]
  simp only [Tab.upd, Tab.set, if_neg first, if_neg second, Tab.insert_insert_self]

/-- A core with a visit on record is not the default core. -/
theorem Core.ne_default_of_visitAt {k : Core} {t : Nat} (visited : k.visitAt = some t) : k ≠ {} := by
  rintro rfl
  cases visited

/-! ## Parsing and dispatch (R146, R160, R199, R266) -/

theorem exec_parseStart_of_can {p : Nat} {s : State} (h : Can.parseStart p s = true) :
    exec .parseStart s = .next (({ s with rules.lastExp := p } : State).parseSlot p true) := by
  simp only [Can.parseStart, Bool.and_eq_true, Bool.not_eq_true', beq_iff_eq] at h
  obtain ⟨⟨⟨⟨running, live⟩, noHandback⟩, room⟩, waits⟩ := h
  refine (ok_of_running _ running).trans ?_
  simp only [live, noHandback, room, waits, Bool.not_true, Bool.false_eq_true, if_false, if_true]

theorem exec_parseStart_of_can_handback {h : Handback} {s : State} (can : Can.parseStart_handback h s = true) :
    exec .parseStart s = .next (
      ({ s with task.handbacks := s.task.handbacks.erase h } : State).placeHandback h) := by
  simp only [Can.parseStart_handback, Bool.and_eq_true, Bool.not_eq_true', beq_iff_eq] at can
  obtain ⟨⟨running, live⟩, handback⟩ := can
  refine (ok_of_running _ running).trans ?_
  simp only [live, handback, Bool.not_true, Bool.false_eq_true, if_false]

theorem exec_dispatch_of_can {p : Placing} {s : State} (h : Can.dispatch p s = true) :
    exec (.dispatch true false) s = .next (s.expWaits.place' p false) := by
  simp only [Can.dispatch, Bool.and_eq_true, Bool.not_eq_true', beq_iff_eq] at h
  obtain ⟨⟨running, live⟩, ready⟩ := h
  refine (ok_of_running _ running).trans ?_
  simp only [live, ready, Bool.not_true, Bool.false_eq_true, if_false, if_true]

theorem exec_dispatch_of_can_normal {p : Placing} {s : State} (h : Can.dispatch_normal p s = true) :
    exec (.dispatch false false) s = .next (s.place' p false) := by
  simp only [Can.dispatch_normal, Bool.and_eq_true, Bool.not_eq_true', beq_iff_eq] at h
  obtain ⟨⟨running, live⟩, ready⟩ := h
  refine (ok_of_running _ running).trans ?_
  simp only [live, ready, Bool.not_true, Bool.false_eq_true, if_false]

theorem exec_entryTileRewrite_of_can {tile : Fin 131072} {s : State} (h : Can.entryTileRewrite tile s = true) :
    exec (.entryTileRewrite tile) s = .next (s.rewriteProg tile) := by
  simp only [Can.entryTileRewrite, Bool.and_eq_true, Bool.not_eq_true'] at h
  obtain ⟨running, bad⟩ := h
  exact ok_if_of_running _ running bad

/-! ## The end of a task (R202, R235) -/

theorem exec_runLimitExpiry_of_can {c : Fin 68} {t : Fin 8} {i : Inst} {s : State}
    (h : Can.runLimitExpiry c t i s = true) :
    exec (.runLimitExpiry c t) s = .next ((s.bump .runLimitHit i.tg).fault c t .runLimit 0) := by
  simp only [Can.runLimitExpiry, Bool.and_eq_true, Bool.not_eq_true', beq_iff_eq, bne_iff_ne, decide_eq_true_eq] at h
  obtain ⟨⟨⟨⟨⟨running, task⟩, active⟩, notHalted⟩, limited⟩, late⟩ := h
  refine (ok_of_running _ running).trans ?_
  simp only [task]
  rw [if_neg]
  simp only [active, Bool.not_true, Bool.false_eq_true, false_or, not_or, Nat.not_le]
  exact ⟨notHalted, limited, late⟩

theorem exec_taskEndAccept_of_can {c : Fin 68} {t : Fin 8} {i : Inst} {s : State}
    (h : Can.taskEndAccept c t i s = true) : exec (.taskEndAccept c t) s = .next (s.taskEnd c t i) := by
  simp only [Can.taskEndAccept, Bool.and_eq_true, Bool.or_eq_true, Bool.not_eq_true', beq_iff_eq] at h
  obtain ⟨⟨⟨⟨⟨running, task⟩, live⟩, ended⟩, accepted⟩, noLockOps⟩ := h
  refine (ok_of_running _ running).trans ?_
  simp only [task]
  rw [if_pos (by simp [live, ended, accepted, noLockOps])]

/-! ## Ordering domains (R236, R238, R242) -/

theorem exec_reedCommit_of_can {od : Fin 4096} {r : Nat} {rest : List Nat} {s : State}
    (h : Can.reedCommit od r rest s = true) :
    exec (.reedCommit od) s = .next (((s.reedActed od).commitRec r).passHead od) := by
  simp only [Can.reedCommit, Bool.and_eq_true, Bool.not_eq_true', beq_iff_eq] at h
  obtain ⟨⟨⟨⟨running, live⟩, turn⟩, head⟩, ready⟩ := h
  refine (ok_of_running _ running).trans ?_
  rw [if_neg (by simp [live, turn])]
  simp only [head, ready]

theorem exec_orderSkip_of_can {od : Fin 4096} {r : Nat} {rest : List Nat} {s : State}
    (h : Can.orderSkip od r rest s = true) :
    exec (.orderSkip od) s = .next (
      let d := s.dom od
      let s1 := (((s.reedActed od).doneRec r true).passHead od).modDom od fun d =>
        { d with st := { d.st with orderSkip := satInc d.st.orderSkip } }
      if d.cfg.skipEvEn = 1 then s1.notice 0 0x0001 od (d.st.headSeq.setWidth 64) else s1) := by
  simp only [Can.orderSkip, Bool.and_eq_true, Bool.not_eq_true', beq_iff_eq, decide_eq_true_eq] at h
  obtain ⟨⟨⟨⟨⟨running, live⟩, turn⟩, head⟩, opened⟩, late⟩ := h
  refine (ok_of_running _ running).trans ?_
  rw [if_neg (by simp [live, turn])]
  simp only [head]
  rw [if_neg (not_or.mpr ⟨not_not.mpr opened, Nat.not_lt.mpr late⟩)]

/-! ## The watchdog (R276) -/

/-- A core with the time of a visit of the watchdog. -/
def Core.visited (now : Nat) (k : Core) : Core := { k with visitAt := some now }

@[simp] theorem Core.visited_st (k : Core) (now : Nat) : (k.visited now).st = k.st := rfl
@[simp] theorem Core.visited_progress (k : Core) (now : Nat) : (k.visited now).progress = k.progress := rfl
@[simp] theorem Core.visited_noticed (k : Core) (now : Nat) : (k.visited now).noticed = k.noticed := rfl

/-- A visit that is due is made. -/
theorem exec_watchdogVisit_of_due {c : Fin 68} {s : State} (running : s.sys.stopped = false)
    (live : s.sys.mode.live = true) (due : s.visitDue c = true) :
    exec (.watchdogVisit c) s = .next ((s.modCore c (Core.visited s.now)).visit c) := by
  refine (ok_of_running _ running).trans ?_
  rw [if_neg (by simp [live, due])]
  rfl

/-- The visited core keeps all but the time of its visit. -/
theorem State.core_visited (s : State) (c now : Nat) : (s.modCore c (Core.visited now)).core c = (s.core c).visited now :=
  Tab.get_upd_of_ne_default _ c (Core.ne_default_of_visitAt rfl)

/-- So do its threads. -/
theorem State.th_visited (s : State) (c now t : Nat) : (s.modCore c (Core.visited now)).th c t = s.th c t := by
  rw [State.th, State.core_visited]
  rfl

theorem State.atPc_visited (s : State) (c now t : Nat) : (s.modCore c (Core.visited now)).atPc c t = s.atPc c t := by
  rw [State.atPc, State.th_visited]
  rfl

/-- A visit holds no thread and releases none. -/
theorem State.heldReq_visited (s : State) (c now t : Nat) :
    (s.modCore c (Core.visited now)).heldReq c t = s.heldReq c t := by
  unfold State.heldReq
  rw [State.atPc_visited, State.counterFull, State.th_visited]
  rfl

/-- It excuses the threads that were excused before it. -/
theorem State.excused_visited (s : State) (c now t : Nat) :
    (s.modCore c (Core.visited now)).excused c t = s.excused c t := by
  simp only [State.excused, State.heldReq_visited, State.th_visited]

theorem State.runningThreads_visited (s : State) (c now : Nat) :
    ((s.modCore c (Core.visited now)).core c).runningThreads = (s.core c).runningThreads := by
  rw [State.core_visited]
  rfl

theorem State.idleProgress_visited (s : State) (c now : Nat) :
    (s.modCore c (Core.visited now)).idleProgress c = s.idleProgress c := by
  simp only [State.idleProgress, State.runningThreads_visited, State.excused_visited]

/-- A core that makes progress starts the next round without any. -/
theorem State.visit_of_progress {s : State} {c : Nat} (active : (s.core c).st.state = 0)
    (progress : (s.core c).progress = true) : s.visit c = s.modCore c fun k => { k with progress := false } := by
  simp only [State.visit, active, progress]
  rfl

/-- A stop that has not been noticed is noticed. -/
theorem State.visit_of_stopped {s : State} {c : Nat} (stopped : (s.core c).st.state = 2)
    (fresh : (s.core c).noticed = false) : s.visit c = s.noticed c := by
  simp only [State.visit, stopped, fresh, if_true, Bool.false_eq_true, if_false]

/-- An ACTIVE core without progress stops at the first running thread that has no excuse. -/
theorem State.visit_of_hang {s : State} {c t : Nat} (active : (s.core c).st.state = 0)
    (still : (s.core c).progress = false) (busy : s.idleProgress c = false)
    (hung : (s.core c).runningThreads.find? (fun t => !s.excused c t) = some t) :
    s.visit c = (s.stopCore c t Cause.hang.code (s.th c t).pc 0).noticed c := by
  simp only [State.visit, active, still, busy, hung]
  rfl

theorem exec_watchdogVisit_of_can {c : Fin 68} {s : State} (h : Can.watchdogVisit c s = true) :
    exec (.watchdogVisit c) s = .next (
      s.modCore c fun k => { k with visitAt := some s.now, progress := false }) := by
  simp only [Can.watchdogVisit, Bool.and_eq_true, Bool.not_eq_true', beq_iff_eq] at h
  obtain ⟨⟨⟨⟨running, live⟩, due⟩, active⟩, progress⟩ := h
  rw [exec_watchdogVisit_of_due running live due,
    State.visit_of_progress (by simpa [State.core_visited] using active)
      (by simpa [State.core_visited] using progress)]
  exact congrArg (fun cores => Host.Outcome.next { s with weft.cores := cores })
    (Tab.upd_upd_of_ne_default s.weft.cores c (f := Core.visited s.now) (g := fun k => { k with progress := false })
      (Core.ne_default_of_visitAt rfl) (Core.ne_default_of_visitAt rfl))

theorem exec_watchdogVisit_of_can_stopped {c : Fin 68} {s : State} (h : Can.watchdogVisit_stopped c s = true) :
    exec (.watchdogVisit c) s = .next (
      (s.modCore c fun k => { k with visitAt := some s.now }).noticed c) := by
  simp only [Can.watchdogVisit_stopped, Bool.and_eq_true, Bool.not_eq_true', beq_iff_eq] at h
  obtain ⟨⟨⟨⟨running, live⟩, due⟩, stopped⟩, fresh⟩ := h
  rw [exec_watchdogVisit_of_due running live due,
    State.visit_of_stopped (by simpa [State.core_visited] using stopped)
      (by simpa [State.core_visited] using fresh)]
  rfl

theorem exec_watchdogVisit_of_can_hang {c : Fin 68} {t : Nat} {s : State} (h : Can.watchdogVisit_hang c t s = true) :
    exec (.watchdogVisit c) s = .next (
      ((s.modCore c fun k => { k with visitAt := some s.now }).stopCore c t Cause.hang.code (s.th c t).pc 0).noticed
        c) := by
  simp only [Can.watchdogVisit_hang, Bool.and_eq_true, Bool.not_eq_true', beq_iff_eq] at h
  obtain ⟨⟨⟨⟨⟨⟨running, live⟩, due⟩, active⟩, still⟩, busy⟩, hung⟩ := h
  rw [exec_watchdogVisit_of_due running live due,
    State.visit_of_hang (t := t) (by simpa [State.core_visited] using active)
      (by simpa [State.core_visited] using still) (by rw [State.idleProgress_visited, busy])
      (by simpa only [State.runningThreads_visited, State.excused_visited] using hung), State.th_visited]
  rfl

/-! ## Self-test, restart and spares (R277, R278) -/

/-- A self-test ends in retirement where it fails, and else restarts the core unless its stop is its third in 24 h. -/
theorem exec_coreSelftestDone_of_tested {c : Fin 68} {s : State} (pass : Bool) (running : s.sys.stopped = false)
    (tested : (s.core c).st.state = 3) (noSpareTest : s.weft.underTest ≠ some c.val) (noRetest : s.retesting c = false)
    (noEnds : ((List.range 8).any fun t => ((s.core c).th t).ended) = false) :
    exec (.coreSelftestDone c pass) s = .next (
      if !pass then s.retire c
      else if (s.core c).poison = true ∨ (!(s.core c).toJudge) = true then s.joining c
      else if (s.countStop c).stops24 c ≥ 3 then (s.countStop c).retire c else (s.countStop c).joining c) := by
  refine (ok_of_running _ running).trans ?_
  dsimp only
  rw [if_neg (by simp only [tested, noSpareTest, noRetest, noEnds]; decide)]

theorem exec_coreSelftestDone_of_can {c : Fin 68} {s : State} (h : Can.coreSelftestDone c s = true) :
    exec (.coreSelftestDone c true) s = .next ((s.countStop c).joining c) := by
  simp only [Can.coreSelftestDone, Bool.and_eq_true, Bool.not_eq_true', beq_iff_eq, bne_iff_ne, decide_eq_true_eq] at h
  obtain ⟨⟨⟨⟨⟨⟨⟨running, tested⟩, noSpareTest⟩, noRetest⟩, noEnds⟩, unpoisoned⟩, toJudge⟩, fewStops⟩ := h
  rw [exec_coreSelftestDone_of_tested true running tested noSpareTest noRetest noEnds, if_neg (by decide),
    if_neg (by simp [unpoisoned, toJudge]), if_neg (Nat.not_le.mpr fewStops)]

theorem exec_coreSelftestDone_of_can_fail {c : Fin 68} {s : State} (h : Can.coreSelftestDone_fail c s = true) :
    exec (.coreSelftestDone c false) s = .next (s.retire c) := by
  simp only [Can.coreSelftestDone_fail, Bool.and_eq_true, Bool.not_eq_true', beq_iff_eq, bne_iff_ne] at h
  obtain ⟨⟨⟨⟨running, tested⟩, noSpareTest⟩, noRetest⟩, noEnds⟩ := h
  rw [exec_coreSelftestDone_of_tested false running tested noSpareTest noRetest noEnds, if_pos (by decide)]

theorem exec_coreJoinDone_of_can {c : Fin 68} {s : State} (h : Can.coreJoinDone c s = true) :
    exec (.coreJoinDone c) s = .next (
      s.modCore c fun k => { k.restarted with st := { k.st with state := 0 } }) := by
  simp only [Can.coreJoinDone, Bool.and_eq_true, Bool.not_eq_true', beq_iff_eq] at h
  obtain ⟨running, joining⟩ := h
  exact ok_if_of_running _ running joining

theorem exec_spareTest_of_can {c : Nat} {s : State} (h : Can.spareTest c s = true) :
    exec (.spareTest none) s = .next (
      ({ s with weft.underTest := some c, weft.nextSpare := c + 1, weft.spareAt := some s.wall } : State).modCore c
        fun k => { k with st := { k.st with state := 3 } }) := by
  simp only [Can.spareTest, Bool.and_eq_true, Bool.not_eq_true', beq_iff_eq] at h
  obtain ⟨⟨⟨running, untested⟩, due⟩, turn⟩ := h
  refine (ok_of_running _ running).trans ?_
  simp only [untested, due, turn, if_true]

theorem exec_spareTest_of_can_done {c : Nat} {s : State} (h : Can.spareTest_done c s = true) :
    exec (.spareTest (some true)) s = .next (
      ({ s with weft.underTest := none } : State).modCore c fun k => { k with st := { k.st with state := 1 } }) := by
  simp only [Can.spareTest_done, Bool.and_eq_true, Bool.not_eq_true', beq_iff_eq] at h
  obtain ⟨running, underTest⟩ := h
  refine (ok_of_running _ running).trans ?_
  simp only [underTest, if_true]

/-- A core that passes its retest becomes a spare again. -/
theorem exec_coreRetestDone_of_can {c : Fin 68} {s : State} (h : Can.coreRetestDone c s = true) :
    exec (.coreRetestDone c true) s = .next (
      let s1 := ({ s.bumpGen (.core, c) with
        host.devGen := nextGen s.host.devGen, selv.retired := s.selv.retired.filter (· ≠ c.val) } : State).modCore c fun k =>
        { k with st := { k.st with state := 1 } }
      (s1.reportDev 0x0106 c (put 288 0 (BitVec.ofNat 8 c.val) ||| put 288 8 (bit true))).finish
        (· == .coreRetest c) .ok (dat 16 ((bit true).setWidth 8)) []) := by
  simp only [Can.coreRetestDone, Bool.and_eq_true, Bool.not_eq_true', beq_iff_eq] at h
  obtain ⟨⟨running, retesting⟩, tested⟩ := h
  refine (ok_of_running _ running).trans ?_
  simp only [retesting, tested, Bool.not_true, Bool.false_eq_true, if_false, decide_true, Bool.and_self, if_true]

/-- Settles O43: each event answers what its lemma above says. -/
theorem dispatchAndCoreEvents : Obligations.DispatchAndCoreEvents := by
  unfold Obligations.DispatchAndCoreEvents
  exact ⟨fun _ _ h => exec_parseStart_of_can h,
    fun _ _ h => exec_parseStart_of_can_handback h,
    fun _ _ h => exec_dispatch_of_can h,
    fun _ _ h => exec_dispatch_of_can_normal h,
    fun _ _ h => exec_entryTileRewrite_of_can h,
    fun _ _ _ _ h => exec_runLimitExpiry_of_can h,
    fun _ _ _ _ h => exec_taskEndAccept_of_can h,
    fun _ _ _ _ h => exec_reedCommit_of_can h,
    fun _ _ _ _ h => exec_orderSkip_of_can h,
    fun _ _ h => exec_watchdogVisit_of_can h,
    fun _ _ h => exec_watchdogVisit_of_can_stopped h,
    fun _ _ _ h => exec_watchdogVisit_of_can_hang h,
    fun _ _ h => exec_coreSelftestDone_of_can h,
    fun _ _ h => exec_coreSelftestDone_of_can_fail h,
    fun _ _ h => exec_coreJoinDone_of_can h,
    fun _ _ h => exec_spareTest_of_can h,
    fun _ _ h => exec_spareTest_of_can_done h,
    fun _ _ h => exec_coreRetestDone_of_can h⟩

end Sys2Proof.Machine

/-!
Task, delay and ordering-domain commands (O36): one lemma for each command, then the statement itself. An admitted
packet executes once its own conditions hold (`runCmd_of_admits`); the rest of its `Can.x` decides those conditions.
-/
namespace Sys2Proof.Machine

/-! ## Background tasks (R203 to R205, R221, R223, R612)

A command that names a task asks that its number is one (`State.taskBad`) and, but for SL0's TASK_GET, that the task's
owner sends it (`State.taskMine`). -/

theorem exec_taskCreate_of_can {q : Cmd} {s : State} (h : Can.taskCreate q s = true) :
    exec (.taskCreate q) s = .next (
      let me := s.requester q
      let n := s.freeTask
      let o : TaskObj := { owner := BitVec.ofNat 6 me, tg := BitVec.ofNat 4 (q.u8 16), prio := BitVec.ofNat 3 (q.u8 17)
                           entry := BitVec.ofNat 16 (q.u16 18), originOd := BitVec.ofNat 12 (q.u16 20), arg := q.u64 24 }
      execPlan (actOp 0x930 .live (used 16 6 ||| used 24 8)) q
        { keys := [(.task, n.getD 0)]
          eff := s.modBg (n.getD 0) fun b => { b with live := true, obj := o }
          handle := n.map (BitVec.ofNat 32 ·) }) := by
  simp only [Can.taskCreate, Bool.and_eq_true, Bool.not_eq_true', decide_eq_true_eq] at h
  obtain ⟨⟨⟨⟨⟨⟨admitted, handle0⟩, isGroup⟩, isPrio⟩, isDomain⟩, ownsGroup⟩, room⟩ := h
  change execTaskCreate q s = _
  unfold execTaskCreate
  -- A name for the number found: unification would run the search for a free task over all 2,048.
  generalize s.freeTask = n at admitted room ⊢
  exact runCmd_of_admits admitted (.inl rfl) (by simp [handle0, isGroup, isPrio, isDomain])
    (decide_eq_true ownsGroup) rfl (List.forall_mem_singleton.2 room)

theorem exec_taskConfig_of_can {q : Cmd} {s : State} (h : Can.taskConfig q s = true) :
    exec (.taskConfig q) s = .next (
      let c := TaskObj.ofTile (q.tile 1)
      let o := (s.bg q.h).obj
      execPlan (setOp 0x931 .live TaskObj.rsv) q
        { keys := [(.task, q.h)]
          eff := s.modBg q.h fun b =>
              { b with obj := { c with state := o.state, pending := o.pending, restart := o.restart, runs := o.runs } } }) := by
  simp only [Can.taskConfig, Bool.and_eq_true, Bool.not_eq_true', decide_eq_true_eq] at h
  obtain ⟨⟨⟨⟨⟨admitted, isTask⟩, mine⟩, sameOwner⟩, ownsGroup⟩, idle⟩ := h
  exact runCmd_of_admits admitted (.inl rfl) (List.forall_mem_singleton.2 isTask)
    (by simp [mine, sameOwner, ownsGroup]) rfl (by simp [idle])

theorem exec_taskKick_of_can {q : Cmd} {s : State} (h : Can.taskKick q s = true) :
    exec (.taskKick q) s = .next (
      execPlan (actOp 0x932 .live 0) q
        { keys := [(.task, q.h)]
          eff := (s.kick q.h).1 }) := by
  simp only [Can.taskKick, Bool.and_eq_true, Bool.not_eq_true'] at h
  obtain ⟨⟨⟨admitted, isTask⟩, mine⟩, notFaulted⟩ := h
  exact runCmd_of_admits admitted (.inl rfl) (List.forall_mem_singleton.2 isTask) mine rfl
    (List.forall_mem_singleton.2 notFaulted)

theorem exec_taskCancel_of_can {q : Cmd} {s : State} (h : Can.taskCancel q s = true) :
    exec (.taskCancel q) s = .next (
      execPlan (actOp 0x933 .live (put 352 4 (1 : BitVec 1))) q
        { keys := [(.task, q.h)]
          eff := s.cancel q.h (q.opt 16 4) }) := by
  simp only [Can.taskCancel, Bool.and_eq_true, Bool.not_eq_true'] at h
  obtain ⟨⟨admitted, isTask⟩, mine⟩ := h
  exact runCmd_of_admits admitted (.inl rfl) (List.forall_mem_singleton.2 isTask) mine rfl (by simp)

theorem exec_taskReset_of_can {q : Cmd} {s : State} (h : Can.taskReset q s = true) :
    exec (.taskReset q) s = .next (
      execPlan (actOp 0x934 .live 0) q
        { keys := [(.task, q.h)]
          eff := s.modBg q.h fun b => { b with obj := { b.obj with state := 0, pending := 0, restart := 0 } } }) := by
  simp only [Can.taskReset, Bool.and_eq_true, Bool.not_eq_true'] at h
  obtain ⟨⟨⟨admitted, isTask⟩, mine⟩, faulted⟩ := h
  exact runCmd_of_admits admitted (.inl rfl) (List.forall_mem_singleton.2 isTask) mine rfl
    (List.forall_mem_singleton.2 faulted)

theorem exec_taskDestroy_of_can {q : Cmd} {s : State} (h : Can.taskDestroy q s = true) :
    exec (.taskDestroy q) s = .next (
      execPlan (actOp 0x935 .live 0) q
        { keys := [(.task, q.h)]
          eff := s.destroy q.h }) := by
  simp only [Can.taskDestroy, Bool.and_eq_true, Bool.not_eq_true'] at h
  obtain ⟨⟨admitted, isTask⟩, mine⟩ := h
  exact runCmd_of_admits admitted (.inl rfl) (List.forall_mem_singleton.2 isTask) mine rfl (by simp)

theorem exec_taskGet_of_can {q : Cmd} {s : State} (h : Can.taskGet q s = true) :
    exec (.taskGet q) s = .next (
      execPlan (getOp 0x936 .live) q
        { keys := [(.task, q.h)]
          changes := false
          replyTiles := 2
          eff := s
          tiles := [(s.taskView q.h).toTile] }) := by
  simp only [Can.taskGet, Bool.and_eq_true, Bool.not_eq_true'] at h
  obtain ⟨⟨admitted, isTask⟩, mayRead⟩ := h
  exact runCmd_of_admits admitted (.inl rfl) (List.forall_mem_singleton.2 isTask) mayRead rfl (by simp)

/-! ## Delays (R215, R216, R220) -/

theorem exec_delayArm_of_can {q : Cmd} {s : State} (h : Can.delayArm q s = true) :
    exec (.delayArm q) s = .next (
      let r : DelayReq := ⟨q.u8 16, q.u8 17, BitVec.ofNat 32 (q.u32 20), q.u64 24, q.u64 32⟩
      let n := s.freeDelay
      execPlan (actOp 0x940 .live (used 16 2 ||| used 20 20)) q
        { keys := [(.delay, n.getD 0)]
          eff := s.armDelay (s.requester q) (n.getD 0) r 0 none
          handle := n.map (BitVec.ofNat 32 ·) }) := by
  simp only [Can.delayArm, Bool.and_eq_true, Bool.not_eq_true'] at h
  obtain ⟨⟨⟨⟨⟨⟨⟨admitted, handle0⟩, noReserved⟩, goodFields⟩, otherKind⟩, owns⟩, goodTime⟩, room⟩ := h
  simp only [decide_eq_true_eq] at handle0
  change execDelayArm q s = _
  unfold execDelayArm
  -- A name for the entry found, as in TASK_CREATE.
  generalize s.freeDelay = n at admitted room ⊢
  exact runCmd_of_admits admitted (.inl rfl)
    (List.forall_mem_singleton.2 (by simp [handle0, noReserved, goodFields, otherKind])) owns rfl
    (List.forall_mem_cons.2 ⟨goodTime, List.forall_mem_singleton.2 room⟩)

theorem exec_delayDisarm_of_can {q : Cmd} {s : State} (h : Can.delayDisarm q s = true) :
    exec (.delayDisarm q) s = .next (
      execPlan (actOp 0x941 .live 0) q
        { keys := [(.delay, q.h)]
          eff := s.freeDelayAt q.h }) := by
  simp only [Can.delayDisarm, Bool.and_eq_true, Bool.not_eq_true', decide_eq_true_eq] at h
  obtain ⟨⟨⟨admitted, isDelay⟩, armed⟩, mine⟩ := h
  exact runCmd_of_admits admitted (.inl rfl)
    (List.forall_mem_singleton.2 (Bool.or_eq_false_iff.2 ⟨decide_eq_false (Nat.not_le.2 isDelay), armed⟩))
    (decide_eq_true mine) rfl (by simp)

theorem exec_delayGet_of_can {q : Cmd} {s : State} (h : Can.delayGet q s = true) :
    exec (.delayGet q) s = .next (
      let d := s.delay q.h
      execPlan (getOp 0x942 .live) q
        { keys := [(.delay, q.h)]
          changes := false
          eff := s
          data := dat 16 d.e.toTile }) := by
  simp only [Can.delayGet, Bool.and_eq_true, Bool.not_eq_true', decide_eq_true_eq] at h
  obtain ⟨⟨⟨admitted, isDelay⟩, armed⟩, mayRead⟩ := h
  exact runCmd_of_admits admitted (.inl rfl)
    (List.forall_mem_singleton.2 (Bool.or_eq_false_iff.2 ⟨decide_eq_false (Nat.not_le.2 isDelay), armed⟩))
    mayRead rfl (by simp)

/-! ## Ordering domains (R231, R232) -/

theorem exec_odConfig_of_can {q : Cmd} {s : State} (h : Can.odConfig q s = true) :
    exec (.odConfig q) s = .next (
      let c := OdCfg.ofTile (q.tile 1)
      execPlan (setOp 0x950 .live OdCfg.rsv) q
        { keys := [(.od, q.h)]
          eff := s.modDom q.h fun d => { d with cfg := c } }) := by
  simp only [Can.odConfig, Bool.and_eq_true, Bool.not_eq_true', decide_eq_true_eq] at h
  obtain ⟨⟨⟨⟨admitted, isDomain⟩, timeout⟩, sl0⟩, unusedOrKept⟩ := h
  exact runCmd_of_admits admitted (.inl rfl) (List.forall_mem_singleton.2 (by simp [isDomain, timeout])) sl0 rfl
    (List.forall_mem_singleton.2 unusedOrKept)

theorem exec_odGet_of_can {q : Cmd} {s : State} (h : Can.odGet q s = true) :
    exec (.odGet q) s = .next (
      execPlan (getOp 0x951 .live) q
        { keys := [(.od, q.h)]
          changes := false
          replyTiles := 3
          eff := if q.clear then s.modDom q.h fun d =>
                { d with st := { nextSeq := d.st.nextSeq, headSeq := d.st.headSeq } } else s
          tiles := [(s.dom q.h).cfg.toTile, (s.odStatus q.h).toTile] }) := by
  simp only [Can.odGet, Bool.and_eq_true, decide_eq_true_eq] at h
  obtain ⟨⟨admitted, isDomain⟩, mayClear⟩ := h
  exact runCmd_of_admits admitted (.inl rfl) (by simp [isDomain]) mayClear rfl (by simp)

/-- Settles O36: each command answers what its lemma above says. -/
theorem taskAndDomainCommands : Obligations.TaskAndDomainCommands := by
  unfold Obligations.TaskAndDomainCommands
  exact ⟨fun _ _ h => exec_taskCreate_of_can h,
    fun _ _ h => exec_taskConfig_of_can h,
    fun _ _ h => exec_taskKick_of_can h,
    fun _ _ h => exec_taskCancel_of_can h,
    fun _ _ h => exec_taskReset_of_can h,
    fun _ _ h => exec_taskDestroy_of_can h,
    fun _ _ h => exec_taskGet_of_can h,
    fun _ _ h => exec_delayArm_of_can h,
    fun _ _ h => exec_delayDisarm_of_can h,
    fun _ _ h => exec_delayGet_of_can h,
    fun _ _ h => exec_odConfig_of_can h,
    fun _ _ h => exec_odGet_of_can h⟩

end Sys2Proof.Machine

/-!
The Weft rows as one: what each instruction does once it issues is a load, a store, or one of few effects on its own
core, so that a statement about every Weft instruction is proved once for each kind.
-/
namespace Sys2Proof.Machine

/-- What an instruction of thread `t` of core `c` that is no load or store does once it issues (chapters 10 and 11). -/
inductive CoreEffect (c t : Nat) : (State → State) → Prop
  | write (a : BitVec 5) (v : State → Word) : CoreEffect c t fun s => s.putReg c t a (v s)
  | writeDrawn (a : BitVec 5) (v : State → Word) : CoreEffect c t fun s => s.drawn.putReg c t a (v s)
  | shared (a : BitVec 5) (n : BitVec 4) (f : State → Word → Word) : CoreEffect c t fun s => s.shared c t a n (f s)
  | branch (taken : State → Bool) (off : Word) : CoreEffect c t fun s => s.branch c t (taken s) off
  | jump (n : Nat) (a : BitVec 5) (tgt : State → Word) : CoreEffect c t fun s => s.jump c t n a (tgt s)
  | loop (count : State → Nat) (endOff : Nat) : CoreEffect c t fun s => s.loopSetup c t (count s) endOff
  | wait : CoreEffect c t fun s =>
      s.modTh c t fun h => if h.depcnt = 0 then h.advance else { h.advance with st := .waiting }
  | evwait (a : BitVec 5) (mask : BitVec 8) : CoreEffect c t fun s => s.modTh c t fun h => h.evStart a mask
  | evsend (line dst : Nat) : CoreEffect c t fun s =>
      ((s.raiseLine (s.sliceOf c t) c dst line).1).modTh c t Thread.advance
  | endTask : CoreEffect c t fun s =>
      if (s.th c t).priv = .m then s.fault c t .privilege 0
      else s.modTh c t fun h => { h.count with atEnd := true, st := if h.depcnt = 0 then .running else .waiting }
  | fault (e : Cause) (addr : Word) : CoreEffect c t fun s => s.fault c t e addr
  | scall (n : BitVec 10) : CoreEffect c t fun s => s.supervisor c t n
  | sret : CoreEffect c t fun s => s.supReturn c t
  | mfcr (a : BitVec 5) (n : Nat) : CoreEffect c t fun s => s.readCr c t a n
  | mtcr (v : State → Word) (n : Nat) : CoreEffect c t fun s => s.writeCr c t (v s) n
  | request (a b : BitVec 5) (tag : BitVec 12) (counted : Bool) : CoreEffect c t fun s => s.sendReq c t a b tag counted
  | cp0 (a : BitVec 5) (v : State → Word) : CoreEffect c t fun s => s.cpReg c t 0 fun s => s.putReg c t a (v s)
  | cp2Write (a : BitVec 5) (v : State → Word) : CoreEffect c t fun s => s.cp2Reg c t fun s => s.putReg c t a (v s)
  | cp2WriteDrawn (a : BitVec 5) (v : State → Word) : CoreEffect c t fun s =>
      s.cp2Reg c t fun s => s.drawn.putReg c t a (v s)
  | cp2Feed (ch : State → Nat) (x : State → Word32) : CoreEffect c t fun s =>
      s.cp2Reg c t fun s => (s.modCore c fun k => { k with cp2 := k.cp2.feed (ch s) (x s) }).modTh c t Thread.advance
  | cpMem (n name : Nat) (addr : State → Word) (len arg : Nat) : CoreEffect c t fun s =>
      s.cpMem c t n name (addr s) len arg
  | cp2Mem (name : Nat) (addr : State → Word) (len : Nat) (arg : State → Nat) : CoreEffect c t fun s =>
      s.cp2Mem c t name (addr s) len (arg s)
  | cpAcquire (n : Nat) (a : BitVec 5) : CoreEffect c t fun s => s.cpAcquire c t n a
  | cpRelease (n : Nat) : CoreEffect c t fun s => s.cpRelease c t n

/-- The bytes that a store puts into memory (R289). -/
def Access.stored (e : Access) (c : Fin 68) (t : Fin 8) (u : State) : List Byte :=
  let v := bytesOf (u.rg c t e.reg) e.bytes
  if e.net then v.reverse else v

theorem Access.stored_length (e : Access) (c : Fin 68) (t : Fin 8) (u : State) : (e.stored c t u).length = e.bytes := by
  unfold Access.stored
  dsimp only
  split
  · exact List.length_reverse.trans (bytesOf_length ..)
  · exact bytesOf_length ..

/-- The loads and stores are those that `weftAccess` names. -/
theorem WeftOp.access_eq (op : WeftOp) : op.access = (weftAccess op).map fun e => (e.base, e.disp, e.bytes) := by
  cases op <;> rfl

theorem WeftOp.isStore_eq (op : WeftOp) : op.isStore = (weftAccess op).any fun e => !e.load := by
  cases op <;> rfl

/-- What an instruction does once it issues: a load, a store (R289), or another effect. -/
inductive WeftEffect (c : Fin 68) (t : Fin 8) (op : WeftOp) : (State → State) → Prop
  | load {e : Access} (access : weftAccess op = some e) (isLoad : e.load = true) :
      WeftEffect c t op fun s => s.load c t e.reg (e.addr c t s) e.bytes e.signed e.net
  | store {e : Access} (access : weftAccess op = some e) (isStore : e.load = false) :
      WeftEffect c t op fun s => s.store c t (e.addr c t s) (e.stored c t s)
  | other {run : State → State} (access : weftAccess op = none) (effect : CoreEffect c t run) : WeftEffect c t op run

/-- A row issues its instruction; one that is no load or store may be held at issue while its thread's counter or the
table of operations is full (R209, R210). -/
def IssuesOrHolds (i : Instr) (c : Fin 68) (t : Fin 8) (op : WeftOp) (run : State → State) : Prop :=
  ∀ s : State, exec i s = ok s (s.issue c t op run) ∨
    exec i s = ok s s ∧ weftAccess op = none ∧ (s.counterFull c t = true ∨ s.opsFull = true)

theorem ok_held {s t : State} {guard held : Prop} [Decidable guard] (h : guard → held) :
    ok s (if guard then s else t) = ok s t ∨ ok s (if guard then s else t) = ok s s ∧ held := by
  by_cases hg : guard
  · exact .inr ⟨by rw [if_pos hg], h hg⟩
  · exact .inl (by rw [if_neg hg])

/-- Every Weft row issues its instruction, whose effect is one of the kinds above. -/
theorem exec_weft {i : Instr} {c : Fin 68} {t : Fin 8} {op : WeftOp} (h : Instr.weft i = some (c, t, op)) :
    ∃ run, WeftEffect c t op run ∧ IssuesOrHolds i c t op run := by
  cases i
  case wAdd | wSub | wAnd | wOr | wXor | wAndn | wSll | wSrl | wSra | wRol | wSlt | wSltu | wSeq | wMin | wMax | wMinu |
      wMaxu | wMul | wMulh | wMulhu | wAddi | wAndi | wOri | wXori | wSlli | wSrli | wSrai | wRoli | wExt | wExts | wIns |
      wLi | wLik | wBsw16 | wBsw32 | wBsw64 | wClz | wCtz | wPopc =>
    cases h
    exact ⟨_, .other rfl (.write _ _), fun _ => .inl rfl⟩
  case wLdb | wLdh | wLdw | wLdd | wLdbs | wLdhs | wLdws | wLdhn | wLdwn =>
    cases h
    exact ⟨_, .load rfl rfl, fun _ => .inl rfl⟩
  case wStb | wSth | wStw | wStd | wSthn | wStwn =>
    cases h
    exact ⟨_, .store rfl rfl, fun _ => .inl rfl⟩
  case wCsrd | wCsswp | wCsadd | wCsand | wCsor | wCscas =>
    cases h
    exact ⟨_, .other rfl (.shared _ _ _), fun _ => .inl rfl⟩
  case wCbeq | wCbne | wCblt | wCbge | wCbltu | wCbgeu | wCbeqi | wCbnei | wCblti | wCbgei | wCbltui | wCbgeui =>
    cases h
    exact ⟨_, .other rfl (.branch _ _), fun _ => .inl rfl⟩
  case wJ | wJr =>
    cases h
    exact ⟨_, .other rfl (.jump _ _ _), fun _ => .inl rfl⟩
  case wLoop | wLoopi =>
    cases h
    exact ⟨_, .other rfl (.loop _ _), fun _ => .inl rfl⟩
  case wReqC =>
    cases h
    exact ⟨_, .other rfl (.request _ _ _ _), fun _ => ok_held (⟨rfl, ·⟩)⟩
  case wReqP =>
    cases h
    exact ⟨_, .other rfl (.request _ _ _ _), fun _ => ok_held (⟨rfl, .inr ·⟩)⟩
  case wWait =>
    cases h
    exact ⟨_, .other rfl .wait, fun _ => .inl rfl⟩
  case wEvwait =>
    cases h
    exact ⟨_, .other rfl (.evwait _ _), fun _ => .inl rfl⟩
  case wEvsend =>
    cases h
    exact ⟨_, .other rfl (.evsend _ _), fun _ => .inl rfl⟩
  case wEnd =>
    cases h
    exact ⟨_, .other rfl .endTask, fun _ => .inl rfl⟩
  case wFault =>
    cases h
    exact ⟨_, .other rfl (.fault _ _), fun _ => .inl rfl⟩
  case wScall =>
    cases h
    exact ⟨_, .other rfl (.scall _), fun _ => .inl rfl⟩
  case wSret =>
    cases h
    exact ⟨_, .other rfl .sret, fun _ => .inl rfl⟩
  case wMfcr =>
    cases h
    exact ⟨_, .other rfl (.mfcr _ _), fun _ => .inl rfl⟩
  case wMtcr =>
    cases h
    exact ⟨_, .other rfl (.mtcr _ _), fun _ => .inl rfl⟩
  case wCrcc | wCrce | wCrcz | wHmix =>
    cases h
    exact ⟨_, .other rfl (.cp0 _ _), fun _ => .inl rfl⟩
  case wGkey | wGiv | wGaad | wGenc | wGdec | wGtag | wGver | wPcfg | wCpsave | wCpload =>
    cases h
    exact ⟨_, .other rfl (.cpMem _ _ _ _ _), fun _ => ok_held (⟨rfl, .inl ·⟩)⟩
  case wPfeed =>
    cases h
    exact ⟨_, .other rfl (.cp2Feed _ _), fun _ => .inl rfl⟩
  case wPre | wPim | wPmag =>
    cases h
    exact ⟨_, .other rfl (.cp2Write _ _), fun _ => .inl rfl⟩
  case wPang =>
    cases h
    exact ⟨_, .other rfl (.cp2WriteDrawn _ _), fun _ => .inl rfl⟩
  case wPfeedm | wPgetm =>
    cases h
    exact ⟨_, .other rfl (.cp2Mem _ _ _ _), fun _ => ok_held (⟨rfl, .inl ·⟩)⟩
  case wCpacq =>
    cases h
    exact ⟨_, .other rfl (.cpAcquire _ _), fun _ => .inl rfl⟩
  case wCprel =>
    cases h
    exact ⟨_, .other rfl (.cpRelease _), fun _ => .inl rfl⟩
  all_goals cases h
end Sys2Proof.Machine

/-!
Good order of the cores under every Weft instruction (O22).
-/
namespace Sys2Proof.Machine

theorem good_coreEffect {c t : Nat} {run : State → State} (e : CoreEffect c t run) {s : State} (h : s.weftGood = true) :
    (run s).weftGood = true := by
  cases e with
  | write => exact good_putReg h ..
  | writeDrawn => exact good_putReg (good_drawn h) ..
  | shared => exact good_shared h ..
  | branch => exact good_branch h ..
  | jump => exact good_jump h ..
  | loop => exact good_loopSetup h ..
  | wait =>
    refine good_modTh h c t _ fun _ g => ?_
    split
    · exact good_advance g
    · exact good_same (good_advance g) rfl rfl rfl
  | evwait => exact good_modTh h c t _ fun _ g => good_evStart g ..
  | evsend => exact good_adv (good_raise h ..) ..
  | endTask =>
    dsimp only
    split
    · exact good_fault h ..
    · exact good_modTh h c t _ fun _ g => good_same (good_count g) rfl rfl rfl
  | fault => exact good_fault h ..
  | scall => exact good_supervisor h ..
  | sret => exact good_supReturn h ..
  | mfcr => exact good_readCr h ..
  | mtcr => exact good_writeCr h ..
  | request => exact good_sendReq h ..
  | cp0 => exact good_cpReg h _ _ _ _ (good_putReg h ..)
  | cp2Write => exact good_cp2Reg h _ _ _ (good_putReg h ..)
  | cp2WriteDrawn => exact good_cp2Reg h _ _ _ (good_putReg (good_drawn h) ..)
  | cp2Feed ch x =>
    have core : ∀ k : Core, k.good = true → Core.good { k with cp2 := k.cp2.feed (ch s) (x s) } = true := fun _ hk =>
      core_same hk rfl rfl rfl
    exact good_cp2Reg h _ _ _ (good_adv (good_modCore h c _ core) c t)
  | cpMem => exact good_cpMem h ..
  | cp2Mem => exact good_cp2Mem h ..
  | cpAcquire => exact good_cpAcquire h ..
  | cpRelease => exact good_cpRelease h ..

theorem good_weftEffect {c : Fin 68} {t : Fin 8} {op : WeftOp} {run : State → State} (e : WeftEffect c t op run) {s : State}
    (h : s.weftGood = true) : (run s).weftGood = true := by
  cases e with
  | load => exact good_load h ..
  | store => exact good_store h ..
  | other _ effect => exact good_coreEffect effect h

/-- Settles O22: the row is a Weft instruction of one of the kinds of `WeftEffect`; issuing it, its effect and the
debugger's part each keep good order, and a row held at issue changes nothing. -/
theorem weftKeepsGoodOrder : Obligations.WeftKeepsGoodOrder := by
  unfold Obligations.WeftKeepsGoodOrder
  intro s u i rest pending isWeft good stepped
  obtain ⟨⟨c, t, op⟩, row⟩ := Option.isSome_iff_exists.1 isWeft
  obtain ⟨run, effect, answers⟩ := exec_weft row
  have good : ({ s with pending := rest } : State).weftGood = true := good
  simp only [step, pending] at stepped
  rcases answers { s with pending := rest } with issues | ⟨held, -⟩
  · exact good_ok good (good_issue good c t op run fun _ => good_weftEffect effect) (issues.symm.trans stepped)
  · exact good_ok good good (held.symm.trans stepped)

end Sys2Proof.Machine

/-!
Core and program commands (O35): one lemma for each command, then the statement itself. An admitted packet executes once
its own conditions hold (`runCmd_of_admits`); the rest of its `Can.x` decides those conditions.
-/
namespace Sys2Proof.Machine

/-! ## Cores (R271, R272, R278) -/

theorem exec_coreConfig_of_can {q : Cmd} {s : State} (h : Can.coreConfig q s = true) :
    exec (.coreConfig q) s = .next (
      execPlan (setOp 0x901 .live CoreCfg.rsv) q
        { keys := [(.core, q.h)]
          eff := s.modCore q.h fun k => { k with cfg := CoreCfg.ofTile (q.tile 1) } }) := by
  simp only [Can.coreConfig, Bool.and_eq_true, decide_eq_true_eq] at h
  obtain ⟨⟨admitted, isCore⟩, sl0⟩ := h
  exact runCmd_of_admits admitted (.inl rfl) (by simp [isCore]) sl0 rfl (by simp)

theorem exec_coreGet_of_can {q : Cmd} {s : State} (h : Can.coreGet q s = true) :
    exec (.coreGet q) s = .next (
      execPlan (getOp 0x902 .live) q
        { keys := [(.core, q.h)]
          changes := false
          replyTiles := 3
          eff := s
          tiles := [(s.core q.h).cfg.toTile, (s.coreStatus q.h).toTile] }) := by
  simp only [Can.coreGet, Bool.and_eq_true, decide_eq_true_eq] at h
  obtain ⟨⟨admitted, isCore⟩, mayClear⟩ := h
  exact runCmd_of_admits admitted (.inl rfl) (by simp [isCore]) mayClear rfl (by simp)

theorem exec_coreRetest_of_can {q : Cmd} {s : State} (h : Can.coreRetest q s = true) :
    exec (.coreRetest q) s = .next (
      execPlan (actOp 0x903 .comm 0) q
        { keys := [(.core, q.h)]
          changes := false
          eff := s.modCore q.h fun k => { k with st := { k.st with state := 3 } }
          wait := some (.coreRetest q.h) }) := by
  simp only [Can.coreRetest, Bool.and_eq_true, decide_eq_true_eq] at h
  obtain ⟨⟨⟨admitted, isCore⟩, sl0⟩, retired⟩ := h
  exact runCmd_of_admits admitted (.inl rfl) (by simp [isCore]) sl0 rfl (by simp [retired])

/-! ## Programs (R265, R268, R612) -/

theorem exec_progRegionSet_of_can {q : Cmd} {s : State} (h : Can.progRegionSet q s = true) :
    exec (.progRegionSet q) s = .next (
      let eb := q.u8 17
      let et := q.u8 18
      let pb := q.u32 20
      let pt := q.u32 24
      execPlan (actOp 0x910 .live (used 16 3 ||| used 20 8)) q
        { keys := [(.prog, q.h)]
          eff := s.modProg q.h fun p =>
              { p with enable := BitVec.ofNat 1 (q.u8 16), expBase := BitVec.ofNat 7 eb, expTiles := BitVec.ofNat 8 et
                       progBase := BitVec.ofNat 17 pb, progTiles := BitVec.ofNat 18 pt } }) := by
  simp only [Can.progRegionSet, Bool.and_eq_true, Bool.not_eq_true', decide_eq_true_eq] at h
  obtain ⟨⟨⟨⟨⟨⟨⟨⟨⟨⟨admitted, isSlice⟩, enable⟩, expBase⟩, expTiles⟩, progBase⟩, progTiles⟩, sl0⟩, expFits⟩, progFits⟩,
    apart⟩ := h
  exact runCmd_of_admits admitted (.inl rfl)
    (by simp [isSlice, enable, expBase, expTiles, progBase, progTiles]) sl0 rfl
    (List.forall_mem_singleton.2 (Bool.or_eq_false_iff.2 ⟨Bool.or_eq_false_iff.2 ⟨expFits, progFits⟩, apart⟩))

theorem exec_progConfig_of_can {q : Cmd} {s : State} (h : Can.progConfig q s = true) :
    exec (.progConfig q) s = .next (
      let o := s.progCfg q.h
      let c : ProgCfg := { ProgCfg.ofTile (q.tile 1) with activeTable := o.activeTable, draining := o.draining }
      execPlan (setOp 0x911 .live ProgCfg.rsv) q
        { keys := [(.prog, q.h)]
          eff := s.modProg q.h fun _ => c }) := by
  unfold Can.progConfig at h
  obtain ⟨h, drain⟩ := Bool.and_eq_true_iff.1 h
  obtain ⟨h, current⟩ := Bool.and_eq_true_iff.1 h
  obtain ⟨h, table1⟩ := Bool.and_eq_true_iff.1 h
  obtain ⟨h, table0⟩ := Bool.and_eq_true_iff.1 h
  obtain ⟨h, region⟩ := Bool.and_eq_true_iff.1 h
  simp only [Bool.and_eq_true, decide_eq_true_eq] at h
  obtain ⟨⟨⟨⟨admitted, isSlice⟩, count0⟩, count1⟩, owner⟩ := h
  exact runCmd_of_admits admitted (.inl rfl) (by simp [isSlice, count0, count1]) (decide_eq_true owner) rfl
    (List.forall_mem_cons.2 ⟨congrArg not region, List.forall_mem_cons.2
      ⟨Bool.or_eq_false_iff.2 ⟨Bool.not_eq_eq_eq_not.1 table0, Bool.not_eq_eq_eq_not.1 table1⟩, List.forall_mem_singleton.2
        (Bool.or_eq_false_iff.2 ⟨Bool.not_eq_eq_eq_not.1 current, Bool.not_eq_eq_eq_not.1 drain⟩)⟩⟩)

theorem exec_progGet_of_can {q : Cmd} {s : State} (h : Can.progGet q s = true) :
    exec (.progGet q) s = .next (
      execPlan (getOp 0x912 .live) q
        { keys := [(.prog, q.h)]
          changes := false
          replyTiles := 2
          eff := s
          tiles := [(s.progCfg q.h).toTile] }) := by
  unfold Can.progGet at h
  obtain ⟨h, reader⟩ := Bool.and_eq_true_iff.1 h
  obtain ⟨admitted, isSlice⟩ := Bool.and_eq_true_iff.1 h
  exact runCmd_of_admits admitted (.inl rfl) (by simpa using isSlice) reader rfl (by simp)

theorem exec_programLoad_of_can {q : Cmd} {s : State} (h : Can.programLoad q s = true) :
    exec (.programLoad q) s = .next (
      let a := q.u32 16
      execPlan { opcode := 0x913, modes := .live, minTiles := 2, maxTiles := 64, uses := used 16 4 } q
        { keys := [(.prog, q.h)]
          eff := s.loadTiles a q.cont }) := by
  simp only [Can.programLoad, Bool.and_eq_true, Bool.not_eq_true', decide_eq_true_eq] at h
  obtain ⟨⟨⟨⟨admitted, isSlice⟩, isTile⟩, owner⟩, inside⟩ := h
  exact runCmd_of_admits admitted (.inl rfl) (by simp [isSlice, isTile]) (decide_eq_true owner) rfl
    (List.forall_mem_singleton.2 inside)

theorem exec_progCommit_of_can {q : Cmd} {s : State} (h : Can.progCommit q s = true) :
    exec (.progCommit q) s = .next (
      execPlan (actOp 0x914 .live 0) q
        { keys := [(.prog, q.h)]
          eff := s.modProg q.h fun p => { p with activeTable := p.activeTable ^^^ 1, draining := 1 }
          wait := some (.progCommit q.h) }) := by
  simp only [Can.progCommit, Bool.and_eq_true, Bool.not_eq_true', decide_eq_true_eq] at h
  obtain ⟨⟨⟨admitted, isSlice⟩, owner⟩, drained⟩ := h
  exact runCmd_of_admits admitted (.inl rfl) (by simp [isSlice]) (decide_eq_true owner) drained (by simp)

/-! ## Task groups and dispatch (R193, R194, R214) -/

theorem exec_tgConfig_of_can {q : Cmd} {s : State} (h : Can.tgConfig q s = true) :
    exec (.tgConfig q) s = .next (
      let c := TgCfg.ofTile (q.tile 1)
      execPlan (setOp 0x920 .live TgCfg.rsv) q
        { keys := [(.tg, q.h)]
          eff := { s with task.groups := Tab.set {} s.task.groups q.h c } }) := by
  simp only [Can.tgConfig, Bool.and_eq_true, Bool.not_eq_true', decide_eq_true_eq] at h
  obtain ⟨⟨⟨⟨⟨admitted, isGroup⟩, packetLimit⟩, backgroundLimit⟩, sl0⟩, idle⟩ := h
  exact runCmd_of_admits admitted (.inl rfl) (by simp [isGroup, packetLimit, backgroundLimit]) sl0 rfl
    (List.forall_mem_singleton.2 idle)

theorem exec_tgGet_of_can {q : Cmd} {s : State} (h : Can.tgGet q s = true) :
    exec (.tgGet q) s = .next (
      execPlan (getOp 0x921 .live) q
        { keys := [(.tg, q.h)]
          changes := false
          replyTiles := 2
          eff := s
          tiles := [(s.group q.h).toTile] }) := by
  unfold Can.tgGet at h
  obtain ⟨h, reader⟩ := Bool.and_eq_true_iff.1 h
  obtain ⟨admitted, isGroup⟩ := Bool.and_eq_true_iff.1 h
  exact runCmd_of_admits admitted (.inl rfl) (by simpa using isGroup) reader rfl (by simp)

theorem exec_dispatchConfig_of_can {q : Cmd} {s : State} (h : Can.dispatchConfig q s = true) :
    exec (.dispatchConfig q) s = .next (
      let c := DispatchCfg.ofTile (q.tile 1)
      execPlan (setOp 0x922 .live DispatchCfg.rsv) q
        { keys := [(.dispatch, 0)]
          eff := { s with task.cfg := c } }) := by
  unfold Can.dispatchConfig at h
  simp only [Bool.and_eq_true, decide_eq_true_eq] at h
  obtain ⟨⟨⟨⟨⟨⟨⟨⟨admitted, handle0⟩, reserve⟩, tick0⟩, tick1⟩, tick2⟩, tick3⟩, sl0⟩, unused⟩ := h
  exact runCmd_of_admits admitted (.inl rfl) (by simp [handle0, reserve, tick0, tick1, tick2, tick3]) sl0 rfl
    (List.forall_mem_singleton.2 (Bool.not_eq_eq_eq_not.1 unused))

theorem exec_dispatchGet_of_can {q : Cmd} {s : State} (h : Can.dispatchGet q s = true) :
    exec (.dispatchGet q) s = .next (
      execPlan (getOp 0x923 .live) q
        { keys := [(.dispatch, 0)]
          changes := false
          replyTiles := 2
          eff := s
          tiles := [s.task.cfg.toTile] }) := by
  simp only [Can.dispatchGet, Bool.and_eq_true, decide_eq_true_eq] at h
  obtain ⟨⟨admitted, handle0⟩, mayClear⟩ := h
  exact runCmd_of_admits admitted (.inl rfl) (by simp [handle0]) mayClear rfl (by simp)

/-- Settles O35: each command answers what its lemma above says. -/
theorem coreAndProgramCommands : Obligations.CoreAndProgramCommands := by
  unfold Obligations.CoreAndProgramCommands
  exact ⟨fun _ _ h => exec_coreConfig_of_can h,
    fun _ _ h => exec_coreGet_of_can h,
    fun _ _ h => exec_coreRetest_of_can h,
    fun _ _ h => exec_progRegionSet_of_can h,
    fun _ _ h => exec_progConfig_of_can h,
    fun _ _ h => exec_progGet_of_can h,
    fun _ _ h => exec_programLoad_of_can h,
    fun _ _ h => exec_progCommit_of_can h,
    fun _ _ h => exec_tgConfig_of_can h,
    fun _ _ h => exec_tgGet_of_can h,
    fun _ _ h => exec_dispatchConfig_of_can h,
    fun _ _ h => exec_dispatchGet_of_can h⟩

end Sys2Proof.Machine

/-!
Debugger and JTAG commands (O40): one lemma for each command, then the statement itself. A debugger's command asks for its
core and thread (`named_thread`) and for the requester's own attachment (R619); the rest of its `Can.x` decides its own
conditions.
-/
namespace Sys2Proof.Machine

/-! ## Debugger (R280, R281, R619) -/

/-- The core and the thread that a debugger's command names are in range. -/
theorem named_thread {q : Cmd} (isCore : q.h < 68) (isThread : q.thread < 8) :
    ∀ x ∈ [(decide (q.h ≥ 68) || decide (q.thread ≥ 8), Status.badParam)], x.1 = false := by
  simp [isCore, isThread]

theorem exec_debugAttach_of_can {q : Cmd} {s : State} (h : Can.debugAttach q s = true) :
    exec (.debugAttach q) s = .next (
      let me := s.requester q
      execPlan (actOp 0xF01 .live (used 16 1)) q
        { keys := [(.core, q.h)], changes := false, eff := s.modTh q.h q.thread fun h => { h with dbg := some me } }) := by
  unfold Can.debugAttach at h
  obtain ⟨h, free⟩ := Bool.and_eq_true_iff.1 h
  obtain ⟨h, express⟩ := Bool.and_eq_true_iff.1 h
  obtain ⟨h, live⟩ := Bool.and_eq_true_iff.1 h
  obtain ⟨h, owner⟩ := Bool.and_eq_true_iff.1 h
  simp only [Bool.and_eq_true, decide_eq_true_eq] at h
  obtain ⟨⟨admitted, isCore⟩, isThread⟩ := h
  have mode : (!s.sys.mode.live || (s.sys.mode != .commission && q.thread == 0)) = false := by
    rw [live]
    rcases Bool.or_eq_true_iff.1 express with commission | normal
    · simp [beq_iff_eq.1 commission]
    · simp [bne_iff_ne.1 normal]
  exact runCmd_of_admits admitted (.inl rfl) (named_thread isCore isThread) owner rfl
    (List.forall_mem_cons.2 ⟨mode, List.forall_mem_singleton.2 (by simpa using free)⟩)

theorem exec_debugDetach_of_can {q : Cmd} {s : State} (h : Can.debugDetach q s = true) :
    exec (.debugDetach q) s = .next (
      execPlan (actOp 0xF02 .live (used 16 1)) q
        { keys := [(.core, q.h)], changes := false, eff := s.detach q.h q.thread }) := by
  simp only [Can.debugDetach, Bool.and_eq_true, decide_eq_true_eq] at h
  obtain ⟨⟨⟨admitted, isCore⟩, isThread⟩, attached⟩ := h
  exact runCmd_of_admits admitted (.inl rfl) (named_thread isCore isThread) attached rfl (List.forall_mem_nil _)

theorem exec_debugHalt_of_can {q : Cmd} {s : State} (h : Can.debugHalt q s = true) :
    exec (.debugHalt q) s = .next (
      let h := s.th q.h q.thread
      let t := if h.haltNow then s.modTh q.h q.thread fun h => { h with st := .halted, from' := h.st, haltAt := s.now }
        else s.modTh q.h q.thread fun h => { h with haltReq := true }
      execPlan (actOp 0xF03 .live (used 16 1)) q
        { keys := [(.core, q.h)], changes := false, eff := if h.st = .halted then s else t
          wait := if h.st = .halted ∨ h.haltNow then none else some (.debugHalt q.h q.thread) }) := by
  simp only [Can.debugHalt, Bool.and_eq_true, decide_eq_true_eq, bne_iff_ne] at h
  obtain ⟨⟨⟨⟨admitted, isCore⟩, isThread⟩, attached⟩, runs⟩ := h
  exact runCmd_of_admits admitted (.inl rfl) (named_thread isCore isThread) attached rfl
    (List.forall_mem_singleton.2 (decide_eq_false runs))

theorem exec_debugResume_of_can {q : Cmd} {s : State} (h : Can.debugResume q s = true) :
    exec (.debugResume q) s = .next (
      execPlan (actOp 0xF04 .live (used 16 1)) q
        { keys := [(.core, q.h)], changes := false
          eff := if (s.core q.h).replayDue then s.recoverCore q.h
            else s.modTh q.h q.thread fun h =>
              let r : Thread := h.resumed s.now
              { r with haltReq := false, stepping := false } }) := by
  simp only [Can.debugResume, Bool.and_eq_true, decide_eq_true_eq] at h
  obtain ⟨⟨⟨admitted, isCore⟩, isThread⟩, attached⟩ := h
  exact runCmd_of_admits admitted (.inl rfl) (named_thread isCore isThread) attached rfl (List.forall_mem_nil _)

theorem exec_debugStep_of_can {q : Cmd} {s : State} (h : Can.debugStep q s = true) :
    exec (.debugStep q) s = .next (
      let r := (s.th q.h q.thread).resumed s.now
      execPlan (actOp 0xF05 .live (used 16 1)) q
        { keys := [(.core, q.h)], changes := false
          eff := if r.st = .running then s.modTh q.h q.thread fun _ => { r with stepping := true, skipBp := true } else s
          wait := if r.st = .running then some (.debugStep q.h q.thread) else none }) := by
  simp only [Can.debugStep, Bool.and_eq_true, decide_eq_true_eq, beq_iff_eq] at h
  obtain ⟨⟨⟨⟨admitted, isCore⟩, isThread⟩, attached⟩, halted⟩ := h
  change execDebugStep q s = _
  unfold execDebugStep
  simp only [halted, decide_true, Bool.true_and, decide_eq_true_eq]
  exact runCmd_of_admits admitted (.inl rfl) (named_thread isCore isThread) attached rfl
    (List.forall_mem_singleton.2 (by simp))

theorem exec_debugBreak_of_can {q : Cmd} {s : State} (h : Can.debugBreak q s = true) :
    exec (.debugBreak q) s = .next (
      execPlan (actOp 0xF06 .live (used 16 3 ||| used 20 4)) q
        { keys := [(.core, q.h)], changes := false
          eff := s.modTh q.h q.thread fun h =>
            { h with bps := Tab.set noBreak h.bps (q.u8 17) (if q.u8 18 = 1 then q.u32 20 else noBreak) } }) := by
  simp only [Can.debugBreak, Bool.and_eq_true, decide_eq_true_eq] at h
  obtain ⟨⟨⟨⟨⟨admitted, isCore⟩, isThread⟩, attached⟩, slot⟩, enable⟩ := h
  exact runCmd_of_admits admitted (.inl rfl)
    (List.forall_mem_append.2 ⟨named_thread isCore isThread, by simp [slot, enable]⟩) attached rfl (List.forall_mem_nil _)

/-- The checks of a debugger's access: its length, its core and thread, and what it names. -/
theorem named_access {q : Cmd} {length names : Bool} (lengthGood : length = false) (isCore : q.h < 68)
    (isThread : q.thread < 8) (namesGood : names = false) :
    ∀ x ∈ [(length, Status.badLength), (decide (q.h ≥ 68) || decide (q.thread ≥ 8), .badParam), (names, .badParam)],
      x.1 = false :=
  List.forall_mem_cons.2 ⟨lengthGood, List.forall_mem_cons.2
    ⟨named_thread isCore isThread _ (List.mem_singleton_self _), List.forall_mem_singleton.2 namesGood⟩⟩

theorem exec_debugRead_of_can {q : Cmd} {s : State} (h : Can.debugRead q s = true) :
    exec (.debugRead q) s = .next (
      let a := q.dbgAcc
      let h := s.th q.h q.thread
      execPlan (actOp 0xF07 .live (used 16 2 ||| used 20 6)) q
        { keys := [(.core, q.h)], changes := false, replyTiles := 1 + (a.len + 59) / 60, eff := s.drawn
          tiles := tiles60 (s.dbgRead q.h q.thread a)
          data := dat 16 h.st.code ||| dat 20 (BitVec.ofNat 32 h.pc) }) := by
  simp only [Can.debugRead, Bool.and_eq_true, Bool.not_eq_true', decide_eq_true_eq] at h
  obtain ⟨⟨⟨⟨⟨⟨admitted, length⟩, isCore⟩, isThread⟩, names⟩, attached⟩, opened⟩ := h
  exact runCmd_of_admits admitted (.inl rfl) (named_access length isCore isThread names) attached rfl
    (List.forall_mem_singleton.2 (congrArg not opened))

theorem exec_debugWrite_of_can {q : Cmd} {s : State} (h : Can.debugWrite q s = true) :
    exec (.debugWrite q) s = .next (
      let a := q.dbgAcc
      let bs := (q.cont.flatMap fun t => bytesOf t 60).take a.len
      execPlan { opcode := 0xF08, modes := .live, minTiles := 2, maxTiles := 64, uses := used 16 2 ||| used 20 6 } q
        { keys := [(.core, q.h)], changes := false, eff := s.dbgWrite q.h q.thread a bs }) := by
  unfold Can.debugWrite at h
  obtain ⟨h, halted⟩ := Bool.and_eq_true_iff.1 h
  obtain ⟨h, registers⟩ := Bool.and_eq_true_iff.1 h
  simp only [Bool.and_eq_true, Bool.not_eq_true', decide_eq_true_eq] at h
  obtain ⟨⟨⟨⟨⟨⟨⟨admitted, length⟩, tiles⟩, isCore⟩, isThread⟩, names⟩, attached⟩, opened⟩ := h
  exact runCmd_of_admits admitted (.inl rfl)
    (named_access (by simp [length, tiles]) isCore isThread names) attached rfl
    (List.forall_mem_cons.2 ⟨Bool.or_eq_false_iff.2 ⟨congrArg not opened, Bool.not_eq_eq_eq_not.1 registers⟩,
      List.forall_mem_singleton.2 (by simpa using halted)⟩)

/-! ## JTAG (R652) -/

theorem exec_jtagChallenge_of_can {q : Cmd} {s : State} (h : Can.jtagChallenge q s = true) :
    exec (.jtagChallenge q) s = .next (
      let c : BitVec 128 := (Config.random s.time.free).setWidth 128
      execPlan (actOp 0xF10 .all 0) q
        { keys := [(.jtag, 0)]
          changes := false
          eff := { s.drawn with sys.jtagChallenge := some (c, s.now + 60000000000) }
          data := dat 16 c }) := by
  simp only [Can.jtagChallenge, Bool.and_eq_true, decide_eq_true_eq] at h
  obtain ⟨⟨admitted, handle0⟩, sl0⟩ := h
  exact runCmd_of_admits admitted (.inl rfl) (by simp [handle0]) sl0 rfl (List.forall_mem_nil _)

theorem exec_jtagUnlock_of_can {q : Cmd} {s : State} (h : Can.jtagUnlock q s = true) :
    exec (.jtagUnlock q) s = .next (
      let resp := bytesOf (q.params.extractLsb' 0 256) 32
      let right := match s.sys.jtagChallenge with | some (c, _) => decide (jtagAnswer c = resp) | none => false
      let late := match s.sys.jtagChallenge with | some (_, t) => decide (t < s.now) | none => false
      let s1 := { s with sys.jtagChallenge := none }
      execPlan (actOp 0xF11 .all (used 16 32)) q
        { keys := [(.jtag, 0)]
          changes := false
          eff := if !right then { s1 with sys.jtagWrong := s.sys.jtagWrong + 1 }
              else if late then s1
              else { s1 with sys.jtagOpen := true }.reportDev 0x0D0B 0 0
          status := if right && !late then .ok else .badCheck }) := by
  simp only [Can.jtagUnlock, Bool.and_eq_true, decide_eq_true_eq] at h
  obtain ⟨⟨⟨admitted, handle0⟩, sl0⟩, taken⟩ := h
  exact runCmd_of_admits admitted (.inl rfl) (by simp [handle0]) sl0 rfl
    (List.forall_mem_singleton.2 (decide_eq_false (Nat.not_le.2 taken)))

/-- Settles O40: each command answers what its lemma above says. -/
theorem debugCommands : Obligations.DebugCommands := by
  unfold Obligations.DebugCommands
  exact ⟨fun _ _ h => exec_debugAttach_of_can h,
    fun _ _ h => exec_debugDetach_of_can h,
    fun _ _ h => exec_debugHalt_of_can h,
    fun _ _ h => exec_debugResume_of_can h,
    fun _ _ h => exec_debugStep_of_can h,
    fun _ _ h => exec_debugBreak_of_can h,
    fun _ _ h => exec_debugRead_of_can h,
    fun _ _ h => exec_debugWrite_of_can h,
    fun _ _ h => exec_jtagChallenge_of_can h,
    fun _ _ h => exec_jtagUnlock_of_can h⟩

end Sys2Proof.Machine

/-!
A fault of a thread stops its whole core (O27): the fault changes the core's stop record and the state of its threads, and
nothing that they or the core hold.
-/
namespace Sys2Proof.Machine

/-! ## Reads after writes on cores and threads -/

/-- Changing each index of a list without repeats changes what those indices read, and no other. -/
theorem Tab.get_foldl_upd {α : Type} [DecidableEq α] {d : α} (f : Nat → α → α) {l : List Nat} (nodup : l.Nodup)
    {m : Tab α} (wf : Tab.wf d m = true) (j : Nat) :
    Tab.get d (l.foldl (fun m i => Tab.upd d m i (f i)) m) j = if j ∈ l then f j (Tab.get d m j) else Tab.get d m j := by
  induction l generalizing m with
  | nil => simp
  | cons i r ih =>
    obtain ⟨notIn, nodup⟩ := List.nodup_cons.1 nodup
    rw [List.foldl_cons, ih nodup (Tab.wf_upd wf i _)]
    by_cases same : j = i
    · subst same
      simp [notIn, Tab.get_upd_self wf]
    · simp [same, Tab.get_upd_ne wf i j _ same]

theorem wf_cores {s : State} (h : s.weftGood = true) : Tab.wf ({} : Core) s.weft.cores = true := ((weftGood_iff s).1 h).1

theorem wf_threads {s : State} (h : s.weftGood = true) (c : Nat) : Tab.wf ({} : Thread) (s.core c).threads = true :=
  (core_wf (good_core h c)).1

/-! ## The stop -/

/-- What a stop makes of its core: the record of R275, and every thread STOPPED, with no access or fetch outstanding. -/
def Core.stoppedBy (k : Core) (s : State) (c t cause pc : Nat) (addr : Word) : Core :=
  let r := (s.th c t).record
  { k with
    st.state := 2, st.stopCause := BitVec.ofNat 8 cause, st.stopThread := BitVec.ofNat 3 t
    st.stopPc := BitVec.ofNat 32 pc, st.stopAddr := addr, st.stopWall := s.wall
    st.stopSlice := r.1, st.stopCtx := r.2.1, st.stopEpoch := r.2.2
    noticed := false, poison := false, toJudge := true
    threads := (List.range 8).foldl (fun (m : Tab Thread) i =>
      Tab.upd {} m i fun h => { h with st := .stopped, attach := none, miss := none }) k.threads }

theorem State.core_fault {s : State} (h : s.weftGood = true) (c t : Nat) (e : Cause) (a : Word) :
    (s.fault c t e a).core c = (s.core c).stoppedBy s c t e.code (s.th c t).pc a :=
  State.core_modCore _ c _ (wf_cores h)

theorem State.core_fault_ne {s : State} (h : s.weftGood = true) (c t : Nat) (e : Cause) (a : Word) {d : Nat}
    (other : d ≠ c) : (s.fault c t e a).core d = s.core d :=
  State.core_modCore_ne _ c _ d (wf_cores h) other

theorem Core.th_stoppedBy {k : Core} (wf : Tab.wf ({} : Thread) k.threads = true) (s : State) (c t cause pc : Nat)
    (addr : Word) {j : Nat} (hj : j < 8) :
    (k.stoppedBy s c t cause pc addr).th j = { k.th j with st := .stopped, attach := none, miss := none } := by
  refine (Tab.get_foldl_upd (fun _ h => { h with st := .stopped, attach := none, miss := none }) List.nodup_range wf
    j).trans ?_
  rw [if_pos (List.mem_range.2 hj)]
  rfl

/-- Settles O27: the core of a fault reads as `Core.stoppedBy` says, and every other core reads as before. -/
theorem faultStopsTheWholeCore : Obligations.FaultStopsTheWholeCore := by
  unfold Obligations.FaultStopsTheWholeCore
  intro s c t e a good u
  have core : u.core c = (s.core c).stoppedBy s c t e.code (s.th c t).pc a := State.core_fault good c t e a
  have thread : ∀ j, j < 8 → u.th c j = { s.th c j with st := .stopped, attach := none, miss := none } := fun j hj =>
    (congrArg (Core.th · j) core).trans (Core.th_stoppedBy (wf_threads good c) s c t e.code _ a hj)
  refine ⟨?_, ?_, ?_, ?_, ?_, ?_, fun j hj => ?_, ?_, ?_, fun d => State.core_fault_ne good c t e a⟩
  case refine_7 => rw [thread j hj]; exact ⟨rfl, rfl, rfl, rfl⟩
  all_goals rw [core]; rfl

end Sys2Proof.Machine

/-!
What issuing an instruction leaves as it was (the state `State.issued` differs only in bars, the cache's order, the turn,
the progress mark and ISSUED), the steps of `State.issue` in their order, and with them the loads and stores that reach the
DRAM window (O60) and the faults of a Weft instruction (O26).
-/
namespace Sys2Proof.Machine

/-! ## The state of an instruction that has issued -/

theorem Core.th_cycle {k : Core} (wf : Tab.wf ({} : Thread) k.threads = true) (t bar j : Nat) :
    ∃ b, (k.cycle t bar).th j = { k.th j with bar := b } := by
  unfold Core.cycle Core.th
  rw [Tab.get_foldl_upd (fun i (h : Thread) => { h with bar := if i = t then bar else h.bar - 1 }) List.nodup_range wf j]
  split
  · exact ⟨_, rfl⟩
  · exact ⟨_, rfl⟩

theorem Core.useTile_threads (k : Core) (i : Nat) : (k.useTile i).threads = k.threads := by
  unfold Core.useTile; split <;> rfl

/-- What a core that issues differs in: the order of its cache, its turn, the bars of its threads and its progress mark. -/
theorem Core.issue_eq (k : Core) (i t bar : Nat) : ∃ cache last threads,
    ({ (k.useTile i).cycle t bar with progress := true } : Core) =
      { k with icache := cache, lastIssue := last, threads := threads, progress := true } := by
  unfold Core.useTile Core.cycle
  split
  · exact ⟨_, _, _, rfl⟩
  · exact ⟨_, _, _, rfl⟩

theorem Core.th_upd {k : Core} (wf : Tab.wf ({} : Thread) k.threads = true) (t : Nat) (f : Thread → Thread) :
    Core.th { k with threads := Tab.upd {} k.threads t f } t = f (k.th t) := Tab.get_upd_self wf t f

/-- The core of an instruction that issues, but for the mark that a breakpoint has held its thread. -/
def State.issuingCore (s : State) (c t : Nat) : Core :=
  { ((s.core c).useTile ((s.th c t).pc / 64)).cycle t (((s.atPc c t).map opBar).getD 0) with progress := true }

theorem State.issuingCore_threads (s : State) (c t : Nat) : (s.issuingCore c t).threads =
    (((s.core c).useTile ((s.th c t).pc / 64)).cycle t (((s.atPc c t).map opBar).getD 0)).threads := by
  unfold State.issuingCore
  with_reducible rfl

theorem State.wf_issuingCore {s : State} (h : s.weftGood = true) (c t : Nat) :
    Tab.wf ({} : Thread) (s.issuingCore c t).threads = true := by
  rw [State.issuingCore_threads]
  exact (core_wf (good_cycle (good_useTile (good_core h c) _) t _)).1

theorem State.th_issuingCore {s : State} (h : s.weftGood = true) (c t : Nat) :
    ∃ b, (s.issuingCore c t).th t = { s.th c t with bar := b } := by
  rw [Core.th, State.issuingCore_threads, ← Core.th]
  obtain ⟨b, cycled⟩ := Core.th_cycle (core_wf (good_useTile (good_core h c) ((s.th c t).pc / 64))).1 t
    (((s.atPc c t).map opBar).getD 0) t
  exact ⟨b, by rw [cycled, Core.th, Core.useTile_threads]; rfl⟩

theorem State.core_issued {s : State} (h : s.weftGood = true) (c t : Nat) :
    (s.issued c t).core c = { s.issuingCore c t with
      threads := Tab.upd {} (s.issuingCore c t).threads t fun h => { h with skipBp := false } } := by
  have issuing : ((s.modCore c fun _ => s.issuingCore c t).bump .issued c).core c = s.issuingCore c t :=
    State.core_modCore s c _ (wf_cores h)
  refine (State.core_modCore _ c _ ?_).trans ?_
  · exact Tab.wf_upd (wf_cores h) c fun k =>
      { (k.useTile ((s.th c t).pc / 64)).cycle t (((s.atPc c t).map opBar).getD 0) with progress := true }
  · rw [← issuing]
    rfl

/-- The thread that issues is as before, but for its bar and the mark that a breakpoint has held it. -/
theorem State.th_issued {s : State} (h : s.weftGood = true) (c t : Nat) :
    ∃ b, (s.issued c t).th c t = { s.th c t with bar := b, skipBp := false } := by
  obtain ⟨b, issuing⟩ := State.th_issuingCore h c t
  exact ⟨b, by rw [State.th, State.core_issued h, Core.th_upd (State.wf_issuingCore h c t), issuing]⟩

/-- The core that issues is as before, but for the order of its cache, its turn, its threads and its progress mark. -/
theorem State.core_issued_keeps {s : State} (h : s.weftGood = true) (c t : Nat) : ∃ cache last threads,
    (s.issued c t).core c =
      { s.core c with icache := cache, lastIssue := last, threads := threads, progress := true } := by
  rw [State.core_issued h]
  obtain ⟨cache, last, threads, eq⟩ := Core.issue_eq (s.core c) ((s.th c t).pc / 64) t (((s.atPc c t).map opBar).getD 0)
  rw [State.issuingCore, eq]
  exact ⟨_, _, _, rfl⟩

theorem State.rg_issued {s : State} (h : s.weftGood = true) (c t : Nat) (r : BitVec 5) :
    (s.issued c t).rg c t r = s.rg c t r := by
  obtain ⟨b, thread⟩ := State.th_issued h c t
  rw [State.rg, thread]
  rfl

theorem State.sliceOf_issued {s : State} (h : s.weftGood = true) (c t : Nat) :
    (s.issued c t).sliceOf c t = s.sliceOf c t := by
  obtain ⟨b, thread⟩ := State.th_issued h c t
  rw [State.sliceOf, thread]
  rfl

/-- Issuing changes nothing of the data address map (R257). -/
theorem State.locate_issued {s : State} (h : s.weftGood = true) (c t : Nat) (a : Word) :
    (s.issued c t).locate c t a = s.locate c t a := by
  obtain ⟨b, thread⟩ := State.th_issued h c t
  obtain ⟨cache, last, threads, core⟩ := State.core_issued_keeps h c t
  unfold State.locate
  rw [State.sliceOf_issued h, thread, core]
  rfl

theorem good_issued {s : State} (h : s.weftGood = true) (c t : Nat) : (s.issued c t).weftGood = true := by
  have core : ∀ k : Core, k.good = true → Core.good { (k.useTile ((s.th c t).pc / 64)).cycle t
      (((s.atPc c t).map opBar).getD 0) with progress := true } = true := fun k hk => by
    have cycled := good_cycle (good_useTile hk ((s.th c t).pc / 64)) t (((s.atPc c t).map opBar).getD 0)
    generalize Core.cycle _ _ _ = j at cycled ⊢
    exact core_same cycled rfl rfl rfl
  exact good_modTh (good_bump (good_modCore h c _ core) .issued c) c t _ fun _ g => good_same g rfl rfl rfl

theorem State.active_issued {s : State} (h : s.weftGood = true) (c t : Nat) :
    ((s.issued c t).core c).active = (s.core c).active := by
  obtain ⟨cache, last, threads, core⟩ := State.core_issued_keeps h c t
  rw [core]
  rfl

/-! ## The steps of issuing -/

/-- The thread that a core selects can issue, so its core is ACTIVE (R251, R252). -/
theorem State.active_of_selected {s : State} {c t : Nat} (h : s.selected c = some t) : (s.core c).active = true := by
  obtain ⟨bar, -, found⟩ := List.exists_of_findSome?_eq_some h
  have selectable := List.find?_some found
  simp only [State.selectable, State.canIssue, Bool.and_eq_true] at selectable
  obtain ⟨⟨⟨⟨⟨⟨⟨active, -⟩, -⟩, -⟩, -⟩, -⟩, -⟩, -⟩ := selectable
  exact active

section
variable {s : State} {c t : Nat} {op : WeftOp} {run : State → State}

theorem State.issue_fetch (selected : s.selected c = some t)
    (fetch : s.goodTarget c t (BitVec.ofNat 64 (s.th c t).pc) = false) : s.issue c t op run = s.fault c t .fetch 0 := by
  simp [State.issue, selected, fetch]

theorem State.issue_illegal (selected : s.selected c = some t)
    (fetch : s.goodTarget c t (BitVec.ofNat 64 (s.th c t).pc) = true)
    (cached : (s.core c).cached ((s.th c t).pc / 64) = true) (illegal : decodeWeft (s.progWord (s.th c t).pc) = none) :
    s.issue c t op run = (s.bump .issued c).fault c t .illegal 0 := by
  simp [State.issue, selected, fetch, cached, illegal]

/-- The instruction at the PC, where it may stand, has its effect on the issued state, unless its parity is bad. -/
theorem State.issue_runs (selected : s.selected c = some t)
    (fetch : s.goodTarget c t (BitVec.ofNat 64 (s.th c t).pc) = true)
    (cached : (s.core c).cached ((s.th c t).pc / 64) = true) (here : s.atPc c t = some op)
    (loopEnd : ((s.th c t).onEnd && noLoopEnd op) = false) :
    s.issue c t op run = s.does c t fun u => u.checked c t op (run u) := by
  have decoded : decodeWeft (s.progWord (s.th c t).pc) = some op := here
  simp [State.issue, State.does, State.issued, selected, fetch, cached, decoded, here, loopEnd]

/-- The steps of issuing in their order: what holds after each way out holds after issuing. -/
theorem State.issue_elim {P : State → Prop} (s : State) (c t : Nat) (op : WeftOp) (run : State → State) (stays : P s)
    (fetch : P (s.fault c t .fetch 0))
    (miss : ∀ tile, P ((s.modTh c t fun h => { h with miss := some tile }).bump .icacheMiss c))
    (illegal : P ((s.bump .issued c).fault c t .illegal 0)) (loopEnd : P ((s.issued c t).fault c t .illegal 0))
    (runs : P (s.does c t fun u => u.checked c t op (run u))) : P (s.issue c t op run) := by
  unfold State.issue
  dsimp only
  split
  · exact stays
  · split
    · exact fetch
    · split
      · exact miss _
      · split
        · exact illegal
        next o decoded =>
        have here : s.atPc c t = some o := decoded
        split
        · exact stays
        next same =>
        have same : o = op := Decidable.not_not.1 same
        subst same
        simp only [State.does, State.issued, here, Option.map_some, Option.getD_some] at runs loopEnd
        split
        · exact loopEnd
        · exact runs

end

end Sys2Proof.Machine

/-!
Loads and stores that reach the DRAM window (O60), and where a Weft instruction faults (O26).
-/
namespace Sys2Proof.Machine

/-! ## Loads and stores by where their address leads (R257, R289, R307) -/

section
variable {s : State} {c t n p : Nat} {a : BitVec 5} {addr : Word} {signed net : Bool} {bs : List Byte}

theorem State.load_misaligned (misaligned : addr.toNat % n ≠ 0) :
    s.load c t a addr n signed net = s.fault c t .align addr := if_pos misaligned

theorem State.load_nowhere (aligned : addr.toNat % n = 0) (nowhere : s.locate c t addr = none) :
    s.load c t a addr n signed net = s.fault c t .access addr := by
  rw [State.load, if_neg (not_not_intro aligned), nowhere]

theorem State.load_local (aligned : addr.toNat % n = 0) (isLocal : s.locate c t addr = some (.lm p)) :
    s.load c t a addr n signed net =
      s.drawn.putReg c t a (loaded (if net then (s.lmSee c p n).reverse else s.lmSee c p n) signed) := by
  rw [State.load, if_neg (not_not_intro aligned), isLocal]

theorem State.load_dram (aligned : addr.toNat % n = 0) (isDram : s.locate c t addr = some (.dram p)) :
    s.load c t a addr n signed net =
      let x := s.cacheTouch (s.sl (s.sliceOf c t)).cfg.winCid.toNat (p / 64) false
      if x.2 then x.1.attachTo c t ⟨p / 64, addr.toNat, p, n, true, a, signed, net, [], s.now⟩
      else
        let bs := Mem.read x.1.dram.mem p n
        x.1.putReg c t a (loaded (if net then bs.reverse else bs) signed) := by
  rw [State.load, if_neg (not_not_intro aligned), isDram]
  dsimp only
  generalize s.cacheTouch _ _ _ = x
  obtain ⟨u, fill⟩ := x
  cases fill <;> rfl

theorem State.store_misaligned (misaligned : addr.toNat % bs.length ≠ 0) :
    s.store c t addr bs = s.fault c t .align addr := if_pos misaligned

theorem State.store_nowhere (aligned : addr.toNat % bs.length = 0) (nowhere : s.locate c t addr = none) :
    s.store c t addr bs = s.fault c t .access addr := by
  rw [State.store, if_neg (not_not_intro aligned), nowhere]

theorem State.store_local (aligned : addr.toNat % bs.length = 0) (isLocal : s.locate c t addr = some (.lm p)) :
    s.store c t addr bs = (s.lmWrite c p bs).modTh c t Thread.advance := by
  rw [State.store, if_neg (not_not_intro aligned), isLocal]

theorem State.store_dram (aligned : addr.toNat % bs.length = 0) (isDram : s.locate c t addr = some (.dram p)) :
    s.store c t addr bs =
      let x := s.cacheTouch (s.sl (s.sliceOf c t)).cfg.winCid.toNat (p / 64) true
      if x.2 then x.1.attachTo c t ⟨p / 64, addr.toNat, p, bs.length, false, 0, false, false, bs, s.now⟩
      else ({ x.1 with dram.mem := Mem.write x.1.dram.mem p bs } : State).modTh c t Thread.advance := by
  rw [State.store, if_neg (not_not_intro aligned), isDram]
  dsimp only
  generalize s.cacheTouch _ _ _ = x
  obtain ⟨u, fill⟩ := x
  cases fill <;> rfl

end

/-! ## The DRAM window (O60) -/

theorem exec_of_access {i : Instr} {c : Fin 68} {t : Fin 8} {op : WeftOp} {e : Access} {run : State → State} {s : State}
    (answers : IssuesOrHolds i c t op run) (access : weftAccess op = some e) :
    exec i s = ok s (s.issue c t op run) := by
  rcases answers s with issues | ⟨-, none, -⟩
  · exact issues
  · rw [access] at none; cases none

/-- Settles O60: the row is a load or a store, whose effect on the issued state `State.load_dram` or `State.store_dram`
gives. -/
theorem weftDramWindow : Obligations.WeftDramWindow := by
  unfold Obligations.WeftDramWindow
  intro i c t op e p s row access reaches
  simp only [Access.toDram, Bool.and_eq_true, beq_iff_eq] at reaches
  obtain ⟨⟨issues, aligned⟩, isDram⟩ := reaches
  obtain ⟨run, effect, answers⟩ := exec_weft row
  refine (exec_of_access answers access).trans ((issue_of issues).trans (does_congr ?_))
  cases effect with
  | load same isLoad =>
    cases Option.some.inj (same.symm.trans access)
    simp only [State.load_dram aligned isDram, isLoad, Bool.not_true, if_true]
  | store same isStore =>
    cases Option.some.inj (same.symm.trans access)
    rw [← Access.stored_length e c t (s.issued c t)] at aligned
    simp only [State.store_dram aligned isDram, isStore, Bool.not_false, Bool.false_eq_true, if_false,
      Access.stored_length]
    rfl
  | other none => rw [access] at none; cases none

/-! ## Faults (O26) -/

/-- A change of a thread leaves its core's state as it was. -/
theorem State.active_modTh {s : State} (h : s.weftGood = true) (c t : Nat) (f : Thread → Thread) :
    ((s.modTh c t f).core c).active = (s.core c).active := by
  rw [State.modTh, State.core_modCore s c _ (wf_cores h)]
  rfl

/-- Bad parity takes the place of an effect that has left the core ACTIVE (R274, R307). -/
theorem State.checked_of_parity {s u : State} {c t : Nat} {op : WeftOp} {a : Word} (parity : s.parityFault c t op = some a)
    (active : (u.core c).active = true) : s.checked c t op u = s.fault c t .lmParity a := by
  simp only [State.checked, parity, active, if_true]

/-- The access of a load or a store, from its base register, offset and width. -/
theorem WeftOp.weftAccess_of_access {op : WeftOp} {b : BitVec 5} {o : BitVec 15} {n : Nat}
    (h : op.access = some (b, o, n)) : ∃ e, weftAccess op = some e ∧ e.base = b ∧ e.disp = o ∧ e.bytes = n := by
  rw [WeftOp.access_eq, Option.map_eq_some_iff] at h
  obtain ⟨e, access, same⟩ := h
  cases same
  exact ⟨e, access, rfl, rfl, rfl⟩

theorem Access.addr_issued {s : State} (h : s.weftGood = true) (e : Access) (c : Fin 68) (t : Fin 8) :
    e.addr c t (s.issued c t) = s.rg c t e.base + e.disp.signExtend 64 := by
  rw [Access.addr, State.rg_issued h]

section
variable {s : State} {c : Fin 68} {t : Fin 8} {op : WeftOp} {e : Access} {run : State → State}

/-- A load or a store at a misaligned address faults with ALIGN (R289). -/
theorem WeftEffect.misaligned (effect : WeftEffect c t op run) (access : weftAccess op = some e)
    (misaligned : (e.addr c t s).toNat % e.bytes ≠ 0) : run s = s.fault c t .align (e.addr c t s) := by
  cases effect with
  | load same =>
    cases Option.some.inj (same.symm.trans access)
    exact State.load_misaligned misaligned
  | store same =>
    cases Option.some.inj (same.symm.trans access)
    exact State.store_misaligned (by rwa [Access.stored_length])
  | other none => rw [access] at none; cases none

/-- At an aligned address where R257 allows nothing it faults with ACCESS. -/
theorem WeftEffect.nowhere (effect : WeftEffect c t op run) (access : weftAccess op = some e)
    (aligned : (e.addr c t s).toNat % e.bytes = 0) (nowhere : s.locate c t (e.addr c t s) = none) :
    run s = s.fault c t .access (e.addr c t s) := by
  cases effect with
  | load same =>
    cases Option.some.inj (same.symm.trans access)
    exact State.load_nowhere aligned nowhere
  | store same =>
    cases Option.some.inj (same.symm.trans access)
    exact State.store_nowhere (by rwa [Access.stored_length]) nowhere
  | other none => rw [access] at none; cases none

/-- A load from local memory leaves its core as active as it was. -/
theorem WeftEffect.active_of_local {p : Nat} (effect : WeftEffect c t op run) (access : weftAccess op = some e)
    (isLoad : e.load = true) (aligned : (e.addr c t s).toNat % e.bytes = 0)
    (isLocal : s.locate c t (e.addr c t s) = some (.lm p)) (good : s.weftGood = true) :
    ((run s).core c).active = (s.core c).active := by
  cases effect with
  | load same =>
    cases Option.some.inj (same.symm.trans access)
    dsimp only
    rw [State.load_local aligned isLocal]
    exact State.active_modTh (good_drawn good) ..
  | store same isStore =>
    cases Option.some.inj (same.symm.trans access)
    rw [isLoad] at isStore; cases isStore
  | other none => rw [access] at none; cases none

end

/-- Settles O26: the steps of issuing give FETCH and ILLEGAL, the effect of a load or a store ALIGN and ACCESS, and the
parity check LM_PARITY, the load having left the core ACTIVE. -/
theorem weftFaultConditions : Obligations.WeftFaultConditions := by
  unfold Obligations.WeftFaultConditions
  intro i c t op s row running selected notFull room
  obtain ⟨run, effect, answers⟩ := exec_weft row
  have issued : exec i s = .next (s.issue c t op run) := by
    rcases answers s with issues | ⟨-, -, full | full⟩
    · exact issues.trans (ok_of_running _ running)
    · rw [notFull] at full; cases full
    · rw [room] at full; cases full
  refine ⟨fun fetch => ?_, fun fetch cached illegal => ?_, fun b o n reads good issues => ?_,
    fun b o n p a reads noStore good fetch cached here loopEnd aligned isLocal parity => ?_⟩
  · rw [issued, State.issue_fetch selected fetch]
  · rw [issued, State.issue_illegal selected fetch cached illegal]
  · obtain ⟨e, access, rfl, rfl, rfl⟩ := WeftOp.weftAccess_of_access reads
    have answer := (exec_of_access answers access).trans (issue_of issues)
    rw [← Access.addr_issued good]
    refine ⟨fun misaligned => ?_, fun aligned nowhere => ?_⟩
    · exact answer.trans (does_congr (effect.misaligned access misaligned))
    · rw [← State.locate_issued good] at nowhere
      exact answer.trans (does_congr (effect.nowhere access aligned nowhere))
  · rw [WeftOp.isStore_eq] at noStore
    obtain ⟨e, access, rfl, rfl, rfl⟩ := WeftOp.weftAccess_of_access reads
    simp only [access, Option.any_some, Bool.not_eq_false'] at noStore
    rw [← Access.addr_issued good] at aligned isLocal
    rw [← State.locate_issued good] at isLocal
    rw [issued, State.issue_runs selected fetch cached here loopEnd]
    have active := effect.active_of_local access noStore aligned isLocal (good_issued good c t)
    rw [State.active_issued good, State.active_of_selected selected] at active
    exact does_congr (State.checked_of_parity parity active)

end Sys2Proof.Machine

/-!
The frame of the Weft instructions: one changes no other core and no unit outside the cores (O23), and of memory only the
bytes that it stores to (O25).
-/
namespace Sys2Proof.Machine

/-! ## What replies and the cache leave alone, beside the cores and memory (`State.wm`) -/

/-- The units that no Weft instruction reaches, with the state of the fabric, on which its debugger's reply depends. -/
def State.outside (s : State) :=
  (s.weft.prog, s.weft.progs, s.ports, s.buf, s.rules, s.tm, s.lock, s.tab, s.selv, s.task, s.sys.mode, s.host.gens,
    s.fab.st, s.pending)

theorem outside_reserveOnce (s : State) (q : Cmd) (k : Nat) : (s.reserveOnce q k).outside = s.outside :=
  State.reserveOnce_keeps State.outside (fun _ _ => rfl) (fun _ _ _ => rfl) s q k

theorem outside_linkSend (s : State) (k : Nat) (f : FabFrame) : (s.linkSend k f).outside = s.outside := by
  unfold State.linkSend State.linkKeep
  split <;> rfl

theorem outside_writeSlots (s : State) (n : Nat) (v : Resv) (r : Reply) : (s.writeSlots n v r).outside = s.outside := by
  unfold State.writeSlots
  dsimp only
  split
  · rfl
  · refine foldl_keeps State.outside _ ?_ _ s
    exact fun _ _ => rfl

theorem outside_signal (s : State) (n o : Nat) : (s.signal n o).outside = s.outside := by
  unfold State.signal
  dsimp only
  split
  · rfl
  · split <;> rfl

theorem outside_fabricSend (s : State) (q : Cmd) (a b : Nat) (r : Reply) : (s.fabricSend q a b r).outside = s.outside := by
  unfold State.fabricSend
  split
  · exact outside_linkSend ..
  · rfl

theorem outside_deliver (s : State) (q : Cmd) (k : Nat) (r : Reply) : (s.deliver q k r).outside = s.outside := by
  unfold State.deliver
  split
  · dsimp only; split <;> rfl
  · rfl
  · next n _ =>
    dsimp only
    split
    · rfl
    · have reserved := outside_reserveOnce (s.modSl n.val fun h => { h with window := recordReply h.window r k }) q k
      generalize State.reserveOnce _ q k = s2 at reserved ⊢
      have written := foldl_keeps State.outside (fun s v => s.writeSlots n.val v r) (fun s v => outside_writeSlots s n.val v r)
        (List.filter (fun v => decide (v.seq = r.seq)) (s2.sl n.val).resv) s2
      generalize List.foldl (fun s v => s.writeSlots n.val v r) s2 _ = s3 at written ⊢
      split
      · exact written.trans reserved
      · exact (outside_signal ..).trans (written.trans reserved)
  · rfl
  · exact outside_fabricSend ..
  · exact outside_fabricSend ..
  · rfl

theorem outside_markDirty (s : State) (i : Nat) : (s.markDirty i).outside = s.outside := by
  unfold State.markDirty
  split
  · split <;> rfl
  · rfl

theorem outside_evict (s : State) (l : CacheLine) : (s.evict l).outside = s.outside := by
  unfold State.evict
  split
  · dsimp only; split <;> rfl
  · rfl

theorem outside_victim (s : State) (cid line : Nat) : (s.victim cid line).2.outside = s.outside := by
  unfold State.victim
  dsimp only
  split <;> rfl

theorem outside_meetFault (s : State) (i : Nat) : (s.meetFault i).1.outside = s.outside := by
  unfold State.meetFault
  split
  · rfl
  · dsimp only
    split
    · rfl
    · split <;> rfl

theorem outside_counted (s : State) (x y : Ctr) (i j : Nat) (b : Bool) :
    (if b then s.bump x i else s.bump y j).outside = s.outside := by
  split <;> rfl

theorem outside_dirtied (s : State) (i : Nat) (b : Bool) : (if b then s.markDirty i else s).outside = s.outside := by
  split
  · exact outside_markDirty ..
  · rfl

theorem outside_cacheTouch (s : State) (cid line : Nat) (w : Bool) : (s.cacheTouch cid line w).1.outside = s.outside := by
  unfold State.cacheTouch
  dsimp only
  split
  · exact (outside_dirtied ..).trans ((outside_counted ..).trans (outside_meetFault ..))
  · split
    · rfl
    · split
      · rfl
      · refine (outside_dirtied ..).trans ?_
        have taken := outside_victim (s.cacheMiss cid) cid line
        generalize State.victim _ cid line = x at taken ⊢
        split
        · exact (outside_evict ..).trans taken
        · exact taken

/-! ## Two frames -/

/-- Of what Weft instructions could reach, `u` differs from `s` in core `c` and in DRAM's contents alone. -/
structure OnCore (c : Nat) (s u : State) : Prop where
  wf : Tab.wf ({} : Core) u.weft.cores = true
  others : ∀ d, d ≠ c → u.core d = s.core d
  outside : u.outside = s.outside

/-- And it holds the same bytes in the core's local memory and in DRAM. -/
structure Quiet (c : Nat) (s u : State) : Prop extends OnCore c s u where
  lmem : (u.core c).lmem = (s.core c).lmem
  mem : u.dram.mem = s.dram.mem

section
variable {c : Nat} {s u v : State}

theorem Quiet.refl (wf : Tab.wf ({} : Core) s.weft.cores = true) : Quiet c s s := ⟨⟨wf, fun _ _ => rfl, rfl⟩, rfl, rfl⟩

theorem OnCore.trans (h : OnCore c s u) (g : OnCore c u v) : OnCore c s v :=
  ⟨g.wf, fun d other => (g.others d other).trans (h.others d other), g.outside.trans h.outside⟩

/-- A change outside the cores, of none of the units. -/
theorem Quiet.same (h : Quiet c s u) (cores : v.weft.cores = u.weft.cores) (outside : v.outside = u.outside)
    (mem : v.dram.mem = u.dram.mem) : Quiet c s v := by
  have core : ∀ d, v.core d = u.core d := fun d => by rw [State.core, cores, ← State.core]
  exact ⟨⟨cores ▸ h.wf, fun d other => (core d).trans (h.others d other), outside.trans h.outside⟩,
    (congrArg Core.lmem (core c)).trans h.lmem, mem.trans h.mem⟩

theorem Quiet.wm (h : Quiet c s u) (outside : v.outside = u.outside) (wm : v.wm = u.wm) : Quiet c s v := by
  simp only [State.wm, Prod.mk.injEq] at wm
  exact h.same (by rw [wm.1]) outside wm.2

theorem OnCore.modCore (h : OnCore c s u) (f : Core → Core) : OnCore c s (u.modCore c f) :=
  ⟨Tab.wf_upd h.wf c f, fun d other => (State.core_modCore_ne u c f d h.wf other).trans (h.others d other), h.outside⟩

/-- A change of the core that leaves its local memory. -/
theorem Quiet.modCore (h : Quiet c s u) (f : Core → Core) (keeps : ∀ k, (f k).lmem = k.lmem) :
    Quiet c s (u.modCore c f) :=
  ⟨h.toOnCore.modCore f, by rw [State.core_modCore u c f h.wf, keeps, h.lmem], h.mem⟩

theorem Quiet.modTh (h : Quiet c s u) (t : Nat) (f : Thread → Thread) : Quiet c s (u.modTh c t f) :=
  h.modCore _ fun _ => rfl

theorem Quiet.drawn (h : Quiet c s u) : Quiet c s u.drawn := h.same rfl rfl rfl

theorem Quiet.bump (h : Quiet c s u) (x : Ctr) (i : Nat) : Quiet c s (u.bump x i) := h.same rfl rfl rfl

theorem Quiet.squash (h : Quiet c s u) (n : Nat) : Quiet c s (u.squashYounger c n) := h.same rfl rfl rfl

theorem Quiet.fault (h : Quiet c s u) (t : Nat) (e : Cause) (a : Word) : Quiet c s (u.fault c t e a) :=
  (h.squash 4).modCore _ fun _ => rfl

theorem Quiet.putReg (h : Quiet c s u) (t : Nat) (a : BitVec 5) (v : Word) : Quiet c s (u.putReg c t a v) := h.modTh t _

theorem Quiet.raiseLine (h : Quiet c s u) (n t l : Nat) : Quiet c s (u.raiseLine n c t l).1 := by
  unfold State.raiseLine
  split
  · exact h.modTh ..
  · exact h.bump ..

/-- An access to the table cache moves no byte. -/
theorem Quiet.cacheTouch (h : Quiet c s u) (cid line : Nat) (w : Bool) : Quiet c s (u.cacheTouch cid line w).1 :=
  h.wm (outside_cacheTouch ..) (wm_cacheTouch ..)

/-! ## The debugger's part and issuing -/

/-- A reply of a device without a twin at work goes out on its path (R535). -/
theorem State.answer_of_alone (alone : s.fab.st.twinState = 0) (q : Cmd) (ks : List ObjKey) (k : Nat) (r : Reply) :
    s.answer q ks k r = s.deliver q k r := by
  simp [State.answer, alone]

theorem OnCore.alone (h : OnCore c s u) (alone : s.fab.st.twinState = 0) : u.fab.st.twinState = 0 := by
  have outside := h.outside
  simp only [State.outside, Prod.mk.injEq] at outside
  obtain ⟨-, -, -, -, -, -, -, -, -, -, -, -, fabric, -⟩ := outside
  rw [fabric, alone]

theorem Quiet.answer (h : Quiet c s u) (alone : s.fab.st.twinState = 0) (q : Cmd) (ks : List ObjKey) (k : Nat) (r : Reply) :
    Quiet c s (u.answer q ks k r) := by
  rw [State.answer_of_alone (h.alone alone)]
  exact h.wm (outside_deliver ..) (wm_deliver ..)

theorem Quiet.finish (h : Quiet c s u) (alone : s.fab.st.twinState = 0) (f : Wait → Bool) (e : Status) (d : BitVec 352)
    (l : List Tile) : Quiet c s (u.finish f e d l) := by
  unfold State.finish State.complete
  split
  · exact h
  · refine Quiet.answer ?_ alone ..
    exact h.same rfl rfl rfl

theorem Quiet.afterStep (h : Quiet c s u) (alone : s.fab.st.twinState = 0) (t : Nat) : Quiet c s (u.afterStep c t) := by
  unfold State.afterStep
  dsimp only
  split
  · exact (h.modTh t _).finish alone ..
  · exact h

theorem Quiet.issued (h : Quiet c s u) (t : Nat) : Quiet c s (u.issued c t) := by
  refine ((h.modCore _ fun k => ?_).bump .issued c).modTh t _
  obtain ⟨cache, last, threads, eq⟩ := Core.issue_eq k ((u.th c t).pc / 64) t (((u.atPc c t).map opBar).getD 0)
  rw [eq]

end

end Sys2Proof.Machine

/-!
Every effect that is no store is quiet (`Quiet`); a store is quiet but for its own bytes. With them the frames of the Weft
instructions on the device (O23) and on memory (O25).
-/
namespace Sys2Proof.Machine

/-! ## Effects on the core's own state -/

section
variable {c : Nat} {s u : State} (h : Quiet c s u)
include h

theorem Quiet.shared (t : Nat) (a : BitVec 5) (n : BitVec 4) (f : Word → Word) : Quiet c s (u.shared c t a n f) := by
  unfold State.shared
  dsimp only
  split
  · exact h.fault ..
  · refine (h.modCore _ ?_).putReg ..
    exact fun _ => rfl

theorem Quiet.goto (t : Nat) (a : Word) : Quiet c s (u.goto c t a) := by
  unfold State.goto
  split
  · exact h.fault ..
  · exact (h.squash 3).modTh ..

theorem Quiet.branch (t : Nat) (taken : Bool) (off : Word) : Quiet c s (u.branch c t taken off) := by
  unfold State.branch
  split
  · exact h.goto ..
  · exact h.modTh ..

theorem Quiet.jump (t n : Nat) (a : BitVec 5) (tgt : Word) : Quiet c s (u.jump c t n a tgt) := by
  unfold State.jump
  split
  · exact h.fault ..
  · exact (h.squash n).modTh ..

theorem Quiet.loopSetup (t count endOff : Nat) : Quiet c s (u.loopSetup c t count endOff) := by
  unfold State.loopSetup
  dsimp only
  split
  · exact h.fault ..
  · split
    · exact h.fault ..
    · split
      · exact h.fault ..
      · split
        · exact (h.squash 3).modTh ..
        · exact (h.squash 3).modTh ..

theorem Quiet.supervisor (t : Nat) (n : BitVec 10) : Quiet c s (u.supervisor c t n) := by
  unfold State.supervisor
  dsimp only
  split
  · exact h.fault ..
  · split
    · exact h.fault ..
    · exact (h.squash 3).modTh ..

theorem Quiet.supReturn (t : Nat) : Quiet c s (u.supReturn c t) := by
  unfold State.supReturn
  dsimp only
  split
  · exact h.fault ..
  · split
    · exact h.fault ..
    · split
      · exact h.fault ..
      · exact (h.squash 3).modTh ..

theorem Quiet.readCr (t : Nat) (a : BitVec 5) (n : Nat) : Quiet c s (u.readCr c t a n) := by
  unfold State.readCr
  dsimp only
  split
  · split
    · exact h.drawn.putReg ..
    · exact h.fault ..
  · split
    · exact h.fault ..
    · split
      · exact h.fault ..
      · exact h.putReg ..

theorem Quiet.writeCr (t : Nat) (v : Word) (n : Nat) : Quiet c s (u.writeCr c t v n) := by
  unfold State.writeCr
  dsimp only
  split
  case isTrue =>
    split
    · exact h.modTh ..
    · exact h.fault ..
  split
  case isTrue =>
    split
    · exact h.fault ..
    · split
      · exact h.fault ..
      · exact h.modTh ..
  split
  case isTrue =>
    split
    · exact h.fault ..
    · exact h.modTh ..
  split
  case isTrue =>
    split
    · exact h.modTh ..
    · exact h.fault ..
  split
  · exact (h.squash 3).modTh ..
  · exact h.fault ..

end

section
variable {c : Nat} {s u : State} (h : Quiet c s u)

/-! ## Requests and coprocessors -/

theorem Quiet.close {r : Served} (h : Quiet c s r.state) (o : HelperOp) : Quiet c s (r.close o) := by
  unfold Served.close
  dsimp only
  split
  · exact h.same rfl rfl rfl
  · split
    · exact h.same rfl rfl rfl
    · refine Quiet.bump ?_ ..
      exact h.same rfl rfl rfl

include h

theorem Quiet.sendReq (t : Nat) (a b : BitVec 5) (tag : BitVec 12) (counted : Bool) :
    Quiet c s (u.sendReq c t a b tag counted) := by
  unfold State.sendReq
  dsimp only
  split
  · exact h.fault ..
  · split
    · next p i _ _ =>
      have sent : ∀ (l : List HelperOp) (n : Nat) (f : Thread → Thread),
          Quiet c s (({ u.drawn with weft.ops := l, weft.nextOp := n } : State).modTh c t f) := fun l n f => by
        refine Quiet.modTh ?_ t f
        exact h.same rfl rfl rfl
      have refused : ∀ l n f e o, Quiet c s
          ((refuse (({ u.drawn with weft.ops := l, weft.nextOp := n } : State).modTh c t f) e).close o) := fun l n f e o =>
        Quiet.close (r := refuse _ e) (sent l n f) o
      split
      · exact refused ..
      · split
        · exact refused ..
        · split
          · exact refused ..
          · exact sent ..
    · exact h.fault ..

theorem Quiet.cpReg (t n : Nat) {run : State → State} (quiet : Quiet c s (run u)) : Quiet c s (u.cpReg c t n run) := by
  unfold State.cpReg
  split
  · exact h.fault ..
  · exact quiet

theorem Quiet.cp2Reg (t : Nat) {run : State → State} (quiet : Quiet c s (run u)) : Quiet c s (u.cp2Reg c t run) := by
  unfold State.cp2Reg
  split
  · exact h.fault ..
  · exact quiet

theorem Quiet.cpMem (t n name : Nat) (addr : Word) (len arg : Nat) : Quiet c s (u.cpMem c t n name addr len arg) := by
  unfold State.cpMem
  dsimp only
  split
  · exact h.fault ..
  · split
    · exact h.fault ..
    · split
      · refine (h.modCore _ ?_).modTh ..
        exact fun _ => rfl
      · exact h.fault ..

theorem Quiet.cp2Mem (t name : Nat) (addr : Word) (len arg : Nat) : Quiet c s (u.cp2Mem c t name addr len arg) := by
  unfold State.cp2Mem
  split
  · exact h.fault ..
  · exact h.cpMem ..

theorem Quiet.cpAcquire (t n : Nat) (a : BitVec 5) : Quiet c s (u.cpAcquire c t n a) := by
  unfold State.cpAcquire
  dsimp only
  split
  · exact h.fault ..
  · split
    · exact h.putReg ..
    · refine (h.modCore _ fun k => ?_).putReg ..
      unfold Core.cpReset
      repeat' split
      all_goals rfl

theorem Quiet.cpRelease (t n : Nat) : Quiet c s (u.cpRelease c t n) := by
  refine h.cpReg t n ((h.modCore _ ?_).modTh ..)
  exact fun _ => rfl

/-- An effect that is no load or store is quiet. -/
theorem Quiet.coreEffect {t : Nat} {run : State → State} (effect : CoreEffect c t run) : Quiet c s (run u) := by
  cases effect with
  | write => exact h.putReg ..
  | writeDrawn => exact h.drawn.putReg ..
  | shared => exact h.shared ..
  | branch => exact h.branch ..
  | jump => exact h.jump ..
  | loop => exact h.loopSetup ..
  | wait => exact h.modTh ..
  | evwait => exact h.modTh ..
  | evsend => exact (h.raiseLine ..).modTh ..
  | endTask =>
    dsimp only
    split
    · exact h.fault ..
    · exact h.modTh ..
  | fault => exact h.fault ..
  | scall => exact h.supervisor ..
  | sret => exact h.supReturn ..
  | mfcr => exact h.readCr ..
  | mtcr => exact h.writeCr ..
  | request => exact h.sendReq ..
  | cp0 => exact h.cpReg _ _ (h.putReg ..)
  | cp2Write => exact h.cp2Reg _ (h.putReg ..)
  | cp2WriteDrawn => exact h.cp2Reg _ (h.drawn.putReg ..)
  | cp2Feed =>
    refine h.cp2Reg _ ((h.modCore _ ?_).modTh ..)
    exact fun _ => rfl
  | cpMem => exact h.cpMem ..
  | cp2Mem => exact h.cp2Mem ..
  | cpAcquire => exact h.cpAcquire ..
  | cpRelease => exact h.cpRelease ..

theorem Quiet.load (t : Nat) (a : BitVec 5) (addr : Word) (n : Nat) (signed net : Bool) :
    Quiet c s (u.load c t a addr n signed net) := by
  by_cases aligned : addr.toNat % n = 0
  · cases reach : u.locate c t addr with
    | none =>
      rw [State.load_nowhere aligned reach]
      exact h.fault ..
    | some l =>
      cases l with
      | lm p =>
        rw [State.load_local aligned reach]
        exact h.drawn.putReg ..
      | dram p =>
        rw [State.load_dram aligned reach]
        dsimp only
        split
        · exact (h.cacheTouch ..).modTh ..
        · exact (h.cacheTouch ..).putReg ..
  · rw [State.load_misaligned aligned]
    exact h.fault ..

end

/-! ## Stores -/

/-- Memory of `u` is that of `s` but for `n` bytes from where an address leads. -/
structure KeepsBytes (c : Nat) (reach : Option Loc) (n : Nat) (s u : State) : Prop where
  lmem : ∀ x : Nat, (∀ p, reach = some (.lm p) → x < p ∨ p + n ≤ x) →
    Mem.byte (u.core c).lmem x = Mem.byte (s.core c).lmem x
  mem : ∀ x : Nat, (∀ p, reach = some (.dram p) → x < p ∨ p + n ≤ x) → Mem.byte u.dram.mem x = Mem.byte s.dram.mem x

section
variable {c n : Nat} {reach : Option Loc} {s u v : State}

theorem Quiet.keepsBytes (h : Quiet c s u) : KeepsBytes c reach n s u :=
  ⟨fun _ _ => by rw [h.lmem], fun _ _ => by rw [h.mem]⟩

theorem KeepsBytes.trans (h : KeepsBytes c reach n s u) (g : KeepsBytes c reach n u v) : KeepsBytes c reach n s v :=
  ⟨fun x out => (g.lmem x out).trans (h.lmem x out), fun x out => (g.mem x out).trans (h.mem x out)⟩

/-- A write of local memory that reaches it at `p`. -/
theorem State.lmWrite_keepsBytes (good : s.weftGood = true) (p : Nat) (bs : List Byte) :
    KeepsBytes c (some (.lm p)) bs.length s (s.lmWrite c p bs) := by
  have wf : Tab.wf (0 : Byte) (s.core c).lmem = true := by
    have core := good_core good c
    simp only [Core.good, Bool.and_eq_true] at core
    exact core.2
  refine ⟨fun x out => ?_, fun _ _ => rfl⟩
  rw [State.lmWrite, State.core_modCore s c _ (wf_cores good)]
  exact Mem.byte_write_out wf p bs x (out p rfl)

/-- A write of DRAM that reaches it at `p`. -/
theorem State.memWrite_keepsBytes (good : s.weftGood = true) (p : Nat) (bs : List Byte) :
    KeepsBytes c (some (.dram p)) bs.length s { s with dram.mem := Mem.write s.dram.mem p bs } :=
  ⟨fun _ _ => rfl, fun x out => Mem.byte_write_out ((weftGood_iff s).1 good).2.2 p bs x (out p rfl)⟩

/-- A store stays on its core; in good order it writes its own bytes alone. -/
theorem State.store_frame (wf : Tab.wf ({} : Core) s.weft.cores = true) (t : Nat) (addr : Word) (bs : List Byte) :
    OnCore c s (s.store c t addr bs) ∧
      (s.weftGood = true → KeepsBytes c (s.locate c t addr) bs.length s (s.store c t addr bs)) := by
  have start : Quiet c s s := Quiet.refl wf
  by_cases aligned : addr.toNat % bs.length = 0
  case neg =>
    rw [State.store_misaligned aligned]
    exact ⟨(start.fault ..).toOnCore, fun _ => (start.fault ..).keepsBytes⟩
  cases reach : s.locate c t addr with
  | none =>
    rw [State.store_nowhere aligned reach]
    exact ⟨(start.fault ..).toOnCore, fun _ => (start.fault ..).keepsBytes⟩
  | some l =>
    cases l with
    | lm p =>
      rw [State.store_local aligned reach]
      have onCore : OnCore c s (s.lmWrite c p bs) := start.toOnCore.modCore _
      have advance := (Quiet.refl (c := c) onCore.wf).modTh t Thread.advance
      exact ⟨onCore.trans advance.toOnCore, fun good => (State.lmWrite_keepsBytes good p bs).trans advance.keepsBytes⟩
    | dram p =>
      rw [State.store_dram aligned reach]
      dsimp only
      have touch := start.cacheTouch (s.sl (s.sliceOf c t)).cfg.winCid.toNat (p / 64) true
      have touched : s.weftGood = true → _ := fun good =>
        good_wm good (wm_cacheTouch s (s.sl (s.sliceOf c t)).cfg.winCid.toNat (p / 64) true)
      generalize s.cacheTouch _ _ _ = x at touch touched ⊢
      split
      · exact ⟨(touch.modTh ..).toOnCore, fun _ => (touch.modTh ..).keepsBytes⟩
      · have onCore : OnCore c s { x.1 with dram.mem := Mem.write x.1.dram.mem p bs } :=
          ⟨touch.wf, touch.others, touch.outside⟩
        have advance := (Quiet.refl (c := c) onCore.wf).modTh t Thread.advance
        exact ⟨onCore.trans advance.toOnCore, fun good =>
          (touch.keepsBytes.trans (State.memWrite_keepsBytes (touched good) p bs)).trans advance.keepsBytes⟩

end

/-! ## Weft rows -/

section
variable {c : Fin 68} {t : Fin 8} {op : WeftOp} {run : State → State} {s u : State}

/-- The debugger's part is quiet after an instruction that has stayed on its core (R281). -/
theorem OnCore.afterStep (h : OnCore c s u) (alone : s.fab.st.twinState = 0) :
    Quiet c u (u.afterStep c t) := (Quiet.refl h.wf).afterStep (h.alone alone) t

/-- What an instruction does once it issues stays on its core. -/
theorem WeftEffect.onCore (effect : WeftEffect c t op run) (h : Quiet c s u) : OnCore c s (run u) := by
  cases effect with
  | load => exact (h.load ..).toOnCore
  | store => exact h.toOnCore.trans (State.store_frame h.wf ..).1
  | other _ effect => exact (h.coreEffect effect).toOnCore

/-- All but the effect of an instruction is quiet: what holds of each quiet change, and after the effect and the
debugger's part, holds of what the row answers. -/
theorem exec_frame {P : State → Prop} {i : Instr} (row : IssuesOrHolds i c t op run) (answer : exec i s = .next u)
    (wf : Tab.wf ({} : Core) s.weft.cores = true) (alone : s.fab.st.twinState = 0) (quiet : ∀ {v}, Quiet c s v → P v)
    (runs : P ((run (s.issued c t)).afterStep c t)) : P u := by
  have start : Quiet c s s := Quiet.refl wf
  have issued := start.issued t
  have issue : P (s.issue c t op run) := by
    refine State.issue_elim s c t op run (quiet start) (quiet (start.fault ..)) (fun tile => quiet ?_)
      (quiet ((start.bump ..).fault ..)) (quiet (issued.fault ..)) ?_
    · exact (start.modTh ..).bump ..
    · unfold State.does State.checked
      dsimp only
      split
      · split
        · exact quiet ((issued.fault ..).afterStep alone t)
        · exact runs
      · exact runs
  rcases row s with issues | ⟨held, -⟩
  · cases issues.symm.trans answer
    split
    · exact quiet start
    · exact issue
  · cases held.symm.trans answer
    split <;> exact quiet start

/-- Settles O23: all but the effect of an instruction is quiet, and the effect stays on the instruction's core. -/
theorem weftStaysOnItsCore : Obligations.WeftStaysOnItsCore := by
  unfold Obligations.WeftStaysOnItsCore
  intro i c t op s u row wf alone answer
  obtain ⟨run, effect, answers⟩ := exec_weft row
  have runs : OnCore c s (run (s.issued c t)) := effect.onCore ((Quiet.refl wf).issued t)
  have onCore : OnCore c s u := exec_frame answers answer wf alone Quiet.toOnCore
    (runs.trans (runs.afterStep alone).toOnCore)
  have outside := onCore.outside
  simp only [State.outside, Prod.mk.injEq] at outside
  obtain ⟨prog, progs, ports, buf, rules, tm, lock, tab, selv, task, mode, gens, -, pending⟩ := outside
  exact ⟨onCore.others, prog, progs, ports, buf, rules, tm, lock, tab, selv, task, mode, gens, pending⟩

/-- An instruction that is no store is quiet once it issues. -/
theorem WeftEffect.quiet (effect : WeftEffect c t op run) (noStore : op.isStore = false) (h : Quiet c s u) :
    Quiet c s (run u) := by
  cases effect with
  | load => exact h.load ..
  | store access isStore => simp [WeftOp.isStore_eq, access, isStore] at noStore
  | other _ effect => exact h.coreEffect effect

/-- A store writes its own bytes alone once it issues. -/
theorem WeftEffect.keepsBytes {e : Access} (effect : WeftEffect c t op run) (access : weftAccess op = some e)
    (isStore : e.load = false) (good : s.weftGood = true) :
    KeepsBytes c (s.locate c t (e.addr c t s)) e.bytes s (run s) := by
  cases effect with
  | load same isLoad =>
    cases Option.some.inj (same.symm.trans access)
    rw [isLoad] at isStore; cases isStore
  | store same =>
    cases Option.some.inj (same.symm.trans access)
    have stored := (State.store_frame (c := c) (wf_cores good) t (e.addr c t s) (e.stored c t s)).2 good
    rwa [Access.stored_length] at stored
  | other none => rw [access] at none; cases none

end

/-- Settles O25: all but the effect of an instruction is quiet, and so is the effect itself but for a store, which writes
its own bytes alone. -/
theorem weftMemoryFrame : Obligations.WeftMemoryFrame := by
  unfold Obligations.WeftMemoryFrame
  intro i c t op s u row good alone answer
  obtain ⟨run, effect, answers⟩ := exec_weft row
  have issued := (Quiet.refl (c := c) (wf_cores good)).issued t
  refine ⟨fun noStore => ?_, fun b o n isStore reads => ?_⟩
  · have quiet : Quiet c s u := exec_frame answers answer (wf_cores good) alone id
      ((effect.quiet noStore issued).afterStep alone t)
    exact ⟨quiet.lmem, quiet.mem⟩
  · obtain ⟨e, access, rfl, rfl, rfl⟩ := WeftOp.weftAccess_of_access reads
    simp only [WeftOp.isStore_eq, access, Option.any_some, Bool.not_eq_true'] at isStore
    have stored := effect.keepsBytes access isStore (good_issued good c t)
    rw [Access.addr_issued good, State.locate_issued good] at stored
    have frame := exec_frame answers answer (wf_cores good) alone Quiet.keepsBytes
      ((issued.keepsBytes.trans stored).trans ((effect.onCore issued).afterStep alone).keepsBytes)
    exact ⟨frame.lmem, frame.mem⟩

end Sys2Proof.Machine

/-!
A step on an empty queue is a tick (O2): its parts leave the queue, the system, the generations and the list of met cache
faults as they were (`State.beyondTick`), and the time of the tick is that of the state before plus one.
-/
namespace Sys2Proof.Machine

/-- What no part of a tick changes. -/
def State.beyondTick (s : State) := (s.dram.met, s.pending, s.sys, s.host.gens)

theorem beyondTick_ite {guard : Prop} [Decidable guard] {s t u : State} (yes : t.beyondTick = s.beyondTick)
    (no : u.beyondTick = s.beyondTick) : (if guard then t else u).beyondTick = s.beyondTick := by
  split
  · exact yes
  · exact no

theorem beyondTick_modBank (s : State) (b : Bool) (f : RuleBank → RuleBank) :
    (s.modBank b f).beyondTick = s.beyondTick := beyondTick_ite rfl rfl

theorem beyondTick_strike (s : State) (x : Config.Upset) : (s.strike x).beyondTick = s.beyondTick := by
  cases x with
  | none => rfl
  | rule => exact beyondTick_ite (beyondTick_modBank ..) rfl
  | cacheLine =>
    unfold State.strike
    dsimp only
    split <;> rfl
  | localWord => exact beyondTick_ite rfl rfl
  | register => exact beyondTick_ite rfl rfl
  | shared => exact beyondTick_ite rfl rfl
  | cellRec => exact beyondTick_ite rfl rfl
  | treadleEntry => exact beyondTick_ite rfl rfl
  | slotState => exact beyondTick_ite rfl rfl
  | slotDesc => exact beyondTick_ite rfl rfl
  | dramByte => exact beyondTick_ite rfl rfl
  | record => exact beyondTick_ite rfl rfl

theorem beyondTick_bars (s : State) : s.tickBars.beyondTick = s.beyondTick := by
  refine foldl_keeps State.beyondTick _ ?_ _ s
  exact fun _ _ => rfl

theorem beyondTick_cores (s : State) : s.tickCores.beyondTick = s.beyondTick := by
  refine foldl_keeps State.beyondTick _ ?_ _ s
  exact fun _ _ => rfl

theorem beyondTick_leases (s : State) : s.tickLeases.beyondTick = s.beyondTick := beyondTick_ite rfl rfl

theorem beyondTick_stall (s : State) : s.tickStall.beyondTick = s.beyondTick := beyondTick_ite rfl rfl

theorem beyondTick_retry (s : State) : s.tickRetry.beyondTick = s.beyondTick := by
  refine foldl_keeps State.beyondTick _ ?_ _ s
  exact fun _ _ => rfl

theorem beyondTick_panic (s : State) : s.tickPanic.beyondTick = s.beyondTick := by
  unfold State.tickPanic
  split
  · rfl
  · refine (foldl_keeps State.beyondTick _ ?_ _ _).trans rfl
    exact fun _ _ => rfl

/-- Noting the present instant does not move it. -/
theorem TimeState.noted_now (t : TimeState) : t.noted.now = t.now := by
  unfold TimeState.noted
  dsimp only
  split
  · rfl
  · split <;> rfl

/-- The state of a tick before it reports cache faults. -/
def State.ticked (s : State) : State :=
  { (s.strike (Config.upset s.time.free)).tickBars.tickCores.tickLeases.tickStall.tickRetry.tickPanic.tickRecords with
    time := { s.time.noted.advance 1 with free := s.time.free + 1 } }

theorem beyondTick_timed (s : State) (t : TimeState) :
    ({ s.tickRecords with time := t } : State).beyondTick = s.beyondTick := rfl

theorem beyondTick_ticked (s : State) : s.ticked.beyondTick = s.beyondTick := by
  unfold State.ticked
  rw [beyondTick_timed, beyondTick_panic, beyondTick_retry, beyondTick_stall, beyondTick_leases, beyondTick_cores,
    beyondTick_bars, beyondTick_strike]

theorem State.tickAll_of_stopped {s : State} (stopped : s.sys.stopped = true) : s.tickAll = s := if_pos stopped

theorem State.tickAll_of_running {s : State} (running : s.sys.stopped = false) (met : s.ticked.dram.met = []) :
    s.tickAll = s.ticked := by
  rw [State.tickAll, running, if_neg Bool.false_ne_true]
  exact if_pos met

/-- Settles O2: a tick leaves what `State.beyondTick` lists, and its time is one more. -/
theorem emptyQueueIsATick : Obligations.EmptyQueueIsATick := by
  unfold Obligations.EmptyQueueIsATick
  intro s empty
  refine ⟨by rw [step, empty], State.tickAll_of_stopped, fun running met => ?_⟩
  have kept := beyondTick_ticked s
  simp only [State.beyondTick, Prod.mk.injEq] at kept
  obtain ⟨sameMet, samePending, sameSys, sameGens⟩ := kept
  rw [State.tickAll_of_running running (sameMet.trans met)]
  exact ⟨congrArg (· + 1) (TimeState.noted_now s.time), samePending.trans empty, sameSys, sameGens⟩

end Sys2Proof.Machine

/-!
The encoder and the decoder of the Weft words undo each other (O19, O20), by the formats of R284: each field of a word
written from its fields is the one that was put there, and a word is its fields side by side.
-/
namespace Sys2Proof

/-! ## Fields side by side -/

section
variable {n m l : Nat}

/-- A field that lies above the lowest part. -/
theorem extract_above (x : BitVec n) (y : BitVec m) (start len : Nat) :
    (x ++ y).extractLsb' (start + m) len = x.extractLsb' start len :=
  (extract_high (Nat.le_add_left ..)).trans (by rw [Nat.add_sub_cancel])

theorem extract_lowest (x : BitVec n) (y : BitVec l) : (x ++ y).extractLsb' 0 l = y :=
  (extract_low (Nat.zero_add l).le).trans (extract_all y)

theorem extract_second (x : BitVec n) (y : BitVec l) (z : BitVec m) : (x ++ y ++ z).extractLsb' m l = y := by
  have above := extract_above (x ++ y) z 0 l
  rw [Nat.zero_add] at above
  exact above.trans (extract_lowest x y)

theorem extract_highest (y : BitVec l) (z : BitVec m) : (y ++ z).extractLsb' m l = y := by
  have above := extract_above y z 0 l
  rw [Nat.zero_add] at above
  exact above.trans (extract_all y)

end

/-- Neighbouring fields of a word, side by side, are one field. -/
theorem extract_join {n : Nat} (w : BitVec n) (start low high : Nat) :
    w.extractLsb' (start + low) high ++ w.extractLsb' start low = w.extractLsb' start (high + low) :=
  BitVec.extractLsb'_append_extractLsb'_eq_extractLsb' rfl

/-! ## The fields of a word of each format -/

section
variable (maj : BitVec 7) (a b d : BitVec 5) (sub : BitVec 10)

@[simp] theorem major_encR : (encR maj a b d sub).extractLsb' 25 7 = maj :=
  (extract_above _ sub 15 7).trans <| (extract_above _ d 10 7).trans <| (extract_above _ b 5 7).trans (extract_highest maj a)

@[simp] theorem fldA_encR : fldA (encR maj a b d sub) = a :=
  (extract_above _ sub 10 5).trans <| (extract_above _ d 5 5).trans (extract_second maj a b)

@[simp] theorem fldB_encR : fldB (encR maj a b d sub) = b :=
  (extract_above _ sub 5 5).trans (extract_second (maj ++ a) b d)

@[simp] theorem fldC_encR : fldC (encR maj a b d sub) = d := extract_second (maj ++ a ++ b) d sub

@[simp] theorem fldSub_encR : fldSub (encR maj a b d sub) = sub := extract_lowest (maj ++ a ++ b ++ d) sub

/-- A part of the sub field. -/
theorem sub_encR {start len : Nat} (h : start + len ≤ 10) :
    (encR maj a b d sub).extractLsb' start len = sub.extractLsb' start len := extract_low h

end

section
variable (maj : BitVec 7) (a b : BitVec 5) (imm : BitVec 15)

@[simp] theorem major_encI : (encI maj a b imm).extractLsb' 25 7 = maj :=
  (extract_above _ imm 10 7).trans <| (extract_above _ b 5 7).trans (extract_highest maj a)

@[simp] theorem fldA_encI : fldA (encI maj a b imm) = a :=
  (extract_above _ imm 5 5).trans (extract_second maj a b)

@[simp] theorem fldB_encI : fldB (encI maj a b imm) = b := extract_second (maj ++ a) b imm

@[simp] theorem fldImm_encI : fldImm (encI maj a b imm) = imm := extract_lowest (maj ++ a ++ b) imm

end

section
variable (maj : BitVec 7) (a : BitVec 5) (hw : BitVec 2) (imm : BitVec 16)

@[simp] theorem major_encW : (encW maj a hw imm).extractLsb' 25 7 = maj :=
  (extract_above _ imm 9 7).trans <| (extract_above _ hw 7 7).trans <| (extract_above _ 0#2 5 7).trans
    (extract_highest maj a)

@[simp] theorem fldA_encW : fldA (encW maj a hw imm) = a :=
  (extract_above _ imm 4 5).trans <| (extract_above _ hw 2 5).trans (extract_second maj a 0#2)

@[simp] theorem reserved_encW : (encW maj a hw imm).extractLsb' 18 2 = 0#2 :=
  (extract_above _ imm 2 2).trans (extract_second (maj ++ a) 0#2 hw)

@[simp] theorem hw_encW : (encW maj a hw imm).extractLsb' 16 2 = hw := extract_second (maj ++ a ++ 0#2) hw imm

@[simp] theorem imm_encW : (encW maj a hw imm).extractLsb' 0 16 = imm := extract_lowest (maj ++ a ++ 0#2 ++ hw) imm

end

section
variable (a b : BitVec 5) (pos len : BitVec 6) (kind : BitVec 3)

@[simp] theorem major_encF : (encF a b pos len kind).extractLsb' 25 7 = 0x07#7 :=
  (extract_above _ kind 22 7).trans <| (extract_above _ len 16 7).trans <| (extract_above _ pos 10 7).trans <|
    (extract_above _ b 5 7).trans (extract_highest 0x07#7 a)

@[simp] theorem fldA_encF : fldA (encF a b pos len kind) = a :=
  (extract_above _ kind 17 5).trans <| (extract_above _ len 11 5).trans <| (extract_above _ pos 5 5).trans
    (extract_second 0x07#7 a b)

@[simp] theorem fldB_encF : fldB (encF a b pos len kind) = b :=
  (extract_above _ kind 12 5).trans <| (extract_above _ len 6 5).trans (extract_second (0x07#7 ++ a) b pos)

@[simp] theorem pos_encF : (encF a b pos len kind).extractLsb' 9 6 = pos :=
  (extract_above _ kind 6 6).trans (extract_second (0x07#7 ++ a ++ b) pos len)

@[simp] theorem len_encF : (encF a b pos len kind).extractLsb' 3 6 = len :=
  extract_second (0x07#7 ++ a ++ b ++ pos) len kind

@[simp] theorem kind_encF : (encF a b pos len kind).extractLsb' 0 3 = kind :=
  extract_lowest (0x07#7 ++ a ++ b ++ pos ++ len) kind

end

section
variable (maj : BitVec 7) (a b : BitVec 5) (off : BitVec 12)

@[simp] theorem major_encB : (encB maj a b off).extractLsb' 25 7 = maj :=
  (extract_above _ off 13 7).trans <| (extract_above _ 0#3 10 7).trans <| (extract_above _ b 5 7).trans
    (extract_highest maj a)

@[simp] theorem fldA_encB : fldA (encB maj a b off) = a :=
  (extract_above _ off 8 5).trans <| (extract_above _ 0#3 5 5).trans (extract_second maj a b)

@[simp] theorem fldB_encB : fldB (encB maj a b off) = b :=
  (extract_above _ off 3 5).trans (extract_second (maj ++ a) b 0#3)

@[simp] theorem reserved_encB : (encB maj a b off).extractLsb' 12 3 = 0#3 := extract_second (maj ++ a ++ b) 0#3 off

@[simp] theorem fldOff_encB : fldOff (encB maj a b off) = off := extract_lowest (maj ++ a ++ b ++ 0#3) off

end

section
variable (maj : BitVec 7) (a : BitVec 5) (imm : BitVec 8) (off : BitVec 12)

@[simp] theorem major_encBI : (encBI maj a imm off).extractLsb' 25 7 = maj :=
  (extract_above _ off 13 7).trans <| (extract_above _ imm 5 7).trans (extract_highest maj a)

@[simp] theorem fldA_encBI : fldA (encBI maj a imm off) = a :=
  (extract_above _ off 8 5).trans (extract_second maj a imm)

@[simp] theorem imm_encBI : (encBI maj a imm off).extractLsb' 12 8 = imm := extract_second (maj ++ a) imm off

@[simp] theorem fldOff_encBI : fldOff (encBI maj a imm off) = off := extract_lowest (maj ++ a ++ imm) off

end

/-! ## The parts of a sub field -/

theorem shift_kind (kind : BitVec 2) (n : BitVec 6) : @BitVec.extractLsb' 10 8 2 (kind ++ 0#2 ++ n) = kind :=
  (extract_above _ n 2 2).trans (extract_highest kind 0#2)

theorem shift_reserved (kind : BitVec 2) (n : BitVec 6) : @BitVec.extractLsb' 10 6 2 (kind ++ 0#2 ++ n) = 0#2 :=
  extract_second kind 0#2 n

theorem shift_amount (kind : BitVec 2) (n : BitVec 6) : @BitVec.extractLsb' 10 0 6 (kind ++ 0#2 ++ n) = n :=
  extract_lowest (kind ++ 0#2) n

theorem shared_kind (kind : BitVec 6) (n : BitVec 4) : @BitVec.extractLsb' 10 4 6 (kind ++ n) = kind :=
  extract_highest kind n

theorem shared_register (kind : BitVec 6) (n : BitVec 4) : @BitVec.extractLsb' 10 0 4 (kind ++ n) = n :=
  extract_lowest kind n

theorem cp0_kind (kind : BitVec 8) (size : BitVec 2) : @BitVec.extractLsb' 10 2 8 (kind ++ size) = kind :=
  extract_highest kind size

theorem cp0_size (kind : BitVec 8) (size : BitVec 2) : @BitVec.extractLsb' 10 0 2 (kind ++ size) = size :=
  extract_lowest kind size

theorem extract_bit {n : Nat} (w : BitVec n) (i : Nat) : w.extractLsb' i 1 = BitVec.ofBool (w.getLsbD i) := by
  ext j hj
  simp [Nat.lt_one_iff.1 hj]

/-! ## Words of a format of their own -/

section
variable (a b : BitVec 5)

theorem decode_j (off : BitVec 20) : decodeWeft (0x3E#7 ++ a ++ off) = some (.j a off) := by
  generalize word : (0x3E#7 ++ a ++ off : Word32) = w
  have major : w.extractLsb' 25 7 = 0x3E#7 := word ▸ (extract_above _ off 5 7).trans (extract_highest 0x3E#7 a)
  have link : fldA w = a := word ▸ extract_second 0x3E#7 a off
  have offset : w.extractLsb' 0 20 = off := word ▸ extract_lowest (0x3E#7 ++ a) off
  rw [decodeWeft, major]
  change some _ = _
  rw [link, offset]

theorem decode_loopi (n : BitVec 13) (off : BitVec 12) : decodeWeft (0x41#7 ++ n ++ off) = some (.loopi n off) := by
  generalize word : (0x41#7 ++ n ++ off : Word32) = w
  have major : w.extractLsb' 25 7 = 0x41#7 := word ▸ (extract_above _ off 13 7).trans (extract_highest 0x41#7 n)
  have count : w.extractLsb' 12 13 = n := word ▸ extract_second 0x41#7 n off
  have last : fldOff w = off := word ▸ extract_lowest (0x41#7 ++ n) off
  rw [decodeWeft, major]
  change some _ = _
  rw [count, last]

/-- The word of a request, its bit 12 set in a counted one. -/
theorem decode_request (counted : Bool) (tag : BitVec 12) :
    decodeWeft (0x48#7 ++ a ++ b ++ 0#2 ++ BitVec.ofBool counted ++ tag) =
      some (if counted then .reqC a b tag else .reqP a b tag) := by
  generalize word : (0x48#7 ++ a ++ b ++ 0#2 ++ BitVec.ofBool counted ++ tag : Word32) = w
  have major : w.extractLsb' 25 7 = 0x48#7 := word ▸
    (extract_above _ tag 13 7).trans <| (extract_above _ (BitVec.ofBool counted) 12 7).trans <|
      (extract_above _ 0#2 10 7).trans <| (extract_above _ b 5 7).trans (extract_highest 0x48#7 a)
  have block : fldA w = a := word ▸
    (extract_above _ tag 8 5).trans <| (extract_above _ (BitVec.ofBool counted) 7 5).trans <|
      (extract_above _ 0#2 5 5).trans (extract_second 0x48#7 a b)
  have helper : fldB w = b := word ▸
    (extract_above _ tag 3 5).trans <| (extract_above _ (BitVec.ofBool counted) 2 5).trans
      (extract_second (0x48#7 ++ a) b 0#2)
  have reserved : w.extractLsb' 13 2 = 0#2 := word ▸
    (extract_above _ tag 1 2).trans (extract_second (0x48#7 ++ a ++ b) 0#2 (BitVec.ofBool counted))
  have bit : w.extractLsb' 12 1 = BitVec.ofBool counted := word ▸
    extract_second (0x48#7 ++ a ++ b ++ 0#2) (BitVec.ofBool counted) tag
  have tagged : fldOff w = tag := word ▸ extract_lowest (0x48#7 ++ a ++ b ++ 0#2 ++ BitVec.ofBool counted) tag
  have bit : w.getLsbD 12 = counted := by simpa only [BitVec.ofBool_eq_iff_eq] using (extract_bit w 12).symm.trans bit
  rw [decodeWeft, major]
  change decTask w = _
  rw [decTask, major]
  change (if w.extractLsb' 13 2 ≠ 0#2 then none else _) = _
  rw [if_neg (not_not_intro reserved), bit, block, helper, tagged]
  cases counted <;> rfl

theorem decode_evwait {mask : BitVec 8} (masked : mask ≠ 0#8) :
    decodeWeft (0x4A#7 ++ a ++ 0#12 ++ mask) = some (.evwait a mask) := by
  generalize word : (0x4A#7 ++ a ++ 0#12 ++ mask : Word32) = w
  have major : w.extractLsb' 25 7 = 0x4A#7 := word ▸
    (extract_above _ mask 17 7).trans <| (extract_above _ 0#12 5 7).trans (extract_highest 0x4A#7 a)
  have dest : fldA w = a := word ▸ (extract_above _ mask 12 5).trans (extract_second 0x4A#7 a 0#12)
  have reserved : w.extractLsb' 8 12 = 0#12 := word ▸ extract_second (0x4A#7 ++ a) 0#12 mask
  have lines : w.extractLsb' 0 8 = mask := word ▸ extract_lowest (0x4A#7 ++ a ++ 0#12) mask
  rw [decodeWeft, major]
  change decTask w = _
  rw [decTask, major]
  change only _ _ = _
  simp [dest, reserved, lines, masked, only]

end

theorem decode_evsend (line dst : BitVec 3) :
    decodeWeft (0x4B#7 ++ 0#19 ++ line ++ dst) = some (.evsend line dst) := by
  generalize word : (0x4B#7 ++ 0#19 ++ line ++ dst : Word32) = w
  have major : w.extractLsb' 25 7 = 0x4B#7 := word ▸
    (extract_above _ dst 22 7).trans <| (extract_above _ line 19 7).trans (extract_highest 0x4B#7 0#19)
  have reserved : w.extractLsb' 6 19 = 0#19 := word ▸
    (extract_above _ dst 3 19).trans (extract_second 0x4B#7 0#19 line)
  have lineAt : w.extractLsb' 3 3 = line := word ▸ extract_second (0x4B#7 ++ 0#19) line dst
  have dstAt : w.extractLsb' 0 3 = dst := word ▸ extract_lowest (0x4B#7 ++ 0#19 ++ line) dst
  rw [decodeWeft, major]
  change decTask w = _
  rw [decTask, major]
  change only _ _ = _
  simp [reserved, lineAt, dstAt, only]

theorem decode_fault (code : BitVec 16) : decodeWeft (0x4D#7 ++ 0#9 ++ code) = some (.fault code) := by
  generalize word : (0x4D#7 ++ 0#9 ++ code : Word32) = w
  have major : w.extractLsb' 25 7 = 0x4D#7 := word ▸ (extract_above _ code 9 7).trans (extract_highest 0x4D#7 0#9)
  have reserved : w.extractLsb' 16 9 = 0#9 := word ▸ extract_second 0x4D#7 0#9 code
  have codeAt : w.extractLsb' 0 16 = code := word ▸ extract_lowest (0x4D#7 ++ 0#9) code
  rw [decodeWeft, major]
  change decTask w = _
  rw [decTask, major]
  change only _ _ = _
  simp [reserved, codeAt, only]

theorem decode_scall (n : BitVec 10) : decodeWeft (0x4E#7 ++ 0#15 ++ n) = some (.scall n) := by
  generalize word : (0x4E#7 ++ 0#15 ++ n : Word32) = w
  have major : w.extractLsb' 25 7 = 0x4E#7 := word ▸ (extract_above _ n 15 7).trans (extract_highest 0x4E#7 0#15)
  have reserved : w.extractLsb' 10 15 = 0#15 := word ▸ extract_second 0x4E#7 0#15 n
  have number : fldSub w = n := word ▸ extract_lowest (0x4E#7 ++ 0#15) n
  rw [decodeWeft, major]
  change decTask w = _
  rw [decTask, major]
  change only _ _ = _
  simp [reserved, number, only]

/-! ## Majors that go on to a decoder of their own (R287) -/

section
variable (a b d : BitVec 5) (sub : BitVec 10)

@[simp] theorem decode_reg : decodeWeft (encR 0x01#7 a b d sub) = decReg (encR 0x01#7 a b d sub) := by
  rw [decodeWeft, major_encR]; rfl
@[simp] theorem decode_shift : decodeWeft (encR 0x06#7 a b d sub) = decShift (encR 0x06#7 a b d sub) := by
  rw [decodeWeft, major_encR]; rfl
@[simp] theorem decode_unary : decodeWeft (encR 0x0A#7 a b d sub) = decUnary (encR 0x0A#7 a b d sub) := by
  rw [decodeWeft, major_encR]; rfl
@[simp] theorem decode_shared : decodeWeft (encR 0x20#7 a b d sub) = decShared (encR 0x20#7 a b d sub) := by
  rw [decodeWeft, major_encR]; rfl
@[simp] theorem decode_cp0 : decodeWeft (encR 0x70#7 a b d sub) = decCp0 (encR 0x70#7 a b d sub) := by
  rw [decodeWeft, major_encR]; rfl
@[simp] theorem decode_cp1 : decodeWeft (encR 0x75#7 a b d sub) = decCp1 (encR 0x75#7 a b d sub) := by
  rw [decodeWeft, major_encR]; rfl
@[simp] theorem decode_cp2Reg : decodeWeft (encR 0x78#7 a b d sub) = decCp2Reg (encR 0x78#7 a b d sub) := by
  rw [decodeWeft, major_encR]; rfl
@[simp] theorem decode_cp2Mem : decodeWeft (encR 0x79#7 a b d sub) = decCp2Mem (encR 0x79#7 a b d sub) := by
  rw [decodeWeft, major_encR]; rfl

theorem decode_ctl (cp : Bool) : decodeWeft (encR (if cp then 0x7A#7 else 0x76#7) a b d sub) =
    decCtl cp (encR (if cp then 0x7A#7 else 0x76#7) a b d sub) := by
  rw [decodeWeft, major_encR]
  cases cp <;> rfl

end

/-- Settles O19: by the format of the instruction's word, whose fields are the operands, and by its major opcode. -/
theorem weftEncodingRoundTrip : Obligations.WeftEncodingRoundTrip := by
  unfold Obligations.WeftEncodingRoundTrip
  intro i wf
  cases i
  case add | sub | and | or | xor | andn | sll | srl | sra | rol | slt | sltu | seq | min | max | minu | maxu | mul | mulh |
      mulhu => simp [encodeWeft, decReg]
  case addi | andi | ori | xori | ldb | ldh | ldw | ldd | ldbs | ldhs | ldws | stb | sth | stw | std | ldhn | ldwn | sthn |
      stwn | jr =>
    rw [encodeWeft, decodeWeft, major_encI]
    change some _ = _
    simp
  case slli | srli | srai | roli =>
    simp [encodeWeft, decShift, only, sub_encR, shift_kind, shift_reserved, shift_amount, -BitVec.reduceAppend]
  case ext | exts | ins =>
    have fits := of_decide_eq_true wf
    rw [encodeWeft, decodeWeft, major_encF]
    change decField _ = _
    simp [decField, only, fits]
  case li | lik =>
    rw [encodeWeft, decodeWeft, major_encW]
    change only _ _ = _
    simp [only]
  case bsw16 | bsw32 | bsw64 | clz | ctz | popc => simp [encodeWeft, decUnary, only]
  case csrd | csswp | csadd | csand | csor | cscas =>
    simp [encodeWeft, decShared, only, sub_encR, shared_kind, shared_register, -BitVec.reduceAppend]
  case cbeq | cbne | cblt | cbge | cbltu | cbgeu =>
    rw [encodeWeft, decodeWeft, major_encB]
    change only _ _ = _
    simp [only]
  case cbeqi | cbnei | cblti | cbgei | cbltui | cbgeui =>
    rw [encodeWeft, decodeWeft, major_encBI]
    change some _ = _
    simp
  case j => exact decode_j ..
  case loop b off =>
    change decodeWeft (encB 0x40 0 b off) = _
    rw [decodeWeft, major_encB]
    change only _ _ = _
    simp [only]
  case loopi => exact decode_loopi ..
  case reqC a b tag => exact decode_request a b true tag
  case reqP a b tag => exact decode_request a b false tag
  case evwait => exact decode_evwait _ (of_decide_eq_true wf)
  case evsend => exact decode_evsend ..
  case fault => exact decode_fault ..
  case scall => exact decode_scall ..
  case wait | endTask | sret => decide +kernel
  case mfcr | mtcr =>
    rw [encodeWeft, decodeWeft, major_encR]
    change only _ _ = _
    simp [only]
  case crcc | crce => simp [encodeWeft, decCp0, sub_encR, cp0_kind, cp0_size, -BitVec.reduceAppend]
  case crcz | hmix => simp [encodeWeft, decCp0, only, sub_encR]
  case gkey | giv | gaad | genc | gdec | gtag | gver => simp [encodeWeft, decCp1, only]
  case pfeed | pre | pim | pmag | pang => simp [encodeWeft, decCp2Reg, only]
  case pcfg | pfeedm | pgetm => simp [encodeWeft, decCp2Mem, only]
  case cpacq | cprel | cpsave | cpload => simp [encodeWeft, decode_ctl, decCtl, only]

theorem of_only {p : Bool} {i j : WeftOp} (h : only p i = some j) : p = true ∧ i = j := by
  unfold only at h
  split at h
  next holds => exact ⟨holds, Option.some.inj h⟩
  next => cases h

/-! ## A word is its fields side by side -/

section
variable {w : Word32} {maj : BitVec 7} {a b d : BitVec 5} {off : BitVec 12}
  (hmaj : w.extractLsb' 25 7 = maj)
include hmaj

theorem encR_of {sub : BitVec 10} (ha : fldA w = a) (hb : fldB w = b) (hd : fldC w = d) (hsub : fldSub w = sub) :
    encR maj a b d sub = w := by
  subst hmaj ha hb hd hsub
  change w.extractLsb' 25 7 ++ w.extractLsb' 20 5 ++ w.extractLsb' 15 5 ++ w.extractLsb' 10 5 ++ w.extractLsb' 0 10 = w
  rw [extract_join w 20 5 7, extract_join w 15 5 12, extract_join w 10 5 17, extract_join w 0 10 22]
  exact extract_all w

theorem encI_of : encI maj (fldA w) (fldB w) (fldImm w) = w := by
  subst hmaj
  change w.extractLsb' 25 7 ++ w.extractLsb' 20 5 ++ w.extractLsb' 15 5 ++ w.extractLsb' 0 15 = w
  rw [extract_join w 20 5 7, extract_join w 15 5 12, extract_join w 0 15 17]
  exact extract_all w

theorem encW_of (reserved : w.extractLsb' 18 2 = 0#2) :
    encW maj (fldA w) (w.extractLsb' 16 2) (w.extractLsb' 0 16) = w := by
  subst hmaj
  change w.extractLsb' 25 7 ++ w.extractLsb' 20 5 ++ 0#2 ++ w.extractLsb' 16 2 ++ w.extractLsb' 0 16 = w
  rw [← reserved, extract_join w 20 5 7, extract_join w 18 2 12, extract_join w 16 2 14, extract_join w 0 16 16]
  exact extract_all w

theorem encB_of (ha : fldA w = a) (reserved : w.extractLsb' 12 3 = 0#3) : encB maj a (fldB w) (fldOff w) = w := by
  subst hmaj ha
  change w.extractLsb' 25 7 ++ w.extractLsb' 20 5 ++ w.extractLsb' 15 5 ++ 0#3 ++ w.extractLsb' 0 12 = w
  rw [← reserved, extract_join w 20 5 7, extract_join w 15 5 12, extract_join w 12 3 17, extract_join w 0 12 20]
  exact extract_all w

theorem encBI_of : encBI maj (fldA w) (w.extractLsb' 12 8) (fldOff w) = w := by
  subst hmaj
  change w.extractLsb' 25 7 ++ w.extractLsb' 20 5 ++ w.extractLsb' 12 8 ++ w.extractLsb' 0 12 = w
  rw [extract_join w 20 5 7, extract_join w 12 8 12, extract_join w 0 12 20]
  exact extract_all w

end

theorem encF_of {w : Word32} {kind : BitVec 3} (major : w.extractLsb' 25 7 = 0x07#7) (hkind : w.extractLsb' 0 3 = kind) :
    encF (fldA w) (fldB w) (w.extractLsb' 9 6) (w.extractLsb' 3 6) kind = w := by
  subst hkind
  change 0x07#7 ++ w.extractLsb' 20 5 ++ w.extractLsb' 15 5 ++ w.extractLsb' 9 6 ++ w.extractLsb' 3 6 ++
    w.extractLsb' 0 3 = w
  rw [← major, extract_join w 20 5 7, extract_join w 15 5 12, extract_join w 9 6 17, extract_join w 3 6 23,
    extract_join w 0 3 29]
  exact extract_all w

/-! ## What each decoder reads -/

/-- An instruction is well-formed and is spelled by a word. -/
def WeftOp.SpelledBy (i : WeftOp) (w : Word32) : Prop := i.wellFormed = true ∧ encodeWeft i = w

section
variable {w : Word32} {i : WeftOp}

theorem decReg_spelled (major : w.extractLsb' 25 7 = 0x01#7) (h : decReg w = some i) : i.SpelledBy w := by
  unfold decReg at h
  split at h
  case h_21 => cases h
  all_goals
    next sub =>
    cases h
    exact ⟨rfl, encR_of major rfl rfl rfl (BitVec.eq_of_toNat_eq sub)⟩

theorem decUnary_spelled (major : w.extractLsb' 25 7 = 0x0A#7) (h : decUnary w = some i) : i.SpelledBy w := by
  unfold decUnary at h
  split at h
  case h_7 => cases h
  all_goals
    next sub =>
    obtain ⟨unused, rfl⟩ := of_only h
    exact ⟨rfl, encR_of major rfl rfl (of_decide_eq_true unused) (BitVec.eq_of_toNat_eq sub)⟩

theorem fldSub_shift {kind : BitVec 2} (hkind : w.extractLsb' 8 2 = kind) (reserved : w.extractLsb' 6 2 = 0#2) :
    fldSub w = kind ++ 0#2 ++ w.extractLsb' 0 6 := by
  subst hkind
  rw [← reserved, extract_join w 6 2 2, extract_join w 0 6 4]
  rfl

theorem fldSub_shared {kind : BitVec 6} (hkind : w.extractLsb' 4 6 = kind) : fldSub w = kind ++ w.extractLsb' 0 4 := by
  subst hkind
  rw [extract_join w 0 4 6]
  rfl

theorem fldSub_cp0 {kind : BitVec 8} (hkind : w.extractLsb' 2 8 = kind) : fldSub w = kind ++ w.extractLsb' 0 2 := by
  subst hkind
  rw [extract_join w 0 2 8]
  rfl

theorem decShift_spelled (major : w.extractLsb' 25 7 = 0x06#7) (h : decShift w = some i) : i.SpelledBy w := by
  unfold decShift at h
  dsimp only at h
  split at h
  all_goals
    obtain ⟨unused, rfl⟩ := of_only h
    obtain ⟨noThird, reserved⟩ := of_decide_eq_true unused
    refine ⟨rfl, encR_of major rfl rfl noThird (fldSub_shift (BitVec.eq_of_toNat_eq ?_) reserved)⟩
  case h_4 not0 not1 not2 =>
    have small := (w.extractLsb' 8 2).isLt
    change (w.extractLsb' 8 2).toNat = 3
    rw [imp_false] at not0 not1 not2
    omega
  all_goals assumption

theorem decField_spelled (major : w.extractLsb' 25 7 = 0x07#7) (h : decField w = some i) : i.SpelledBy w := by
  unfold decField at h
  dsimp only at h
  split at h
  case h_4 => cases h
  all_goals
    next kind =>
    obtain ⟨fits, rfl⟩ := of_only h
    exact ⟨fits, encF_of major (BitVec.eq_of_toNat_eq kind)⟩

theorem decShared_spelled (major : w.extractLsb' 25 7 = 0x20#7) (h : decShared w = some i) : i.SpelledBy w := by
  unfold decShared at h
  dsimp only at h
  split at h
  case h_1 kind =>
    obtain ⟨unused, rfl⟩ := of_only h
    simp only [Bool.and_eq_true, decide_eq_true_eq] at unused
    exact ⟨rfl, encR_of major rfl unused.2 unused.1 (fldSub_shared (BitVec.eq_of_toNat_eq kind))⟩
  case h_6 kind =>
    cases h
    exact ⟨rfl, encR_of major rfl rfl rfl (fldSub_shared (BitVec.eq_of_toNat_eq kind))⟩
  case h_7 => cases h
  all_goals
    next kind =>
    obtain ⟨unused, rfl⟩ := of_only h
    exact ⟨rfl, encR_of major rfl rfl (of_decide_eq_true unused) (fldSub_shared (BitVec.eq_of_toNat_eq kind))⟩

theorem decCp0_spelled (major : w.extractLsb' 25 7 = 0x70#7) (h : decCp0 w = some i) : i.SpelledBy w := by
  unfold decCp0 at h
  dsimp only at h
  split at h
  case h_5 => cases h
  case h_3 kind =>
    obtain ⟨unused, rfl⟩ := of_only h
    have sub := fldSub_cp0 (kind := 2#8) (BitVec.eq_of_toNat_eq kind)
    rw [of_decide_eq_true unused] at sub
    exact ⟨rfl, encR_of major rfl rfl rfl sub⟩
  case h_4 kind =>
    obtain ⟨unused, rfl⟩ := of_only h
    have sub := fldSub_cp0 (kind := 4#8) (BitVec.eq_of_toNat_eq kind)
    rw [of_decide_eq_true unused] at sub
    exact ⟨rfl, encR_of major rfl rfl rfl sub⟩
  all_goals
    next kind =>
    cases h
    exact ⟨rfl, encR_of major rfl rfl rfl (fldSub_cp0 (BitVec.eq_of_toNat_eq kind))⟩

theorem decCp1_spelled (major : w.extractLsb' 25 7 = 0x75#7) (h : decCp1 w = some i) : i.SpelledBy w := by
  unfold decCp1 at h
  split at h
  case h_8 => cases h
  all_goals
    next sub =>
    obtain ⟨unused, rfl⟩ := of_only h
    simp only [Bool.and_eq_true, decide_eq_true_eq] at unused
    exact ⟨rfl, encR_of major unused.1 rfl unused.2 (BitVec.eq_of_toNat_eq sub)⟩

theorem decCp2Reg_spelled (major : w.extractLsb' 25 7 = 0x78#7) (h : decCp2Reg w = some i) : i.SpelledBy w := by
  unfold decCp2Reg at h
  split at h
  case h_6 => cases h
  case h_1 sub =>
    obtain ⟨unused, rfl⟩ := of_only h
    exact ⟨rfl, encR_of major (of_decide_eq_true unused) rfl rfl (BitVec.eq_of_toNat_eq sub)⟩
  all_goals
    next sub =>
    obtain ⟨unused, rfl⟩ := of_only h
    exact ⟨rfl, encR_of major rfl (of_decide_eq_true unused) rfl (BitVec.eq_of_toNat_eq sub)⟩

theorem decCp2Mem_spelled (major : w.extractLsb' 25 7 = 0x79#7) (h : decCp2Mem w = some i) : i.SpelledBy w := by
  unfold decCp2Mem at h
  split at h
  case h_4 => cases h
  case h_2 sub =>
    obtain ⟨unused, rfl⟩ := of_only h
    exact ⟨rfl, encR_of major (of_decide_eq_true unused) rfl rfl (BitVec.eq_of_toNat_eq sub)⟩
  all_goals
    next sub =>
    obtain ⟨unused, rfl⟩ := of_only h
    simp only [Bool.and_eq_true, decide_eq_true_eq] at unused
    exact ⟨rfl, encR_of major unused.1 rfl unused.2 (BitVec.eq_of_toNat_eq sub)⟩

theorem decCtl_spelled {cp : Bool} (major : w.extractLsb' 25 7 = if cp then 0x7A#7 else 0x76#7)
    (h : decCtl cp w = some i) : i.SpelledBy w := by
  unfold decCtl at h
  split at h
  case h_5 => cases h
  case h_2 sub =>
    obtain ⟨unused, rfl⟩ := of_only h
    simp only [Bool.and_eq_true, decide_eq_true_eq] at unused
    obtain ⟨⟨noA, noB⟩, noC⟩ := unused
    exact ⟨rfl, encR_of major noA noB noC (BitVec.eq_of_toNat_eq sub)⟩
  case h_1 sub =>
    obtain ⟨unused, rfl⟩ := of_only h
    simp only [Bool.and_eq_true, decide_eq_true_eq] at unused
    exact ⟨rfl, encR_of major rfl unused.1 unused.2 (BitVec.eq_of_toNat_eq sub)⟩
  all_goals
    next sub =>
    obtain ⟨unused, rfl⟩ := of_only h
    simp only [Bool.and_eq_true, decide_eq_true_eq] at unused
    exact ⟨rfl, encR_of major unused.1 rfl unused.2 (BitVec.eq_of_toNat_eq sub)⟩

/-- A word whose bits below the major opcode are 0. -/
theorem major_of {maj : BitVec 7} (major : w.extractLsb' 25 7 = maj) (rest : w.extractLsb' 0 25 = 0#25) :
    maj ++ 0#25 = w := by
  subst major
  rw [← rest, extract_join w 0 25 7]
  exact extract_all w

theorem request_of {counted : Bool} (major : w.extractLsb' 25 7 = 0x48#7) (reserved : w.extractLsb' 13 2 = 0#2)
    (bit : w.getLsbD 12 = counted) :
    0x48#7 ++ fldA w ++ fldB w ++ 0#2 ++ BitVec.ofBool counted ++ fldOff w = w := by
  change 0x48#7 ++ w.extractLsb' 20 5 ++ w.extractLsb' 15 5 ++ 0#2 ++ BitVec.ofBool counted ++ w.extractLsb' 0 12 = w
  rw [← major, ← reserved, ← bit, ← extract_bit, extract_join w 20 5 7, extract_join w 15 5 12, extract_join w 13 2 17,
    extract_join w 12 1 19, extract_join w 0 12 20]
  exact extract_all w

theorem evwait_of (major : w.extractLsb' 25 7 = 0x4A#7) (reserved : w.extractLsb' 8 12 = 0#12) :
    0x4A#7 ++ fldA w ++ 0#12 ++ w.extractLsb' 0 8 = w := by
  change 0x4A#7 ++ w.extractLsb' 20 5 ++ 0#12 ++ w.extractLsb' 0 8 = w
  rw [← major, ← reserved, extract_join w 20 5 7, extract_join w 8 12 12, extract_join w 0 8 24]
  exact extract_all w

theorem evsend_of (major : w.extractLsb' 25 7 = 0x4B#7) (reserved : w.extractLsb' 6 19 = 0#19) :
    0x4B#7 ++ 0#19 ++ w.extractLsb' 3 3 ++ w.extractLsb' 0 3 = w := by
  rw [← major, ← reserved, extract_join w 6 19 7, extract_join w 3 3 26, extract_join w 0 3 29]
  exact extract_all w

theorem fault_of (major : w.extractLsb' 25 7 = 0x4D#7) (reserved : w.extractLsb' 16 9 = 0#9) :
    0x4D#7 ++ 0#9 ++ w.extractLsb' 0 16 = w := by
  rw [← major, ← reserved, extract_join w 16 9 7, extract_join w 0 16 16]
  exact extract_all w

theorem scall_of (major : w.extractLsb' 25 7 = 0x4E#7) (reserved : w.extractLsb' 10 15 = 0#15) :
    0x4E#7 ++ 0#15 ++ fldSub w = w := by
  change 0x4E#7 ++ 0#15 ++ w.extractLsb' 0 10 = w
  rw [← major, ← reserved, extract_join w 10 15 7, extract_join w 0 10 22]
  exact extract_all w

theorem decTask_spelled (low : 0x48 ≤ (w.extractLsb' 25 7).toNat) (high : (w.extractLsb' 25 7).toNat ≤ 0x4F)
    (h : decTask w = some i) : i.SpelledBy w := by
  unfold decTask at h
  split at h
  case h_1 major =>
    split at h
    · cases h
    next reserved =>
    have spelled := fun counted =>
      request_of (counted := counted) (BitVec.eq_of_toNat_eq major) (Decidable.not_not.1 reserved)
    split at h
    next bit => cases h; exact ⟨rfl, spelled true bit⟩
    next bit => cases h; exact ⟨rfl, spelled false (Bool.eq_false_iff.2 bit)⟩
  case h_3 major =>
    obtain ⟨unused, rfl⟩ := of_only h
    simp only [Bool.and_eq_true, decide_eq_true_eq] at unused
    exact ⟨decide_eq_true unused.2, evwait_of (BitVec.eq_of_toNat_eq major) unused.1⟩
  all_goals
    obtain ⟨unused, rfl⟩ := of_only h
    rw [decide_eq_true_eq] at unused
  case h_2 major => exact ⟨rfl, major_of (BitVec.eq_of_toNat_eq major) unused⟩
  case h_4 major => exact ⟨rfl, evsend_of (BitVec.eq_of_toNat_eq major) unused⟩
  case h_5 major => exact ⟨rfl, major_of (BitVec.eq_of_toNat_eq major) unused⟩
  case h_6 major => exact ⟨rfl, fault_of (BitVec.eq_of_toNat_eq major) unused⟩
  case h_7 major => exact ⟨rfl, scall_of (BitVec.eq_of_toNat_eq major) unused⟩
  case h_8 not48 not49 not4A not4B not4C not4D not4E =>
    rw [imp_false] at not48 not49 not4A not4B not4C not4D not4E
    refine ⟨rfl, major_of (BitVec.eq_of_toNat_eq ?_) unused⟩
    change (w.extractLsb' 25 7).toNat = 0x4F
    omega

theorem j_of (major : w.extractLsb' 25 7 = 0x3E#7) : 0x3E#7 ++ fldA w ++ w.extractLsb' 0 20 = w := by
  change 0x3E#7 ++ w.extractLsb' 20 5 ++ w.extractLsb' 0 20 = w
  rw [← major, extract_join w 20 5 7, extract_join w 0 20 12]
  exact extract_all w

theorem loopi_of (major : w.extractLsb' 25 7 = 0x41#7) : 0x41#7 ++ w.extractLsb' 12 13 ++ fldOff w = w := by
  change 0x41#7 ++ w.extractLsb' 12 13 ++ w.extractLsb' 0 12 = w
  rw [← major, extract_join w 12 13 7, extract_join w 0 12 20]
  exact extract_all w

end

/-- Settles O20: by the major opcode, the decoder of each reading only words that are the fields of their format. -/
theorem weftWordsMeanOneInstruction : Obligations.WeftWordsMeanOneInstruction := by
  unfold Obligations.WeftWordsMeanOneInstruction
  intro w i h
  unfold decodeWeft at h
  split at h
  case h_1 major => exact decReg_spelled (BitVec.eq_of_toNat_eq major) h
  case h_21 major => exact decShift_spelled (BitVec.eq_of_toNat_eq major) h
  case h_22 major => exact decField_spelled (BitVec.eq_of_toNat_eq major) h
  case h_25 major => exact decUnary_spelled (BitVec.eq_of_toNat_eq major) h
  case h_26 major => exact decShared_spelled (BitVec.eq_of_toNat_eq major) h
  case h_53 major => exact decCp0_spelled (BitVec.eq_of_toNat_eq major) h
  case h_54 major => exact decCp1_spelled (BitVec.eq_of_toNat_eq major) h
  case h_55 major => exact decCtl_spelled (cp := false) (BitVec.eq_of_toNat_eq major) h
  case h_56 major => exact decCp2Reg_spelled (BitVec.eq_of_toNat_eq major) h
  case h_57 major => exact decCp2Mem_spelled (BitVec.eq_of_toNat_eq major) h
  case h_58 major => exact decCtl_spelled (cp := true) (BitVec.eq_of_toNat_eq major) h
  case h_43 major | h_44 major | h_45 major | h_46 major | h_47 major | h_48 major | h_49 major | h_50 major =>
    exact decTask_spelled (by omega) (by omega) h
  case h_59 => cases h
  case h_39 major =>
    cases h
    exact ⟨rfl, j_of (BitVec.eq_of_toNat_eq major)⟩
  case h_42 major =>
    cases h
    exact ⟨rfl, loopi_of (BitVec.eq_of_toNat_eq major)⟩
  case h_23 major | h_24 major =>
    obtain ⟨unused, rfl⟩ := of_only h
    exact ⟨rfl, encW_of (BitVec.eq_of_toNat_eq major) (of_decide_eq_true unused)⟩
  case h_27 major | h_28 major | h_29 major | h_30 major | h_31 major | h_32 major =>
    obtain ⟨unused, rfl⟩ := of_only h
    exact ⟨rfl, encB_of (BitVec.eq_of_toNat_eq major) rfl (of_decide_eq_true unused)⟩
  case h_33 major | h_34 major | h_35 major | h_36 major | h_37 major | h_38 major =>
    cases h
    exact ⟨rfl, encBI_of (BitVec.eq_of_toNat_eq major)⟩
  case h_41 major =>
    obtain ⟨unused, rfl⟩ := of_only h
    simp only [Bool.and_eq_true, decide_eq_true_eq] at unused
    exact ⟨rfl, encB_of (BitVec.eq_of_toNat_eq major) unused.1 unused.2⟩
  case h_51 major =>
    obtain ⟨unused, rfl⟩ := of_only h
    simp only [Bool.and_eq_true, decide_eq_true_eq] at unused
    exact ⟨rfl, encR_of (BitVec.eq_of_toNat_eq major) rfl unused.1 unused.2 rfl⟩
  case h_52 major =>
    obtain ⟨unused, rfl⟩ := of_only h
    simp only [Bool.and_eq_true, decide_eq_true_eq] at unused
    exact ⟨rfl, encR_of (BitVec.eq_of_toNat_eq major) unused.1 rfl unused.2 rfl⟩
  all_goals
    next major =>
    cases h
    exact ⟨rfl, encI_of (BitVec.eq_of_toNat_eq major)⟩

/-- Settles O21: each of the words is the encoding of its instruction; the last two are read. -/
theorem weftWordsRead : Obligations.WeftWordsRead := by
  unfold Obligations.WeftWordsRead
  have read := weftEncodingRoundTrip
  exact ⟨read (.add 1 2 3) rfl, read (.addi 1 2 0x7FFF) rfl, read (.srai 4 5 7) rfl, read (.ext 1 2 8 15) rfl,
    read (.li 6 2 0x1234) rfl, read (.clz 1 2) rfl, read (.ldw 3 4 16) rfl, read (.stwn 3 4 16) rfl,
    read (.csadd 1 2 3) rfl, read (.cbeq 1 2 3) rfl, read (.cbltui 1 200 0xFFF) rfl, read (.j 31 0xFFFFE) rfl,
    read (.loopi 100 12) rfl, read (.reqC 8 9 0x123) rfl, read (.evwait 2 0x81) rfl, read (.scall 5) rfl,
    read (.mfcr 7 0x20) rfl, read (.crcc 1 2 3 2) rfl, read (.gkey 5) rfl, read (.cpacq true 6) rfl,
    by decide +kernel, by decide +kernel⟩

end Sys2Proof

/-!
The Weft rows complete (O53 to O58): a row that issues answers its effect on the issued state (`issue_of`), and where its
condition `Can.x` holds, the effect takes the branch that the statement writes out.
-/
namespace Sys2Proof.Machine

/-- Settles O53: each row issues its instruction, whose effect is the one stated. -/
theorem weftArithmetic : Obligations.WeftArithmetic := by
  unfold Obligations.WeftArithmetic
  and_intros
  all_goals
    intros
    next issues => exact issue_of issues

/-! ## Loads and stores (R257, R289) -/

/-- A store to local memory, by the number of its bytes. -/
theorem State.store_local_of_length {s : State} {c t n p : Nat} {addr : Word} {bs : List Byte} (length : bs.length = n)
    (aligned : addr.toNat % n = 0) (isLocal : s.locate c t addr = some (.lm p)) :
    s.store c t addr bs = (s.lmWrite c p bs).modTh c t Thread.advance := by
  subst length
  exact State.store_local aligned isLocal

/-- Settles O54: the address of each is aligned, that of a byte always, and leads to local memory. -/
theorem weftLoadsAndStores : Obligations.WeftLoadsAndStores := by
  unfold Obligations.WeftLoadsAndStores
  refine ⟨?ldb, ?ldh, ?ldw, ?ldd, ?ldbs, ?ldhs, ?ldws, ?stb, ?sth, ?stw, ?std, ?ldhn, ?ldwn, ?sthn, ?stwn⟩
  all_goals
    intro c t a b imm p s can
    obtain ⟨issues, isLocal⟩ := Bool.and_eq_true_iff.1 can
    have isLocal := eq_of_beq isLocal
  case ldb | ldbs => exact (issue_of issues).trans (does_congr (State.load_local (Nat.mod_one _) isLocal))
  case stb =>
    exact (issue_of issues).trans
      (does_congr (State.store_local_of_length (bytesOf_length ..) (Nat.mod_one _) isLocal))
  all_goals
    obtain ⟨issues, aligned⟩ := Bool.and_eq_true_iff.1 issues
    have aligned := eq_of_beq aligned
  case sth | stw | std =>
    exact (issue_of issues).trans (does_congr (State.store_local_of_length (bytesOf_length ..) aligned isLocal))
  case sthn | stwn =>
    exact (issue_of issues).trans
      (does_congr (State.store_local_of_length (List.length_reverse.trans (bytesOf_length ..)) aligned isLocal))
  all_goals exact (issue_of issues).trans (does_congr (State.load_local aligned isLocal))

/-! ## Core-shared registers (R259, R290) -/

theorem State.shared_of_mayShare {s : State} {c t : Nat} {a : BitVec 5} {n : BitVec 4} {f : Word → Word}
    (may : s.mayShare c t n = true) : s.shared c t a n f =
      (s.modCore c fun k => { k with cs := Tab.set 0 k.cs n.toNat (f (Tab.get 0 (s.core c).cs n.toNat)) }).putReg c t a
        (Tab.get 0 (s.core c).cs n.toNat) := by
  simp only [State.mayShare, beq_eq_decide] at may
  exact if_neg (by rw [may]; decide)

/-- Settles O55: the task of each may use the register. -/
theorem weftSharedRegisters : Obligations.WeftSharedRegisters := by
  unfold Obligations.WeftSharedRegisters
  and_intros
  all_goals
    intros
    next can =>
    obtain ⟨issues, may⟩ := Bool.and_eq_true_iff.1 can
    exact (issue_of issues).trans (does_congr (State.shared_of_mayShare may))

/-! ## Branches, jumps and loops (R291 to R297) -/

section
variable {s : State} {c t : Nat}

theorem State.branch_skipped {taken : Bool} {off : Word} (skip : taken = false) :
    s.branch c t taken off = s.modTh c t Thread.advance := by
  rw [State.branch, skip, if_neg Bool.false_ne_true]

theorem State.branch_taken {taken : Bool} {off : Word} (take : taken = true)
    (good : s.goodTarget c t (s.pcOf c t + 4 * off) = true) : s.branch c t taken off =
      (s.squashYounger c 3).modTh c t fun h => h.goto (s.pcOf c t + 4 * off).toNat true := by
  rw [State.branch, if_pos take, State.goto, good]
  rfl

theorem State.jump_good {n : Nat} {a : BitVec 5} {tgt : Word} (good : s.goodTarget c t tgt = true) : s.jump c t n a tgt =
    (s.squashYounger c n).modTh c t fun h =>
      (h.setReg a (BitVec.ofNat 64 (nextPc h.pc))).goto tgt.toNat (a = 0) := by
  rw [State.jump, good]
  rfl

variable {count endOff : Nat} (ahead : endOff ≠ 0) (nests : (s.th c t).nests ((s.th c t).pc + 4 * endOff) = true)
  (room : (s.th c t).loops.length < 3) (good : s.goodTarget c t (BitVec.ofNat 64 ((s.th c t).pc + 4 * endOff)) = true)
include ahead nests room good

/-- A loop that nests and has room is set up, or skipped when its count is zero. -/
theorem State.loopSetup_good : s.loopSetup c t count endOff =
    if count = 0 then (s.squashYounger c 3).modTh c t fun h => { h.count with pc := nextPc (h.pc + 4 * endOff) }
    else (s.squashYounger c 3).modTh c t fun h =>
      { h.count with pc := nextPc h.pc, loops := h.loops ++ [⟨nextPc h.pc, h.pc + 4 * endOff, count, h.priv⟩] } := by
  have outside : ¬ (endOff = 0 ∨ _ = true) := not_or.2 ⟨ahead, Bool.eq_false_iff.1 (Bool.not_eq_true' _ ▸ nests)⟩
  have th : (s.squashYounger c 3).th c t = s.th c t := rfl
  refine (if_neg outside).trans ((if_neg (Nat.not_le.2 room)).trans ?_)
  rw [good]
  change (if count = 0 then _ else _) = _
  split
  · exact modTh_congr (by rw [th])
  · exact modTh_congr (by rw [th])

end

/-- Settles O56: a branch is taken or not as its condition says, and the targets may be fetched. -/
theorem weftBranchesAndLoops : Obligations.WeftBranchesAndLoops := by
  unfold Obligations.WeftBranchesAndLoops
  refine ⟨?eqSkip, ?eq, ?neSkip, ?ne, ?ltSkip, ?lt, ?geSkip, ?ge, ?ltuSkip, ?ltu, ?geuSkip, ?geu, ?eqiSkip, ?eqi, ?neiSkip,
    ?nei, ?ltiSkip, ?lti, ?geiSkip, ?gei, ?ltuiSkip, ?ltui, ?geuiSkip, ?geui, ?j, ?jr, ?loop, ?loopZero, ?loopi,
    ?loopiZero⟩
  case eqSkip | neSkip | ltSkip | geSkip | ltuSkip | geuSkip | eqiSkip | neiSkip | ltiSkip | geiSkip | ltuiSkip | geuiSkip =>
    intro c t a b off s can
    obtain ⟨issues, skip⟩ := Bool.and_eq_true_iff.1 can
    exact (issue_of issues).trans (does_congr (State.branch_skipped (Bool.not_eq_true' _ ▸ skip)))
  case eq | ne | lt | ge | ltu | geu | eqi | nei | lti | gei | ltui | geui =>
    intro c t a b off s can
    obtain ⟨taken, good⟩ := Bool.and_eq_true_iff.1 can
    obtain ⟨issues, take⟩ := Bool.and_eq_true_iff.1 taken
    exact (issue_of issues).trans (does_congr (State.branch_taken take good))
  case j =>
    intro c t a off s can
    obtain ⟨issues, good⟩ := Bool.and_eq_true_iff.1 can
    exact (issue_of issues).trans (does_congr (State.jump_good good))
  case jr =>
    intro c t a b imm s can
    obtain ⟨issues, good⟩ := Bool.and_eq_true_iff.1 can
    exact (issue_of issues).trans (does_congr (State.jump_good good))
  all_goals
    intro c t count endOff s can
    obtain ⟨counted, good⟩ := Bool.and_eq_true_iff.1 can
    obtain ⟨roomy, number⟩ := Bool.and_eq_true_iff.1 counted
    obtain ⟨nested, room⟩ := Bool.and_eq_true_iff.1 roomy
    obtain ⟨ended, nests⟩ := Bool.and_eq_true_iff.1 nested
    obtain ⟨issues, ahead⟩ := Bool.and_eq_true_iff.1 ended
    have setUp n := State.loopSetup_good (count := n) (ne_of_beq_false (Bool.not_eq_true' _ ▸ ahead)) nests
      (of_decide_eq_true room) good
  case loop | loopi =>
    exact (issue_of issues).trans (does_congr ((setUp _).trans (if_neg (bne_iff_ne.1 number))))
  case loopZero | loopiZero =>
    exact (issue_of issues).trans (does_congr ((setUp _).trans (if_pos (eq_of_beq number))))

/-! ## What retiring changes of a thread -/

/-- Only ICOUNT. -/
theorem Thread.count_eq (h : Thread) : ∃ icount, h.count = { h with icount := icount } := by
  unfold Thread.count
  split
  · exact ⟨h.icount, rfl⟩
  · exact ⟨satInc h.icount, rfl⟩

/-- Only ICOUNT, the PC and the loop levels. -/
theorem Thread.advance_eq (h : Thread) :
    ∃ icount pc loops, h.advance = { h with icount := icount, pc := pc, loops := loops } := by
  obtain ⟨icount, count⟩ := h.count_eq
  simp only [Thread.advance, count]
  split
  · split
    · exact ⟨_, _, _, rfl⟩
    · exact ⟨_, _, _, rfl⟩
  · exact ⟨_, _, _, rfl⟩

/-- Pending lines that the mask takes. -/
theorem Thread.evStart_pending {h : Thread} {mask : BitVec 8} (a : BitVec 5) (pending : h.evPend &&& mask ≠ 0) :
    h.evStart a mask = { ({ h.advance with evMask := mask, evDest := a } : Thread).setReg a
      ((h.evPend &&& mask).setWidth 64) with evPend := h.evPend &&& ~~~ mask } := by
  obtain ⟨icount, pc, loops, advance⟩ := h.advance_eq
  rw [Thread.evStart, if_pos pending, advance, Thread.evTake]

theorem Thread.evStart_held {h : Thread} {mask : BitVec 8} (a : BitVec 5) (noLine : h.evPend &&& mask = 0) :
    h.evStart a mask = { h.advance with evMask := mask, evDest := a, st := .evwait } := if_neg (not_not.2 noLine)

/-! ## Requests, waits, events, ends, supervisor entry, control registers (R298 to R304) -/

section
variable {s : State} {c t p : Nat} {a b : BitVec 5} {tag : BitVec 12} {x : Inst}

/-- A request whose block may be read and whose word names an operation is in flight, and counted where it is asked to be. -/
theorem State.sendReq_sent (counted : Bool) (aligned : (s.rg c t a).toNat % 8 = 0)
    (readable : (s.core c).blockAt t (s.sliceOf c t) (s.th c t).priv (s.rg c t a).toNat
      (max 8 ((HelperWord.ofTile (s.rg c t b)).blen.toNat * 8)) = some p)
    (inst : (s.th c t).inst = some x) (helper : helperOps (HelperWord.ofTile (s.rg c t b)).helper.toNat ≠ 0)
    (op : ¬ ((HelperWord.ofTile (s.rg c t b)).op = 0 ∨
      (HelperWord.ofTile (s.rg c t b)).op.toNat > helperOps (HelperWord.ofTile (s.rg c t b)).helper.toNat))
    (blen : ¬ ((HelperWord.ofTile (s.rg c t b)).blen = 0 ∨ (HelperWord.ofTile (s.rg c t b)).blen.toNat > 68)) :
    s.sendReq c t a b tag counted =
      let w := HelperWord.ofTile (s.rg c t b)
      let o : HelperOp :=
        { id := s.weft.nextOp, core := c, thread := t, inst := x, counted := counted, tag := tag, word := w, addr := p
          block := s.lmSee c p (w.blen.toNat * 8), pkt := if x.task then none else (s.ctx x.idx).pkt }
      ({ s.drawn with weft.ops := s.weft.ops ++ [o], weft.nextOp := s.weft.nextOp + 1 }).modTh c t fun h =>
        if counted then { h.advance with depcnt := h.depcnt + 1, unsettled := h.unsettled ++ o.results } else h.advance := by
  rw [State.sendReq, if_neg (not_not.2 aligned), readable, inst]
  exact (if_neg helper).trans ((if_neg op).trans (if_neg blen))

theorem State.supervisor_good {n : BitVec 10} (atU : (s.th c t).priv = .u)
    (enabled : (s.progCfg (s.sliceOf c t)).supvEn ≠ 0)
    (good : s.goodTarget c t ((s.progCfg (s.sliceOf c t)).supvEntry.setWidth 64) = true) : s.supervisor c t n =
      (s.squashYounger c 3).modTh c t fun h =>
        { h.count with sepc := BitVec.ofNat 64 (nextPc h.pc)
                       scause := n.setWidth 64 ||| BitVec.ofNat 64 (h.loops.length * 65536), priv := .s
                       pc := ((s.progCfg (s.sliceOf c t)).supvEntry.setWidth 64 : Word).toNat } := by
  rw [State.supervisor, if_neg (not_or.2 ⟨not_not.2 atU, enabled⟩), good]
  rfl

theorem State.supReturn_good (atS : (s.th c t).priv = .s)
    (depth : (s.th c t).loops.length = ((s.th c t).scause.toNat / 65536) % 4)
    (good : s.goodTarget c t (s.th c t).sepc = true) :
    s.supReturn c t = (s.squashYounger c 3).modTh c t fun h => { h.count with priv := .u, pc := h.sepc.toNat } := by
  rw [State.supReturn, if_neg fun deeper => deeper.1 depth, if_neg (not_not.2 atS), good]
  exact modTh_congr rfl

theorem State.readCr_listed {n : Nat} (low : n < 0x200) (listed : crListed n = true)
    (may : ¬ ((n = 8 ∨ n = 9) ∧ (s.th c t).priv = .u)) : s.readCr c t a n = s.putReg c t a (s.crValue c t n) := by
  rw [State.readCr, if_neg (Nat.not_le.2 low), listed]
  exact if_neg may

variable {v : Word}

theorem State.writeCr_sepc (above : (s.th c t).priv ≠ .u) :
    s.writeCr c t v 8 = s.modTh c t fun h => ({ h with sepc := v }).advance := if_neg above

theorem State.writeCr_cpen (atM : (s.th c t).priv = .m) (bits : v &&& ~~~ 0x777 = 0) :
    s.writeCr c t v 4 = s.modTh c t fun h => ({ h with cpen := v }).advance := by
  have may : ¬ ((s.th c t).priv = .u ∨ ((s.th c t).priv = .s ∧ (v ^^^ (s.th c t).cpen) &&& ~~~ 0x7 ≠ 0)) := by
    simp [atM]
  exact (if_neg (not_not.2 bits)).trans (if_neg may)

theorem State.writeCr_loop {n : Nat} (low : 0x18 ≤ n) (high : n ≤ 0x1A) : s.writeCr c t v n =
    (s.squashYounger c 3).modTh c t fun h =>
      ({ h with loops := h.loops.modify (n - 0x18) fun l => { l with lc := v.toNat % 2 ^ 32 } }).advance := by
  rw [State.writeCr, if_neg (by omega), if_neg (by omega), if_neg (by omega), if_neg (by omega), if_pos ⟨low, high⟩]

end

/-- Settles O57: each row's conditions choose the branch of its effect that is stated. -/
theorem weftTasksAndControl : Obligations.WeftTasksAndControl := by
  unfold Obligations.WeftTasksAndControl
  refine ⟨?reqC, ?reqP, ?wait, ?waitHeld, ?evwait, ?evwaitHeld, ?evsend, ?done, ?fault, ?scall, ?sret, ?mfcr, ?sepc, ?cpen,
    ?loop⟩
  case reqC =>
    intro c t a b tag p x s can
    simp only [Can.wReqC, Bool.and_eq_true, Bool.not_eq_true', bne_iff_ne, beq_iff_eq, decide_eq_true_eq] at can
    obtain ⟨⟨sent, blen⟩, blenHigh⟩ := can
    obtain ⟨⟨⟨⟨⟨⟨⟨⟨counter, ops⟩, issues⟩, aligned⟩, readable⟩, inst⟩, helper⟩, op⟩, opHigh⟩ := sent
    have room : ¬ (s.counterFull c t = true ∨ s.opsFull = true) := by simp [counter, ops]
    refine (congrArg (ok s) (if_neg room)).trans ((issue_of issues).trans (does_congr ?_))
    exact State.sendReq_sent true aligned readable inst helper (not_or.2 ⟨op, Nat.not_lt.2 opHigh⟩)
      (not_or.2 ⟨blen, Nat.not_lt.2 blenHigh⟩)
  case reqP =>
    intro c t a b tag p x s can
    simp only [Can.wReqP, Bool.and_eq_true, Bool.not_eq_true', bne_iff_ne, beq_iff_eq, decide_eq_true_eq] at can
    obtain ⟨⟨sent, blen⟩, blenHigh⟩ := can
    obtain ⟨⟨⟨⟨⟨⟨⟨ops, issues⟩, aligned⟩, readable⟩, inst⟩, helper⟩, op⟩, opHigh⟩ := sent
    refine (congrArg (ok s) (if_neg (Bool.eq_false_iff.1 ops))).trans ((issue_of issues).trans (does_congr ?_))
    exact State.sendReq_sent false aligned readable inst helper (not_or.2 ⟨op, Nat.not_lt.2 opHigh⟩)
      (not_or.2 ⟨blen, Nat.not_lt.2 blenHigh⟩)
  case wait =>
    intro c t s can
    obtain ⟨issues, settled⟩ := Bool.and_eq_true_iff.1 can
    exact (issue_of issues).trans (does_congr (modTh_congr (if_pos (eq_of_beq settled))))
  case waitHeld =>
    intro c t s can
    obtain ⟨issues, outstanding⟩ := Bool.and_eq_true_iff.1 can
    exact (issue_of issues).trans (does_congr (modTh_congr (if_neg (bne_iff_ne.1 outstanding))))
  case evwait =>
    intro c t a mask s can
    obtain ⟨issues, pending⟩ := Bool.and_eq_true_iff.1 can
    exact (issue_of issues).trans (does_congr (modTh_congr (Thread.evStart_pending a (bne_iff_ne.1 pending))))
  case evwaitHeld =>
    intro c t a mask s can
    obtain ⟨issues, noLine⟩ := Bool.and_eq_true_iff.1 can
    exact (issue_of issues).trans (does_congr (modTh_congr (Thread.evStart_held a (eq_of_beq noLine))))
  case evsend =>
    intro c t line dst s issues
    exact issue_of issues
  case done =>
    intro c t s can
    obtain ⟨issues, below⟩ := Bool.and_eq_true_iff.1 can
    exact (issue_of issues).trans (does_congr (if_neg (bne_iff_ne.1 below)))
  case fault =>
    intro c t code s issues
    exact issue_of issues
  case scall =>
    intro c t n s can
    obtain ⟨enabled, good⟩ := Bool.and_eq_true_iff.1 can
    obtain ⟨atU, enabled⟩ := Bool.and_eq_true_iff.1 enabled
    obtain ⟨issues, atU⟩ := Bool.and_eq_true_iff.1 atU
    exact (issue_of issues).trans (does_congr (State.supervisor_good (eq_of_beq atU) (bne_iff_ne.1 enabled) good))
  case sret =>
    intro c t s can
    obtain ⟨depth, good⟩ := Bool.and_eq_true_iff.1 can
    obtain ⟨atS, depth⟩ := Bool.and_eq_true_iff.1 depth
    obtain ⟨issues, atS⟩ := Bool.and_eq_true_iff.1 atS
    exact (issue_of issues).trans (does_congr (State.supReturn_good (eq_of_beq atS) (eq_of_beq depth) good))
  case mfcr =>
    intro c t a cr s can
    obtain ⟨low, may⟩ := Bool.and_eq_true_iff.1 can
    obtain ⟨listed, low⟩ := Bool.and_eq_true_iff.1 low
    obtain ⟨issues, listed⟩ := Bool.and_eq_true_iff.1 listed
    exact (issue_of issues).trans
      (does_congr (State.readCr_listed (of_decide_eq_true low) listed (not_and_or.2 (by simpa using may))))
  case sepc =>
    intro c t b cr s can
    obtain ⟨number, above⟩ := Bool.and_eq_true_iff.1 can
    obtain ⟨issues, number⟩ := Bool.and_eq_true_iff.1 number
    refine (issue_of issues).trans (does_congr ?_)
    rw [eq_of_beq number]
    exact State.writeCr_sepc (bne_iff_ne.1 above)
  case cpen =>
    intro c t b cr s can
    obtain ⟨atM, bits⟩ := Bool.and_eq_true_iff.1 can
    obtain ⟨number, atM⟩ := Bool.and_eq_true_iff.1 atM
    obtain ⟨issues, number⟩ := Bool.and_eq_true_iff.1 number
    refine (issue_of issues).trans (does_congr ?_)
    rw [eq_of_beq number]
    exact State.writeCr_cpen (eq_of_beq atM) (eq_of_beq bits)
  case loop =>
    intro c t b cr s can
    obtain ⟨low, high⟩ := Bool.and_eq_true_iff.1 can
    obtain ⟨issues, low⟩ := Bool.and_eq_true_iff.1 low
    exact (issue_of issues).trans (does_congr (State.writeCr_loop (of_decide_eq_true low) (of_decide_eq_true high)))

/-! ## Coprocessor instructions on registers (R305, R306, R331 to R338) -/

section
variable {s : State} {c t n : Nat} {a : BitVec 5} {run : State → State}

theorem State.cpReg_allowed (may : (!s.cpDenied c t n) = true) : s.cpReg c t n run = run s :=
  if_neg (Bool.eq_false_iff.1 (Bool.not_eq_true' _ ▸ may))

theorem State.cp2Reg_allowed (may : (!s.cpDenied c t 2) = true) (opmode : ((s.core c).cp2.opmode == 0) = true) :
    s.cp2Reg c t run = run s :=
  if_neg (not_or.2 ⟨Bool.eq_false_iff.1 (Bool.not_eq_true' _ ▸ may), not_not.2 (eq_of_beq opmode)⟩)

variable (on : (s.th c t).cpOn n = true) (idle : (!(s.core c).cpBusy n t) = true)
include on idle

theorem State.cpAcquire_owned {o : Nat} (owner : (s.core c).owner n = some o) :
    s.cpAcquire c t n a = s.putReg c t a (if o = t then 0 else 1) := by
  rw [State.cpAcquire, on, (Bool.not_eq_true' _).mp idle, owner]
  rfl

/-- A coprocessor that is free and was last used by the same slice is taken as it is. -/
theorem State.cpAcquire_free (owner : (s.core c).owner n = none)
    (slice : Tab.get none (s.core c).cpSlice n = some (s.sliceOf c t)) : s.cpAcquire c t n a =
      (s.modCore c fun k =>
        { k with cpOwner := Tab.set none k.cpOwner n (some t)
                 cpSlice := Tab.set none k.cpSlice n (some (s.sliceOf c t)) }).putReg c t a 0 := by
  rw [State.cpAcquire, on, (Bool.not_eq_true' _).mp idle, owner, slice]
  simp only [ne_eq, not_true_eq_false, decide_false, Bool.false_eq_true, if_false]
  rfl

end

/-- Settles O58: the task of each may use its coprocessor. -/
theorem weftRegisterCoprocessors : Obligations.WeftRegisterCoprocessors := by
  unfold Obligations.WeftRegisterCoprocessors
  refine ⟨?crcc, ?crce, ?crcz, ?hmix, ?pfeed, ?pre, ?pim, ?pmag, ?pang, ?cpacq, ?cpacqHeld, ?cprel⟩
  case crcc | crce =>
    intro c t a b d sz s can
    obtain ⟨issues, may⟩ := Bool.and_eq_true_iff.1 can
    exact (issue_of issues).trans (does_congr (State.cpReg_allowed may))
  case crcz | hmix =>
    intro c t a b d s can
    obtain ⟨issues, may⟩ := Bool.and_eq_true_iff.1 can
    exact (issue_of issues).trans (does_congr (State.cpReg_allowed may))
  case cprel =>
    intro c t cp s can
    obtain ⟨issues, may⟩ := Bool.and_eq_true_iff.1 can
    exact (issue_of issues).trans (does_congr (State.cpReg_allowed may))
  case pfeed | pre | pim | pmag | pang =>
    intro c t a d s can
    obtain ⟨issues, opmode⟩ := Bool.and_eq_true_iff.1 can
    obtain ⟨issues, may⟩ := Bool.and_eq_true_iff.1 issues
    exact (issue_of issues).trans (does_congr (State.cp2Reg_allowed may opmode))
  case cpacq =>
    intro c t cp a s can
    obtain ⟨free, slice⟩ := Bool.and_eq_true_iff.1 can
    obtain ⟨idle, owner⟩ := Bool.and_eq_true_iff.1 free
    obtain ⟨on, idle⟩ := Bool.and_eq_true_iff.1 idle
    obtain ⟨issues, on⟩ := Bool.and_eq_true_iff.1 on
    exact (issue_of issues).trans (does_congr (State.cpAcquire_free on idle (eq_of_beq owner) (eq_of_beq slice)))
  case cpacqHeld =>
    intro c t cp a o s can
    obtain ⟨idle, owner⟩ := Bool.and_eq_true_iff.1 can
    obtain ⟨on, idle⟩ := Bool.and_eq_true_iff.1 idle
    obtain ⟨issues, on⟩ := Bool.and_eq_true_iff.1 on
    exact (issue_of issues).trans (does_congr (State.cpAcquire_owned on idle (eq_of_beq owner)))

end Sys2Proof.Machine

/-!
The registers that a Weft instruction writes (O24, O28): what its thread's step, its core's step and the step of the state
leave of the general registers, of the control registers, of the core-shared registers and of CP1's.
-/
namespace Sys2Proof.Machine

/-! ## One register (R285, R286) -/

theorem Thread.reg_zero (h : Thread) : h.reg 0 = 0 := rfl

theorem Thread.reg_congr {h k : Thread} (regs : k.regs = h.regs) (r : BitVec 5) : k.reg r = h.reg r := by
  rw [Thread.reg, regs, ← Thread.reg]

theorem Thread.setReg_zero (h : Thread) (v : Word) : h.setReg 0 v = h := rfl

theorem Thread.setReg_regs {a : BitVec 5} (writes : a ≠ 0) (h : Thread) (v : Word) :
    (h.setReg a v).regs = Tab.set 0 h.regs a.toNat v := by
  rw [Thread.setReg, if_neg writes]

section
variable {h : Thread} (wf : Tab.wf (0 : Word) h.regs = true)
include wf

theorem Thread.wf_setReg (a : BitVec 5) (v : Word) : Tab.wf (0 : Word) (h.setReg a v).regs = true := by
  unfold Thread.setReg
  split
  · exact wf
  · exact Tab.wf_set wf ..

/-- Every register but the one written. -/
theorem Thread.reg_setReg_ne {a r : BitVec 5} (other : r ≠ a) (v : Word) : (h.setReg a v).reg r = h.reg r := by
  by_cases zero : a = 0
  · rw [zero, Thread.setReg_zero]
  · rw [Thread.reg, Thread.setReg_regs zero, Tab.get_set_ne (Tab.rising_of_wf wf) _ _ _ (by bv_omega), ← Thread.reg]

theorem Thread.reg_setReg_self {a : BitVec 5} (writes : a ≠ 0) (v : Word) : (h.setReg a v).reg a = v := by
  rw [Thread.reg, Thread.setReg_regs writes, if_neg writes, Tab.get_set_self (Tab.rising_of_wf wf)]

end

theorem Thread.advance_regs (h : Thread) : h.advance.regs = h.regs := by
  obtain ⟨icount, pc, loops, advance⟩ := h.advance_eq
  rw [advance]

theorem Thread.wf_of_good {h : Thread} (good : h.good = true) : Tab.wf (0 : Word) h.regs = true := by
  obtain ⟨-, -, -, wf⟩ := th_parts.1 good
  exact wf

theorem State.th_modTh {s : State} (good : s.weftGood = true) (c t : Nat) (f : Thread → Thread) :
    (s.modTh c t f).th c t = f (s.th c t) := by
  rw [State.th, State.modTh, State.core_modCore _ _ _ (wf_cores good)]
  exact Core.th_upd (wf_threads good c) t f

theorem State.th_modTh_ne {s : State} (good : s.weftGood = true) (c t : Nat) (f : Thread → Thread) {j : Nat} (other : j ≠ t) :
    (s.modTh c t f).th c j = s.th c j := by
  rw [State.th, State.modTh, State.core_modCore _ _ _ (wf_cores good)]
  exact Tab.get_upd_ne (wf_threads good c) t j f other

/-- Settles O28: the write of one register of one thread, and `advance` keeps the registers. -/
theorem registerZeroDiscardsWrites : Obligations.RegisterZeroDiscardsWrites := by
  unfold Obligations.RegisterZeroDiscardsWrites
  intro s c t a v good
  refine ⟨fun r => ?_, fun j other => State.th_modTh_ne good c t _ other, ?_⟩
  · have wf := Thread.wf_of_good (core_th (good_core good c) t)
    have reads : (s.putReg c t a v).rg c t r = ((s.th c t).setReg a v).reg r := by
      rw [State.rg, State.putReg, State.th_modTh good]
      exact Thread.reg_congr (Thread.advance_regs _) r
    rw [reads]
    by_cases zero : r = 0
    · rw [if_pos zero, zero, Thread.reg_zero]
    rw [if_neg zero]
    by_cases written : r = a
    · rw [if_pos written, written]
      exact Thread.reg_setReg_self wf (written ▸ zero) v
    · rw [if_neg written]
      exact Thread.reg_setReg_ne wf written v
  · rintro rfl
    rfl

end Sys2Proof.Machine

/-!
The frame of the Weft instructions on registers (O24), from the thread up: the step of the thread that issues, of its core,
and of the state. Each effect of a row is such a step, and so is all that stands around the effect.
-/
namespace Sys2Proof

/-- PRIV, CPEN, SEPC and SCAUSE are no business of the instruction (R301, R302). -/
def WeftOp.KeepsControl (op : WeftOp) : Prop := (∀ b n, op ≠ .mtcr b n) ∧ (∀ n, op ≠ .scall n) ∧ op ≠ .sret

end Sys2Proof
namespace Sys2Proof.Machine

/-! ## Steps of a thread and of its core -/

/-- What `WeftOp.KeepsControl` speaks of. -/
def Thread.control (h : Thread) := (h.priv, h.cpen, h.sepc, h.scause)

/-- What an instruction leaves of its thread, whose registers are in canonical form. -/
structure Thread.RegStep (op : WeftOp) (h k : Thread) : Prop where
  wf : Tab.wf (0 : Word) k.regs = true
  regs : ∀ r, op.dest ≠ some r → k.reg r = h.reg r
  control : op.KeepsControl → k.control = h.control

namespace Thread.RegStep

variable {op : WeftOp} {h k l : Thread}

theorem refl (wf : Tab.wf (0 : Word) h.regs = true) : RegStep op h h := ⟨wf, fun _ _ => rfl, fun _ => rfl⟩

theorem trans (first : RegStep op h k) (second : RegStep op k l) : RegStep op h l :=
  ⟨second.wf, fun r other => (second.regs r other).trans (first.regs r other),
    fun keeps => (second.control keeps).trans (first.control keeps)⟩

/-- A change of other fields. -/
theorem same (step : RegStep op h k) (regs : l.regs = k.regs) (control : op.KeepsControl → l.control = k.control) :
    RegStep op h l :=
  step.trans ⟨regs ▸ step.wf, fun r _ => Thread.reg_congr regs r, control⟩

theorem count (step : RegStep op h k) : RegStep op h k.count := by
  obtain ⟨icount, count⟩ := k.count_eq
  rw [count]
  exact step.same rfl fun _ => rfl

theorem advance (step : RegStep op h k) : RegStep op h k.advance := by
  obtain ⟨icount, pc, loops, advance⟩ := k.advance_eq
  rw [advance]
  exact step.same rfl fun _ => rfl

theorem goto (step : RegStep op h k) (tgt : Nat) (exits : Bool) : RegStep op h (k.goto tgt exits) :=
  step.count.same rfl fun _ => rfl

theorem setReg {a : BitVec 5} (step : RegStep op h k) (dest : op.dest = some a) (v : Word) :
    RegStep op h (k.setReg a v) := by
  refine step.trans ⟨Thread.wf_setReg step.wf a v, fun r other => Thread.reg_setReg_ne step.wf ?_ v, fun _ => ?_⟩
  · rintro rfl
    exact other dest
  · unfold Thread.setReg
    split <;> rfl

theorem evStart {a : BitVec 5} (step : RegStep op h k) (dest : op.dest = some a) (mask : BitVec 8) :
    RegStep op h (k.evStart a mask) := by
  by_cases noLine : k.evPend &&& mask = 0
  · rw [Thread.evStart_held a noLine]
    exact step.advance.same rfl fun _ => rfl
  · rw [Thread.evStart_pending a noLine]
    refine RegStep.same (RegStep.setReg (RegStep.same step.advance ?_ ?_) dest _) rfl fun _ => rfl
    · rfl
    · exact fun _ => rfl

end Thread.RegStep

/-! ## Canonical tables -/

theorem Tab.wf_foldl_upd {α : Type} [DecidableEq α] {d : α} (f : Nat → α → α) (l : List Nat) {m : Tab α}
    (wf : Tab.wf d m = true) : Tab.wf d (l.foldl (fun m i => Tab.upd d m i (f i)) m) = true := by
  induction l generalizing m with
  | nil => exact wf
  | cons i r ih => exact ih (Tab.wf_upd wf i (f i))

/-- An index that reads the default is not listed. -/
theorem Tab.erase_of_get_default {α : Type} [DecidableEq α] {d : α} {i : Nat} (m : Tab α)
    (listed : m.all (fun p => decide (p.2 ≠ d)) = true) {lo : Nat} (rising : Tab.rising lo m = true)
    (reads : Tab.get d m i = d) : Tab.erase i m = m := by
  induction m generalizing lo with
  | nil => rfl
  | cons p r ih =>
    obtain ⟨k, v⟩ := p
    simp only [List.all_cons, Bool.and_eq_true, decide_eq_true_eq, Tab.rising] at listed rising
    have other : k ≠ i := by
      rintro rfl
      exact listed.1 ((if_pos rfl).symm.trans reads)
    have below : Tab.get d r i = d := by
      by_cases before : i < k
      · exact Tab.get_below d r (k + 1) i rising.2 (by omega)
      · rwa [Tab.get, if_neg other, if_neg before] at reads
    rw [Tab.erase, if_neg other, ih listed.2 rising.2 below]

/-- The value that a listed index reads is the one listed. -/
theorem Tab.insert_of_get_ne {α : Type} {d : α} {i : Nat} (m : Tab α) (reads : Tab.get d m i ≠ d) :
    Tab.insert i (Tab.get d m i) m = m := by
  induction m with
  | nil => exact absurd rfl reads
  | cons p r ih =>
    obtain ⟨k, v⟩ := p
    by_cases here : k = i
    · subst here
      simp [Tab.get, Tab.insert]
    by_cases before : i < k
    · simp [Tab.get, here, before] at reads
    · simp only [Tab.get, if_neg here, if_neg before, Tab.insert, if_neg (Ne.symm here)] at reads ⊢
      rw [ih reads]

/-- A value written where it is read already changes nothing. -/
theorem Tab.set_get {α : Type} [DecidableEq α] {d : α} {m : Tab α} (wf : Tab.wf d m = true) (i : Nat) :
    Tab.set d m i (Tab.get d m i) = m := by
  rw [Tab.wf, Bool.and_eq_true] at wf
  unfold Tab.set
  split
  · next reads => exact Tab.erase_of_get_default m wf.2 wf.1 reads
  · next reads => exact Tab.insert_of_get_ne m reads

/-- The tables of a core that thread `t` uses are in canonical form. -/
structure Core.Tidy (t : Nat) (k : Core) : Prop where
  threads : Tab.wf ({} : Thread) k.threads = true
  regs : Tab.wf (0 : Word) (k.th t).regs = true
  cs : Tab.wf (0 : Word) k.cs = true

theorem Core.tidy_of_good {k : Core} (good : k.good = true) (t : Nat) : k.Tidy t := by
  refine ⟨(core_wf good).1, Thread.wf_of_good (core_th good t), ?_⟩
  simp only [Core.good, Bool.and_eq_true] at good
  obtain ⟨⟨-, cs⟩, -⟩ := good
  exact cs

/-- What an instruction of thread `t` leaves of its core. -/
structure Core.RegStep (t : Nat) (op : WeftOp) (k l : Core) : Prop where
  tidy : l.Tidy t
  regs : ∀ r, op.dest ≠ some r → (l.th t).reg r = (k.th t).reg r
  others : (∀ line dst, op ≠ .evsend line dst) → ∀ j, j ≠ t → (l.th j).regs = (k.th j).regs
  control : op.KeepsControl → (l.th t).control = (k.th t).control
  shared : op.writesShared = false → l.cs = k.cs
  cp1 : (∀ cp a, op ≠ .cpacq cp a) → l.cp1 = k.cp1

namespace Core.RegStep

variable {t : Nat} {op : WeftOp} {k l m : Core}

theorem refl (tidy : k.Tidy t) : RegStep t op k k :=
  ⟨tidy, fun _ _ => rfl, fun _ _ _ => rfl, fun _ => rfl, fun _ => rfl, fun _ => rfl⟩

theorem trans (first : RegStep t op k l) (second : RegStep t op l m) : RegStep t op k m where
  tidy := second.tidy
  regs r other := (second.regs r other).trans (first.regs r other)
  others quiet j other := (second.others quiet j other).trans (first.others quiet j other)
  control keeps := (second.control keeps).trans (first.control keeps)
  shared keeps := (second.shared keeps).trans (first.shared keeps)
  cp1 keeps := (second.cp1 keeps).trans (first.cp1 keeps)

/-- A change of the core that leaves its threads. -/
theorem ofSameThreads (tidy : k.Tidy t) (threads : l.threads = k.threads) (cs : Tab.wf (0 : Word) l.cs = true)
    (shared : op.writesShared = false → l.cs = k.cs) (cp1 : (∀ cp a, op ≠ .cpacq cp a) → l.cp1 = k.cp1) :
    RegStep t op k l := by
  have thread : ∀ j, l.th j = k.th j := fun j => by rw [Core.th, threads, ← Core.th]
  exact ⟨⟨threads ▸ tidy.threads, thread t ▸ tidy.regs, cs⟩, fun _ _ => by rw [thread], fun _ _ _ => by rw [thread],
    fun _ => by rw [thread], shared, cp1⟩

/-- A step of the thread that issues. -/
theorem ofThread (tidy : k.Tidy t) {f : Thread → Thread} (step : Thread.RegStep op (k.th t) (f (k.th t))) :
    RegStep t op k { k with threads := Tab.upd {} k.threads t f } := by
  have self := Core.th_upd tidy.threads t f
  refine ⟨⟨Tab.wf_upd tidy.threads t f, self ▸ step.wf, tidy.cs⟩, fun r other => ?_, fun _ j other => ?_, fun keeps => ?_,
    fun _ => rfl, fun _ => rfl⟩
  · rw [self, step.regs r other]
  · exact congrArg Thread.regs (Tab.get_upd_ne tidy.threads t j f other)
  · rw [self, step.control keeps]

/-- A change of each thread that leaves its registers and control registers. -/
theorem ofThreads (tidy : k.Tidy t) {f : Nat → Thread → Thread} {n : Nat}
    (threads : l.threads = (List.range n).foldl (fun m i => Tab.upd {} m i (f i)) k.threads)
    (regs : ∀ i h, (f i h).regs = h.regs) (control : ∀ i h, (f i h).control = h.control) (cs : l.cs = k.cs)
    (cp1 : l.cp1 = k.cp1) : RegStep t op k l := by
  have thread : ∀ j, (l.th j).regs = (k.th j).regs ∧ (l.th j).control = (k.th j).control := fun j => by
    rw [Core.th, threads, Tab.get_foldl_upd f List.nodup_range tidy.threads j]
    split
    · exact ⟨regs .., control ..⟩
    · exact ⟨rfl, rfl⟩
  have wf : Tab.wf ({} : Thread) l.threads = true := by
    rw [threads]
    exact Tab.wf_foldl_upd f _ tidy.threads
  exact ⟨⟨wf, (thread t).1 ▸ tidy.regs, cs ▸ tidy.cs⟩, fun r _ => Thread.reg_congr (thread t).1 r,
    fun _ j _ => (thread j).1, fun _ => (thread t).2, fun _ => cs, fun _ => cp1⟩

theorem stopped (tidy : k.Tidy t) (s : State) (c j cause pc : Nat) (a : Word) :
    RegStep t op k (k.stoppedBy s c j cause pc a) := by
  have threads : (k.stoppedBy s c j cause pc a).threads = (List.range 8).foldl (fun (m : Tab Thread) i =>
      Tab.upd {} m i fun h => { h with st := .stopped, attach := none, miss := none }) k.threads := by
    unfold Core.stoppedBy
    with_reducible rfl
  exact ofThreads tidy threads (fun _ _ => rfl) (fun _ _ => rfl) rfl rfl

/-- The step of another thread, by which an event may complete its `evwait` (R263). -/
theorem ofOther {j : Nat} {line dst : BitVec 3} (tidy : k.Tidy t) (other : t ≠ j)
    (f : Thread → Thread) : RegStep t (.evsend line dst) k { k with threads := Tab.upd {} k.threads j f } := by
  have self : Core.th { k with threads := Tab.upd {} k.threads j f } t = k.th t := Tab.get_upd_ne tidy.threads j t f other
  exact ⟨⟨Tab.wf_upd tidy.threads j f, self ▸ tidy.regs, tidy.cs⟩, fun _ _ => by rw [self],
    fun quiet => absurd rfl (quiet line dst), fun _ => by rw [self], fun _ => rfl, fun _ => rfl⟩

/-- A core on which an instruction issues. -/
theorem cycled (tidy : k.Tidy t) (tile bar : Nat) :
    RegStep t op k { (k.useTile tile).cycle t bar with progress := true } := by
  have threads : ({ (k.useTile tile).cycle t bar with progress := true } : Core).threads =
      (List.range 8).foldl (fun (m : Tab Thread) i =>
        Tab.upd {} m i fun h => { h with bar := if i = t then bar else h.bar - 1 }) k.threads := by
    rw [← Core.useTile_threads k tile]
    unfold Core.cycle
    with_reducible rfl
  obtain ⟨cache, last, others, eq⟩ := Core.issue_eq k tile t bar
  exact .ofThreads tidy threads (fun _ _ => rfl) (fun _ _ => rfl) (by rw [eq]) (by rw [eq])

end Core.RegStep

end Sys2Proof.Machine

/-!
The frame of the state (O24): every effect of a Weft row is a step of `RegFrame`, and so is all that stands around it.
-/
namespace Sys2Proof.Machine

/-! ## Steps of the state -/

/-- What an instruction of thread `t` of core `c` leaves of its core, on a device with no twin at work. -/
structure RegFrame (c t : Nat) (op : WeftOp) (s u : State) : Prop where
  cores : Tab.wf ({} : Core) u.weft.cores = true
  alone : u.fab.st.twinState = 0
  core : Core.RegStep t op (s.core c) (u.core c)

namespace RegFrame

variable {c t : Nat} {op : WeftOp} {s u v : State}

theorem refl (good : s.weftGood = true) (alone : s.fab.st.twinState = 0) : RegFrame c t op s s :=
  ⟨wf_cores good, alone, .refl (Core.tidy_of_good (good_core good c) t)⟩

section
variable (h : RegFrame c t op s u)
include h

/-- A change outside the cores. -/
theorem same (cores : v.weft.cores = u.weft.cores) (fabric : v.fab.st = u.fab.st) : RegFrame c t op s v := by
  have core : v.core c = u.core c := by rw [State.core, cores, ← State.core]
  exact ⟨cores ▸ h.cores, fabric ▸ h.alone, core ▸ h.core⟩

theorem modCore {f : Core → Core} (step : (u.core c).Tidy t → Core.RegStep t op (u.core c) (f (u.core c))) :
    RegFrame c t op s (u.modCore c f) := by
  refine ⟨Tab.wf_upd h.cores c f, h.alone, ?_⟩
  rw [State.core_modCore u c f h.cores]
  exact h.core.trans (step h.core.tidy)

/-- A change of the core that leaves its threads and the registers that they share. -/
theorem modCoreSame {f : Core → Core} (threads : ∀ k, (f k).threads = k.threads) (cs : ∀ k, (f k).cs = k.cs)
    (cp1 : ∀ k, (f k).cp1 = k.cp1) : RegFrame c t op s (u.modCore c f) :=
  h.modCore fun tidy => .ofSameThreads tidy (threads _) ((cs (u.core c)).symm ▸ tidy.cs) (fun _ => cs _) fun _ => cp1 _

theorem modTh {f : Thread → Thread}
    (step : ∀ k, Thread.RegStep op k k → Thread.RegStep op k (f k)) : RegFrame c t op s (u.modTh c t f) :=
  h.modCore fun tidy => .ofThread tidy (step _ (.refl tidy.regs))

theorem drawn : RegFrame c t op s u.drawn := h.same rfl rfl

theorem bump (x : Ctr) (i : Nat) : RegFrame c t op s (u.bump x i) := h.same rfl rfl

theorem squash (n : Nat) : RegFrame c t op s (u.squashYounger c n) := h.same rfl rfl

theorem retire : RegFrame c t op s (u.modTh c t Thread.advance) := h.modTh fun _ => Thread.RegStep.advance

theorem fault (e : Cause) (a : Word) : RegFrame c t op s (u.fault c t e a) :=
  (h.squash 4).modCore fun tidy => .stopped tidy u c t e.code (u.th c t).pc a

theorem putReg {a : BitVec 5} (dest : op.dest = some a) (v : Word) : RegFrame c t op s (u.putReg c t a v) :=
  h.modTh fun _ step => (step.setReg dest v).advance

/-! ### Core-shared registers, branches, loops -/

theorem shared {a : BitVec 5} (dest : op.dest = some a) (n : BitVec 4) {f : Word → Word}
    (keeps : op.writesShared = false → ∀ v, f v = v) : RegFrame c t op s (u.shared c t a n f) := by
  unfold State.shared
  dsimp only
  split
  · exact h.fault ..
  · refine RegFrame.putReg (h.modCore fun tidy => ?_) dest _
    refine .ofSameThreads tidy rfl (Tab.wf_set tidy.cs ..) (fun reads => ?_) fun _ => rfl
    rw [keeps reads]
    exact Tab.set_get tidy.cs _

theorem branch (taken : Bool) (off : Word) : RegFrame c t op s (u.branch c t taken off) := by
  unfold State.branch State.goto
  split
  · split
    · exact h.fault ..
    · exact (h.squash 3).modTh fun _ step => step.goto ..
  · exact h.retire

theorem jump {a : BitVec 5} (dest : op.dest = some a) (n : Nat) (tgt : Word) :
    RegFrame c t op s (u.jump c t n a tgt) := by
  unfold State.jump
  split
  · exact h.fault ..
  · exact (h.squash n).modTh fun _ step => (step.setReg dest _).goto ..

theorem loopSetup (count endOff : Nat) : RegFrame c t op s (u.loopSetup c t count endOff) := by
  have set : ∀ f : Thread → Thread, (∀ k, (f k).regs = k.count.regs ∧ (f k).control = k.count.control) →
      RegFrame c t op s ((u.squashYounger c 3).modTh c t f) := fun f counts =>
    (h.squash 3).modTh fun k step => step.count.same (counts k).1 fun _ => (counts k).2
  unfold State.loopSetup
  dsimp only
  split
  · exact h.fault ..
  · split
    · exact h.fault ..
    · split
      · exact h.fault ..
      · split
        · exact set _ fun _ => ⟨rfl, rfl⟩
        · exact set _ fun _ => ⟨rfl, rfl⟩

/-! ### Supervisor and control registers -/

theorem supervisor {n : BitVec 10} (isScall : op = .scall n) : RegFrame c t op s (u.supervisor c t n) := by
  unfold State.supervisor
  dsimp only
  split
  · exact h.fault ..
  · split
    · exact h.fault ..
    · refine (h.squash 3).modTh fun k step => step.count.same rfl fun keeps => ?_
      obtain ⟨-, noScall, -⟩ := keeps
      exact absurd isScall (noScall n)

theorem supReturn (isSret : op = .sret) : RegFrame c t op s (u.supReturn c t) := by
  unfold State.supReturn
  dsimp only
  split
  · exact h.fault ..
  · split
    · exact h.fault ..
    · split
      · exact h.fault ..
      · refine (h.squash 3).modTh fun k step => step.count.same rfl fun keeps => ?_
        obtain ⟨-, -, noSret⟩ := keeps
        exact absurd isSret noSret

theorem readCr {a : BitVec 5} (dest : op.dest = some a) (n : Nat) : RegFrame c t op s (u.readCr c t a n) := by
  unfold State.readCr
  dsimp only
  split
  · split
    · exact h.drawn.putReg dest _
    · exact h.fault ..
  · split
    · exact h.fault ..
    · split
      · exact h.fault ..
      · exact h.putReg dest _

theorem writeCr {b : BitVec 5} {cr : BitVec 10} (isMtcr : op = .mtcr b cr) (v : Word) (n : Nat) :
    RegFrame c t op s (u.writeCr c t v n) := by
  have set : ∀ f : Thread → Thread, (∀ k, (f k).regs = k.regs) →
      RegFrame c t op s (u.modTh c t fun k => (f k).advance) := fun f regs =>
    h.modTh fun k step => (step.same (regs k) fun keeps => absurd isMtcr (keeps.1 b cr)).advance
  unfold State.writeCr
  dsimp only
  split
  case isTrue =>
    split
    · exact set _ fun _ => rfl
    · exact h.fault ..
  split
  case isTrue =>
    split
    · exact h.fault ..
    · split
      · exact h.fault ..
      · exact set _ fun _ => rfl
  split
  case isTrue =>
    split
    · exact h.fault ..
    · exact set _ fun _ => rfl
  split
  case isTrue =>
    split
    · exact set _ fun _ => rfl
    · exact h.fault ..
  split
  · refine (h.squash 3).modTh fun k step => Thread.RegStep.advance (step.same ?_ ?_)
    · rfl
    · exact fun _ => rfl
  · exact h.fault ..

end

section
variable (h : RegFrame c t op s u)

/-! ### Requests, events, ends -/

theorem close {r : Served} (h : RegFrame c t op s r.state) (o : HelperOp) : RegFrame c t op s (r.close o) := by
  unfold Served.close
  dsimp only
  split
  · exact h.same rfl rfl
  · split
    · exact h.same rfl rfl
    · refine RegFrame.bump (h.same ?_ ?_) ..
      · rfl
      · rfl

include h

theorem sendReq (a b : BitVec 5) (tag : BitVec 12) (counted : Bool) :
    RegFrame c t op s (u.sendReq c t a b tag counted) := by
  unfold State.sendReq
  dsimp only
  split
  · exact h.fault ..
  · split
    · next p i _ _ =>
      have retires : ∀ (results : List (Nat × Nat)) (k : Thread), Thread.RegStep op k k → Thread.RegStep op k
          (if counted then { k.advance with depcnt := k.depcnt + 1, unsettled := k.unsettled ++ results }
            else k.advance) := fun results k step => by
        split
        · exact step.advance.same rfl fun _ => rfl
        · exact step.advance
      have sent : ∀ l n f, (∀ k, Thread.RegStep op k k → Thread.RegStep op k (f k)) →
          RegFrame c t op s (({ u.drawn with weft.ops := l, weft.nextOp := n } : State).modTh c t f) :=
        fun l n f step => by
          refine RegFrame.modTh (h.same ?_ ?_) step
          · rfl
          · rfl
      have refused : ∀ l n f e o, (∀ k, Thread.RegStep op k k → Thread.RegStep op k (f k)) → RegFrame c t op s
          ((refuse (({ u.drawn with weft.ops := l, weft.nextOp := n } : State).modTh c t f) e).close o) :=
        fun l n f e o step => RegFrame.close (r := refuse _ e) (sent l n f step) o
      split
      · exact refused _ _ _ _ _ (retires _)
      · split
        · exact refused _ _ _ _ _ (retires _)
        · split
          · exact refused _ _ _ _ _ (retires _)
          · exact sent _ _ _ (retires _)
    · exact h.fault ..

theorem wait : RegFrame c t op s
    (u.modTh c t fun h => if h.depcnt = 0 then h.advance else { h.advance with st := .waiting }) := by
  refine h.modTh fun k step => ?_
  split
  · exact step.advance
  · exact step.advance.same rfl fun _ => rfl

theorem endTask : RegFrame c t op s (if (u.th c t).priv = .m then u.fault c t .privilege 0
    else u.modTh c t fun h => { h.count with atEnd := true, st := if h.depcnt = 0 then .running else .waiting }) := by
  split
  · exact h.fault ..
  · exact h.modTh fun k step => step.count.same rfl fun _ => rfl

/-! ### Coprocessors -/

theorem cpReg (n : Nat) {run : State → State} (allowed : RegFrame c t op s (run u)) :
    RegFrame c t op s (u.cpReg c t n run) := by
  unfold State.cpReg
  split
  · exact h.fault ..
  · exact allowed

theorem cp2Reg {run : State → State} (allowed : RegFrame c t op s (run u)) : RegFrame c t op s (u.cp2Reg c t run) := by
  unfold State.cp2Reg
  split
  · exact h.fault ..
  · exact allowed

theorem feed (ch : Nat) (x : Word32) : RegFrame c t op s
    ((u.modCore c fun k => { k with cp2 := k.cp2.feed ch x }).modTh c t Thread.advance) := by
  refine RegFrame.retire (h.modCoreSame ?_ ?_ ?_)
  all_goals exact fun _ => rfl

theorem cpMem (n name : Nat) (addr : Word) (len arg : Nat) : RegFrame c t op s (u.cpMem c t n name addr len arg) := by
  unfold State.cpMem
  dsimp only
  split
  · exact h.fault ..
  · split
    · exact h.fault ..
    · split
      · refine RegFrame.modTh (h.modCoreSame ?_ ?_ ?_) fun k step => step.advance.same rfl fun _ => rfl
        all_goals exact fun _ => rfl
      · exact h.fault ..

theorem cp2Mem (name : Nat) (addr : Word) (len arg : Nat) : RegFrame c t op s (u.cp2Mem c t name addr len arg) := by
  unfold State.cp2Mem
  split
  · exact h.fault ..
  · exact h.cpMem ..

theorem cpRelease (n : Nat) : RegFrame c t op s (u.cpRelease c t n) := by
  refine h.cpReg n (RegFrame.retire (h.modCoreSame ?_ ?_ ?_))
  all_goals exact fun _ => rfl

/-! ### Memory -/

theorem touched (outside : v.outside = u.outside) (wm : v.wm = u.wm) : RegFrame c t op s v := by
  simp only [State.outside, State.wm, Prod.mk.injEq] at outside wm
  obtain ⟨-, -, -, -, -, -, -, -, -, -, -, -, fabric, -⟩ := outside
  exact h.same (by rw [wm.1]) fabric

theorem cacheTouch (cid line : Nat) (w : Bool) : RegFrame c t op s (u.cacheTouch cid line w).1 :=
  h.touched (outside_cacheTouch ..) (wm_cacheTouch ..)

theorem attachTo (x : Attach) : RegFrame c t op s (u.attachTo c t x) := h.modTh fun _ step => step.same rfl fun _ => rfl

theorem load {a : BitVec 5} (dest : op.dest = some a) (addr : Word) (n : Nat) (signed net : Bool) :
    RegFrame c t op s (u.load c t a addr n signed net) := by
  by_cases aligned : addr.toNat % n = 0
  case neg =>
    rw [State.load_misaligned aligned]
    exact h.fault ..
  cases reach : u.locate c t addr with
  | none =>
    rw [State.load_nowhere aligned reach]
    exact h.fault ..
  | some l =>
    cases l with
    | lm p =>
      rw [State.load_local aligned reach]
      exact h.drawn.putReg dest _
    | dram p =>
      rw [State.load_dram aligned reach]
      dsimp only
      split
      · exact (h.cacheTouch ..).attachTo _
      · exact (h.cacheTouch ..).putReg dest _

theorem store (addr : Word) (bs : List Byte) : RegFrame c t op s (u.store c t addr bs) := by
  by_cases aligned : addr.toNat % bs.length = 0
  case neg =>
    rw [State.store_misaligned aligned]
    exact h.fault ..
  cases reach : u.locate c t addr with
  | none =>
    rw [State.store_nowhere aligned reach]
    exact h.fault ..
  | some l =>
    cases l with
    | lm p =>
      rw [State.store_local aligned reach]
      refine RegFrame.retire (h.modCoreSame ?_ ?_ ?_)
      all_goals exact fun _ => rfl
    | dram p =>
      rw [State.store_dram aligned reach]
      dsimp only
      have touch := h.cacheTouch (u.sl (u.sliceOf c t)).cfg.winCid.toNat (p / 64) true
      split
      · exact touch.attachTo _
      · exact RegFrame.retire (touch.same rfl rfl)

/-! ### The debugger's part -/

theorem finish (f : Wait → Bool) (e : Status) (d : BitVec 352) (l : List Tile) : RegFrame c t op s (u.finish f e d l) := by
  unfold State.finish State.complete
  split
  · exact h
  · rw [State.answer_of_alone]
    · refine RegFrame.touched ?_ (outside_deliver ..) (wm_deliver ..)
      exact h.same rfl rfl
    · exact h.alone

theorem afterStep : RegFrame c t op s (u.afterStep c t) := by
  unfold State.afterStep
  dsimp only
  split
  · refine RegFrame.finish (h.modTh ?_) ..
    exact fun k step => step.same rfl fun _ => rfl
  · exact h

end

/-! ### The effects that one row alone has -/

/-- A line raised on the sender itself wakes nothing, because the sender runs. -/
theorem evsend {line dst : BitVec 3} (h : RegFrame c t (.evsend line dst) s u) (running : (u.th c t).st = .running)
    (slice j n : Nat) : RegFrame c t (.evsend line dst) s (((u.raiseLine slice c j n).1).modTh c t Thread.advance) := by
  refine RegFrame.retire ?_
  unfold State.raiseLine
  split
  · by_cases own : t = j
    · subst own
      refine h.modCore fun tidy => .ofThread tidy ?_
      rw [Thread.evWake, if_neg (by simp [show ((u.core c).th t).st = .running from running])]
      exact (Thread.RegStep.refl tidy.regs).same rfl fun _ => rfl
    · exact h.modCore fun tidy => .ofOther tidy own _
  · exact h.bump ..

theorem cpAcquire {cp : Bool} {a : BitVec 5} (h : RegFrame c t (.cpacq cp a) s u) (n : Nat) :
    RegFrame c t (.cpacq cp a) s (u.cpAcquire c t n a) := by
  unfold State.cpAcquire
  dsimp only
  split
  · exact h.fault ..
  · split
    · exact h.putReg rfl _
    · refine RegFrame.putReg (h.modCore fun tidy => ?_) rfl _
      have reset : ∀ b : Bool, (if b then (u.core c).cpReset n else u.core c).threads = (u.core c).threads ∧
          (if b then (u.core c).cpReset n else u.core c).cs = (u.core c).cs := fun b => by
        unfold Core.cpReset
        repeat' split
        all_goals exact ⟨rfl, rfl⟩
      refine .ofSameThreads tidy (reset _).1 ?_ (fun _ => (reset _).2) fun quiet => absurd rfl (quiet cp a)
      exact (reset _).2.symm ▸ tidy.cs

/-! ### Issuing -/

theorem issued (good : s.weftGood = true) (alone : s.fab.st.twinState = 0) : RegFrame c t op s (s.issued c t) := by
  have start : RegFrame c t op s s := .refl good alone
  refine RegFrame.modTh (RegFrame.bump (start.modCore fun tidy => ?_) ..) fun k step => step.same rfl fun _ => rfl
  generalize ((s.atPc c t).map opBar).getD 0 = bar
  exact .cycled tidy ((s.th c t).pc / 64) bar

end RegFrame

end Sys2Proof.Machine

/-!
The rows, each with the registers that it names (O24).
-/
namespace Sys2Proof.Machine

/-- What an instruction does once it issues is a step as `RegFrame` says. -/
def KeepsRegs (c : Fin 68) (t : Fin 8) (op : WeftOp) (run : State → State) : Prop :=
  ∀ {s u : State}, RegFrame c t op s u → (u.th c t).st = .running → RegFrame c t op s (run u)

/-- Every Weft row issues its instruction, whose effect writes the registers that the instruction names. -/
theorem exec_weft_keepsRegs {i : Instr} {c : Fin 68} {t : Fin 8} {op : WeftOp} (row : Instr.weft i = some (c, t, op)) :
    ∃ run, IssuesOrHolds i c t op run ∧ KeepsRegs c t op run := by
  cases i
  case wAdd | wSub | wAnd | wOr | wXor | wAndn | wSll | wSrl | wSra | wRol | wSlt | wSltu | wSeq | wMin | wMax | wMinu |
      wMaxu | wMul | wMulh | wMulhu | wAddi | wAndi | wOri | wXori | wSlli | wSrli | wSrai | wRoli | wExt | wExts | wIns |
      wLi | wLik | wBsw16 | wBsw32 | wBsw64 | wClz | wCtz | wPopc =>
    cases row
    exact ⟨_, fun _ => .inl rfl, fun h _ => h.putReg rfl _⟩
  case wLdb | wLdh | wLdw | wLdd | wLdbs | wLdhs | wLdws | wLdhn | wLdwn =>
    cases row
    exact ⟨_, fun _ => .inl rfl, fun h _ => h.load rfl ..⟩
  case wStb | wSth | wStw | wStd | wSthn | wStwn =>
    cases row
    exact ⟨_, fun _ => .inl rfl, fun h _ => h.store ..⟩
  case wCsrd =>
    cases row
    exact ⟨_, fun _ => .inl rfl, fun h _ => h.shared rfl _ fun _ _ => rfl⟩
  case wCsswp | wCsadd | wCsand | wCsor | wCscas =>
    cases row
    exact ⟨_, fun _ => .inl rfl, fun h _ => h.shared rfl _ nofun⟩
  case wCbeq | wCbne | wCblt | wCbge | wCbltu | wCbgeu | wCbeqi | wCbnei | wCblti | wCbgei | wCbltui | wCbgeui =>
    cases row
    exact ⟨_, fun _ => .inl rfl, fun h _ => h.branch ..⟩
  case wJ | wJr =>
    cases row
    exact ⟨_, fun _ => .inl rfl, fun h _ => h.jump rfl ..⟩
  case wLoop | wLoopi =>
    cases row
    exact ⟨_, fun _ => .inl rfl, fun h _ => h.loopSetup ..⟩
  case wReqC =>
    cases row
    exact ⟨_, fun _ => ok_held (⟨rfl, ·⟩), fun h _ => h.sendReq ..⟩
  case wReqP =>
    cases row
    exact ⟨_, fun _ => ok_held (⟨rfl, .inr ·⟩), fun h _ => h.sendReq ..⟩
  case wWait =>
    cases row
    exact ⟨_, fun _ => .inl rfl, fun h _ => h.wait⟩
  case wEvwait =>
    cases row
    exact ⟨_, fun _ => .inl rfl, fun h _ => h.modTh fun _ step => step.evStart rfl _⟩
  case wEvsend =>
    cases row
    exact ⟨_, fun _ => .inl rfl, fun h running => h.evsend running ..⟩
  case wEnd =>
    cases row
    exact ⟨_, fun _ => .inl rfl, fun h _ => h.endTask⟩
  case wFault =>
    cases row
    exact ⟨_, fun _ => .inl rfl, fun h _ => h.fault ..⟩
  case wScall =>
    cases row
    exact ⟨_, fun _ => .inl rfl, fun h _ => h.supervisor rfl⟩
  case wSret =>
    cases row
    exact ⟨_, fun _ => .inl rfl, fun h _ => h.supReturn rfl⟩
  case wMfcr =>
    cases row
    exact ⟨_, fun _ => .inl rfl, fun h _ => h.readCr rfl _⟩
  case wMtcr =>
    cases row
    exact ⟨_, fun _ => .inl rfl, fun h _ => h.writeCr rfl ..⟩
  case wCrcc | wCrce | wCrcz | wHmix =>
    cases row
    exact ⟨_, fun _ => .inl rfl, fun h _ => h.cpReg _ (h.putReg rfl _)⟩
  case wGkey | wGiv | wGaad | wGenc | wGdec | wGtag | wGver | wPcfg | wCpsave | wCpload =>
    cases row
    exact ⟨_, fun _ => ok_held (⟨rfl, .inl ·⟩), fun h _ => h.cpMem ..⟩
  case wPfeed =>
    cases row
    exact ⟨_, fun _ => .inl rfl, fun h _ => h.cp2Reg (h.feed ..)⟩
  case wPre | wPim | wPmag =>
    cases row
    exact ⟨_, fun _ => .inl rfl, fun h _ => h.cp2Reg (h.putReg rfl _)⟩
  case wPang =>
    cases row
    exact ⟨_, fun _ => .inl rfl, fun h _ => h.cp2Reg (h.drawn.putReg rfl _)⟩
  case wPfeedm | wPgetm =>
    cases row
    exact ⟨_, fun _ => ok_held (⟨rfl, .inl ·⟩), fun h _ => h.cp2Mem ..⟩
  case wCpacq =>
    cases row
    exact ⟨_, fun _ => .inl rfl, fun h _ => h.cpAcquire _⟩
  case wCprel =>
    cases row
    exact ⟨_, fun _ => .inl rfl, fun h _ => h.cpRelease _⟩
  all_goals cases row

/-- A thread that its core selects runs (R251). -/
theorem State.running_of_selected {s : State} {c t : Nat} (selected : s.selected c = some t) :
    (s.th c t).st = .running := by
  obtain ⟨d, -, found⟩ := List.exists_of_findSome?_eq_some selected
  have chosen := List.find?_some found
  simp only [State.selectable, State.canIssue, Bool.and_eq_true, beq_iff_eq] at chosen
  obtain ⟨⟨⟨⟨⟨⟨⟨-, running⟩, -⟩, -⟩, -⟩, -⟩, -⟩, -⟩ := chosen
  exact running

section
variable {c : Fin 68} {t : Fin 8} {op : WeftOp} {run : State → State} {s u : State}

/-- An instruction that is asked to issue. -/
theorem RegFrame.issue (keeps : KeepsRegs c t op run) (good : s.weftGood = true) (alone : s.fab.st.twinState = 0) :
    RegFrame c t op s (s.issue c t op run) := by
  have start : RegFrame c t op s s := .refl good alone
  have issued : RegFrame c t op s (s.issued c t) := .issued good alone
  by_cases selected : s.selected c = some t.val
  · have running : ((s.issued c t).th c t).st = .running := by
      obtain ⟨b, thread⟩ := State.th_issued good c t
      rw [thread]
      exact State.running_of_selected selected
    refine State.issue_elim s c t op run start (start.fault ..) (fun tile => RegFrame.bump ?_ ..)
      ((start.bump ..).fault ..) (issued.fault ..) (RegFrame.afterStep ?_)
    · exact start.modTh fun _ step => step.same rfl fun _ => rfl
    · unfold State.checked
      dsimp only
      split
      · split
        · exact issued.fault ..
        · exact keeps issued running
      · exact keeps issued running
  · rw [State.issue, if_pos selected]
    exact start

/-- What a row answers. -/
theorem RegFrame.exec {i : Instr} (row : IssuesOrHolds i c t op run) (keeps : KeepsRegs c t op run)
    (good : s.weftGood = true) (alone : s.fab.st.twinState = 0) (answer : exec i s = .next u) : RegFrame c t op s u := by
  have start : RegFrame c t op s s := .refl good alone
  rcases row s with issues | ⟨held, -⟩
  · cases issues.symm.trans answer
    split
    · exact start
    · exact .issue keeps good alone
  · cases held.symm.trans answer
    split <;> exact start

end

/-- Settles O24: the frame of the row, read field by field. -/
theorem weftRegisterFrame : Obligations.WeftRegisterFrame := by
  unfold Obligations.WeftRegisterFrame
  intro i c t op s u row good alone answer
  obtain ⟨run, issues, keeps⟩ := exec_weft_keepsRegs row
  have frame := (RegFrame.exec issues keeps good alone answer).core
  refine ⟨frame.regs, rfl, fun quiet j other r => Thread.reg_congr (frame.others quiet j other) r,
    fun noMtcr noScall noSret => ?_, frame.shared, frame.cp1⟩
  have control := frame.control ⟨noMtcr, noScall, noSret⟩
  simp only [Thread.control, Prod.mk.injEq] at control
  exact control

end Sys2Proof.Machine

/-!
Coprocessor instructions on memory (O59): an operation that the task may ask for, on an aligned block that it may use, is
queued at its coprocessor and counted like a counted request (R305, R307).
-/
namespace Sys2Proof.Machine

section
variable {s : State} {c t n name len arg p : Nat} {addr : Word} {x : Inst}

/-- An instruction that counts as a counted request issues as any other while the dependency counter has room (R209). -/
theorem ok_issue_of_room {op : WeftOp} {run : State → State} (room : (!s.counterFull c t) = true)
    (issues : s.issues c t op = true) :
    ok s (if s.counterFull c t then s else s.issue c t op run) = .next (s.does c t run) := by
  rw [if_neg (Bool.eq_false_iff.1 (Bool.not_eq_true' _ ▸ room))]
  exact issue_of issues

/-- An operation on memory that meets none of the faults CP_DENIED, ALIGN and ACCESS is in flight and counted. -/
theorem State.cpMem_sent (may : (!s.cpDenied c t n) = true) (aligned : (addr.toNat % 8 == 0) = true)
    (allowed : ((s.core c).blockAt t (s.sliceOf c t) (s.th c t).priv addr.toNat len == some p) = true)
    (inst : ((s.th c t).inst == some x) = true) : s.cpMem c t n name addr len arg =
      (s.modCore c fun k =>
        { k with cpOps := k.cpOps ++ [⟨n, t, x, (s.th c t).priv, name, addr.toNat, arg, (s.th c t).pc⟩] }).modTh c t fun h =>
          { h.advance with depcnt := h.depcnt + 1 } := by
  rw [State.cpMem, if_neg (Bool.eq_false_iff.1 (Bool.not_eq_true' _ ▸ may)), if_neg (not_not.2 (eq_of_beq aligned)),
    eq_of_beq allowed, eq_of_beq inst]

/-- With OPMODE 1 a CP2 pointer operation is one on memory (R306). -/
theorem State.cp2Mem_pointers (opmode : ((s.core c).cp2.opmode == 1) = true) :
    s.cp2Mem c t name addr len arg = s.cpMem c t 2 name addr len arg :=
  if_neg (not_not.2 (eq_of_beq opmode))

end

/-- Settles O59: the counter has room, so the row issues, and its operation meets no fault; `pfeedm` and `pgetm` find
pointer operands selected besides. -/
theorem weftMemoryCoprocessors : Obligations.WeftMemoryCoprocessors := by
  unfold Obligations.WeftMemoryCoprocessors
  refine ⟨?gkey, ?giv, ?gaad, ?genc, ?gdec, ?gtag, ?gver, ?pcfg, ?pfeedm, ?pgetm, ?cpsave, ?cpload⟩
  all_goals
    intros
    rename_i can
    obtain ⟨allowed, inst⟩ := Bool.and_eq_true_iff.1 can
    obtain ⟨aligned, allowed⟩ := Bool.and_eq_true_iff.1 allowed
    obtain ⟨may, aligned⟩ := Bool.and_eq_true_iff.1 aligned
    obtain ⟨issues, may⟩ := Bool.and_eq_true_iff.1 may
  case pfeedm | pgetm =>
    obtain ⟨issues, opmode⟩ := Bool.and_eq_true_iff.1 issues
    obtain ⟨room, issues⟩ := Bool.and_eq_true_iff.1 issues
    exact (ok_issue_of_room room issues).trans
      (does_congr ((State.cp2Mem_pointers opmode).trans (State.cpMem_sent may aligned allowed inst)))
  all_goals
    obtain ⟨room, issues⟩ := Bool.and_eq_true_iff.1 issues
    exact (ok_issue_of_room room issues).trans (does_congr (State.cpMem_sent may aligned allowed inst))

end Sys2Proof.Machine

/-!
Lock, DRAM and table-cache commands (O16, O37): one lemma for each command, then the statements themselves. An admitted
packet executes once its own conditions hold (`runCmd_of_admits`); the rest of its `Can.x` decides those conditions.
-/
namespace Sys2Proof.Machine

/-! ## Locks (R345, R358, R361, R364) -/

theorem exec_lockConfig_of_can {q : Cmd} {s : State} (h : Can.lockConfig q s = true) :
    exec (.lockConfig q) s = .next (
      execPlan (setOp 0xA01 .live LockCfg.rsv) q
        { keys := [(.lock, q.h)]
          eff := s.modLk q.h fun k => { k with cfg := LockCfg.ofTile (q.tile 1) } }) := by
  simp only [Can.lockConfig, Bool.and_eq_true, Bool.not_eq_true'] at h
  obtain ⟨⟨⟨⟨admitted, isLock⟩, lease⟩, owns⟩, idle⟩ := h
  exact runCmd_of_admits admitted (.inl rfl)
    (List.forall_mem_cons.2 ⟨by simpa using isLock, List.forall_mem_singleton.2 lease⟩) owns rfl
    (List.forall_mem_singleton.2 idle)

theorem exec_lockGet_of_can {q : Cmd} {s : State} (h : Can.lockGet q s = true) :
    exec (.lockGet q) s = .next (
      let k := s.lk q.h
      execPlan (getOp 0xA02 .live) q
        { keys := [(.lock, q.h)]
          changes := false
          replyTiles := 3
          eff := if q.clear then s.modLk q.h fun k =>
                { k with st := { abandonPend := k.st.abandonPend, grantKind := k.st.grantKind } } else s
          tiles := [k.cfg.toTile, (k.status s.now).toTile] }) := by
  simp only [Can.lockGet, Bool.and_eq_true, decide_eq_true_eq] at h
  obtain ⟨⟨admitted, isLock⟩, mayClear⟩ := h
  exact runCmd_of_admits admitted (.inl rfl) (by simp [isLock]) mayClear rfl (by simp)

theorem exec_lockBreak_of_can {q : Cmd} {s : State} (h : Can.lockBreak q s = true) :
    exec (.lockBreak q) s = .next (
      let k := s.lk q.h
      execPlan (actOp 0xA03 .live 0) q
        { keys := [(.lock, q.h)]
          changes := k.holder.isSome
          eff := if k.holder.isSome then s.abandon q.h else s }) := by
  simp only [Can.lockBreak, Bool.and_eq_true, decide_eq_true_eq] at h
  obtain ⟨⟨admitted, isLock⟩, owns⟩ := h
  exact runCmd_of_admits admitted (.inl rfl) (by simp [isLock]) (decide_eq_true owns) rfl (by simp)

theorem exec_lockUnitConfig_of_can {q : Cmd} {s : State} (h : Can.lockUnitConfig q s = true) :
    exec (.lockUnitConfig q) s = .next (
      execPlan (setOp 0xA10 .live (~~~ put 512 0 (1 : BitVec 1))) q
        { keys := [(.lockUnit, 0)]
          eff := { s with lock.freeze := (q.tile 1).extractLsb' 0 1 } }) := by
  simp only [Can.lockUnitConfig, Bool.and_eq_true, Bool.not_eq_true', decide_eq_true_eq] at h
  obtain ⟨⟨⟨admitted, handle0⟩, sl0⟩, mode⟩ := h
  exact runCmd_of_admits admitted (.inl rfl) (by simp [handle0]) sl0 rfl (List.forall_mem_singleton.2 mode)

theorem exec_lockUnitGet_of_can {q : Cmd} {s : State} (h : Can.lockUnitGet q s = true) :
    exec (.lockUnitGet q) s = .next (
      execPlan (getOp 0xA11 .live) q
        { keys := [(.lockUnit, 0)]
          changes := false
          replyTiles := 2
          eff := s
          tiles := [sealTile (put 512 0 s.lock.freeze)] }) := by
  simp only [Can.lockUnitGet, Bool.and_eq_true, decide_eq_true_eq] at h
  obtain ⟨⟨admitted, handle0⟩, mayClear⟩ := h
  exact runCmd_of_admits admitted (.inl rfl) (by simp [handle0]) mayClear rfl (by simp)

/-! ## DRAM (R480, R494) -/

theorem exec_dramGet_of_can {q : Cmd} {s : State} (h : Can.dramGet q s = true) :
    exec (.dramGet q) s = .next (
      execPlan (getOp 0xB01 .all) q
        { keys := [(.dram, 0)]
          changes := false
          replyTiles := 4
          eff := if q.clear then
                { s with dram.st := { s.dram.st with refForced := 0, panicActiveNs := 0, trackUpdates := 0, agedReq := 0 } }
              else s
          tiles := [s.dram.board, s.dram.layout.toTile, s.dram.st.toTile] }) := by
  simp only [Can.dramGet, Bool.and_eq_true, decide_eq_true_eq] at h
  obtain ⟨⟨admitted, handle0⟩, mayClear⟩ := h
  exact runCmd_of_admits admitted (.inl rfl) (by simp [handle0]) mayClear rfl (by simp)

theorem exec_dramLayoutSet_of_can {q : Cmd} {s : State} (h : Can.dramLayoutSet q s = true) :
    exec (.dramLayoutSet q) s = .next (
      execPlan (setOp 0xB02 .live DramLayout.rsv) q
        { keys := [(.dram, 0)]
          eff := { s with dram.layout := DramLayout.ofTile (q.tile 1) } }) := by
  simp only [Can.dramLayoutSet, Bool.and_eq_true, Bool.not_eq_true'] at h
  obtain ⟨⟨⟨⟨⟨⟨⟨⟨⟨admitted, handle0⟩, count⟩, aligned⟩, noneAt0⟩, aboveLow⟩, sl0⟩, dramOn⟩, fits⟩, noPool⟩ := h
  simp only [decide_eq_true_eq] at handle0 count
  exact runCmd_of_admits admitted (.inl rfl)
    (List.forall_mem_singleton.2 (by
      simp only [Bool.or_eq_false_iff]
      exact ⟨⟨⟨⟨decide_eq_false (not_not.mpr handle0), decide_eq_false (Nat.not_lt.mpr count)⟩, aligned⟩, noneAt0⟩,
        aboveLow⟩))
    sl0 rfl
    (List.forall_mem_cons.2 ⟨by simp [dramOn], List.forall_mem_cons.2 ⟨fits, List.forall_mem_singleton.2 noPool⟩⟩)

/-! ## The table cache (R499, R504, R509) -/

theorem exec_cacheConfig_of_can {q : Cmd} {s : State} (h : Can.cacheConfig q s = true) :
    exec (.cacheConfig q) s = .next (
      let c := CacheCfg.ofTile (q.tile 1)
      let o := s.dram.cacheCfg
      let on : Bool := s.dramOn && o.enable = 1
      let change : Bool := (c.enable = 1) != on
      let dirty : Bool := s.dram.lines.any (fun (_, l) => l.any (·.dirty)) || !s.dram.evb.isEmpty
      let off : Bool := on && c.enable = 0
      let flush : Bool := off && dirty && q.opt 16 1
      let s1 := { s with dram.cacheCfg := c }
      execPlan { setOp 0xB10 .live CacheCfg.rsv with uses := dat 16 (2 : BitVec 2) } q
        { keys := [(.cache, 0)]
          eff := if flush then { s1 with dram.cacheSt.state := 1 }
              else if off then s1.cacheOff
              else if change then { s1 with dram.lines := [], dram.evb := [], dram.cacheSt.state := 0 }
              else s1
          wait := if flush then some .cacheFlush else none }) := by
  simp only [Can.cacheConfig, Bool.and_eq_true, Bool.not_eq_true'] at h
  obtain ⟨⟨⟨⟨⟨⟨⟨⟨admitted, handle0⟩, cleanUs⟩, mask0⟩, mask1⟩, sl0⟩, mode⟩, clean⟩, noFlush⟩ := h
  simp only [decide_eq_true_eq] at handle0
  exact runCmd_of_admits admitted (.inl rfl)
    (List.forall_mem_singleton.2 (by simp only [handle0, cleanUs, mask0, mask1]; rfl)) sl0 noFlush
    (List.forall_mem_cons.2 ⟨mode, List.forall_mem_singleton.2 clean⟩)

theorem exec_cacheGet_of_can {q : Cmd} {s : State} (h : Can.cacheGet q s = true) :
    exec (.cacheGet q) s = .next (
      let c := if s.dramOn then s.dram.cacheCfg else { s.dram.cacheCfg with enable := 0 }
      execPlan (getOp 0xB11 .live) q
        { keys := [(.cache, 0)]
          changes := false
          replyTiles := 3
          eff := if q.clear then
                { s with dram.cacheSt := { s.dram.cacheSt with writebacks := 0, evbHits := 0, evbStall := 0, cleanParity := 0
                                                               discardedDirty := 0 } }
              else s
          tiles := [c.toTile, s.cacheStatus.toTile] }) := by
  simp only [Can.cacheGet, Bool.and_eq_true, decide_eq_true_eq] at h
  obtain ⟨⟨admitted, handle0⟩, mayClear⟩ := h
  exact runCmd_of_admits admitted (.inl rfl) (by simp [handle0]) mayClear rfl (by simp)

theorem exec_cacheMaint_of_can {q : Cmd} {s : State} (h : Can.cacheMaint q s = true) :
    exec (.cacheMaint q) s = .next (
      let op := q.u8 16
      let all := q.opt 17 0
      let a := (q.u64 24).toNat
      let n := (q.u64 32).toNat
      execPlan (actOp 0xB12 .live (used 16 1 ||| dat 17 (1 : BitVec 1) ||| used 24 16)) q
        { keys := [(.cache, 0)]
          changes := false
          eff := { s with dram.maint := s.dram.maint ++ [⟨op, if all then none else some (a / 64, n / 64)⟩] }
          wait := some .cacheMaint }) := by
  simp only [Can.cacheMaint, Bool.and_eq_true, Bool.not_eq_true'] at h
  obtain ⟨⟨⟨⟨⟨⟨⟨admitted, handle0⟩, isOp⟩, whole⟩, range⟩, owns⟩, dramOn⟩, notOff⟩ := h
  simp only [decide_eq_true_eq] at handle0 isOp
  exact runCmd_of_admits admitted (.inl rfl)
    (List.forall_mem_singleton.2 (Bool.or_eq_false_iff.2 ⟨Bool.or_eq_false_iff.2 ⟨Bool.or_eq_false_iff.2
      ⟨decide_eq_false (not_not.mpr handle0), decide_eq_false (Nat.not_lt.mpr isOp)⟩, whole⟩, range⟩)) owns rfl
    (List.forall_mem_singleton.2 (Bool.or_eq_false_iff.2 ⟨by simp [dramOn], notOff⟩))

/-- Settles O37: each command answers what its lemma above says. -/
theorem lockDramAndCacheCommands : Obligations.LockDramAndCacheCommands := by
  unfold Obligations.LockDramAndCacheCommands
  exact ⟨fun _ _ h => exec_lockConfig_of_can h,
    fun _ _ h => exec_lockGet_of_can h,
    fun _ _ h => exec_lockBreak_of_can h,
    fun _ _ h => exec_lockUnitConfig_of_can h,
    fun _ _ h => exec_lockUnitGet_of_can h,
    fun _ _ h => exec_dramGet_of_can h,
    fun _ _ h => exec_dramLayoutSet_of_can h,
    fun _ _ h => exec_cacheConfig_of_can h,
    fun _ _ h => exec_cacheGet_of_can h,
    fun _ _ h => exec_cacheMaint_of_can h⟩

/-! ## A command that changes nothing, on a device without a twin (R535, R567) -/

/-- A device without a twin sends a command's reply at once. -/
theorem same_answer_of_single {s : State} (single : s.fab.st.twinState = 0) (q : Cmd) (keys : List ObjKey) (k : Nat)
    (r : Reply) : SameObjects s (s.answer q keys k r) := by
  have atOnce : s.answer q keys k r = s.deliver q k r := by simp [State.answer, single]
  rw [atOnce]
  exact same_deliver ..

theorem same_complete_of_single {s : State} (single : s.fab.st.twinState = 0) (q : Cmd) (keys : List ObjKey) (k : Nat)
    (r : Reply) : SameObjects s (s.complete q keys k r) := by
  unfold State.complete
  exact (same_modSl _ _ _ fun _ => by dsimp only; split <;> rfl).trans
    (same_answer_of_single (by simpa using single) _ _ _ _)

@[simp] theorem State.voidArm_fab (s : State) (info : OpInfo) (q : Cmd) : (s.voidArm info q).fab = s.fab := by
  unfold State.voidArm
  split <;> rfl

/-- Only a twin's copy sets a generation. -/
theorem State.twinGen_of_direct {q : Cmd} (direct : ∀ l a g, q.path ≠ .twin l a g) (s : State) (p : Plan) :
    s.twinGen q p = s := by
  unfold State.twinGen
  split
  · next path _ => exact absurd path (direct _ _ _)
  · rfl

/-- A command that changes nothing and does not wait leaves the objects as its effect gives them. -/
theorem same_execPlan_of_single {info : OpInfo} {q : Cmd} {p : Plan} (unchanged : p.changes = false)
    (atOnce : p.wait = none) (direct : ∀ l a g, q.path ≠ .twin l a g) (single : p.eff.fab.st.twinState = 0) :
    SameObjects p.eff (execPlan info q p) := by
  have kept (s : State) : s.changed p = s := by simp [State.changed, unchanged]
  unfold execPlan
  simp only [kept, State.twinGen_of_direct direct, atOnce]
  exact (same_reserveOnce _ q _).trans ((same_voidArm _ info q).trans (same_complete_of_single (by simp [single]) ..))

/-- Settles O16: a held lock is abandoned; on a free one the command has no effect and changes no object. -/
theorem lockBreakPassesTheLockOn : Obligations.LockBreakPassesTheLockOn := by
  unfold Obligations.LockBreakPassesTheLockOn
  intro q s can
  refine ⟨_, exec_lockBreak_of_can can, fun held => ?_, fun free => ⟨?_, fun single direct => ?_⟩⟩
  · simp only [held, if_true]
  · simp only [free, Option.isSome_none, Bool.false_eq_true, if_false]
  · simp only [free, Option.isSome_none, Bool.false_eq_true, if_false]
    exact same_execPlan_of_single rfl rfl direct single

end Sys2Proof.Machine

/-!
Lock and channel requests (O51): one lemma for each request and form, then the statement itself. A request that may be
served answers what its operation gives (`serve_asked_eq`); the checks of R311 that a family of operations shares
(`lockOp`, `chanOp`) are passed once, each in a lemma of its own.
-/
namespace Sys2Proof.Machine

/-! ## Locks (R347, R349, R352, R353) -/

theorem lockOp_of_owned {run : State → LockHolder → Nat → HelperOp → Served} {s : State} {o : HelperOp}
    (isLock : o.u 8 2 < 4096) (enabled : (s.lk (o.u 8 2)).cfg.enable ≠ 0)
    (owned : (s.lk (o.u 8 2)).cfg.owner.toNat = o.slice) :
    lockOp run s o = run s (o.inst.holder o.core o.thread) (o.u 8 2) o := by
  unfold lockOp
  dsimp only
  rw [if_neg (not_or.mpr ⟨Nat.not_le.mpr isLock, enabled⟩), if_neg (not_not.mpr owned)]

/-- The request of a task that is still there keeps what it has got. -/
theorem lateAcquire_of_carried {s : State} {o : HelperOp} (carried : s.carries o = true) (h : LockHolder) (n : Nat)
    (x : State × Nat) : lateAcquire s h n o x = ofPair x := if_pos (.inl carried)

theorem lockAcquire_of_free {s : State} {h : LockHolder} {n : Nat} (notHeld : (s.lk n).heldBy h = false)
    (free : (s.lk n).holder.isNone = true) (try' : Bool) (line : Nat) :
    lockAcquire s h n try' line =
      (s.modLk n fun k => k.grant h k.st.abandonPend s.now, if (s.lk n).st.abandonPend = 1 then 0x41 else 0x00) := by
  simp only [lockAcquire, notHeld, free, Bool.false_eq_true, if_false, if_true]

/-- A request for a held lock joins its queue, unless it asks to try only or waits for a lock already. -/
theorem lockAcquire_of_held {s : State} {h : LockHolder} {n : Nat} {try' : Bool} (notHeld : (s.lk n).heldBy h = false)
    (held : (s.lk n).holder.isSome = true) (mayWait : try' = false) (notWaiting : (s.lk n).waits h = false)
    (waitsNowhere : (s.lock.locks.any fun (_, x) => x.waits h) = false) (line : Nat) :
    lockAcquire s h n try' line =
      (s.modLk n fun k => { k with queue := k.queue ++ [⟨h, line⟩], st.contended := satInc k.st.contended }, 0x40) := by
  have notFree : (s.lk n).holder.isNone = false := by simpa using held
  simp only [lockAcquire, notHeld, notFree, mayWait, notWaiting, waitsNowhere, Bool.false_eq_true, if_false]

theorem exec_hLockAcquire_of_can {k : Nat} {o : HelperOp} {s : State} (h : Can.hLockAcquire k o s = true) :
    exec (.hLockAcquire k) s = .next (
      let h := o.inst.holder o.core o.thread
      Served.close
        { state := s.modLk (o.u 8 2) fun k => k.grant h k.st.abandonPend s.now
          status := if (s.lk (o.u 8 2)).st.abandonPend = 1 then 0x41 else 0x00 } o) := by
  simp only [Can.hLockAcquire, Bool.and_eq_true, Bool.not_eq_true', beq_iff_eq, bne_iff_ne, decide_eq_true_eq] at h
  obtain ⟨⟨⟨⟨⟨⟨⟨asked, len⟩, isLock⟩, enabled⟩, owned⟩, carried⟩, notHeld⟩, free⟩ := h
  refine serve_asked_eq asked (decide_eq_true len) rfl ((lockOp_of_owned isLock enabled owned).trans ?_)
  rw [lateAcquire_of_carried carried, lockAcquire_of_free notHeld free]
  rfl

theorem exec_hLockAcquire_of_can_queued {k : Nat} {o : HelperOp} {s : State} (h : Can.hLockAcquire_queued k o s = true) :
    exec (.hLockAcquire k) s = .next (
      let h := o.inst.holder o.core o.thread
      Served.close
        { state := s.modLk (o.u 8 2) fun k =>
            { k with queue := k.queue ++ [⟨h, o.u 11 1 % 8⟩], st.contended := satInc k.st.contended }
          status := 0x40 } o) := by
  simp only [Can.hLockAcquire_queued, Bool.and_eq_true, Bool.not_eq_true', beq_iff_eq, bne_iff_ne, decide_eq_true_eq] at h
  obtain ⟨⟨⟨⟨⟨⟨⟨⟨⟨⟨asked, len⟩, isLock⟩, enabled⟩, owned⟩, carried⟩, notHeld⟩, held⟩, mayWait⟩, notWaiting⟩, nowhere⟩ := h
  refine serve_asked_eq asked (decide_eq_true len) rfl ((lockOp_of_owned isLock enabled owned).trans ?_)
  rw [lateAcquire_of_carried carried, lockAcquire_of_held notHeld held mayWait notWaiting nowhere]
  rfl

theorem exec_hLockRelease_of_can {k : Nat} {o : HelperOp} {s : State} (h : Can.hLockRelease k o s = true) :
    exec (.hLockRelease k) s = .next (Served.close { state := s.passLock (o.u 8 2) false } o) := by
  simp only [Can.hLockRelease, Bool.and_eq_true, beq_iff_eq, bne_iff_ne, decide_eq_true_eq] at h
  obtain ⟨⟨⟨⟨⟨asked, len⟩, isLock⟩, enabled⟩, owned⟩, held⟩ := h
  exact serve_asked_eq asked (decide_eq_true len) rfl
    ((lockOp_of_owned isLock enabled owned).trans (congrArg ofPair (if_pos held)))

theorem exec_hLockRenew_of_can {k : Nat} {o : HelperOp} {s : State} (h : Can.hLockRenew k o s = true) :
    exec (.hLockRenew k) s = .next (Served.close { state := s.modLk (o.u 8 2) fun k => k.lease s.now } o) := by
  simp only [Can.hLockRenew, Bool.and_eq_true, beq_iff_eq, bne_iff_ne, decide_eq_true_eq] at h
  obtain ⟨⟨⟨⟨⟨asked, len⟩, isLock⟩, enabled⟩, owned⟩, held⟩ := h
  exact serve_asked_eq asked (decide_eq_true len) rfl
    ((lockOp_of_owned isLock enabled owned).trans (congrArg ofPair (if_pos held)))

theorem exec_hLockCancel_of_can {k : Nat} {o : HelperOp} {s : State} (h : Can.hLockCancel k o s = true) :
    exec (.hLockCancel k) s = .next (
      let h := o.inst.holder o.core o.thread
      Served.close { state := s.modLk (o.u 8 2) fun k => { k with queue := k.queue.filter fun w => !w.who.same h } } o) := by
  simp only [Can.hLockCancel, Bool.and_eq_true, beq_iff_eq, bne_iff_ne, decide_eq_true_eq] at h
  obtain ⟨⟨⟨⟨⟨asked, len⟩, isLock⟩, enabled⟩, owned⟩, waiting⟩ := h
  exact serve_asked_eq asked (decide_eq_true len) rfl
    ((lockOp_of_owned isLock enabled owned).trans (congrArg ofPair (if_pos waiting)))

theorem exec_hLockQuery_of_can {k : Nat} {o : HelperOp} {s : State} (h : Can.hLockQuery k o s = true) :
    exec (.hLockQuery k) s = .next (Served.close { state := s, out := [(16, lockQuery s (o.u 8 2))] } o) := by
  simp only [Can.hLockQuery, Bool.and_eq_true, beq_iff_eq, bne_iff_ne, decide_eq_true_eq] at h
  obtain ⟨⟨⟨⟨asked, len⟩, isLock⟩, enabled⟩, owned⟩ := h
  exact serve_asked_eq asked (decide_eq_true len) rfl (lockOp_of_owned isLock enabled owned)

/-! ## Channels (R368 to R370) -/

theorem chanOp_of_owned {words : State → Nat → Nat} {run : State → HelperOp → Nat → Served} {s : State} {o : HelperOp}
    (isRing : o.u 8 2 < 4096) (len : o.word.blen.toNat = words s (o.u 8 2)) (channel : (s.ring (o.u 8 2)).cfg.kind = 1)
    (enabled : (s.ring (o.u 8 2)).cfg.enable ≠ 0) (owned : (s.ring (o.u 8 2)).cfg.owner.toNat = o.slice) :
    chanOp words run s o = run s o (o.u 8 2) := by
  unfold chanOp
  dsimp only
  rw [if_neg (Nat.not_le.mpr isRing), if_neg (not_not.mpr len), if_neg (not_or.mpr ⟨not_not.mpr channel, enabled⟩),
    if_neg (not_not.mpr owned)]

theorem chStage_of_room {s : State} {c t r : Nat} (x : BitVec 512) (producer : (s.chan r).cfg.bound true c t = true)
    (sameChannel : (s.stage c t).items.isEmpty = true ∨ (s.stage c t).chan = r)
    (room : (s.stage c t).items.length < (s.chan r).cfg.msgMax.toNat) :
    chStage s c t r x = (s.setStage c t ⟨r, (s.stage c t).items ++ [x]⟩, 0x00) := by
  have notBusy : ¬ ((!(s.stage c t).items.isEmpty) = true ∧ (s.stage c t).chan ≠ r) := by
    rintro ⟨staged, other⟩
    rcases sameChannel with empty | same
    · simp [empty] at staged
    · exact other same
  unfold chStage
  dsimp only
  rw [if_neg (by simp [producer]), if_neg notBusy, if_neg (Nat.not_le.mpr room)]

theorem chAbort_of_staged {s : State} {c t r : Nat} (producer : (s.chan r).cfg.bound true c t = true)
    (staged : (s.stage c t).items.isEmpty = false) (here : (s.stage c t).chan = r) :
    chAbort s c t r = (s.dropStage c t, 0x00) := by
  unfold chAbort
  dsimp only
  rw [if_neg (by simp [producer]), if_neg (by simp [staged]), if_neg (not_not.mpr here)]

theorem chPop_of_message {s : State} {c t r m : Nat} (consumer : (s.chan r).cfg.bound false c t = true)
    (opened : (s.ring r).resetting = false) (oldest : (s.chan r).msgs.head? = some m) :
    chPop s c t r =
      (((s.ringReadMany (s.ring r) m).1.modRing r fun x => { x with items := x.items.drop m }).modChan r fun x =>
        { x with msgs := (s.chan r).msgs.tail }, 0x00, (s.ringReadMany (s.ring r) m).2) := by
  obtain ⟨rest, msgs⟩ := List.head?_eq_some_iff.1 oldest
  unfold chPop
  dsimp only
  rw [if_neg (by simp [consumer]), if_neg (by simp [opened]), msgs]
  rfl

theorem exec_hChStage_of_can {k : Nat} {o : HelperOp} {s : State} (h : Can.hChStage k o s = true) :
    exec (.hChStage k) s = .next (
      let r := o.u 8 2
      Served.close
        { state := s.setStage o.core o.thread
            ⟨r, (s.stage o.core o.thread).items ++ [leBits 512 (o.b 16 (s.ring r).itemBytes)]⟩ } o) := by
  simp only [Can.hChStage, Bool.and_eq_true, Bool.or_eq_true, beq_iff_eq, bne_iff_ne, decide_eq_true_eq] at h
  obtain ⟨⟨⟨⟨⟨⟨⟨⟨⟨⟨asked, isRing⟩, channel⟩, enabled⟩, blen⟩, len⟩, owned⟩, carried⟩, producer⟩, sameChannel⟩, room⟩ := h
  refine serve_asked_eq asked blen rfl ((chanOp_of_owned isRing len channel enabled owned).trans ?_)
  dsimp only
  rw [chStage_of_room _ producer sameChannel room, if_pos carried]
  rfl

/-- A commit makes room for its message by dropping the oldest whole messages (R369). -/
theorem exec_hChCommit_of_can {k : Nat} {o : HelperOp} {s : State} (h : Can.hChCommit k o s = true) :
    exec (.hChCommit k) s = .next (
      let r := o.u 8 2
      let g := s.stage o.core o.thread
      let ring := s.ring r
      let n := g.items.length
      let fit := makeFit ring.depth n (s.chan r).msgs ring.items.length
      let items := ring.items.drop fit.2.2 ++ g.items
      let s0 := (List.range n).foldl (fun (s : State) i => s.ringStoreItem { ring with w := ring.w + i } (g.items.getD i 0)) s
      let s1 := s0.modRing r fun x =>
        { x with items := items, w := x.w + n, lost := satAdd x.lost fit.2.2
                 high := if x.high.toNat < items.length then BitVec.ofNat 17 items.length else x.high }
      let s2 := (s1.modChan r fun x =>
        { x with msgs := fit.1 ++ [n], commits := satInc x.commits, msgLost := satAdd x.msgLost fit.2.1 }).setStage
          o.core o.thread {}
      Served.close
        { state := if ring.items.isEmpty ∧ ring.cfg.neEvEn = 1 then
              (s2.raiseLine ring.cfg.owner.toNat ring.cfg.neCore.toNat ring.cfg.neThread.toNat ring.cfg.neLine.toNat).1
            else s2
          status := if fit.2.1 = 0 then 0x00 else 0x02 } o) := by
  simp only [Can.hChCommit, Bool.and_eq_true, Bool.not_eq_true', beq_iff_eq, bne_iff_ne, decide_eq_true_eq] at h
  obtain ⟨⟨⟨⟨⟨⟨⟨⟨⟨asked, isRing⟩, channel⟩, enabled⟩, len⟩, owned⟩, producer⟩, staged⟩, here⟩, opened⟩ := h
  exact serve_asked_eq asked (decide_eq_true len) rfl ((chanOp_of_owned isRing len channel enabled owned).trans
    (congrArg ofPair ((if_neg (by simp [producer])).trans ((if_neg (by simp [opened])).trans
      ((if_neg (by simp [staged])).trans (if_neg (not_not.mpr here)))))))

theorem exec_hChAbort_of_can {k : Nat} {o : HelperOp} {s : State} (h : Can.hChAbort k o s = true) :
    exec (.hChAbort k) s = .next (Served.close { state := s.dropStage o.core o.thread } o) := by
  simp only [Can.hChAbort, Bool.and_eq_true, Bool.not_eq_true', beq_iff_eq, bne_iff_ne, decide_eq_true_eq] at h
  obtain ⟨⟨⟨⟨⟨⟨⟨⟨asked, isRing⟩, channel⟩, enabled⟩, len⟩, owned⟩, producer⟩, staged⟩, here⟩ := h
  exact serve_asked_eq asked (decide_eq_true len) rfl ((chanOp_of_owned isRing len channel enabled owned).trans
    (congrArg ofPair (chAbort_of_staged producer staged here)))

theorem exec_hChPop_of_can {k : Nat} {o : HelperOp} {m : Nat} {s : State} (h : Can.hChPop k o m s = true) :
    exec (.hChPop k) s = .next (
      let r := o.u 8 2
      let x := s.ringReadMany (s.ring r) m
      Served.close
        { state := (x.1.modRing r fun x => { x with items := x.items.drop m }).modChan r fun x =>
            { x with msgs := (s.chan r).msgs.tail }
          detail := x.2.length, out := [(16, x.2.flatMap fun i => bytesOf i (s.ring r).itemBytes)] } o) := by
  simp only [Can.hChPop, Bool.and_eq_true, Bool.not_eq_true', beq_iff_eq, bne_iff_ne, decide_eq_true_eq] at h
  obtain ⟨⟨⟨⟨⟨⟨⟨⟨⟨asked, isRing⟩, channel⟩, enabled⟩, blen⟩, len⟩, owned⟩, consumer⟩, opened⟩, oldest⟩ := h
  refine serve_asked_eq asked blen rfl ((chanOp_of_owned (words := fun s r => itemWords (s.chan r).cfg.msgMax.toNat s r)
    isRing len channel enabled owned).trans ?_)
  rw [chPop_of_message consumer opened oldest]
  rfl

/-- Settles O51: each request answers what its lemma above says. -/
theorem lockAndChannelRequests : Obligations.LockAndChannelRequests := by
  unfold Obligations.LockAndChannelRequests
  exact ⟨fun _ _ _ h => exec_hLockAcquire_of_can h,
    fun _ _ _ h => exec_hLockAcquire_of_can_queued h,
    fun _ _ _ h => exec_hLockRelease_of_can h,
    fun _ _ _ h => exec_hLockRenew_of_can h,
    fun _ _ _ h => exec_hLockCancel_of_can h,
    fun _ _ _ h => exec_hLockQuery_of_can h,
    fun _ _ _ h => exec_hChStage_of_can h,
    fun _ _ _ h => exec_hChCommit_of_can h,
    fun _ _ _ h => exec_hChAbort_of_can h,
    fun _ _ _ _ h => exec_hChPop_of_can h⟩

end Sys2Proof.Machine

/-!
Lock, ring, egress and treadle events (O45): one lemma for each event and form, then the statement itself. An event that
may take place runs on a device that has not stopped (`ok_of_running`); the rest of its `Can.x` decides the guards of its
`exec` arm.
-/
namespace Sys2Proof.Machine

/-! ## Leases (R356) -/

theorem exec_leaseExpiry_of_can {n : Fin 4096} {h : LockHolder} {s : State} (can : Can.leaseExpiry n h s = true) :
    exec (.leaseExpiry n) s = .next (
      let s1 := (s.modLk n fun k => { k with expired := some h, st.expiries := satInc k.st.expiries }).abandon n
      if (s.lk n).cfg.expEvEn = 1 then s1.notice (s.lk n).cfg.owner.toNat 0x0004 n (h.word.setWidth 64) else s1) := by
  simp only [Can.leaseExpiry, Bool.and_eq_true, Bool.not_eq_true', beq_iff_eq, decide_eq_true_eq] at can
  obtain ⟨⟨running, held⟩, ended⟩ := can
  refine (ok_of_running _ running).trans ?_
  simp only [held]
  rw [if_neg (Nat.not_lt.mpr ended)]

/-! ## Rings whose pointers disagree (R139, R146) -/

theorem exec_ringPointerMismatch_of_can {n : Fin 4096} {lo hi : Nat} {s : State} (h : Can.ringPointerMismatch n s = true) :
    exec (.ringPointerMismatch (.general n) lo hi) s = .next (s.modRing n fun g => { g with resetting := true }) := by
  simp only [Can.ringPointerMismatch, Bool.and_eq_true, Bool.not_eq_true', beq_iff_eq] at h
  obtain ⟨running, enabled⟩ := h
  exact ok_if_of_running _ running enabled

theorem exec_ringPointerMismatch_of_can_host {n : Fin 512} {lo hi : Nat} {s : State}
    (h : Can.ringPointerMismatch_host n s = true) :
    exec (.ringPointerMismatch (.host n) lo hi) s = .next (s.modHr n fun g => { g with resetting := true }) := by
  simp only [Can.ringPointerMismatch_host, Bool.and_eq_true, Bool.not_eq_true', beq_iff_eq] at h
  obtain ⟨running, enabled⟩ := h
  exact ok_if_of_running _ running enabled

theorem exec_ringPointerMismatch_of_can_warp {p : Fin 34} {x : Bool} {lo hi : Nat} {s : State}
    (h : Can.ringPointerMismatch_warp s = true) :
    exec (.ringPointerMismatch (.warp p x) lo hi) s = .next (
      let n := (s.warp p).n x
      s.modWarpRing p x fun w =>
        if w.resetting then w
        else { w with resetting := true, resetRange := some (w.l - lo, min (w.w + hi) (w.l - lo + n)) }) := by
  simp only [Can.ringPointerMismatch_warp, Bool.not_eq_true'] at h
  exact ok_of_running _ h

theorem exec_ringResetDone_of_can {n : Fin 4096} {bad : List Nat} {items : List (BitVec 128)} {s : State}
    (h : Can.ringResetDone n s = true) :
    exec (.ringResetDone (.general n) bad items) s = .next (
      ((s.modRing n fun g => { g.discard with resetting := false, ptrResets := satInc g.ptrResets }).noMessages n).report
        0x0301 (BitVec.ofNat 32 n) 0 (s.ring n).cfg.owner.toNat) := by
  simp only [Can.ringResetDone, Bool.and_eq_true, Bool.not_eq_true'] at h
  obtain ⟨running, resetting⟩ := h
  exact ok_if_of_running _ running resetting

theorem exec_ringResetDone_of_can_host {n : Fin 512} {bad : List Nat} {items : List (BitVec 128)} {s : State}
    (h : Can.ringResetDone_warp s = true) :
    exec (.ringResetDone (.host n) bad items) s = .next (s.hostRingReset n items) := by
  simp only [Can.ringResetDone_warp, Bool.not_eq_true'] at h
  exact ok_of_running _ h

theorem exec_ringResetDone_of_can_warp {p : Fin 34} {x : Bool} {bad : List Nat} {items : List (BitVec 128)} {s : State}
    (h : Can.ringResetDone_warp s = true) :
    exec (.ringResetDone (.warp p x) bad items) s = .next (s.warpResetDone p x bad) := by
  simp only [Can.ringResetDone_warp, Bool.not_eq_true'] at h
  exact ok_of_running _ h

/-! ## Egress (R115, R116, R153, R442, R465, R467, R469) -/

theorem exec_portSelect_of_can {p : Fin 52} {bad : Bool} {s : State} (h : Can.portSelect s = true) :
    exec (.portSelect p bad) s = .next (s.select p bad) := by
  simp only [Can.portSelect, Bool.not_eq_true'] at h
  exact ok_of_running _ h

theorem exec_txComplete_of_can {p : Fin 52} {f : TxFrame} {s : State} (h : Can.txComplete p f s = true) :
    exec (.txComplete p) s = .next (
      let s1 := s.modPort p fun t => { t with tx := none }.preemptSettle
      ((((s1.overrun p f).bump .txFrames p).bumpBy .txBytes p f.bytes.length).entryGone
        (Desc.ofTile f.entry.desc).buf f.pkt).outward p f) := by
  simp only [Can.txComplete, Bool.and_eq_true, Bool.not_eq_true', beq_iff_eq, decide_eq_true_eq] at h
  obtain ⟨⟨running, isMac⟩, sending⟩ := h
  refine (ok_of_running _ running).trans ?_
  rw [if_neg (Nat.not_le.mpr isMac)]
  simp only [sending]
  rfl

theorem exec_launchDue_of_can {q : Fin 7680} {x : QEnt} {rest : List QEnt} {s : State}
    (h : Can.launchDue q x rest s = true) :
    exec (.launchDue q) s = .next (s.select (s.queue q).cfg.port.toNat false) := by
  simp only [Can.launchDue, Bool.and_eq_true, Bool.not_eq_true', beq_iff_eq] at h
  obtain ⟨⟨⟨⟨running, head⟩, launches⟩, due⟩, timed⟩ := h
  refine (ok_of_running _ running).trans ?_
  simp only [head]
  rw [if_pos ⟨launches, due, timed⟩]

theorem exec_spillRefill_of_can {q : Fin 7680} {x : QEnt} {r : List QEnt} {s : State} (h : Can.spillRefill q x r s = true) :
    exec (.spillRefill q false) s = .next (
      let u := s.queue q
      let a := u.headAddr
      let s1 := (s.cacheRange 2 a 64 false).modQueue q fun u => { u with dram := r }
      s1.modQueue q fun u =>
        { u with onchip := u.onchip ++ [{ x with e := QEntry.ofTile (leBits 512 (Mem.read s1.dram.mem a 64)) }] }) := by
  simp only [Can.spillRefill, Bool.and_eq_true, Bool.not_eq_true', beq_iff_eq, decide_eq_true_eq] at h
  obtain ⟨⟨⟨⟨running, head⟩, short⟩, room⟩, sound⟩ := h
  have mayMove : ¬ ((s.queue q).onchip.length ≥ 32 ∨ (!s.storeRoom ((s.queue q).tc q)) = true) :=
    not_or.mpr ⟨Nat.not_le.mpr short, by simp [room]⟩
  refine (ok_of_running _ running).trans ?_
  simp only [head]
  rw [if_neg mayMove, if_neg]
  simpa [State.spilledOk] using sound

theorem exec_prefetchComplete_of_can {p : Fin 52} {n : Nat} {s : State} (h : Can.prefetchComplete p n s = true) :
    exec (.prefetchComplete p) s = .next (
      (s.modQueue n fun u =>
        { u with onchip := match u.onchip with | x :: r => { x with fetched := true } :: r | [] => [] }).modPortTm p
          fun t => { t with prefetchAt := n }) := by
  simp only [Can.prefetchComplete, Bool.and_eq_true, Bool.not_eq_true', beq_iff_eq] at h
  obtain ⟨running, turn⟩ := h
  refine (ok_of_running _ running).trans ?_
  simp only [turn] <;> rfl

theorem exec_telemetrySample_of_can {q : Fin 8192} {s : State} (h : Can.telemetrySample q s = true) :
    exec (.telemetrySample q) s = .next (
      let u := s.queue q
      let late := decide (u.sampleAt + 1000 < s.now)
      let p := if q.val < 7680 then u.cfg.port.toNat else 48 + (s.fabLinkOf q).getD 0
      let gate := p ≥ 33 || (s.treadle p).st.curShed.getLsbD (u.tc q)
      let it : BitVec 512 := put 512 0 (BitVec.ofNat 16 q) ||| put 512 16 (bit (!u.dram.isEmpty)) ||| put 512 17 (bit gate) |||
        put 512 18 (bit (s.panics p)) ||| put 512 19 (bit late) ||| put 512 24 u.sampleSeq |||
        put 512 32 (satNat 32 u.ents.length) ||| put 512 64 (satNat 32 u.bytes) |||
        put 512 96 (satNat 32 (s.headAge u)) ||| put 512 128 (satNat 32 u.maxSojourn) |||
        put 512 160 (satNat 32 u.txSince) ||| put 512 192 (satNat 32 u.dropSince) |||
        put 512 224 (s.wall.extractLsb' 10 32)
      { (ringPush s u.cfg.telemRing.toNat it).1.modQueue q fun u =>
          { u with maxSojourn := 0, txSince := 0, dropSince := 0, sampleSeq := u.sampleSeq + 1
                   sampleAt := u.cfg.nextSample u.sampleAt } with tm.sampledAt := s.now }) := by
  simp only [Can.telemetrySample, Bool.and_eq_true, Bool.not_eq_true'] at h
  obtain ⟨running, due⟩ := h
  exact ok_if_of_running _ running due

/-! ## Treadle lists (R452, R455 to R457, R460) -/

theorem exec_treadleEntryBegin_of_can {p : Fin 33} {s : State} (h : Can.treadleEntryBegin p s = true) :
    exec (.treadleEntryBegin p) s = .next (
      (s.modTreadle p fun d =>
        d.enter s.now (s.scaleNow (s.treadle p).st.activeScale.toNat) (hdrCount d.actHdr) 0 0).holdTx p) := by
  simp only [Can.treadleEntryBegin, Bool.and_eq_true, Bool.not_eq_true', beq_iff_eq, decide_eq_true_eq] at h
  obtain ⟨⟨⟨⟨running, active⟩, noSwitch⟩, notBegun⟩, started⟩ := h
  refine (ok_of_running _ running).trans ?_
  dsimp only
  rw [if_neg (by simp [active, noSwitch, notBegun]), if_pos (by simp [notBegun]), if_pos started]

theorem exec_treadleEntryBegin_of_can_next {p : Fin 33} {s : State} (h : Can.treadleEntryBegin_next p s = true) :
    exec (.treadleEntryBegin p) s = .next (
      (s.modTreadle p fun d => d.enter s.now (s.scaleNow (s.treadle p).st.activeScale.toNat) (hdrCount d.actHdr) d.cycle
        (d.st.curEntry.toNat + 1)).holdTx p) := by
  simp only [Can.treadleEntryBegin_next, Bool.and_eq_true, Bool.not_eq_true', beq_iff_eq, decide_eq_true_eq] at h
  obtain ⟨⟨⟨⟨⟨⟨⟨⟨running, active⟩, noSwitch⟩, begun⟩, noJump⟩, ended⟩, notFloored⟩, notCut⟩, more⟩ := h
  refine (ok_of_running _ running).trans ?_
  dsimp only
  rw [if_neg (by simp [active, noSwitch, noJump]), if_neg (by simp [begun]), if_pos ended,
    if_neg (Bool.eq_false_iff.mp notFloored), if_neg (Bool.eq_false_iff.mp notCut), if_pos more]

theorem exec_treadleSwitch_of_can {p : Fin 33} {s : State} (h : Can.treadleSwitch p s = true) :
    exec (.treadleSwitch p) s = .next (
      (s.modTreadle p fun d =>
        let cut := d.st.active = 1 ∧ !d.onGrid
        let d1 : Treadle := { d with
          actHdr := d.pendHdr, act := d.pend, badEnts := [], foundBad := [], jumps := 0
          st := { d.st with active := 1, activeScale := d.pendHdr.scale, activeCount := d.pendHdr.count, pending := 2
                            activeStart := d.st.pendingStart, pendingStart := 0, cycles := 0
                            treadleCut := if cut then satInc d.st.treadleCut else d.st.treadleCut } }
        d1.enter s.now (s.scaleNow d.pendHdr.scale.toNat) (hdrCount d.pendHdr) 0 0).holdTx p) := by
  simp only [Can.treadleSwitch, Bool.and_eq_true, Bool.or_eq_true, Bool.not_eq_true', beq_iff_eq, decide_eq_true_eq] at h
  obtain ⟨⟨running, due⟩, free⟩ := h
  exact ok_if_of_running _ running ⟨due, by simpa [or_assoc] using free⟩

theorem exec_treadleCopyDone_of_can {p : Fin 33} {s : State} (h : Can.treadleCopyDone p s = true) :
    exec (.treadleCopyDone p) s = .next (
      s.modTreadle p fun d => { d with pendHdr := d.actHdr, pend := d.act, st.pending := 0 }) := by
  simp only [Can.treadleCopyDone, Bool.and_eq_true, Bool.not_eq_true', beq_iff_eq] at h
  obtain ⟨running, copying⟩ := h
  exact ok_if_of_running _ running copying

theorem exec_treadleEntryRewrite_of_can {p : Fin 33} {i : Fin 1024} {s : State}
    (h : Can.treadleEntryRewrite p i s = true) :
    exec (.treadleEntryRewrite p i) s = .next (
      let pay := put 288 0 (BitVec.ofNat 16 p) ||| put 288 16 (BitVec.ofNat 16 i)
      (((s.modTreadle p fun d => d.mend i).holdTx p).reportDev 0x0201 p pay).reportDev 0x0203 p pay) := by
  simp only [Can.treadleEntryRewrite, Bool.and_eq_true, Bool.not_eq_true', beq_iff_eq] at h
  obtain ⟨⟨running, active⟩, found⟩ := h
  exact ok_if_of_running _ running ⟨active, found⟩

theorem exec_treadleReposition_of_can {p : Fin 33} {s : State} (h : Can.treadleReposition p s = true) :
    exec (.treadleReposition p) s = .next (
      ((s.modTreadle p fun d => { d with jumps := d.jumps - 1, st.treadleStep := satInc d.st.treadleStep }).modTreadle p
        fun d =>
          d.enter s.now (s.scaleNow d.st.activeScale.toNat) 0 (d.posOf (s.scaleNow d.st.activeScale.toNat)).1
            (d.posOf (s.scaleNow d.st.activeScale.toNat)).2).holdTx p) := by
  simp only [Can.treadleReposition, Bool.and_eq_true, Bool.not_eq_true', beq_iff_eq, bne_iff_ne, decide_eq_true_eq] at h
  obtain ⟨⟨⟨⟨running, active⟩, begun⟩, jumped⟩, floorOver⟩ := h
  refine (ok_of_running _ running).trans ?_
  dsimp only
  rw [if_pos ⟨active, begun, jumped⟩, if_pos floorOver]

/-- Settles O45: each event answers what its lemma above says. -/
theorem ringAndEgressEvents : Obligations.RingAndEgressEvents := by
  unfold Obligations.RingAndEgressEvents
  exact ⟨fun _ _ _ h => exec_leaseExpiry_of_can h,
    fun _ _ _ _ h => exec_ringPointerMismatch_of_can h,
    fun _ _ _ _ h => exec_ringPointerMismatch_of_can_host h,
    fun _ _ _ _ _ h => exec_ringPointerMismatch_of_can_warp h,
    fun _ _ _ _ h => exec_ringResetDone_of_can_host h,
    fun _ _ _ _ h => exec_ringResetDone_of_can h,
    fun _ _ _ _ _ h => exec_ringResetDone_of_can_warp h,
    fun _ _ _ h => exec_portSelect_of_can h,
    fun _ _ _ h => exec_txComplete_of_can h,
    fun _ _ _ _ h => exec_launchDue_of_can h,
    fun _ _ _ _ h => exec_spillRefill_of_can h,
    fun _ _ _ h => exec_prefetchComplete_of_can h,
    fun _ _ h => exec_telemetrySample_of_can h,
    fun _ _ h => exec_treadleEntryBegin_of_can h,
    fun _ _ h => exec_treadleEntryBegin_of_can_next h,
    fun _ _ h => exec_treadleSwitch_of_can h,
    fun _ _ h => exec_treadleCopyDone_of_can h,
    fun _ _ _ h => exec_treadleEntryRewrite_of_can h,
    fun _ _ h => exec_treadleReposition_of_can h⟩

end Sys2Proof.Machine

/-!
Table, station, stream and route commands (O32): one lemma for each command, then the statement itself. An admitted packet
executes once its own conditions hold (`runCmd_of_admits`, and `runVerified_of_admits` for the stream commands, which
verify the slots that they read); the rest of its `Can.x` decides those conditions.
-/
namespace Sys2Proof.Machine

/-! ## Partitions and configuration (R377 to R380, R608) -/

theorem exec_tablePartSet_of_can {q : Cmd} {s : State} (h : Can.tablePartSet q s = true) :
    exec (.tablePartSet q) s = .next (
      execPlan (setOp 0x501 .live TablePart.rsv) q
        { keys := [(.tablePart, q.h)]
          eff := { s with tab.parts := Tab.set {} s.tab.parts q.h (TablePart.ofTile (q.tile 1)) } }) := by
  simp only [Can.tablePartSet, Bool.and_eq_true, Bool.not_eq_true', decide_eq_true_eq] at h
  obtain ⟨⟨⟨⟨⟨admitted, isSlice⟩, good⟩, sl0⟩, learnRing⟩, unused⟩ := h
  exact runCmd_of_admits admitted (.inl rfl) (by simp [isSlice, good]) sl0 rfl
    (List.forall_mem_cons.2 ⟨learnRing, List.forall_mem_singleton.2 unused⟩)

theorem exec_tablePartGet_of_can {q : Cmd} {s : State} (h : Can.tablePartGet q s = true) :
    exec (.tablePartGet q) s = .next (
      let n := q.h
      execPlan (getOp 0x502 .live) q
        { keys := [(.tablePart, n)]
          changes := false
          replyTiles := 2
          eff := s
          data := dat 16 (s.gen (.station, n)) ||| dat 20 (s.gen (.stream, n)) ||| dat 24 (s.gen (.route, n)) |||
            dat 28 (BitVec.ofNat 32 (s.stCount n)) ||| dat 32 (BitVec.ofNat 32 (s.pinCount n)) |||
            dat 36 (BitVec.ofNat 32 (s.mainCount n)) ||| dat 40 (BitVec.ofNat 32 (s.rtUnits n))
          tiles := [(s.part n).toTile] }) := by
  rw [Can.tablePartGet, Bool.and_eq_true, Bool.and_eq_true, decide_eq_true_eq] at h
  obtain ⟨⟨admitted, isSlice⟩, mayRead⟩ := h
  exact runCmd_of_admits admitted (.inl rfl) (by simp [isSlice]) mayRead rfl (by simp)

theorem exec_tableConfig_of_can {q : Cmd} {s : State} (h : Can.tableConfig q s = true) :
    exec (.tableConfig q) s = .next (
      execPlan (setOp 0x503 .live TableCfg.rsv) q
        { keys := [(.tableCfg, 0)]
          eff := { s.ageTicks with tab.cfg := TableCfg.ofTile (q.tile 1) } }) := by
  simp only [Can.tableConfig, Bool.and_eq_true, Bool.not_eq_true'] at h
  obtain ⟨⟨⟨⟨⟨⟨admitted, handle0⟩, eviction⟩, tick⟩, limit⟩, sl0⟩, sameSeed⟩ := h
  exact runCmd_of_admits admitted (.inl rfl)
    (List.forall_mem_singleton.2 (by simpa [limit] using And.intro (And.intro handle0 eviction) tick)) sl0 rfl
    (List.forall_mem_singleton.2 sameSeed)

theorem exec_tableConfigGet_of_can {q : Cmd} {s : State} (h : Can.tableConfigGet q s = true) :
    exec (.tableConfigGet q) s = .next (
      execPlan (getOp 0x504 .live) q
        { keys := [(.tableCfg, 0)]
          changes := false
          replyTiles := 2
          eff := s
          data := dat 16 s.tab.now16
          tiles := [s.tab.cfg.toTile] }) := by
  simp only [Can.tableConfigGet, Bool.and_eq_true, decide_eq_true_eq] at h
  obtain ⟨⟨admitted, handle0⟩, mayClear⟩ := h
  exact runCmd_of_admits admitted (.inl rfl) (by simp [handle0]) mayClear rfl (by simp)

/-! ## Stations (R390, R407, R608) -/

theorem exec_stationWrite_of_can {q : Cmd} {s : State} (h : Can.stationWrite q s = true) :
    exec (.stationWrite q) s = .next (
      let e := Station.ofTile (q.tile 1)
      let i := q.u32 16
      let slot : Option Nat := match s.stHeld e.key with
        | some n => some n
        | none => if i = anySlot then chooseSlot (s.stCands e.key) s.stFree
            else if (s.station i).valid = 0 || s.awaits 0 i then some i else none
      execPlan { opcode := 0x510, modes := .live, minTiles := 2, maxTiles := 2, uses := used 16 4
                 tileRsv := Station.rsv &&& ((1 <<< 480) - 1) } q
        { keys := [(.station, s.requester q)]
          eff := match slot with | some n => (s.putStation n { e with age := s.tab.now16 }).settle 0 n | none => s
          handle := slot.map (BitVec.ofNat 32) }) := by
  simp only [Can.stationWrite, Bool.and_eq_true, Bool.not_eq_true'] at h
  obtain ⟨⟨⟨⟨⟨⟨⟨⟨⟨admitted, handle0⟩, sealed⟩, port⟩, on⟩, owned⟩, valid⟩, named⟩, hasSlot⟩, inQuota⟩ := h
  exact runCmd_of_admits admitted (.inl rfl)
    (List.forall_mem_cons.2 ⟨by simpa using handle0, List.forall_mem_cons.2 ⟨by simpa using sealed,
      List.forall_mem_singleton.2 port⟩⟩)
    (Bool.and_eq_true_iff.2 ⟨on, owned⟩) rfl
    (List.forall_mem_cons.2 ⟨Bool.or_eq_false_iff.2 ⟨valid, named⟩,
      List.forall_mem_singleton.2 (Bool.or_eq_false_iff.2 ⟨hasSlot, inQuota⟩)⟩)

/-- What STATION_DELETE and STATION_GET check of the slot that they name. -/
theorem stNamed_checks {q : Cmd} (handle0 : decide (q.h = 0) = true) (by01 : decide (q.u8 16 ≤ 1) = true)
    (fid : decide (q.u16 30 < 4096) = true) :
    ∀ x ∈ [(decide (q.h ≠ 0) || decide (q.u8 16 > 1) || decide (q.u16 30 ≥ 4096), Status.badParam)], x.1 = false := by
  simp only [decide_eq_true_eq] at handle0 by01 fid
  simp [handle0, by01, fid]

theorem exec_stationDelete_of_can {q : Cmd} {s : State} (h : Can.stationDelete q s = true) :
    exec (.stationDelete q) s = .next (
      execPlan (actOp 0x511 .live stNamedUses) q
        { keys := [(.station, s.requester q)]
          eff := match s.stNamed q with | some n => s.freeSlot 0 n | none => s }) := by
  simp only [Can.stationDelete, Bool.and_eq_true, Bool.not_eq_true'] at h
  obtain ⟨⟨⟨⟨⟨admitted, handle0⟩, by01⟩, fid⟩, on⟩, named⟩ := h
  exact runCmd_of_admits admitted (.inl rfl) (stNamed_checks handle0 by01 fid) on rfl
    (List.forall_mem_singleton.2 named)

theorem exec_stationFlush_of_can {q : Cmd} {s : State} (h : Can.stationFlush q s = true) :
    exec (.stationFlush q) s = .next (
      let me := s.requester q
      let slots := (s.tab.stations.filter fun (n, e) =>
        e.valid = 1 && e.staticV = 0 && e.owner.toNat = me && !s.awaits 0 n &&
          (q.opt 16 0 || e.fid.toNat = q.u16 18) && (q.opt 16 1 || e.port.toNat = q.u8 20)).map (·.1)
      execPlan (actOp 0x512 .live (dat 16 (3 : BitVec 2) ||| used 18 3)) q
        { keys := [(.station, me)]
          eff := { s with tab.flushes := s.tab.flushes ++ [⟨me, slots⟩] }
          wait := some (.stationFlush me) }) := by
  simp only [Can.stationFlush, Bool.and_eq_true, Bool.not_eq_true'] at h
  obtain ⟨⟨⟨⟨⟨⟨admitted, handle0⟩, fid⟩, portCode⟩, port⟩, on⟩, noFlush⟩ := h
  simp only [decide_eq_true_eq] at handle0 fid portCode
  exact runCmd_of_admits admitted (.inl rfl) (by simp [handle0, fid, portCode, port]) on noFlush (by simp)

theorem exec_stationGet_of_can {q : Cmd} {s : State} (h : Can.stationGet q s = true) :
    exec (.stationGet q) s = .next (
      execPlan (actOp 0x513 .live stNamedUses) q
        { keys := [(.station, s.requester q)]
          changes := false
          replyTiles := 2
          eff := s
          tiles := match s.stNamed q with | some n => [(s.station n).toTile] | none => [] }) := by
  simp only [Can.stationGet, Bool.and_eq_true, Bool.not_eq_true'] at h
  obtain ⟨⟨⟨⟨⟨⟨admitted, handle0⟩, by01⟩, fid⟩, on⟩, named⟩, good⟩ := h
  exact runCmd_of_admits admitted (.inl rfl) (stNamed_checks handle0 by01 fid) on rfl
    (List.forall_mem_cons.2 ⟨named, List.forall_mem_singleton.2 good⟩)

/-! ## Streams (R395) -/

/-- What STREAM_WRITE does is `streamWritePlan` of the state that verifying its main candidates leaves. -/
theorem exec_streamWrite_of_can {q : Cmd} {s : State} (h : Can.streamWrite q s = true) :
    exec (.streamWrite q) s = .next (
      let p := streamWritePlan q (s.seVerified (s.mainCands (Stream.ofTile (q.tile 1)).key))
      execPlan { opcode := 0x520, modes := .live, minTiles := 2, maxTiles := 2, uses := used 16 4 ||| dat 20 (0xC : BitVec 8)
                 tileRsv := Stream.rsv &&& ((1 <<< 480) - 1) } q
        { keys := p.keys, eff := p.eff, handle := p.handle }) := by
  simp only [Can.streamWrite, Bool.and_eq_true, Bool.not_eq_true'] at h
  obtain ⟨⟨⟨⟨⟨⟨⟨⟨⟨⟨⟨⟨⟨⟨⟨admitted0, on0⟩, owned0⟩, admitted⟩, handle0⟩, sealed⟩, on⟩, owned⟩, valid⟩, fields⟩, named⟩, region⟩,
    move⟩, free⟩, hasSlot⟩, inQuota⟩ := h
  have shaped (s : State) : ∀ x ∈ (streamWritePlan q s).bad, x.1 = false :=
    List.forall_mem_cons.2 ⟨by simpa using handle0, List.forall_mem_cons.2 ⟨by simpa using sealed,
      List.forall_mem_singleton.2 fields⟩⟩
  exact runVerified_of_admits (plan := streamWritePlan q) admitted0 (.inl rfl) (shaped s)
    (Bool.and_eq_true_iff.2 ⟨on0, owned0⟩) rfl admitted (.inl rfl) (shaped _) (Bool.and_eq_true_iff.2 ⟨on, owned⟩) rfl
    (List.forall_mem_cons.2 ⟨Bool.or_eq_false_iff.2 ⟨by simpa using valid, named⟩,
      List.forall_mem_cons.2 ⟨region, List.forall_mem_cons.2 ⟨move, List.forall_mem_cons.2 ⟨free,
        List.forall_mem_singleton.2 (Bool.or_eq_false_iff.2 ⟨hasSlot, inQuota⟩)⟩⟩⟩⟩)

/-- What STREAM_DELETE does in the state that verifying its slot leaves. -/
def streamDeletePlan (q : Cmd) (s : State) : Plan :=
  { bad := [(q.h ≠ 0, .badParam)], owns := s.tabOn q, keys := [(.stream, s.requester q)]
    own := [(!s.seNamed q, .badParam)], eff := s.freeSlot 1 (q.u32 20) }

/-- What STREAM_GET does in the state that verifying its slot leaves. -/
def streamGetPlan (q : Cmd) (s : State) : Plan :=
  { bad := [(q.h ≠ 0, .badParam)], owns := s.tabOn q, keys := [(.stream, s.requester q)], changes := false
    own := [(!s.seNamed q, .badParam), (s.awaits 1 (q.u32 20), .busy)]
    replyTiles := 2, tiles := [(s.stream (q.u32 20)).toTile], eff := s }

theorem exec_streamDelete_of_can {q : Cmd} {s : State} (h : Can.streamDelete q s = true) :
    exec (.streamDelete q) s = .next (
      let s := s.seVerified [q.u32 20]
      execPlan (actOp 0x521 .live (used 20 4)) q
        { keys := [(.stream, s.requester q)]
          eff := s.freeSlot 1 (q.u32 20) }) := by
  simp only [Can.streamDelete, Bool.and_eq_true, decide_eq_true_eq] at h
  obtain ⟨⟨⟨⟨⟨admitted0, on0⟩, admitted⟩, handle0⟩, on⟩, named⟩ := h
  have handleOk (s : State) : ∀ x ∈ (streamDeletePlan q s).bad, x.1 = false := by simp [streamDeletePlan, handle0]
  exact runVerified_of_admits (plan := streamDeletePlan q) admitted0 (.inl rfl) (handleOk s) on0 rfl admitted (.inl rfl)
    (handleOk _) on rfl (by simp [streamDeletePlan, named])

theorem exec_streamGet_of_can {q : Cmd} {s : State} (h : Can.streamGet q s = true) :
    exec (.streamGet q) s = .next (
      let s := s.seVerified [q.u32 20]
      execPlan (actOp 0x522 .live (used 20 4)) q
        { keys := [(.stream, s.requester q)]
          changes := false
          replyTiles := 2
          eff := s
          tiles := [(s.stream (q.u32 20)).toTile] }) := by
  simp only [Can.streamGet, Bool.and_eq_true, Bool.not_eq_true', decide_eq_true_eq] at h
  obtain ⟨⟨⟨⟨⟨⟨admitted0, on0⟩, admitted⟩, handle0⟩, on⟩, named⟩, good⟩ := h
  have handleOk (s : State) : ∀ x ∈ (streamGetPlan q s).bad, x.1 = false := by simp [streamGetPlan, handle0]
  exact runVerified_of_admits (plan := streamGetPlan q) admitted0 (.inl rfl) (handleOk s) on0 rfl admitted (.inl rfl)
    (handleOk _) on rfl (by simp [streamGetPlan, named, good])

/-! ## Routes (R398, R608) -/

theorem exec_routeAdd_of_can {q : Cmd} {s : State} (h : Can.routeAdd q s = true) :
    exec (.routeAdd q) s = .next (
      let e := Route.ofTile (q.tile 1)
      let slot : Option Nat := match s.rtHeld e with
        | some n => some n
        | none => firstIdx 131072 fun n => (s.rt n).valid = 0 && !s.awaits 2 n
      execPlan { opcode := 0x530, modes := .live, minTiles := 2, maxTiles := 2
                 tileRsv := Route.rsv &&& ((1 <<< 480) - 1) } q
        { keys := [(.route, s.requester q)]
          eff := match slot with | some n => (s.putRoute n e).settle 2 n | none => s
          handle := slot.map (BitVec.ofNat 32) }) := by
  simp only [Can.routeAdd, Bool.and_eq_true, Bool.not_eq_true'] at h
  obtain ⟨⟨⟨⟨⟨⟨⟨⟨⟨admitted, handle0⟩, sealed⟩, on⟩, owned⟩, valid⟩, action⟩, port⟩, shaped⟩, room⟩ := h
  exact runCmd_of_admits admitted (.inl rfl)
    (List.forall_mem_cons.2 ⟨by simpa using handle0, List.forall_mem_cons.2 ⟨by simpa using sealed,
      List.forall_mem_singleton.2 (Bool.or_eq_false_iff.2 ⟨action, port⟩)⟩⟩)
    (Bool.and_eq_true_iff.2 ⟨on, owned⟩) rfl
    (List.forall_mem_cons.2 ⟨Bool.or_eq_false_iff.2 ⟨valid, by simpa using shaped⟩, List.forall_mem_singleton.2 room⟩)

theorem exec_routeDelete_of_can {q : Cmd} {s : State} (h : Can.routeDelete q s = true) :
    exec (.routeDelete q) s = .next (
      let me := s.requester q
      let byKey : Bool := q.u8 16 = 1
      let slot : Option Nat := if byKey then s.rtHeld { Route.ofTile (q.tile 1) with owner := BitVec.ofNat 6 me }
        else if s.rtNamed q then some (q.u32 20) else none
      execPlan { opcode := 0x531, modes := .live, minTiles := 1, maxTiles := 2, uses := used 16 1 ||| used 20 4
                 tileRsv := Route.rsv &&& ((1 <<< 480) - 1) } q
        { keys := [(.route, me)]
          eff := match slot with | some n => s.freeSlot 2 n | none => s }) := by
  simp only [Can.routeDelete, Bool.and_eq_true, Bool.not_eq_true'] at h
  obtain ⟨⟨⟨⟨⟨⟨admitted, length⟩, handle0⟩, by01⟩, nameOnly⟩, on⟩, named⟩ := h
  exact runCmd_of_admits admitted (.inl rfl)
    (List.forall_mem_cons.2 ⟨by simpa using length, List.forall_mem_singleton.2
      (Bool.or_eq_false_iff.2 ⟨by simpa using And.intro handle0 by01, nameOnly⟩)⟩)
    on rfl (List.forall_mem_singleton.2 named)

theorem exec_routeGet_of_can {q : Cmd} {s : State} (h : Can.routeGet q s = true) :
    exec (.routeGet q) s = .next (
      execPlan (actOp 0x532 .live (used 20 4)) q
        { keys := [(.route, s.requester q)]
          changes := false
          replyTiles := 2
          eff := s
          tiles := [(s.rt (q.u32 20)).toTile] }) := by
  simp only [Can.routeGet, Bool.and_eq_true, Bool.not_eq_true', decide_eq_true_eq] at h
  obtain ⟨⟨⟨⟨admitted, handle0⟩, on⟩, named⟩, good⟩ := h
  exact runCmd_of_admits admitted (.inl rfl) (by simp [handle0]) on rfl (by simp [named, good])

/-- Settles O32: each command answers what its lemma above says. -/
theorem tableCommands : Obligations.TableCommands := by
  unfold Obligations.TableCommands
  exact ⟨fun _ _ h => exec_tablePartSet_of_can h,
    fun _ _ h => exec_tablePartGet_of_can h,
    fun _ _ h => exec_tableConfig_of_can h,
    fun _ _ h => exec_tableConfigGet_of_can h,
    fun _ _ h => exec_stationWrite_of_can h,
    fun _ _ h => exec_stationDelete_of_can h,
    fun _ _ h => exec_stationFlush_of_can h,
    fun _ _ h => exec_stationGet_of_can h,
    fun _ _ h => exec_streamWrite_of_can h,
    fun _ _ h => exec_streamDelete_of_can h,
    fun _ _ h => exec_streamGet_of_can h,
    fun _ _ h => exec_routeAdd_of_can h,
    fun _ _ h => exec_routeDelete_of_can h,
    fun _ _ h => exec_routeGet_of_can h⟩

end Sys2Proof.Machine

/-!
Stream, station, address, meter and counter requests (O50): one lemma for each request, then the statement itself. A request
that may be served answers what its operation gives (`serve_asked_eq`); a lookup that hits answers the entry, whichever of
its two requests asks (`streamFind_of_hit`, `routeFind_of_hit`).
-/
namespace Sys2Proof.Machine

/-! ## Streams (R393, R413 to R418) -/

/-- The stream key in the block of a FIND (R393). -/
def HelperOp.streamKey (o : HelperOp) : List Byte :=
  seKey (BitVec.ofNat 6 o.slice) (leBits 48 (o.b 8 6)) (BitVec.ofNat 12 (o.u 16 2)) (BitVec.ofNat 16 (o.u 18 2))

/-- The result fields of a stream lookup that hits slot `n` (R320, R393). -/
def State.streamResult (s : State) (n : Nat) : List (Nat × List Byte) :=
  [(24, bytesOf (s.stream n).flags 4 ++ bytesOf ((s.stream n).policer.setWidth 32) 4 ++ bytesOf (BitVec.ofNat 32 n) 4 ++
    bytesOf ((s.stream n).queue.setWidth 16) 2)]

theorem streamFind_of_hit {pin : Bool} {fs : List (Nat × SlotFault)} {s : State} {o : HelperOp} {n : Nat}
    (enabled : (s.part o.slice).enable ≠ 0) (hit : (s.seLook o.slice o.streamKey pin fs).2 = .hit n) :
    streamFind pin fs s o = { state := (s.seLook o.slice o.streamKey pin fs).1, out := s.streamResult n } := by
  have look : s.seLook o.slice o.streamKey pin fs = ((s.seLook o.slice o.streamKey pin fs).1, .hit n) := Prod.ext rfl hit
  refine (if_neg enabled).trans ?_
  dsimp only
  rw [← HelperOp.streamKey, look]
  rfl

theorem exec_hStreamFind_of_can {k : Nat} {fs : List (Nat × SlotFault)} {o : HelperOp} {n : Nat} {s : State}
    (h : Can.hStreamFind k fs o n s = true) :
    exec (.hStreamFind k fs) s = .next (
      Served.close { state := (s.seLook o.slice o.streamKey false fs).1, out := s.streamResult n } o) := by
  simp only [Can.hStreamFind, Bool.and_eq_true, beq_iff_eq, bne_iff_ne] at h
  obtain ⟨⟨⟨asked, len⟩, enabled⟩, hit⟩ := h
  exact serve_asked_eq asked (decide_eq_true len) rfl (streamFind_of_hit enabled hit)

theorem exec_hFindPinned_of_can {k : Nat} {fs : List (Nat × SlotFault)} {o : HelperOp} {n : Nat} {s : State}
    (h : Can.hFindPinned k fs o n s = true) :
    exec (.hFindPinned k fs) s = .next (
      Served.close { state := (s.seLook o.slice o.streamKey true fs).1, out := s.streamResult n } o) := by
  simp only [Can.hFindPinned, Bool.and_eq_true, beq_iff_eq, bne_iff_ne] at h
  obtain ⟨⟨⟨asked, len⟩, enabled⟩, hit⟩ := h
  exact serve_asked_eq asked (decide_eq_true len) rfl (streamFind_of_hit enabled hit)

/-- A packet's first SEQ_RECV takes its number into the recovery of its stream and is put on record (R414, R416). -/
theorem exec_hSeqRecv_of_can {k : Nat} {fs : List (Nat × SlotFault)} {o : HelperOp} {r : Nat} {num : BitVec 16} {s : State}
    (h : Can.hSeqRecv k fs o r num s = true) :
    exec (.hSeqRecv k fs) s = .next (
      let n := o.u 8 4
      let s2 := (seqHandle fs s o).1.modRecd o fun r => { r with didRecv := true }
      let c := (s2.stream n).seqC
      let s3 := s2.seqReset n
      let x := (s3.stream n).seq.recv c num s3.wall
      let st := if x.2 ≤ 3 then 0x00 else 0x39
      Served.close
        { state := ((s3.putStream n ((s3.stream n).withSeq x.1)).countRecv o.slice x.2).modRec r fun y =>
            { y with seqRecv := some { handle := n, num := num, status := st, detail := x.2
                                       copyB := if c.copyB = 1 ∧ st = 0 then some c.queueB.toNat else none
                                       strip := st = 0 && c.mode = 1 && c.strip = 1 } }
          status := st, detail := x.2, out := [(16, bytesOf (num.setWidth 32) 4)] } o) := by
  simp only [Can.hSeqRecv, Bool.and_eq_true, Bool.not_eq_true', beq_iff_eq, bne_iff_ne] at h
  obtain ⟨⟨⟨⟨⟨⟨⟨⟨asked, len⟩, packet⟩, good⟩, first⟩, record⟩, on⟩, tag⟩, fresh⟩ := h
  have handle : seqHandle fs s o = ((seqHandle fs s o).1, 0) := Prod.ext rfl good
  refine serve_asked_eq asked (decide_eq_true len) (by simp [packet]) ?_
  unfold seqRecv
  rw [handle]
  simp only [first, record, on, tag, fresh, Option.filter_none, Option.isSome_none, Bool.false_eq_true, ne_eq,
    not_true_eq_false, if_false]

/-- A packet's first SEQ_GEN takes the next number of its stream and is put on record (R416, R418). -/
theorem exec_hSeqGen_of_can {k : Nat} {fs : List (Nat × SlotFault)} {o : HelperOp} {r : Nat} {s : State}
    (h : Can.hSeqGen k fs o r s = true) :
    exec (.hSeqGen k fs) s = .next (
      let n := o.u 8 4
      let s2 := (seqHandle fs s o).1.modRecd o fun r => { r with didGen := true }
      let c := (s2.stream n).seqC
      let q := (s2.stream n).seq
      Served.close
        { state := ((s2.putStream n ((s2.stream n).withSeq { q with genSeq := q.genSeq + 1 })).bump .srGen o.slice).modRec r
            fun y => { y with seqGen := some { handle := n, num := q.genSeq, status := 0, detail := 0
                                               copyB := if c.copyB = 1 then some c.queueB.toNat else none
                                               prp := c.mode = 1 } }
          out := [(16, bytesOf (q.genSeq.setWidth 32) 4)] } o) := by
  simp only [Can.hSeqGen, Bool.and_eq_true, Bool.not_eq_true', beq_iff_eq, bne_iff_ne] at h
  obtain ⟨⟨⟨⟨⟨⟨⟨asked, len⟩, packet⟩, good⟩, first⟩, record⟩, on⟩, fresh⟩ := h
  have handle : seqHandle fs s o = ((seqHandle fs s o).1, 0) := Prod.ext rfl good
  refine serve_asked_eq asked (decide_eq_true len) (by simp [packet]) ?_
  unfold seqGen
  rw [handle]
  simp only [first, record, on, fresh, Bool.false_eq_true, ne_eq, not_true_eq_false, if_false]

/-! ## Stations (R384, R385) -/

theorem exec_hStationFind_of_can {k : Nat} {fs : List (Nat × SlotFault)} {o : HelperOp} {n : Nat} {s : State}
    (h : Can.hStationFind k fs o n s = true) :
    exec (.hStationFind k fs) s = .next (
      let s1 := (s.stLook o.slice (leBits 48 (o.b 8 6)) (BitVec.ofNat 12 (o.u 14 2)) fs).1
      let e := s.station n
      Served.close
        { state := if (nthByte o.block 16).getLsbD 0 && e.staticV = 0 then s1.putStation n { e with age := s1.tab.now16 } else s1
          out := [(20, bytesOf (e.port.setWidth 8) 1 ++ bytesOf (e.dev.setWidth 8) 1 ++
              bytesOf ((e.qvalid ++ e.dstDrop ++ e.srcDrop ++ e.staticV).setWidth 8) 1),
            (24, bytesOf (e.queue.setWidth 16) 2), (28, bytesOf (BitVec.ofNat 32 n) 4)] } o) := by
  simp only [Can.hStationFind, Bool.and_eq_true, beq_iff_eq, bne_iff_ne] at h
  obtain ⟨⟨⟨asked, len⟩, enabled⟩, hit⟩ := h
  have look : s.stLook o.slice (leBits 48 (o.b 8 6)) (BitVec.ofNat 12 (o.u 14 2)) fs = (_, .hit n) := Prod.ext rfl hit
  refine serve_asked_eq asked (decide_eq_true len) rfl ((if_neg enabled).trans ?_)
  rw [look]

theorem exec_hLearn_of_can {k : Nat} {fs : List (Nat × SlotFault)} {o : HelperOp} {s : State}
    (h : Can.hLearn k fs o s = true) :
    exec (.hLearn k fs) s = .next (
      let mac : BitVec 48 := leBits 48 (o.b 8 6)
      let fid := BitVec.ofNat 12 (o.u 14 2)
      let s1 := s.noteFaults 0 (s.stCands (stKey (BitVec.ofNat 6 o.slice) mac fid)) fs
      let x := s1.learn o.slice mac fid (o.u 16 1)
      Served.close { state := x.1, detail := x.2.1, out := [(28, bytesOf (BitVec.ofNat 64 x.2.2) 4)] } o) := by
  simp only [Can.hLearn, Bool.and_eq_true, Bool.not_eq_true', beq_iff_eq, bne_iff_ne, decide_eq_true_eq] at h
  obtain ⟨⟨⟨⟨⟨⟨asked, len⟩, isPort⟩, port⟩, enabled⟩, notFull⟩, inQuota⟩ := h
  refine serve_asked_eq asked (decide_eq_true len) rfl ?_
  unfold stationLearn
  dsimp only
  rw [if_neg (not_or.mpr ⟨Nat.not_le.mpr isPort, Bool.eq_false_iff.mp port⟩), if_neg enabled]
  simp only [notFull, inQuota, decide_false, Bool.or_self, Bool.false_eq_true, if_false]

/-! ## Routes (R397) -/

/-- The result fields of a route lookup that hits (R397). -/
def Route.result (e : Route) : List (Nat × List Byte) :=
  [(24, bytesOf e.nhMac 6 ++ bytesOf (e.nhVid.setWidth 16) 2 ++ bytesOf ((e.qvalid ++ e.queue).setWidth 16) 2 ++
      bytesOf (e.outPort.setWidth 8) 1 ++ bytesOf (e.destDev.setWidth 8) 1 ++ bytesOf (e.ract.setWidth 8) 1 ++
      bytesOf e.plen 1),
    (40, bytesOf e.rcounter 4)]

theorem routeFind_of_hit {af : BitVec 1} {path entry : Bool} {s : State} {o : HelperOp} {n : Nat}
    (enabled : (s.part o.slice).enable ≠ 0)
    (hit : (s.rtLook o.slice af (leBits 128 (o.b 8 (routeWidth af / 8))) path entry).2 = .hit n) :
    routeFind af path entry s o =
      { state := (s.rtLook o.slice af (leBits 128 (o.b 8 (routeWidth af / 8))) path entry).1, out := (s.rt n).result } := by
  have look : s.rtLook o.slice af (leBits 128 (o.b 8 (routeWidth af / 8))) path entry = (_, .hit n) := Prod.ext rfl hit
  refine (if_neg enabled).trans ?_
  dsimp only
  rw [look]
  rfl

theorem exec_hFind4_of_can {k : Nat} {path entry : Bool} {o : HelperOp} {n : Nat} {s : State}
    (h : Can.hFind4 k path entry o n s = true) :
    exec (.hFind4 k path entry) s = .next (
      Served.close
        { state := (s.rtLook o.slice 0 (leBits 128 (o.b 8 (routeWidth 0 / 8))) path entry).1, out := (s.rt n).result } o) := by
  simp only [Can.hFind4, Bool.and_eq_true, beq_iff_eq, bne_iff_ne] at h
  obtain ⟨⟨⟨asked, len⟩, enabled⟩, hit⟩ := h
  exact serve_asked_eq asked (decide_eq_true len) rfl (routeFind_of_hit enabled hit)

theorem exec_hFind6_of_can {k : Nat} {path entry : Bool} {o : HelperOp} {n : Nat} {s : State}
    (h : Can.hFind6 k path entry o n s = true) :
    exec (.hFind6 k path entry) s = .next (
      Served.close
        { state := (s.rtLook o.slice 1 (leBits 128 (o.b 8 (routeWidth 1 / 8))) path entry).1, out := (s.rt n).result } o) := by
  simp only [Can.hFind6, Bool.and_eq_true, beq_iff_eq, bne_iff_ne] at h
  obtain ⟨⟨⟨asked, len⟩, enabled⟩, hit⟩ := h
  exact serve_asked_eq asked (decide_eq_true len) rfl (routeFind_of_hit enabled hit)

/-! ## Policers and counter pairs (R322, R425) -/

theorem exec_hMeter_of_can {k : Nat} {o : HelperOp} {s : State} (h : Can.hMeter k o s = true) :
    exec (.hMeter k) s = .next (
      let n := o.u 8 4
      let x := s.meter n (o.u 12 2)
      Served.close
        { state := if x.2 ≠ 0 ∧ (s.policer n).cfg.dropForce = 1 then
              (match x.1.recordOf o with
                | some r => x.1.modRec r fun y => { y with forced := some (y.forced.getD n) }
                | none => x.1)
            else x.1
          status := if x.2 = 0 then 0 else 0x38, detail := x.2 } o) := by
  simp only [Can.hMeter, Bool.and_eq_true, Bool.not_eq_true', beq_iff_eq, bne_iff_ne, decide_eq_true_eq] at h
  obtain ⟨⟨⟨⟨⟨⟨asked, len⟩, isPolicer⟩, inRange⟩, enabled⟩, owned⟩, first⟩ := h
  exact serve_asked_eq asked (decide_eq_true len) rfl ((if_neg (not_or.mpr ⟨Nat.not_le.mpr isPolicer,
    not_or.mpr ⟨by simp [inRange], enabled⟩⟩)).trans ((if_neg (not_not.mpr owned)).trans
      (if_neg (Bool.eq_false_iff.mp first))))

theorem exec_hCounterAdd_of_can {k : Nat} {o : HelperOp} {s : State} (h : Can.hCounterAdd k o s = true) :
    exec (.hCounterAdd k) s = .next (
      Served.close
        { state := { s with host.pairs := Tab.upd (0, 0) s.host.pairs (o.u 8 4) fun (p, b) =>
            (satAdd p (o.u 16 4), satAdd b (o.u 20 4)) } } o) := by
  simp only [Can.hCounterAdd, Bool.and_eq_true, Bool.not_eq_true', beq_iff_eq, decide_eq_true_eq] at h
  obtain ⟨⟨⟨⟨asked, len⟩, isPair⟩, owned⟩, counts⟩ := h
  exact serve_asked_eq asked (decide_eq_true len) rfl ((if_neg (Nat.not_le.mpr isPair)).trans
    ((if_neg (by simp [owned])).trans (if_neg (Bool.eq_false_iff.mp counts))))

theorem exec_hCounterHelperRead_of_can {k : Nat} {o : HelperOp} {s : State} (h : Can.hCounterHelperRead k o s = true) :
    exec (.hCounterHelperRead k) s = .next (
      let v := Tab.get (0, 0) s.host.pairs (o.u 8 4)
      Served.close
        { state := if (nthByte o.block 12).getLsbD 1 then
              { s with host.pairs := Tab.set (0, 0) s.host.pairs (o.u 8 4) (0, 0) } else s
          out := [(16, bytesOf v.1 8 ++ bytesOf v.2 8)] } o) := by
  simp only [Can.hCounterHelperRead, Bool.and_eq_true, beq_iff_eq, decide_eq_true_eq] at h
  obtain ⟨⟨⟨asked, len⟩, isPair⟩, owned⟩ := h
  exact serve_asked_eq asked (decide_eq_true len) rfl ((if_neg (Nat.not_le.mpr isPair)).trans
    (if_neg (by simp [owned])))

/-- Settles O50: each request answers what its lemma above says. -/
theorem lookupAndCounterRequests : Obligations.LookupAndCounterRequests := by
  unfold Obligations.LookupAndCounterRequests
  exact ⟨fun _ _ _ _ _ h => exec_hStreamFind_of_can h,
    fun _ _ _ _ _ h => exec_hFindPinned_of_can h,
    fun _ _ _ _ _ _ h => exec_hSeqRecv_of_can h,
    fun _ _ _ _ _ h => exec_hSeqGen_of_can h,
    fun _ _ _ _ _ h => exec_hStationFind_of_can h,
    fun _ _ _ _ h => exec_hLearn_of_can h,
    fun _ _ _ _ _ _ h => exec_hFind4_of_can h,
    fun _ _ _ _ _ _ h => exec_hFind6_of_can h,
    fun _ _ _ h => exec_hMeter_of_can h,
    fun _ _ _ h => exec_hCounterAdd_of_can h,
    fun _ _ _ h => exec_hCounterHelperRead_of_can h⟩

end Sys2Proof.Machine

/-!
Table ageing, scrub and route events (O46): one lemma for each event and form, then the statement itself. An event that may
take place runs on a device that has not stopped (`ok_of_running`, `ok_if_of_running`); the rest of its `Can.x` decides the
guards of its `exec` arm.
-/
namespace Sys2Proof.Machine

/-! ## Ageing and flushes (R388, R390) -/

theorem exec_ageTick_of_can {s : State} (h : Can.ageTick s = true) : exec .ageTick s = .next s.ageTicks := by
  simp only [Can.ageTick, Bool.not_eq_true'] at h
  exact ok_of_running _ h

theorem exec_stationAgerVisit_of_can {n : Fin 262144} {s : State} (h : Can.stationAgerVisit n s = true) :
    exec (.stationAgerVisit n) s = .next (
      let e := s.station n
      let o := e.owner.toNat
      ((s.freeSlot 0 n).bump .stAged o).learnItem o e.mac e.fid 4 e.port.toNat e.port.toNat n) := by
  simp only [Can.stationAgerVisit, Bool.and_eq_true, Bool.not_eq_true', beq_iff_eq] at h
  obtain ⟨⟨⟨running, ages⟩, old⟩, good⟩ := h
  exact ok_if_of_running _ running ⟨ages, old, by simp [good]⟩

theorem exec_flushWalkEnd_of_can {n : Fin 64} {f : Flush} {s : State} (h : Can.flushWalkEnd n f s = true) :
    exec (.flushWalkEnd n) s = .next (
      let go := f.slots.filter fun i => !s.awaits 0 i
      let s1 : State := go.foldl (fun s i => s.freeSlot 0 i) { s with tab.flushes := s.tab.flushes.erase f }
      (s1.bumpBy .stFlushed n go.length).finish (· == .stationFlush n) .ok (dat 16 (BitVec.ofNat 32 go.length)) []) := by
  simp only [Can.flushWalkEnd, Bool.and_eq_true, Bool.not_eq_true', beq_iff_eq] at h
  obtain ⟨running, walking⟩ := h
  refine (ok_of_running _ running).trans ?_
  rw [walking]

/-! ## Scrubbing and repair (R394, R400, R415) -/

theorem exec_tableScrub_of_can_station {n : Fin 262144} {f : Option SlotFault} {x : SlotFault} {s : State}
    (h : Can.tableScrub 0 n f x s = true) : exec (.tableScrub (.station n) f) s = .next (s.noteFault 0 n x) := by
  simp only [Can.tableScrub, Bool.and_eq_true, Bool.not_eq_true', beq_iff_eq] at h
  obtain ⟨running, seen⟩ := h
  refine (ok_of_running _ running).trans ?_
  simp only [seen]

theorem exec_tableScrub_of_can_route {n : Fin 131072} {f : Option SlotFault} {x : SlotFault} {s : State}
    (h : Can.tableScrub 2 n f x s = true) : exec (.tableScrub (.route n) f) s = .next (s.noteFault 2 n x) := by
  simp only [Can.tableScrub, Bool.and_eq_true, Bool.not_eq_true', beq_iff_eq] at h
  obtain ⟨running, seen⟩ := h
  refine (ok_of_running _ running).trans ?_
  simp only [seen]

theorem exec_tableScrub_of_can_stream {n : Fin 1048576} {s : State} (h : Can.tableScrub_stream n s = true) :
    exec (.tableScrub (.stream n) none) s = .next (s.seqReset n) := by
  simp only [Can.tableScrub_stream, Bool.and_eq_true, Bool.or_eq_true, Bool.not_eq_true', beq_iff_eq,
    decide_eq_true_eq] at h
  obtain ⟨⟨⟨running, inReach⟩, unseen⟩, good⟩ := h
  have readable : ¬ (mainBase ≤ n.val ∧ (!s.dramOn) = true) := by
    rintro ⟨main, dramOff⟩
    rcases inReach with pinned | dramOn
    · exact Nat.not_lt.mpr main pinned
    · simp [dramOn] at dramOff
  refine (ok_of_running _ running).trans ?_
  simp only [unseen, good, if_neg readable, Bool.false_eq_true, if_false]

theorem exec_mirrorRepair_of_can {n : Fin 65536} {h : Bool} {s : State} (can : Can.mirrorRepair n h s = true) :
    exec (.mirrorRepair n) s = .next (
      let o := s.slotOwner 1 n
      (({ s with tab.badHalf := s.tab.badHalf.filter fun p => p.1 ≠ n.val } : State).tabReport 0x0203 1 n o).bump .restored
        o) := by
  simp only [Can.mirrorRepair, Bool.and_eq_true, Bool.not_eq_true', List.contains_iff_mem] at can
  obtain ⟨running, bad⟩ := can
  exact ok_if_of_running _ running (List.any_eq_true.2 ⟨_, bad, decide_eq_true rfl⟩)

/-! ## Restoration (R400, R404, R405) -/

theorem exec_tableRestoreDone_of_can {tb : Fin 3} {n : Fin 1048576} {t : Tile} {s : State}
    (h : Can.tableRestoreDone tb n t s = true) :
    exec (.tableRestoreDone tb n (some t)) s = .next (
      ((((s.takeCopy tb n (s.slotOwner tb n) t).getD s).settle tb n).tabReport 0x0203 tb n (s.slotOwner tb n)).bump .restored
        (s.slotOwner tb n)) := by
  simp only [Can.tableRestoreDone, Bool.and_eq_true, Bool.not_eq_true', Option.isSome_iff_exists] at h
  obtain ⟨⟨⟨⟨⟨running, bad⟩, sealed⟩, inTime⟩, valid⟩, s1, taken⟩ := h
  refine (ok_of_running _ running).trans ?_
  simp only [bad, sealed, inTime, valid, taken, Bool.not_true, Bool.or_self, Bool.false_eq_true, if_false, Option.getD_some]

/-- A slot that has no copy in time is lost. -/
theorem exec_tableRestoreDone_of_can_lost {tb : Fin 3} {n : Fin 1048576} {s : State}
    (h : Can.tableRestoreDone_lost tb n s = true) :
    exec (.tableRestoreDone tb n none) s = .next (
      ((s.freeSlot tb n).tabReport 0x0A01 tb n (s.slotOwner tb n)).bump .lost (s.slotOwner tb n)) := by
  simp only [Can.tableRestoreDone_lost, Bool.and_eq_true, Bool.not_eq_true'] at h
  obtain ⟨running, bad⟩ := h
  exact (ok_of_running _ running).trans (congrArg Host.Outcome.next (if_neg (by simp [bad])))

theorem exec_routeRebuild_of_can {s : State} (h : Can.routeRebuild s = true) :
    exec .routeRebuild s = .next { s with tab.routeDamaged := false } := by
  simp only [Can.routeRebuild, Bool.not_eq_true'] at h
  exact ok_of_running _ h

/-- Settles O46: each event answers what its lemma above says. -/
theorem tableEvents : Obligations.TableEvents := by
  unfold Obligations.TableEvents
  exact ⟨fun _ h => exec_ageTick_of_can h,
    fun _ _ h => exec_stationAgerVisit_of_can h,
    fun _ _ _ h => exec_flushWalkEnd_of_can h,
    fun _ _ _ _ h => exec_tableScrub_of_can_station h,
    fun _ _ _ _ h => exec_tableScrub_of_can_route h,
    fun _ _ h => exec_tableScrub_of_can_stream h,
    fun _ _ _ h => exec_mirrorRepair_of_can h,
    fun _ _ _ _ h => exec_tableRestoreDone_of_can h,
    fun _ _ _ h => exec_tableRestoreDone_of_can_lost h,
    fun _ h => exec_routeRebuild_of_can h⟩

end Sys2Proof.Machine

/-!
Policer, queue, shaper, scheduler and treadle commands (O33): one lemma for each command, then the statement itself. An
admitted packet executes once its own conditions hold (`runCmd_of_admits`); the rest of its `Can.x` decides those
conditions.
-/
namespace Sys2Proof.Machine

/-! ## Policers (R424, R427) -/

theorem exec_policerConfig_of_can {q : Cmd} {s : State} (h : Can.policerConfig q s = true) :
    exec (.policerConfig q) s = .next (
      let c := PolicerCfg.ofTile (q.tile 1)
      execPlan (setOp 0x601 .live PolicerCfg.rsv) q
        { keys := [(.policer, q.h)]
          eff := s.modPolicer q.h fun p =>
              { p with cfg := c, last := s.now, tok := if c.resetFill = 1 then 8 * c.burst.toNat * 1000000 else 0 } }) := by
  simp only [Can.policerConfig, Bool.and_eq_true, Bool.not_eq_true', decide_eq_true_eq] at h
  obtain ⟨⟨⟨admitted, isPolicer⟩, good⟩, owner⟩ := h
  exact runCmd_of_admits admitted (.inl rfl) (by simp [isPolicer, good]) owner rfl (List.forall_mem_nil _)

theorem exec_policerGet_of_can {q : Cmd} {s : State} (h : Can.policerGet q s = true) :
    exec (.policerGet q) s = .next (
      let p := (s.policer q.h).refill s.now
      execPlan (getOp 0x602 .live) q
        { keys := [(.policer, q.h)]
          changes := false
          replyTiles := 3
          eff := if q.clear then s.modPolicer q.h fun p => { p with st := {} } else s
          tiles := [p.cfg.toTile, { p.st with tokens := BitVec.ofNat 64 (p.tok / 1000000) }.toTile] }) := by
  rw [Can.policerGet, Bool.and_eq_true, Bool.and_eq_true, decide_eq_true_eq] at h
  obtain ⟨⟨admitted, isPolicer⟩, mayRead⟩ := h
  exact runCmd_of_admits admitted (.inl rfl) (by simp [isPolicer]) mayRead rfl (List.forall_mem_nil _)

/-! ## Queues (R434, R435, R471, R609) -/

theorem exec_queueAssign_of_can {q : Cmd} {s : State} (h : Can.queueAssign q s = true) :
    exec (.queueAssign q) s = .next (
      execPlan (actOp 0x701 .live (used 16 3)) q
        { keys := [(.queue, q.h)]
          eff := s.modQueue q.h fun u => { u with cfg := u.cfg.assigned q } }) := by
  simp only [Can.queueAssign, Bool.and_eq_true, Bool.not_eq_true', decide_eq_true_eq] at h
  obtain ⟨⟨⟨⟨⟨⟨⟨⟨⟨admitted, isQueue⟩, slice⟩, port⟩, tc⟩, present⟩, good⟩, fits⟩, sl0⟩, disabled⟩ := h
  exact runCmd_of_admits admitted (.inl rfl) (by simp [isQueue, slice, port, tc, present]) sl0 rfl
    (List.forall_mem_cons.2 ⟨Bool.or_eq_false_iff.2 ⟨good, fits⟩, List.forall_mem_singleton.2 disabled⟩)

theorem exec_queueConfig_of_can {q : Cmd} {s : State} (h : Can.queueConfig q s = true) :
    exec (.queueConfig q) s = .next (
      let c := QueueCfg.ofTile (q.tile 1)
      execPlan (setOp 0x702 .live QueueCfg.rsv) q
        { keys := [(.queue, q.h)]
          eff := s.modQueue q.h fun u => u.configure (if q.h ≥ 7680 then { c with tc := 0 } else c) s.now }) := by
  simp only [Can.queueConfig, Bool.and_eq_true, Bool.not_eq_true'] at h
  obtain ⟨⟨⟨⟨⟨⟨⟨admitted, isQueue⟩, good⟩, fabricQueue⟩, owner⟩, assigned⟩, fits⟩, idle⟩ := h
  exact runCmd_of_admits admitted (.inl rfl)
    (List.forall_mem_cons.2 ⟨by simpa using isQueue, List.forall_mem_cons.2 ⟨good, List.forall_mem_singleton.2 fabricQueue⟩⟩)
    (Bool.and_eq_true_iff.2 ⟨owner, assigned⟩) rfl
    (List.forall_mem_cons.2 ⟨fits, List.forall_mem_singleton.2 idle⟩)

theorem exec_queueGet_of_can {q : Cmd} {s : State} (h : Can.queueGet q s = true) :
    exec (.queueGet q) s = .next (
      let u := s.queue q.h
      execPlan (getOp 0x703 .live) q
        { keys := [(.queue, q.h)]
          changes := false
          replyTiles := 3
          eff := if q.clear then s.modQueue q.h fun u => { u with st := { deficit := u.st.deficit } } else s
          tiles := [(s.queueCfg q.h).toTile, (s.queueStatus u).toTile] }) := by
  simp only [Can.queueGet, Bool.and_eq_true, decide_eq_true_eq] at h
  obtain ⟨⟨admitted, isQueue⟩, mayClear⟩ := h
  exact runCmd_of_admits admitted (.inl rfl) (by simp [isQueue]) mayClear rfl (List.forall_mem_nil _)

/-! ## Shapers (R445, R447) -/

theorem exec_shaperConfig_of_can {q : Cmd} {s : State} (h : Can.shaperConfig q s = true) :
    exec (.shaperConfig q) s = .next (
      let c := ShaperCfg.ofTile (q.tile 1)
      let h := shaperOf q.h
      let i := (h.map (·.1)).getD 0
      execPlan (setOp 0x710 .live ShaperCfg.rsv) q
        { keys := [(.shaper, i)]
          eff := s.modShaper i fun _ =>
              { cfg := c, tok := if c.resetFill = 1 then c.burst.toNat * 8000000 else 0, last := s.now } }) := by
  simp only [Can.shaperConfig, Bool.and_eq_true, Bool.not_eq_true'] at h
  obtain ⟨⟨⟨⟨admitted, isShaper⟩, good⟩, owner⟩, fits⟩ := h
  exact runCmd_of_admits admitted (.inl rfl)
    (List.forall_mem_cons.2 ⟨isShaper, List.forall_mem_singleton.2 good⟩) owner rfl (List.forall_mem_singleton.2 fits)

theorem exec_shaperGet_of_can {q : Cmd} {s : State} (h : Can.shaperGet q s = true) :
    exec (.shaperGet q) s = .next (
      let i := ((shaperOf q.h).map (·.1)).getD 0
      let h := s.shaper i
      execPlan (getOp 0x711 .live) q
        { keys := [(.shaper, i)]
          changes := false
          replyTiles := 2
          eff := s
          data := dat 16 (BitVec.ofInt 64 (h.at s.now / 8000000)) ||| dat 24 (bit (h.eligible s.now))
          tiles := [h.cfg.toTile] }) := by
  simp only [Can.shaperGet, Bool.and_eq_true, Bool.not_eq_true'] at h
  obtain ⟨⟨admitted, isShaper⟩, mayClear⟩ := h
  exact runCmd_of_admits admitted (.inl rfl) (List.forall_mem_singleton.2 isShaper) mayClear rfl (List.forall_mem_nil _)

/-! ## Port schedulers (R443) -/

theorem exec_portSchedConfig_of_can {q : Cmd} {s : State} (h : Can.portSchedConfig q s = true) :
    exec (.portSchedConfig q) s = .next (
      let c := PortSched.ofTile (q.tile 1)
      execPlan (setOp 0x720 .live PortSched.rsv) q
        { keys := [(.sched, q.h)]
          eff := s.modPortTm q.h fun t => { t with sched := c } }) := by
  simp only [Can.portSchedConfig, Bool.and_eq_true, Bool.not_eq_true'] at h
  obtain ⟨⟨⟨⟨admitted, isPort⟩, good⟩, sl0⟩, fits⟩ := h
  exact runCmd_of_admits admitted (.inl rfl) (by simp [isPort, good]) sl0 rfl (List.forall_mem_singleton.2 fits)

theorem exec_portSchedGet_of_can {q : Cmd} {s : State} (h : Can.portSchedGet q s = true) :
    exec (.portSchedGet q) s = .next (
      execPlan (getOp 0x721 .live) q
        { keys := [(.sched, q.h)]
          changes := false
          replyTiles := 2
          eff := s
          tiles := [(s.portTm q.h).sched.toTile] }) := by
  simp only [Can.portSchedGet, Bool.and_eq_true] at h
  obtain ⟨⟨admitted, isPort⟩, mayClear⟩ := h
  exact runCmd_of_admits admitted (.inl rfl) (by simp [isPort]) mayClear rfl (List.forall_mem_nil _)

/-! ## Treadles (R451 to R455, R461, R609) -/

theorem exec_treadleConfig_of_can {q : Cmd} {s : State} (h : Can.treadleConfig q s = true) :
    exec (.treadleConfig q) s = .next (
      execPlan (setOp 0x730 .live TreadleHdr.rsv) q
        { keys := [(.treadle, q.h)]
          eff := s.modTreadle q.h fun d => { d with pendHdr := TreadleHdr.ofTile (q.tile 1) } }) := by
  simp only [Can.treadleConfig, Bool.and_eq_true, decide_eq_true_eq] at h
  obtain ⟨⟨⟨admitted, isPort⟩, scale⟩, sl0⟩ := h
  exact runCmd_of_admits admitted (.inl rfl) (by simp [isPort, scale]) sl0 rfl (List.forall_mem_nil _)

theorem exec_treadleWrite_of_can {q : Cmd} {s : State} (h : Can.treadleWrite q s = true) :
    exec (.treadleWrite q) s = .next (
      let n := q.u16 18
      let f := q.u16 16
      execPlan { opcode := 0x731, modes := .live, minTiles := 2, maxTiles := 64, uses := used 16 4 } q
        { keys := [(.treadle, q.h)]
          eff := s.modTreadle q.h fun d => { d with pend := (List.range n).foldl (fun m i =>
              Tab.set {} m (f + i) (TreadleEntry.ofTile (cmdEntry12 q i))) d.pend } }) := by
  simp only [Can.treadleWrite, Bool.and_eq_true, Bool.not_eq_true'] at h
  obtain ⟨⟨⟨⟨⟨⟨⟨⟨admitted, count⟩, length⟩, isPort⟩, inTable⟩, entries⟩, padding⟩, sl0⟩, settled⟩ := h
  exact runCmd_of_admits admitted (.inl rfl)
    (List.forall_mem_cons.2 ⟨Bool.or_eq_false_iff.2 ⟨by simp [count], length⟩,
      List.forall_mem_cons.2 ⟨by simp [isPort], List.forall_mem_cons.2 ⟨inTable,
        List.forall_mem_cons.2 ⟨entries, List.forall_mem_singleton.2 padding⟩⟩⟩⟩)
    sl0 rfl (List.forall_mem_singleton.2 settled)

/-- TREADLE_COMMIT names its treadle's generation (R597). -/
theorem exec_treadleCommit_of_can {q : Cmd} {s : State} (h : Can.treadleCommit q s = true) :
    exec (.treadleCommit q) s = .next (
      let d := s.treadle q.h
      let on := d.pendHdr.enable = 1
      let t := BitVec.ofNat 64 (s.startOf d.pendHdr)
      execPlan (actOp 0x732 .live 0) q
        { keys := [(.treadle, q.h)]
          eff := s.modTreadle q.h fun d =>
              if on then { d with st.pending := 1, st.pendingStart := t }
              else if d.st.active = 1 then { d with st.pending := 1, removing := true } else d
          data := if on then dat 16 t else 0 }) := by
  simp only [Can.treadleCommit, Bool.and_eq_true, Bool.not_eq_true', decide_eq_true_eq] at h
  obtain ⟨⟨⟨⟨⟨admitted, namesGen⟩, isPort⟩, sl0⟩, settled⟩, good⟩ := h
  exact runCmd_of_admits admitted (.inr namesGen) (by simp [isPort]) sl0 rfl
    (List.forall_mem_cons.2 ⟨by simp [settled], List.forall_mem_singleton.2 good⟩)

theorem exec_treadleAbort_of_can {q : Cmd} {s : State} (h : Can.treadleAbort q s = true) :
    exec (.treadleAbort q) s = .next (
      execPlan (actOp 0x733 .live 0) q
        { keys := [(.treadle, q.h)]
          eff := s.modTreadle q.h fun d => { d with st.pending := 0, st.pendingStart := 0, removing := false } }) := by
  simp only [Can.treadleAbort, Bool.and_eq_true, Bool.not_eq_true'] at h
  obtain ⟨⟨⟨admitted, isPort⟩, sl0⟩, pending⟩ := h
  exact runCmd_of_admits admitted (.inl rfl) (by simp [isPort]) sl0 rfl (List.forall_mem_singleton.2 pending)

theorem exec_treadleGet_of_can {q : Cmd} {s : State} (h : Can.treadleGet q s = true) :
    exec (.treadleGet q) s = .next (
      let d := s.treadle q.h
      let n := q.u16 20
      let m := if q.u8 16 = 0 then d.act else d.pend
      let h := if q.u8 16 = 0 then d.actHdr else d.pendHdr
      execPlan (actOp 0x734 .live (used 16 1 ||| used 18 4 ||| dat 22 (1 : BitVec 1))) q
        { keys := [(.treadle, q.h)]
          changes := false
          replyTiles := 3 + (n + 4) / 5
          eff := if q.opt 22 0 then s.modTreadle q.h Treadle.cleared else s
          tiles := [d.st.toTile, h.toTile] ++ tiles12 n fun i => (Tab.get {} m (q.u16 18 + i)).toTile }) := by
  simp only [Can.treadleGet, Bool.and_eq_true, Bool.not_eq_true', decide_eq_true_eq, decide_eq_false_iff_not] at h
  obtain ⟨⟨⟨⟨⟨admitted, isPort⟩, mayClear⟩, copy⟩, count⟩, inTable⟩ := h
  exact runCmd_of_admits admitted (.inl rfl) (by simpa [isPort, copy, count] using inTable) mayClear rfl
    (List.forall_mem_nil _)

/-- Settles O33: each command answers what its lemma above says. -/
theorem policerAndTrafficCommands : Obligations.PolicerAndTrafficCommands := by
  unfold Obligations.PolicerAndTrafficCommands
  exact ⟨fun _ _ h => exec_policerConfig_of_can h,
    fun _ _ h => exec_policerGet_of_can h,
    fun _ _ h => exec_queueAssign_of_can h,
    fun _ _ h => exec_queueConfig_of_can h,
    fun _ _ h => exec_queueGet_of_can h,
    fun _ _ h => exec_shaperConfig_of_can h,
    fun _ _ h => exec_shaperGet_of_can h,
    fun _ _ h => exec_portSchedConfig_of_can h,
    fun _ _ h => exec_portSchedGet_of_can h,
    fun _ _ h => exec_treadleConfig_of_can h,
    fun _ _ h => exec_treadleWrite_of_can h,
    fun _ _ h => exec_treadleCommit_of_can h,
    fun _ _ h => exec_treadleAbort_of_can h,
    fun _ _ h => exec_treadleGet_of_can h⟩

end Sys2Proof.Machine

/-!
Table-cache and DRAM events (O47): one lemma for each event, then the statement itself. An event that may take place runs on
a device that has not stopped (`ok_of_running`, `ok_if_of_running`); the rest of its `Can.x` decides the guards of its
`exec` arm.
-/
namespace Sys2Proof.Machine

/-! ## Lines of the table cache (R500 to R506) -/

theorem exec_cacheFillDone_of_can {i : Fin 262144} {l : CacheLine} {s : State} (h : Can.cacheFillDone i l s = true) :
    exec (.cacheFillDone i) s = .next (
      (s.setLine i (some { l with filling := false })).serveLines fun x => x.line = l.line) := by
  simp only [Can.cacheFillDone, Bool.and_eq_true, Bool.not_eq_true', beq_iff_eq] at h
  obtain ⟨⟨running, line⟩, filling⟩ := h
  refine (ok_of_running _ running).trans ?_
  simp only [line, filling, if_true]

theorem exec_writebackDone_of_can {l : CacheLine} {r : List CacheLine} {s : State} (h : Can.writebackDone l r s = true) :
    exec (.writebackDone false) s = .next s.evbRetire := by
  simp only [Can.writebackDone, Bool.and_eq_true, Bool.not_eq_true', beq_iff_eq, Option.isNone_iff_eq_none] at h
  obtain ⟨⟨running, oldest⟩, good⟩ := h
  refine (ok_of_running _ running).trans ?_
  simp only [oldest, good, Option.isSome_none, Bool.or_self, Bool.false_eq_true, if_false]

theorem exec_lineClean_of_can {i : Fin 262144} {l : CacheLine} {s : State} (h : Can.lineClean i l s = true) :
    exec (.lineClean i false) s = .next (
      { s.setLine i (some { l with dirty := false, since := 0, old := 0 }) with
        dram.cacheSt.writebacks := satInc s.dram.cacheSt.writebacks }) := by
  simp only [Can.lineClean, Bool.and_eq_true, Bool.not_eq_true', beq_iff_eq, bne_iff_ne, decide_eq_true_eq,
    Option.isNone_iff_eq_none] at h
  obtain ⟨⟨⟨⟨⟨⟨running, line⟩, dirty⟩, good⟩, cleans⟩, due⟩, on⟩ := h
  refine (ok_of_running _ running).trans ?_
  simp only [line]
  rw [if_neg (by simp [dirty, cleans, on, Nat.not_lt.mpr due]), if_neg (by simp [good])]

theorem exec_cacheScrub_of_can {i : Fin 262144} {e : LineFault} {s : State} (h : Can.cacheScrub s = true) :
    exec (.cacheScrub i (some e)) s = .next (s.lineFault i e) := by
  simp only [Can.cacheScrub, Bool.and_eq_true, Bool.not_eq_true', bne_iff_ne] at h
  obtain ⟨running, on⟩ := h
  exact (ok_of_running _ running).trans (congrArg Host.Outcome.next (if_neg on))

theorem exec_cacheMaintDone_of_can {m : Maint} {r : List Maint} {s : State} (h : Can.cacheMaintDone m r s = true) :
    exec (.cacheMaintDone []) s = .next (
      ({ (s.badWays.foldl (fun (s : State) i => s.maintFault m i) s).maintain m with dram.maint := r } : State).finish
        (· == .cacheMaint) .ok 0 []) := by
  simp only [Can.cacheMaintDone, Bool.and_eq_true, Bool.not_eq_true', beq_iff_eq] at h
  obtain ⟨⟨running, oldest⟩, filled⟩ := h
  refine (ok_of_running _ running).trans ?_
  simp only [oldest, filled, Bool.false_eq_true, if_false, List.map_nil, List.nil_append]

theorem exec_cacheFlushDone_of_can {s : State} (h : Can.cacheFlushDone s = true) :
    exec .cacheFlushDone s = .next (s.cacheOff.finish (· == .cacheFlush) .ok 0 []) := by
  simp only [Can.cacheFlushDone, Bool.and_eq_true, Bool.not_eq_true', beq_iff_eq] at h
  obtain ⟨running, flushing⟩ := h
  exact ok_if_of_running _ running flushing

/-! ## The DRAM channels (R485 to R491) -/

theorem exec_requestAged_of_can {s : State} (h : Can.requestAged s = true) :
    exec .requestAged s = .next { s with dram.st.agedReq := satInc s.dram.st.agedReq } := by
  simp only [Can.requestAged, Bool.and_eq_true, Bool.not_eq_true'] at h
  obtain ⟨running, active⟩ := h
  exact ok_if_of_running _ running active

theorem exec_refreshDeadline_of_can {s : State} (h : Can.refreshDeadline s = true) :
    exec .refreshDeadline s = .next { s with dram.st.refForced := satInc s.dram.st.refForced } := by
  simp only [Can.refreshDeadline, Bool.and_eq_true, Bool.not_eq_true'] at h
  obtain ⟨running, active⟩ := h
  exact ok_if_of_running _ running active

theorem exec_refreshRateRead_of_can {hot : Bool} {s : State} (h : Can.refreshRateRead s = true) :
    exec (.refreshRateRead hot) s = .next { s with dram.st.hotRefresh := bit hot, dram.rateAt := s.now + 64000000 } := by
  simp only [Can.refreshRateRead, Bool.and_eq_true, Bool.not_eq_true', decide_eq_true_eq] at h
  obtain ⟨⟨running, active⟩, due⟩ := h
  exact ok_if_of_running _ running ⟨active, due⟩

theorem exec_driftTrack_of_can {s : State} (h : Can.driftTrack s = true) :
    exec .driftTrack s = .next (
      let last : Bool := decide (s.ranks ≤ s.dram.trackRank + 1)
      { s with dram.st.trackUpdates := satInc s.dram.st.trackUpdates
               dram.trackRank := if last then 0 else s.dram.trackRank + 1
               dram.trackAt := if last then s.now + 64000000 else s.dram.trackAt }) := by
  simp only [Can.driftTrack, Bool.and_eq_true, Bool.not_eq_true', decide_eq_true_eq] at h
  obtain ⟨⟨running, active⟩, due⟩ := h
  exact ok_if_of_running _ running ⟨active, due⟩

theorem exec_ecsRead_of_can {counts : BitVec 64} {s : State} (h : Can.ecsRead s = true) :
    exec (.ecsRead counts) s = .next
      { s with dram.st.ecsCounts := if (DramBoard.ofTile s.dram.board).chMask = 3 then counts else counts &&& 0xFFFFFFFF
               dram.ecsAt := s.now + 3600000000000 } := by
  simp only [Can.ecsRead, Bool.and_eq_true, Bool.not_eq_true', decide_eq_true_eq] at h
  obtain ⟨⟨running, active⟩, due⟩ := h
  refine (ok_if_of_running _ running (And.intro active due)).trans ?_
  simp only [decide_eq_true_eq]

/-- Settles O47: each event answers what its lemma above says. -/
theorem memoryEvents : Obligations.MemoryEvents := by
  unfold Obligations.MemoryEvents
  exact ⟨fun _ _ _ h => exec_cacheFillDone_of_can h,
    fun _ _ _ h => exec_writebackDone_of_can h,
    fun _ _ _ h => exec_lineClean_of_can h,
    fun _ _ _ h => exec_cacheScrub_of_can h,
    fun _ _ _ h => exec_cacheMaintDone_of_can h,
    fun _ h => exec_cacheFlushDone_of_can h,
    fun _ h => exec_requestAged_of_can h,
    fun _ h => exec_refreshDeadline_of_can h,
    fun _ _ h => exec_refreshRateRead_of_can h,
    fun _ h => exec_driftTrack_of_can h,
    fun _ _ h => exec_ecsRead_of_can h⟩

end Sys2Proof.Machine

/-!
Fabric commands (O38): one lemma for each command, then the statement itself. An admitted packet executes once its own
conditions hold (`runCmd_of_admits`); the rest of its `Can.x` decides those conditions. Where the effect visits every route
of the 64, the plans are compared as written (`with_reducible`), so that no walk is run.
-/
namespace Sys2Proof.Machine

/-! ## The fabric and its links (R511, R512) -/

theorem exec_fabricConfig_of_can {q : Cmd} {s : State} (h : Can.fabricConfig q s = true) :
    exec (.fabricConfig q) s = .next (
      let c := FabCfg.ofTile (q.tile 1)
      let s1 := State.wallFollows { s with fab.cfg := c }
      execPlan { setOp 0xC01 .all FabCfg.rsv with uses := dat 16 (0x20 : BitVec 8) } q
        { keys := [(.fabric, 0)]
          eff := if q.opt 16 5 then { s1 with fab.st.twinDesync := 0 } else s1 }) := by
  simp only [Can.fabricConfig, Bool.and_eq_true, decide_eq_true_eq] at h
  obtain ⟨⟨⟨⟨admitted, handle⟩, hold⟩, timeout⟩, sl0⟩ := h
  exact runCmd_of_admits admitted (.inl rfl) (by simp [handle, hold, timeout]) sl0 rfl (List.forall_mem_nil _)

theorem exec_fabricGet_of_can {q : Cmd} {s : State} (h : Can.fabricGet q s = true) :
    exec (.fabricGet q) s = .next (
      execPlan (getOp 0xC02 .all) q
        { keys := [(.fabric, 0)]
          changes := false
          replyTiles := 3
          eff := if q.clear then
                { s with fab.st := { s.fab.st with fabDup := 0, fabGap := 0, fabSkip := 0, fabHops := 0, cmdLateReply := 0
                                                   rootConflict := 0, fabHbMisroute := 0 } }
              else s
          tiles := [s.fab.cfg.toTile, s.fabStatus.toTile] }) := by
  simp only [Can.fabricGet, Bool.and_eq_true, decide_eq_true_eq] at h
  obtain ⟨⟨admitted, handle⟩, mayClear⟩ := h
  exact runCmd_of_admits admitted (.inl rfl) (by simp [handle]) mayClear rfl (List.forall_mem_nil _)

theorem exec_fabricLinkConfig_of_can {q : Cmd} {s : State} (h : Can.fabricLinkConfig q s = true) :
    exec (.fabricLinkConfig q) s = .next (
      let c := LinkCfg.ofTile (q.tile 1)
      let o := (s.link q.h).cfg
      let s1 := s.modLink q.h fun l => { l with cfg := c }
      execPlan (setOp 0xC03 .all LinkCfg.rsv) q
        { keys := [(.link, q.h)]
          eff := if o.enable = 1 ∧ c.enable = 0 then s1.linkFail q.h
              else if o.enable = 0 ∧ c.enable = 1 ∧ c.ltEn = 1 then s1.modLink q.h fun l => { l with st.state := 1 }
              else s1 }) := by
  simp only [Can.fabricLinkConfig, Bool.and_eq_true, Bool.not_eq_true'] at h
  obtain ⟨⟨⟨admitted, isLink⟩, sl0⟩, settled⟩ := h
  exact runCmd_of_admits admitted (.inl rfl) (by simpa using isLink) sl0 rfl (List.forall_mem_singleton.2 settled)

theorem exec_fabricLinkGet_of_can {q : Cmd} {s : State} (h : Can.fabricLinkGet q s = true) :
    exec (.fabricLinkGet q) s = .next (
      let l := s.link q.h
      execPlan (getOp 0xC04 .all) q
        { keys := [(.link, q.h)]
          changes := false
          replyTiles := 3
          eff := if q.clear then s.modLink q.h fun l =>
                { l with st := { l.st with linkDownCount := 0, resends := 0, linkCrcErr := 0, fecUncorrected := 0
                                           retryFullNs := 0, fabricUnreach := 0 } }
              else s
          tiles := [l.cfg.toTile, l.st.toTile] }) := by
  simp only [Can.fabricLinkGet, Bool.and_eq_true] at h
  obtain ⟨⟨admitted, isLink⟩, mayClear⟩ := h
  exact runCmd_of_admits admitted (.inl rfl) (by simpa using isLink) mayClear rfl (List.forall_mem_nil _)

/-! ## Device IDs and routes (R523, R524, R529) -/

theorem exec_fabricDiscover_of_can {q : Cmd} {s : State} (h : Can.fabricDiscover q s = true) :
    exec (.fabricDiscover q) s = .next (
      let s1 := s.discover none
      execPlan (actOp 0xC10 .live (used 16 1)) q
        { keys := [(.fabric, 0)]
          changes := false
          replyTiles := 64
          eff := { s1 with fab.disc.until' := some (s.now + 5000000), fab.disc.answers := [] }
          wait := some .discover }) := by
  simp only [Can.fabricDiscover, Bool.and_eq_true, Bool.not_eq_true', decide_eq_true_eq] at h
  obtain ⟨⟨⟨⟨⟨admitted, handle⟩, first⟩, sl0⟩, root⟩, noWindow⟩ := h
  exact runCmd_of_admits admitted (.inl rfl) (by simp [handle, first]) sl0 noWindow (List.forall_mem_singleton.2 root)

theorem exec_fabricIdSet_of_can {q : Cmd} {s : State} (h : Can.fabricIdSet q s = true) :
    exec (.fabricIdSet q) s = .next (
      let id : Option (BitVec 6) := if q.u8 25 = 1 then none else some (BitVec.ofNat 6 (q.u8 24))
      let here : Bool := q.u64 16 = Config.serial
      let s1 := s.discover (some (q.u64 16, id))
      execPlan (actOp 0xC11 .comm (used 16 10)) q
        { keys := [(.fabric, 0)]
          eff := if here then s.takeId id else { s1 with fab.idSet := some (q.u64 16, s.now + 5000000) }
          wait := if here then none else some .idSet }) := by
  simp only [Can.fabricIdSet, Bool.and_eq_true, Bool.not_eq_true', decide_eq_true_eq] at h
  obtain ⟨⟨⟨⟨⟨admitted, handle⟩, clear⟩, isId⟩, sl0⟩, noneSent⟩ := h
  exact runCmd_of_admits admitted (.inl rfl) (by simp [handle, clear, isId]) sl0 noneSent (List.forall_mem_nil _)

theorem exec_fabricRouteGet_of_can {q : Cmd} {s : State} (h : Can.fabricRouteGet q s = true) :
    exec (.fabricRouteGet q) s = .next (
      let bs := (List.range 64).flatMap fun d => (s.route d).bytes
      execPlan (getOp 0xC20 .all) q
        { keys := [(.fabric, 0)]
          changes := false
          replyTiles := 6
          eff := s
          tiles := (List.range 5).map fun i => leBits 512 (slice bs (60 * i) 60) }) := by
  simp only [Can.fabricRouteGet, Bool.and_eq_true, decide_eq_true_eq] at h
  obtain ⟨⟨admitted, handle⟩, mayClear⟩ := h
  exact runCmd_of_admits admitted (.inl rfl) (by simp [handle]) mayClear rfl (List.forall_mem_nil _)

theorem exec_routePin_of_can {q : Cmd} {s : State} (h : Can.routePin q s = true) :
    exec (.routePin q) s = .next (
      let p := BitVec.ofNat 4 (q.u8 16)
      let a := BitVec.ofNat 4 (q.u8 17)
      let s1 : State := { s with fab.routes := Tab.upd {} s.fab.routes q.h fun r => { r with prim := p, alt := a, pinned := true } }
      execPlan (actOp 0xC21 .live (used 16 2)) q
        { keys := [(.routeMask, q.h)]
          eff := s1.noteRoutes s }) := by
  simp only [Can.routePin, Bool.and_eq_true, Bool.not_eq_true', decide_eq_true_eq, decide_eq_false_iff_not] at h
  obtain ⟨⟨⟨⟨⟨admitted, isDest⟩, isPrim⟩, isAlt⟩, apart⟩, sl0⟩ := h
  unfold exec execRoutePin
  with_reducible
    exact runCmd_of_admits admitted (.inl rfl) (by simpa [isDest, isPrim, isAlt] using apart) sl0 rfl (List.forall_mem_nil _)

theorem exec_routeUnpin_of_can {q : Cmd} {s : State} (h : Can.routeUnpin q s = true) :
    exec (.routeUnpin q) s = .next (
      let s1 : State := { s with fab.routes := Tab.upd {} s.fab.routes q.h fun r => { r with pinned := false } }
      execPlan (actOp 0xC22 .live 0) q
        { keys := [(.routeMask, q.h)]
          eff := (s1.recomputeOne q.h).noteRoutes s }) := by
  simp only [Can.routeUnpin, Bool.and_eq_true] at h
  obtain ⟨⟨admitted, isDest⟩, sl0⟩ := h
  unfold exec execRouteUnpin
  with_reducible
    exact runCmd_of_admits admitted (.inl rfl) (by simpa using isDest) sl0 rfl (List.forall_mem_nil _)

/-! ## The twin pair (R537) -/

theorem exec_fabricTwinConfig_of_can {q : Cmd} {s : State} (h : Can.fabricTwinConfig q s = true) :
    exec (.fabricTwinConfig q) s = .next (
      let c := TwinCfg.ofTile (q.tile 1)
      let s1 : State := { s with fab.twin := c }
      execPlan (setOp 0xC30 .comm TwinCfg.rsv) q
        { keys := [(.twin, 0)]
          eff := if c.twinEn = 0 then { s1 with fab.st.twinState := 0, fab.hb := [], fab.twinMode := 0, fab.tookOver := false }
              else s1 }) := by
  simp only [Can.fabricTwinConfig, Bool.and_eq_true, Bool.not_eq_true', decide_eq_true_eq] at h
  obtain ⟨⟨⟨⟨admitted, handle⟩, paths⟩, reserved⟩, sl0⟩ := h
  exact runCmd_of_admits admitted (.inl rfl) (List.forall_mem_singleton.2 (by simp only [handle, paths, reserved]; decide)) sl0
    rfl (List.forall_mem_nil _)

theorem exec_fabricTwinGet_of_can {q : Cmd} {s : State} (h : Can.fabricTwinGet q s = true) :
    exec (.fabricTwinGet q) s = .next (
      execPlan (getOp 0xC31 .all) q
        { keys := [(.twin, 0)]
          changes := false
          replyTiles := 2
          eff := s
          tiles := [s.fab.twin.toTile] }) := by
  simp only [Can.fabricTwinGet, Bool.and_eq_true, decide_eq_true_eq] at h
  obtain ⟨⟨admitted, handle⟩, mayClear⟩ := h
  exact runCmd_of_admits admitted (.inl rfl) (by simp [handle]) mayClear rfl (List.forall_mem_nil _)

/-- Settles O38: each command answers what its lemma above says. -/
theorem fabricCommands : Obligations.FabricCommands := by
  unfold Obligations.FabricCommands
  exact ⟨fun _ _ h => exec_fabricConfig_of_can h,
    fun _ _ h => exec_fabricGet_of_can h,
    fun _ _ h => exec_fabricLinkConfig_of_can h,
    fun _ _ h => exec_fabricLinkGet_of_can h,
    fun _ _ h => exec_fabricDiscover_of_can h,
    fun _ _ h => exec_fabricIdSet_of_can h,
    fun _ _ h => exec_fabricRouteGet_of_can h,
    fun _ _ h => exec_routePin_of_can h,
    fun _ _ h => exec_routeUnpin_of_can h,
    fun _ _ h => exec_fabricTwinConfig_of_can h,
    fun _ _ h => exec_fabricTwinGet_of_can h⟩

end Sys2Proof.Machine

/-!
Fabric, link and twin events (O48): one lemma for each event and form, then the statement itself. A frame that its link takes
acts as its kind says (`ok_receive_of_taken`); an event that may take place runs on a device that has not stopped
(`ok_of_running`, `ok_if_of_running`), and the rest of its `Can.x` decides the guards of its `exec` arm.
-/
namespace Sys2Proof.Machine

/-! ## Frames that arrive (R520 to R527, R533, R538) -/

/-- A frame that its link takes, of the kind an event receives, acts on the state its link leaves. -/
theorem ok_receive_of_taken {k : Fin 4} {x : LinkRx} {f : FabFrame} {kind : Nat} {s : State} (act : FabFrame → State → State)
    (h : (!s.sys.stopped && (s.linkTake k x).2 == some f && f.kind == kind) = true) :
    ok s (s.receive k x kind act) = .next (act f (s.linkTake k x).1) := by
  simp only [Bool.and_eq_true, Bool.not_eq_true', beq_iff_eq] at h
  obtain ⟨⟨running, taken⟩, kindOk⟩ := h
  have take : s.linkTake k x = ((s.linkTake k x).1, some f) := Prod.ext rfl taken
  refine (ok_of_running _ running).trans ?_
  unfold State.receive
  rw [take]
  simp only [kindOk, if_true]

theorem exec_fabricDataReceive_of_can {k : Fin 4} {x : LinkRx} {f : FabFrame} {s : State}
    (h : Can.fabricDataReceive k x f s = true) :
    exec (.fabricDataReceive k x) s = .next ((s.linkTake k x).1.dataArrive k f) :=
  ok_receive_of_taken (fun f s => s.dataArrive k f) h

theorem exec_fabricCommandReceive_of_can {k : Fin 4} {x : LinkRx} {f : FabFrame} {s : State}
    (h : Can.fabricCommandReceive k x f s = true) :
    exec (.fabricCommandReceive k x) s = .next ((s.linkTake k x).1.commandArrive k f) :=
  ok_receive_of_taken (fun f s => s.commandArrive k f) h

theorem exec_fabricReplyReceive_of_can {k : Fin 4} {x : LinkRx} {f : FabFrame} {s : State}
    (h : Can.fabricReplyReceive k x f s = true) :
    exec (.fabricReplyReceive k x) s = .next ((s.linkTake k x).1.replyArrive f) :=
  ok_receive_of_taken (fun f s => s.replyArrive f) h

theorem exec_helloReceive_of_can {k : Fin 4} {x : LinkRx} {f : FabFrame} {s : State} (h : Can.helloReceive k x f s = true) :
    exec (.helloReceive k x) s = .next ((s.linkTake k x).1.helloArrive k f) :=
  ok_receive_of_taken (fun f s => s.helloArrive k f) h

theorem exec_discoverReceive_of_can {k : Fin 4} {x : LinkRx} {f : FabFrame} {s : State}
    (h : Can.discoverReceive k x f s = true) :
    exec (.discoverReceive k x) s = .next ((s.linkTake k x).1.discoverArrive k f) :=
  ok_receive_of_taken (fun f s => s.discoverArrive k f) h

theorem exec_answerReceive_of_can {k : Fin 4} {x : LinkRx} {f : FabFrame} {s : State} (h : Can.answerReceive k x f s = true) :
    exec (.answerReceive k x) s = .next ((s.linkTake k x).1.answerArrive f) :=
  ok_receive_of_taken (fun f s => s.answerArrive f) h

theorem exec_lsaReceive_of_can {k : Fin 4} {x : LinkRx} {f : FabFrame} {s : State} (h : Can.lsaReceive k x f s = true) :
    exec (.lsaReceive k x) s = .next ((s.linkTake k x).1.lsaArrive k f) :=
  ok_receive_of_taken (fun f s => s.lsaArrive k f) h

theorem exec_heartbeatReceive_of_can {k : Fin 4} {x : LinkRx} {f : FabFrame} {s : State}
    (h : Can.heartbeatReceive k x f s = true) :
    exec (.heartbeatReceive k x) s = .next ((s.linkTake k x).1.heartbeatArrive f) :=
  ok_receive_of_taken (fun f s => s.heartbeatArrive f) h

theorem exec_timeReceive_of_can {k : Fin 4} {x : LinkRx} {delay off : Int} {f : FabFrame} {s : State}
    (h : Can.timeReceive k x f s = true) :
    exec (.timeReceive k x delay off) s = .next ((s.linkTake k x).1.timeArrive k delay off f) :=
  ok_receive_of_taken (fun f s => s.timeArrive k delay off f) h

/-! ## Hellos, device IDs and routes (R522 to R527) -/

theorem exec_helloSend_of_can {s : State} (h : Can.helloSend s = true) :
    exec .helloSend s = .next (
      (List.range 4).foldl (fun (s : State) k =>
        if (s.link k).cfg.enable = 1 ∧ (s.link k).lock then s.linkSend k (s.hello k) else s)
        { s with fab.helloDue := s.now + 10000 }) := by
  simp only [Can.helloSend, Bool.and_eq_true, Bool.not_eq_true', decide_eq_true_eq] at h
  obtain ⟨running, due⟩ := h
  exact (ok_of_running _ running).trans (congrArg Host.Outcome.next (if_neg (Nat.not_lt.mpr due)))

theorem exec_discoverWindowEnd_of_can {t : Nat} {s : State} (h : Can.discoverWindowEnd t s = true) :
    exec .discoverWindowEnd s = .next (
      let first := ((s.host.deferred.find? fun d => d.wait = .discover).map fun d => d.cmd.u8 16).getD 0
      let ts := (List.range 64).flatMap fun i =>
        if i < first then [] else s.fab.disc.answers.filter fun a => a.extractLsb' 72 8 = BitVec.ofNat 8 i
      ({ s with fab.disc.until' := none, fab.disc.answers := [] } : State).finish (fun w => w == Wait.discover) .ok
        (dat 16 (BitVec.ofNat 8 s.fab.disc.answers.length)) ts) := by
  simp only [Can.discoverWindowEnd, Bool.and_eq_true, Bool.not_eq_true', beq_iff_eq, decide_eq_true_eq] at h
  obtain ⟨⟨running, window⟩, due⟩ := h
  refine (ok_of_running _ running).trans ?_
  simp only [window, if_neg (Nat.not_lt.mpr due)]

theorem exec_fabricIdSetTimeout_of_can {serial : Word} {t : Nat} {s : State} (h : Can.fabricIdSetTimeout serial t s = true) :
    exec .fabricIdSetTimeout s = .next (
      ({ s with fab.idSet := none } : State).finish (fun w => w == Wait.idSet) .unreachable 0 []) := by
  simp only [Can.fabricIdSetTimeout, Bool.and_eq_true, Bool.not_eq_true', beq_iff_eq] at h
  obtain ⟨⟨running, sent⟩, due⟩ := h
  exact ok_if_of_running _ running (by rw [sent]; exact due)

/-- A device whose ID stands, and that serves, floods its own advertisement (R525). -/
theorem State.floodLsa_of_serving {s : State} (sound : s.fab.st.idState ≠ 2)
    (serves : s.sys.mode ≠ .boot ∨ s.sys.hostReady = true) :
    s.floodLsa = (
      let s1 : State := { s with fab.ownLsaSeq := s.fab.ownLsaSeq + 1, fab.lsaDue := s.now + 1000000 }
      ({ s1 with fab.lsas := Tab.set none s1.fab.lsas Config.serial.toNat (some s1.ownLsa) } : State).flood
        s1.ownLsa.frame none) := by
  refine if_neg (not_or.mpr ⟨sound, fun ⟨boot, unready⟩ => ?_⟩)
  rcases serves with live | ready
  · exact live boot
  · simp [ready] at unready

theorem exec_lsaFlood_of_can {s : State} (h : Can.lsaFlood s = true) :
    exec .lsaFlood s = .next (
      let s1 : State := { s with fab.ownLsaSeq := s.fab.ownLsaSeq + 1, fab.lsaDue := s.now + 1000000 }
      ({ s1 with fab.lsas := Tab.set none s1.fab.lsas Config.serial.toNat (some s1.ownLsa) } : State).flood
        s1.ownLsa.frame none) := by
  simp only [Can.lsaFlood, Bool.and_eq_true, Bool.or_eq_true, Bool.not_eq_true', decide_eq_true_eq, bne_iff_ne] at h
  obtain ⟨⟨⟨running, due⟩, sound⟩, serves⟩ := h
  exact (ok_if_of_running _ running due).trans (congrArg Host.Outcome.next (State.floodLsa_of_serving sound serves))

theorem exec_idConflictClear_of_can {s : State} (h : Can.idConflictClear s = true) :
    exec .idConflictClear s = .next (
      ({ s with fab.st.idState := if s.selv.fabricId.isSome then 1 else 0 } : State).floodLsa) := by
  simp only [Can.idConflictClear, Bool.and_eq_true, Bool.not_eq_true', beq_iff_eq, decide_eq_true_eq] at h
  obtain ⟨⟨running, conflict⟩, due⟩ := h
  exact ok_if_of_running _ running ⟨conflict, due⟩

theorem exec_routeRecompute_of_can {s : State} (h : Can.routeRecompute s = true) :
    exec .routeRecompute s = .next s.recompute := by
  simp only [Can.routeRecompute, Bool.not_eq_true'] at h
  exact ok_of_running _ h

/-! ## Links (R516 to R518) -/

/-- An acknowledgement that names a frame still kept passes it and those before it; a retry request those before it, and the
rest goes out again (R516). -/
theorem exec_linkAckReceive_of_retry {k : Fin 4} {nak : Bool} {e : RetryEnt} {rest : List RetryEnt} {seq : BitVec 12}
    {s : State} (running : s.sys.stopped = false) (retry : (s.link k).retry = e :: rest)
    (kept : (if nak then (seq.toNat + 4096 - e.seq) % 4096 else (seq.toNat + 4096 - e.seq) % 4096 + 1) ≤ rest.length + 1) :
    exec (.linkAckReceive k nak seq) s = .next (
      if nak then (s.acked k ((seq.toNat + 4096 - e.seq) % 4096)).resend k 0
      else s.acked k ((seq.toNat + 4096 - e.seq) % 4096 + 1)) := by
  refine (ok_of_running _ running).trans ?_
  simp only [retry]
  rw [if_neg (by simpa using kept)]
  cases nak <;> rfl

theorem exec_linkAckReceive_of_can {k : Fin 4} {e : RetryEnt} {rest : List RetryEnt} {seq : BitVec 12} {s : State}
    (h : Can.linkAckReceive k e rest seq s = true) :
    exec (.linkAckReceive k false seq) s = .next (
      s.modLink k fun l => { l with retry := l.retry.drop ((seq.toNat + 4096 - e.seq) % 4096 + 1), ackAt := s.now }) := by
  simp only [Can.linkAckReceive, Bool.and_eq_true, Bool.not_eq_true', beq_iff_eq, decide_eq_true_eq] at h
  obtain ⟨⟨running, retry⟩, kept⟩ := h
  exact exec_linkAckReceive_of_retry running retry kept

theorem exec_linkAckReceive_of_can_nak {k : Fin 4} {e : RetryEnt} {rest : List RetryEnt} {seq : BitVec 12} {s : State}
    (h : Can.linkAckReceive_nak k e rest seq s = true) :
    exec (.linkAckReceive k true seq) s = .next ((s.acked k ((seq.toNat + 4096 - e.seq) % 4096)).resend k 0) := by
  simp only [Can.linkAckReceive_nak, Bool.and_eq_true, Bool.not_eq_true', beq_iff_eq, decide_eq_true_eq] at h
  obtain ⟨⟨running, retry⟩, kept⟩ := h
  exact exec_linkAckReceive_of_retry running retry kept

theorem exec_retryTimeout_of_can {k : Fin 4} {e : RetryEnt} {rest : List RetryEnt} {s : State}
    (h : Can.retryTimeout k e rest s = true) : exec (.retryTimeout k) s = .next (s.resend k 0) := by
  simp only [Can.retryTimeout, Bool.and_eq_true, Bool.not_eq_true', beq_iff_eq, decide_eq_true_eq] at h
  obtain ⟨⟨⟨running, retry⟩, due⟩, up⟩ := h
  refine (ok_of_running _ running).trans ?_
  simp only [retry, if_pos (And.intro due up)]

theorem exec_fabricLinkDown_of_can {k : Fin 4} {s : State} (h : Can.fabricLinkDown k s = true) :
    exec (.fabricLinkDown k .alignment) s = .next (s.linkFail k) := by
  simp only [Can.fabricLinkDown, Bool.and_eq_true, Bool.not_eq_true'] at h
  obtain ⟨running, locked⟩ := h
  exact ok_if_of_running _ running locked

theorem exec_fabricLinkDown_of_can_hello {k : Fin 4} {s : State} (h : Can.fabricLinkDown_hello k s = true) :
    exec (.fabricLinkDown k .hello) s = .next (s.linkFail k) := by
  simp only [Can.fabricLinkDown_hello, Bool.and_eq_true, Bool.not_eq_true', beq_iff_eq, decide_eq_true_eq] at h
  obtain ⟨⟨running, up⟩, silent⟩ := h
  exact ok_if_of_running _ running (decide_eq_true (And.intro up silent))

theorem exec_fabricBlockLock_of_can {k : Fin 4} {s : State} (h : Can.fabricBlockLock k s = true) :
    exec (.fabricBlockLock k) s = .next (
      s.modLink k fun l => { l with st.state := 2, lock := true, helloRun := 0, helloAt := s.now }) := by
  simp only [Can.fabricBlockLock, Bool.and_eq_true, Bool.not_eq_true', beq_iff_eq, decide_eq_true_eq] at h
  obtain ⟨⟨⟨running, enabled⟩, unlocked⟩, clock⟩ := h
  exact ok_if_of_running _ running ⟨enabled, unlocked, by simp [clock]⟩

theorem exec_fabHoldExpiry_of_can {n : Fin 2048} {s : State} (h : Can.fabHoldExpiry n s = true) :
    exec (.fabHoldExpiry n) s = .next (s.endHold n) := by
  simp only [Can.fabHoldExpiry, Bool.and_eq_true, Bool.not_eq_true', decide_eq_true_eq] at h
  obtain ⟨⟨running, holding⟩, due⟩ := h
  exact ok_if_of_running _ running ⟨holding, due⟩

/-! ## The twin pair, wall time and forwarded commands (R538, R533) -/

theorem exec_heartbeatSend_of_can {s : State} (h : Can.heartbeatSend s = true) :
    exec .heartbeatSend s = .next (({ s with fab.hbDue := s.now + 1000 } : State).heartbeats false) := by
  simp only [Can.heartbeatSend, Bool.and_eq_true, Bool.not_eq_true', decide_eq_true_eq] at h
  obtain ⟨⟨running, live⟩, due⟩ := h
  exact ok_if_of_running _ running ⟨live, due⟩

theorem exec_heartbeatPathLoss_of_can {p : Fin 4} {s : State} (h : Can.heartbeatPathLoss p s = true) :
    exec (.heartbeatPathLoss p) s = .next { s with fab.hb := Tab.set {} s.fab.hb p {} } := by
  simp only [Can.heartbeatPathLoss, Bool.and_eq_true, Bool.not_eq_true', decide_eq_true_eq] at h
  obtain ⟨⟨⟨running, held⟩, silent⟩, another⟩ := h
  exact (ok_if_of_running _ running (And.intro held silent)).trans (congrArg Host.Outcome.next (if_pos another))

theorem exec_heartbeatPathLoss_of_can_shadow {p : Fin 4} {s : State} (h : Can.heartbeatPathLoss_shadow p s = true) :
    exec (.heartbeatPathLoss p) s = .next (({ s with fab.hb := Tab.set {} s.fab.hb p {} } : State).takeover) := by
  simp only [Can.heartbeatPathLoss_shadow, Bool.and_eq_true, Bool.not_eq_true', beq_iff_eq, decide_eq_true_eq] at h
  obtain ⟨⟨⟨⟨running, held⟩, silent⟩, last⟩, shadow⟩ := h
  refine (ok_if_of_running _ running (And.intro held silent)).trans (congrArg Host.Outcome.next ?_)
  exact (if_neg (Bool.eq_false_iff.mp last)).trans (if_pos shadow)

theorem exec_timeSend_of_can {s : State} (h : Can.timeSend s = true) :
    exec .timeSend s = .next (
      ({ s with fab.timeDue := s.now + 1000000 } : State).flood
        { kind := 8, dest := 63, port := 63, src := s.devId
          extra := put 40 32 s.time.st.wallUnsync ||| put 40 33 s.timeLink } none) := by
  simp only [Can.timeSend, Bool.and_eq_true, Bool.not_eq_true', decide_eq_true_eq, bne_iff_ne] at h
  obtain ⟨⟨running, due⟩, sound⟩ := h
  exact ok_if_of_running _ running ⟨due, sound⟩

theorem exec_cmdTimeoutExpiry_of_can {e : RemoteCmd} {s : State} (h : Can.cmdTimeoutExpiry e s = true) :
    exec .cmdTimeoutExpiry s = .next (
      ({ s with fab.remote := s.fab.remote.erase e } : State).remoteDone e
        { opcode := e.opcode, status := .timeout, device := s.devId.setWidth 8, seq := e.cmd.seq, handle := e.cmd.handle }) := by
  simp only [Can.cmdTimeoutExpiry, Bool.and_eq_true, Bool.not_eq_true', beq_iff_eq] at h
  obtain ⟨⟨running, oldest⟩, forwarded⟩ := h
  refine (ok_of_running _ running).trans ?_
  simp only [oldest, forwarded]

theorem exec_twinListenEnd_of_can {t : Nat} {s : State} (h : Can.twinListenEnd t s = true) :
    exec .twinListenEnd s = .next { s with sys.listen := none } := by
  simp only [Can.twinListenEnd, Bool.and_eq_true, Bool.not_eq_true', beq_iff_eq, decide_eq_true_eq] at h
  obtain ⟨⟨running, silent⟩, due⟩ := h
  refine (ok_of_running _ running).trans ?_
  simp only [silent, if_neg (Nat.not_lt.mpr due), Bool.not_false, if_true]

theorem exec_twinListenEnd_of_can_heard {t : Nat} {s : State} (h : Can.twinListenEnd_heard t s = true) :
    exec .twinListenEnd s = .next (
      ({ s with sys.listen := none, sys.modeChange := none } : State).finish (· == .modeSet) .busy 0 []) := by
  simp only [Can.twinListenEnd_heard, Bool.and_eq_true, Bool.not_eq_true', beq_iff_eq, decide_eq_true_eq] at h
  obtain ⟨⟨⟨running, heard⟩, due⟩, waits⟩ := h
  refine (ok_of_running _ running).trans ?_
  simp only [heard, if_neg (Nat.not_lt.mpr due), Bool.not_true, Bool.false_eq_true, if_false, waits, if_true]

/-- Settles O48: each event answers what its lemma above says. -/
theorem fabricAndTwinEvents : Obligations.FabricAndTwinEvents := by
  unfold Obligations.FabricAndTwinEvents
  exact ⟨fun _ _ _ _ h => exec_fabricDataReceive_of_can h,
    fun _ _ _ _ h => exec_fabricCommandReceive_of_can h,
    fun _ _ _ _ h => exec_fabricReplyReceive_of_can h,
    fun _ _ _ _ h => exec_helloReceive_of_can h,
    fun _ h => exec_helloSend_of_can h,
    fun _ _ _ _ h => exec_discoverReceive_of_can h,
    fun _ _ _ _ h => exec_answerReceive_of_can h,
    fun _ _ h => exec_discoverWindowEnd_of_can h,
    fun _ _ _ h => exec_fabricIdSetTimeout_of_can h,
    fun _ _ _ _ h => exec_lsaReceive_of_can h,
    fun _ h => exec_lsaFlood_of_can h,
    fun _ h => exec_idConflictClear_of_can h,
    fun _ h => exec_routeRecompute_of_can h,
    fun _ _ _ _ _ h => exec_linkAckReceive_of_can h,
    fun _ _ _ _ _ h => exec_linkAckReceive_of_can_nak h,
    fun _ _ _ _ h => exec_retryTimeout_of_can h,
    fun _ _ h => exec_fabricLinkDown_of_can h,
    fun _ _ h => exec_fabricLinkDown_of_can_hello h,
    fun _ _ h => exec_fabHoldExpiry_of_can h,
    fun _ h => exec_heartbeatSend_of_can h,
    fun _ _ _ _ h => exec_heartbeatReceive_of_can h,
    fun _ _ h => exec_heartbeatPathLoss_of_can h,
    fun _ _ h => exec_heartbeatPathLoss_of_can_shadow h,
    fun _ h => exec_timeSend_of_can h,
    fun _ _ _ _ _ _ h => exec_timeReceive_of_can h,
    fun _ _ h => exec_cmdTimeoutExpiry_of_can h,
    fun _ _ h => exec_twinListenEnd_of_can h,
    fun _ _ h => exec_twinListenEnd_of_can_heard h,
    fun _ _ h => exec_fabricBlockLock_of_can h⟩

end Sys2Proof.Machine

/-!
The rows of chapter 19 (R565, R590, R596): what a packet of each row is checked by, whichever of its forms its execution has.
-/
namespace Sys2Proof.Machine

/-- How the command of a row runs: as its packet; as its packet, and then the reset that it may complete (R546); or as its
packet on the state in which the table slots that it names are verified (R394). -/
inductive Runs (info : OpInfo) (q : Cmd) (s : State) (p : Plan) : Out → Prop
  | packet : Runs info q s p (runCmd info q s p)
  | reset (n : Nat) : Runs info q s p (resetNow n s (runCmd info q s p))
  | verified (ns : List Nat) {plan : State → Plan} (plans : plan s = p) : Runs info q s p (runVerified info q ns s plan)

theorem rightChecks_ne_ok {s : State} {info : OpInfo} {p : Plan} {e : Status} (fails : rightChecks s info p = some e) :
    e ≠ .ok := by
  have one := firstFail_mem fails
  simp only [List.mem_cons, List.not_mem_nil, or_false, Prod.mk.injEq] at one
  rcases one with ⟨-, rfl⟩ | ⟨-, rfl⟩ <;> decide

/-- A command whose right or mode fails changes no object (checks 10 and 11). -/
theorem same_runPlan_of_refused {info : OpInfo} {q : Cmd} {s : State} {p : Plan} {e : Status}
    (fails : rightChecks s info p = some e) (bad : ∀ x ∈ p.bad, x.2 ≠ .ok) : SameObjects s (runPlan info q s p) :=
  same_runPlan ⟨e, (rightChecks_reserveOnce ..).trans fails, rightChecks_ne_ok fails⟩ bad

theorem same_ok {s u t : State} (same : SameObjects s u) (answer : ok s u = .next t) : SameObjects s t := by
  simp only [ok, Host.Outcome.next.injEq] at answer
  subst answer
  split
  · exact SameObjects.refl s
  · exact same

/-- In whatever form a row runs, a command whose right or mode fails changes no object. -/
theorem Runs.same_of_refused {info : OpInfo} {q : Cmd} {s t : State} {p : Plan} {out : Out} {e : Status}
    (run : Runs info q s p out) (bad : ∀ x ∈ p.bad, x.2 ≠ .ok) (fails : rightChecks s info p = some e)
    (answer : out = .next t) : SameObjects s t := by
  have plain : SameObjects s (runPlan info q s p) := same_runPlan_of_refused fails bad
  cases run with
  | packet => exact same_ok plain answer
  | reset n =>
    obtain ⟨u, packet⟩ : ∃ u, runCmd info q s p = .next u := ⟨_, rfl⟩
    have same : SameObjects s u := same_ok plain packet
    have deferred : u.host.deferred = s.host.deferred := by
      simp only [SameObjects] at same
      tauto
    rw [packet] at answer
    exact same_ok (by rw [if_pos deferred]; exact same) answer
  | verified ns plans =>
    subst plans
    have unverified : s.reaches info q _ = false := Bool.and_eq_false_iff.2 (.inr (by rw [fails]; rfl))
    refine same_ok ?_ answer
    simpa [unverified] using plain

theorem rightChecks_of_notOwner {s : State} {info : OpInfo} {p : Plan} (stranger : p.owns = false) :
    rightChecks s info p = some .notOwner := by simp [rightChecks, firstFail, stranger]

theorem rightChecks_of_wrongMode {s : State} {info : OpInfo} {p : Plan}
    (mode : info.modes.allows s.sys.mode = false ∨ (s.sys.recovery = true ∧ recoveryOps.contains info.opcode = false)) :
    ∃ e, rightChecks s info p = some e := by
  rw [← Option.ne_none_iff_exists', rightChecks, Ne, firstFail_none]
  intro pass
  have right := pass _ (List.mem_cons_of_mem _ (List.mem_singleton_self _))
  rcases mode with mode | ⟨recovery, unserved⟩
  · simp [mode] at right
  · rw [unserved] at right
    simp [recovery] at right

/-! ## The rows -/

/-- The commands that act in every mode (R596). -/
def allModeOps : List Nat := [0x001, 0x002, 0x003, 0x005, 0x101, 0x102, 0x103, 0x104, 0x105, 0x810, 0x811, 0xB01, 0xC01,
  0xC02, 0xC03, 0xC04, 0xC20, 0xC31, 0xD01, 0xE01, 0xF10, 0xF11]

/-- The mode set of each opcode (R596). -/
def rowModes (op : Nat) : ModeSet :=
  if op ∈ allModeOps then .all else if op ∈ [0x903, 0xC11, 0xC30, 0xD02, 0xD03] then .comm else if op = 0x312 then .chs
  else .live

/-- The commands of device-scope objects (R584). -/
def sl0Ops : List Nat := [0x001, 0x003, 0x101, 0x201, 0x301, 0x303, 0x310, 0x312, 0x320, 0x321, 0x401, 0x402, 0x403, 0x404,
  0x410, 0x411, 0x420, 0x430, 0x431, 0x501, 0x503, 0x701, 0x720, 0x730, 0x731, 0x732, 0x733, 0x810,
  0x820, 0x830, 0x901, 0x903, 0x910, 0x920, 0x922, 0x950, 0xA10, 0xB02, 0xB10, 0xC01, 0xC03, 0xC10,
  0xC11, 0xC21, 0xC22, 0xC30, 0xD01, 0xD02, 0xD03, 0xD20, 0xD21, 0xE02, 0xF10, 0xF11]

/-- A row of chapter 19: its packet runs with its opcode and in its modes, is SL0's where the row says so, and no check of its
plan answers OK. -/
def IsRow (op : Nat) (row : Cmd → Instr) : Prop :=
  ∃ info : OpInfo, info.opcode.toNat = op ∧ info.modes = rowModes op ∧ ∀ (q : Cmd) (s : State), ∃ p : Plan,
    Runs info q s p (exec (row q) s) ∧ (∀ x ∈ p.bad, x.2 ≠ .ok) ∧ (op ∈ sl0Ops → p.owns = isSl0 s q)

theorem isRow_sliceConfig : IsRow 0x101 .sliceConfig :=
  ⟨_, rfl, rfl, fun _ _ => ⟨_, .reset 0, by simp, fun _ => rfl⟩⟩

theorem isRow_sliceReset : IsRow 0x105 .sliceReset :=
  ⟨_, rfl, rfl, fun q _ => ⟨_, .reset q.h, by simp, fun h => absurd h (by decide)⟩⟩

theorem isRow_streamWrite : IsRow 0x520 .streamWrite :=
  ⟨_, rfl, rfl, fun _ _ => ⟨_, .verified _ rfl, by simp [streamWritePlan], fun h => absurd h (by decide)⟩⟩

theorem isRow_streamDelete : IsRow 0x521 .streamDelete :=
  ⟨_, rfl, rfl, fun q _ => ⟨_, .verified [q.u32 20] (plan := streamDeletePlan q) rfl, by simp [streamDeletePlan],
    fun h => absurd h (by decide)⟩⟩

theorem isRow_streamGet : IsRow 0x522 .streamGet :=
  ⟨_, rfl, rfl, fun q _ => ⟨_, .verified [q.u32 20] (plan := streamGetPlan q) rfl, by simp [streamGetPlan],
    fun h => absurd h (by decide)⟩⟩

theorem isRow_hostRows : ∀ e ∈ hostRows, IsRow e.1 e.2 := by
  simp only [hostRows, List.forall_mem_append, List.forall_mem_cons, List.not_mem_nil, IsEmpty.forall_iff, implies_true,
    isRow_sliceConfig, isRow_sliceReset, isRow_streamWrite, isRow_streamDelete, isRow_streamGet, true_and, and_true]
  and_intros
  all_goals
    refine ⟨_, rfl, rfl, fun _ _ => ⟨_, .packet, ?bad, ?sl0⟩⟩
    case bad =>
      simp only [itRange, debugPlan, List.forall_mem_append, List.forall_mem_cons, List.not_mem_nil, IsEmpty.forall_iff,
        implies_true, ne_eq, reduceCtorEq, not_false_eq_true, and_true]
    case sl0 =>
      simp only [sl0Ops, List.mem_cons, List.not_mem_nil, Nat.reduceEqDiff, or_self, or_true, true_or, false_implies,
        forall_const]

/-- The GET commands. -/
def getOps : List Nat := [0x002, 0x102, 0x202, 0x302, 0x311, 0x322, 0x412, 0x414, 0x431, 0x502, 0x504, 0x602, 0x703, 0x711,
  0x721, 0x802, 0x804, 0x811, 0x821, 0x832, 0x902, 0x912, 0x921, 0x923, 0x936, 0x942, 0x951, 0xA02, 0xA11, 0xB01, 0xB11, 0xC02,
  0xC04, 0xC20, 0xC31, 0xE04]

/-- A row that reads: no twin copies it, and without CLEAR it answers at once and its effect is none (R567, R593). -/
def IsGet (row : Cmd → Instr) : Prop :=
  ∃ info : OpInfo, (∀ q : Cmd, q.twinned info.opcode = false) ∧ ∀ (q : Cmd) (s : State), q.clear = false → ∃ p : Plan,
    exec (row q) s = runCmd info q s p ∧ p.eff = s ∧ p.changes = false ∧ p.wait = none

theorem Cmd.twinned_of_read {op : BitVec 12} (reads : (op.extractLsb' 8 4 = 0xC || readOps.contains op) = true) (q : Cmd) :
    q.twinned op = false := by
  rcases Bool.or_eq_true_iff.1 reads with fabric | read
  · simp [Cmd.twinned, of_decide_eq_true fabric]
  · simp [Cmd.twinned, List.contains_iff_mem.1 read]

theorem isGet_hostRows : ∀ e ∈ hostRows, e.1 ∈ getOps → IsGet e.2 := by
  simp only [hostRows, List.forall_mem_append, List.forall_mem_cons, List.not_mem_nil, IsEmpty.forall_iff, implies_true,
    and_true]
  simp only [getOps, List.mem_cons, List.not_mem_nil, Nat.reduceEqDiff, or_self, or_true, true_or, false_implies, forall_const,
    true_and, and_true]
  and_intros
  all_goals
    refine ⟨_, Cmd.twinned_of_read (by decide), fun q s noClear => ⟨_, rfl, ?_, rfl, rfl⟩⟩
    simp [noClear]

/-! ## What refused and reading commands leave (O7 to O10) -/

/-- Settles O8: the right of a row of SL0's alone fails for any other slice (check 10). -/
theorem deviceScopeCommandsAreSl0s : Obligations.DeviceScopeCommandsAreSl0s := by
  unfold Obligations.DeviceScopeCommandsAreSl0s
  intro e he device q s t stranger answer
  obtain ⟨info, -, -, runs⟩ := isRow_hostRows e he
  obtain ⟨p, run, bad, sl0⟩ := runs q s
  have right : p.owns = false := (sl0 device).trans (decide_eq_false stranger)
  exact run.same_of_refused bad (rightChecks_of_notOwner right) answer

/-- Settles O9: a GET that executes answers from the state as it stands. -/
theorem readsChangeNothing : Obligations.ReadsChangeNothing := by
  unfold Obligations.ReadsChangeNothing
  intro e he get q s t noClear direct answer
  obtain ⟨info, untwinned, runs⟩ := isGet_hostRows e he get
  obtain ⟨p, run, noEffect, unchanged, atOnce⟩ := runs q s noClear
  exact runCmd_get (run ▸ answer) noEffect unchanged atOnce direct (untwinned q)

/-- The mode check fails in a mode outside the row's set, and for a command that the recovery firmware, when it runs, does not
serve (R596, R632). -/
theorem rowModes_refuse {op : Nat} {info : OpInfo} {s : State} (opcode : info.opcode.toNat = op)
    (modes : info.modes = rowModes op)
    (outside : (s.sys.mode = .boot ∧ op ∉ allModeOps) ∨
      (s.sys.mode ≠ .commission ∧ op ∈ [0x903, 0xC11, 0xC30, 0xD02, 0xD03]) ∨
      (s.sys.mode ≠ .commission ∧ s.sys.mode ≠ .hold ∧ s.sys.mode ≠ .safe ∧ op = 0x312) ∨
      (s.sys.recovery = true ∧ op ∉ [0x002, 0x005, 0xD01, 0xD20, 0xD21, 0xF10, 0xF11])) :
    info.modes.allows s.sys.mode = false ∨ (s.sys.recovery = true ∧ recoveryOps.contains info.opcode = false) := by
  rcases outside with ⟨boot, notAll⟩ | ⟨mode, comm⟩ | ⟨mode1, mode2, mode3, rfl⟩ | ⟨recovery, unserved⟩
  · left
    rw [modes, boot, rowModes, if_neg notAll]
    split <;> [rfl; split <;> rfl]
  · left
    have notAll : op ∉ allModeOps := fun all => by
      simp only [List.mem_cons, List.not_mem_nil, or_false] at comm
      rcases comm with rfl | rfl | rfl | rfl | rfl <;> exact absurd all (by decide)
    rw [modes, rowModes, if_neg notAll, if_pos comm]
    simpa [ModeSet.allows] using mode
  · left
    rw [modes]
    simp [rowModes, allModeOps, ModeSet.allows, mode1, mode2, mode3]
  · right
    refine ⟨recovery, Bool.eq_false_iff.2 fun served => unserved ?_⟩
    rw [← opcode]
    exact List.mem_map_of_mem (f := BitVec.toNat) (List.contains_iff_mem.1 served)

/-- Settles O7: outside its modes the mode check of a row fails (check 11). -/
theorem modesRefuseCommands : Obligations.ModesRefuseCommands := by
  unfold Obligations.ModesRefuseCommands
  intro e he q s t answer outside
  obtain ⟨info, opcode, modes, runs⟩ := isRow_hostRows e he
  obtain ⟨p, run, bad, -⟩ := runs q s
  obtain ⟨st, fails⟩ := rightChecks_of_wrongMode (p := p) (rowModes_refuse opcode modes outside)
  exact run.same_of_refused bad fails answer

/-! ## The checks of any packet (R565) -/

theorem wireChecks_ne_ok {s : State} {info : OpInfo} {q : Cmd} {p : Plan} {e : Status}
    (fails : wireChecks s info q p = some e) (bad : ∀ x ∈ p.bad, x.2 ≠ .ok) : e ≠ .ok := by
  rcases List.mem_append.1 (firstFail_mem fails) with common | own
  · simp only [List.mem_cons, List.not_mem_nil, or_false, Prod.mk.injEq] at common
    rintro rfl
    simp only [reduceCtorEq, and_false, or_self] at common
  · exact bad _ own

theorem lateChecks_ne_ok {s : State} {q : Cmd} {p : Plan} {e : Status} (fails : lateChecks s q p = some e)
    (own : ∀ x ∈ p.own, x.2 ≠ .ok) : e ≠ .ok := by
  rcases List.mem_cons.1 (firstFail_mem fails) with stale | failed
  · simp only [Prod.mk.injEq] at stale
    obtain ⟨-, rfl⟩ := stale
    decide
  · exact own _ failed

/-- Reserving reply tiles changes no generation, so none of the last checks. -/
theorem lateChecks_reserveOnce (s : State) (q : Cmd) (k : Nat) (p : Plan) :
    lateChecks (s.reserveOnce q k) q p = lateChecks s q p := by
  have gen : (s.reserveOnce q k).gen = s.gen := funext fun _ => State.reserveOnce_gen ..
  simp only [lateChecks, gen]

theorem same_runPlan_of_wire {info : OpInfo} {q : Cmd} {s : State} {p : Plan} {e : Status}
    (fails : wireChecks s info q p = some e) (bad : ∀ x ∈ p.bad, x.2 ≠ .ok) : SameObjects s (runPlan info q s p) := by
  rw [runPlan, fails]
  exact same_complete _ _ _ _ _ (.inl (wireChecks_ne_ok fails bad))

theorem same_runPlan_of_elsewhere {info : OpInfo} {q : Cmd} {s : State} {p : Plan} (wire : wireChecks s info q p = none)
    (elsewhere : q.device ≠ s.devId.setWidth 8) : SameObjects s (runPlan info q s p) := by
  rw [runPlan, wire]
  dsimp only
  rw [State.reserveOnce_devId, if_pos elsewhere]
  exact (same_reserveOnce ..).trans (same_forward ..)

theorem same_runPlan_of_late {info : OpInfo} {q : Cmd} {s : State} {p : Plan} {e : Status}
    (wire : wireChecks s info q p = none) (here : q.device = s.devId.setWidth 8) (right : rightChecks s info p = none)
    (free : s.mustHold q p = false) (fails : lateChecks s q p = some e) (own : ∀ x ∈ p.own, x.2 ≠ .ok) :
    SameObjects s (runPlan info q s p) := by
  rw [runPlan, wire]
  dsimp only
  rw [State.reserveOnce_devId, if_neg (not_not.2 here), mustHold_reserveOnce, free, if_neg Bool.false_ne_true,
    rightChecks_reserveOnce, right, lateChecks_reserveOnce, fails]
  exact (same_reserveOnce ..).trans ((same_voidArm ..).trans (same_complete _ _ _ _ _ (.inl (lateChecks_ne_ok fails own))))

/-- Settles O10: the first check that fails decides, in the order of R565. -/
theorem failedChecksChangeNothing : Obligations.FailedChecksChangeNothing := by
  unfold Obligations.FailedChecksChangeNothing
  intro info q s p bad own fails
  cases wire : wireChecks s info q p with
  | some e => exact same_runPlan_of_wire wire bad
  | none =>
    by_cases here : q.device = s.devId.setWidth 8
    · cases right : rightChecks s info p with
      | some e => exact same_runPlan_of_refused right bad
      | none =>
        obtain ⟨free, late⟩ : s.mustHold q p = false ∧ lateChecks s q p ≠ none := by
          simpa [wire, here, right] using fails
        obtain ⟨e, late⟩ := Option.ne_none_iff_exists'.1 late
        exact same_runPlan_of_late wire here right free late own
    · exact same_runPlan_of_elsewhere wire here

end Sys2Proof.Machine

/-!
What an executed command adds to its effect (O11): the generations of its objects, DEV_GEN, and parts of the device that hold
no object (R567).
-/
namespace Sys2Proof.Machine

/-! ## Generations -/

theorem nextGen_ne_zero (g : Word32) : nextGen g ≠ 0 := by
  unfold nextGen
  split
  · decide
  · next valid => exact fun h => valid (.inl h)

theorem nextGen_ne_unnamed (g : Word32) : nextGen g ≠ 0xFFFFFFFF := by
  unfold nextGen
  split
  · decide
  · next valid => exact fun h => valid (.inr h)

theorem nextGen_eq_add_one {g : Word32} (notZero : g + 1 ≠ 0) (notUnnamed : g + 1 ≠ 0xFFFFFFFF) : nextGen g = g + 1 :=
  if_neg (not_or.2 ⟨notZero, notUnnamed⟩)

/-- Raising generations changes the table of them alone. -/
theorem State.bumpGens_eq (s : State) (ks : List ObjKey) : s.bumpGens ks =
    { s with host.gens := (ks.map genKey).foldl (fun m i => Tab.upd 1 m i nextGen) s.host.gens } := by
  induction ks generalizing s with
  | nil => rfl
  | cons k r ih => exact ih (s.bumpGen k)

/-- Distinct objects take one step of their generation each, and no other object does. -/
theorem State.gen_bumpGens {s : State} {ks : List ObjKey} (distinct : (ks.map genKey).Nodup)
    (wf : Tab.wf (1 : Word32) s.host.gens = true) (k : ObjKey) :
    (s.bumpGens ks).gen k = if genKey k ∈ ks.map genKey then nextGen (s.gen k) else s.gen k := by
  rw [State.bumpGens_eq]
  exact Tab.get_foldl_upd (fun _ => nextGen) distinct wf (genKey k)

/-! ## The state an executed command ends in -/

/-- The commands whose replies wait are no part of any other object. -/
theorem same_deferred {s t : State} (h : SameObjects s t) (l : List Deferred) :
    SameObjects { s with host.deferred := l } { t with host.deferred := l } := by
  simp only [SameObjects] at h ⊢
  tauto

/-- On a device that is no paired or surviving twin, an executed command that is no twin's copy ends, but for the list of
replies that wait, with the objects of its effect and their generations. -/
theorem same_execPlan {info : OpInfo} {q : Cmd} {p : Plan} (direct : ∀ l a g, q.path ≠ .twin l a g)
    (single : p.eff.fab.st.twinState = 0) :
    ∃ l, SameObjects { (p.eff.reserveOnce q p.replyTiles).changed p with host.deferred := l } (execPlan info q p) := by
  have after : (((p.eff.reserveOnce q p.replyTiles).changed p).voidArm info q).fab.st.twinState = 0 := by
    rw [State.voidArm_fab, State.changed]
    split <;> simp [State.bumpGens_eq, single]
  unfold execPlan
  simp only [State.twinGen_of_direct direct]
  generalize (p.eff.reserveOnce q p.replyTiles).changed p = changed at after
  cases p.wait with
  | none => exact ⟨_, (same_voidArm changed info q).trans (same_complete_of_single after ..)⟩
  | some w => exact ⟨_, same_deferred (same_voidArm changed info q) _⟩

/-- Settles O11. -/
theorem executedChangesCountOnce : Obligations.ExecutedChangesCountOnce := by
  unfold Obligations.ExecutedChangesCountOnce
  refine ⟨fun g => ⟨nextGen_ne_zero g, nextGen_ne_unnamed g, nextGen_eq_add_one⟩,
    fun info q p changes direct single distinct wf => ?_⟩
  obtain ⟨l, same⟩ := same_execPlan (info := info) direct single
  have reserved := same_reserveOnce p.eff q p.replyTiles
  generalize execPlan info q p = t at same ⊢
  generalize p.eff.reserveOnce q p.replyTiles = u at same reserved
  have counted : u.changed p = { u.bumpGens p.keys with host.devGen := nextGen u.host.devGen } := by
    rw [State.changed, if_pos changes, State.bumpGens_eq]
  rw [counted] at same
  simp only [State.bumpGens_eq] at same
  obtain ⟨_, selv, ports, buf, task, rules, weft, tm, lock, tab, dram, pending, mode, _, gens, devGen, _, rings, _, _, _, cfg,
    _⟩ := same
  obtain ⟨_, selv', ports', buf', task', rules', weft', tm', lock', tab', dram', pending', mode', _, gens', devGen', _, rings',
    _, _, _, cfg', _⟩ := reserved
  have gen (k : ObjKey) : t.gen k = if genKey k ∈ p.keys.map genKey then nextGen (p.eff.gen k) else p.eff.gen k := by
    rw [← State.gen_bumpGens distinct wf, State.bumpGens_eq]
    simp only [State.gen, gens, gens']
  exact ⟨fun k hk => (gen k).trans (if_pos (List.mem_map_of_mem hk)), fun k hk => (gen k).trans (if_neg hk),
    devGen.trans (congrArg nextGen devGen'), ports.trans ports', buf.trans buf', task.trans task', rules.trans rules',
    weft.trans weft', tm.trans tm', lock.trans lock', tab.trans tab', dram.trans dram', selv.trans selv',
    pending.trans pending', mode.trans mode', cfg.trans cfg', rings.trans rings'⟩

end Sys2Proof.Machine

/-!
A refused packet (O12): its one-tile reply changes no object, and no window with its saved replies (R570, R572).
-/
namespace Sys2Proof.Machine

/-- The deduplication windows are the same in two states (R570). -/
def SameWindows (s t : State) : Prop :=
  (Tab.wf ({} : SliceHost) s.host.slices = true →
    Tab.wf ({} : SliceHost) t.host.slices = true ∧ ∀ n, (t.sl n).window = (s.sl n).window) ∧
  t.host.m0Window = s.host.m0Window ∧ t.fab.windows = s.fab.windows

/-- Two states with the same objects and windows. -/
structure Untouched (s t : State) : Prop where
  objects : SameObjects s t
  windows : SameWindows s t

namespace Untouched

theorem trans {s t u : State} (first : Untouched s t) (second : Untouched t u) : Untouched s u := by
  refine ⟨first.objects.trans second.objects, fun wf => ?_, second.windows.2.1.trans first.windows.2.1,
    second.windows.2.2.trans first.windows.2.2⟩
  obtain ⟨wfT, sameT⟩ := first.windows.1 wf
  obtain ⟨wfU, sameU⟩ := second.windows.1 wfT
  exact ⟨wfU, fun n => (sameU n).trans (sameT n)⟩

/-- What leaves the slices, the window of M0 and those of the fabric leaves every window. -/
theorem of_objects {s t : State} (objects : SameObjects s t) (slices : t.host.slices = s.host.slices)
    (m0 : t.host.m0Window = s.host.m0Window) (fabric : t.fab.windows = s.fab.windows) : Untouched s t :=
  ⟨objects, fun wf => ⟨slices ▸ wf, fun n => by simp only [State.sl, slices]⟩, m0, fabric⟩

theorem refl (s : State) : Untouched s s := of_objects (SameObjects.refl s) rfl rfl rfl

theorem emit (s : State) (o : Output) : Untouched s (s.emit o) := of_objects (same_emit s o) rfl rfl rfl

theorem foldl {α : Type} (g : State → α → State) (step : ∀ s x, Untouched s (g s x)) (l : List α) (s : State) :
    Untouched s (l.foldl g s) := by
  induction l generalizing s with
  | nil => exact refl s
  | cons x r ih => exact (step s x).trans (ih _)

/-- A slice's counts, slots and ring positions are no part of its configuration or of its window. -/
theorem modSl (s : State) (n : Nat) (f : SliceHost → SliceHost) (cfg : ∀ h, (f h).cfg = h.cfg)
    (window : ∀ h, (f h).window = h.window) : Untouched s (s.modSl n f) := by
  refine ⟨same_modSl s n f cfg, fun wf => ⟨Tab.wf_upd wf n f, fun m => ?_⟩, rfl, rfl⟩
  unfold State.sl State.modSl
  by_cases same : m = n
  · subst same
    rw [Tab.get_upd_self wf, window]
  · rw [Tab.get_upd_ne wf n m f same]

theorem reserve (s : State) (n : Nat) (seq : BitVec 16) (k : Nat) (replay : Bool) : Untouched s (s.reserve n seq k replay) :=
  (foldl _ (fun s _ => emit s _) _ s).trans (modSl _ _ _ (fun _ => rfl) fun _ => rfl)

theorem writeSlots (s : State) (n : Nat) (v : Resv) (r : Reply) : Untouched s (s.writeSlots n v r) := by
  unfold State.writeSlots
  dsimp only
  split
  · exact modSl _ _ _ (fun _ => rfl) fun _ => rfl
  · exact (foldl _ (fun s _ => emit s _) _ s).trans (emit _ _)

theorem signal (s : State) (n off : Nat) : Untouched s (s.signal n off) := by
  refine of_objects (same_signal s n off) ?_ ?_ ?_ <;>
  · unfold State.signal
    dsimp only
    split
    · rfl
    · split <;> rfl

theorem fabricSend (s : State) (q : Cmd) (src k : Nat) (r : Reply) : Untouched s (s.fabricSend q src k r) := by
  refine of_objects (same_fabricSend s q src k r) ?_ ?_ ?_ <;>
  · unfold State.fabricSend
    split <;> rfl

theorem mailbox (s : State) (t : Tile) (waits : Bool) :
    Untouched s { s with host.mboxOut := t, host.mboxPending := waits } := by
  refine of_objects ?_ rfl rfl rfl
  simp only [SameObjects, true_and]
  exact fun wf => ⟨wf, fun _ => rfl⟩

theorem m0Peers (s : State) (peers : List (BitVec 16 × BitVec 48)) : Untouched s { s with host.m0Peers := peers } := by
  refine of_objects ?_ rfl rfl rfl
  simp only [SameObjects, true_and]
  exact fun wf => ⟨wf, fun _ => rfl⟩

theorem lastReply (s : State) (r : Option Reply) : Untouched s { s with sys.lastReply := r } := by
  refine of_objects ?_ rfl rfl rfl
  simp only [SameObjects, true_and]
  exact fun wf => ⟨wf, fun _ => rfl⟩

/-- A reply written into slots that are then given back touches no object and no window, signalled or not. -/
theorem answerLast (s : State) (n : Nat) (v : Resv) (r : Reply) (quiet : Bool) :
    Untouched s (
      let t := (s.writeSlots n v r).modSl n fun h => { h with resv := h.resv.dropLast }
      if quiet then t else t.signal n 0) := by
  have written := (writeSlots s n v r).trans
    (modSl _ n (fun h => { h with resv := h.resv.dropLast }) (fun _ => rfl) fun _ => rfl)
  cases quiet with
  | true => exact written
  | false => exact written.trans (signal ..)

/-- The reply of a packet that is refused touches no object and no window. -/
theorem refuse (s : State) (op : BitVec 16) (q : Cmd) (st : Status) : Untouched s (s.refuse op q st) := by
  unfold State.refuse
  dsimp only
  refine (modSl s (s.requester q) (fun h => { h with st := { h.st with cmdRejected := satInc h.st.cmdRejected } })
    (fun _ => rfl) fun _ => rfl).trans ?_
  generalize s.modSl _ _ = counted
  split
  case h_1 => exact mailbox ..
  case h_2 n _ =>
    refine (reserve counted n.val q.seq 1 false).trans ?_
    generalize counted.reserve _ _ _ _ = reserved
    split
    · next v _ => exact answerLast reserved n.val v _ (q.flags.getLsbD 1)
    · exact refl _
  case h_3 => exact (m0Peers counted _).trans (of_objects (same_sendOwn _ _ _) rfl rfl rfl)
  case h_4 => exact fabricSend ..
  case h_5 | h_6 => exact lastReply ..
  case h_7 => exact emit ..

theorem windowOf {s t : State} (same : Untouched s t) (wf : Tab.wf ({} : SliceHost) s.host.slices = true) (q : Cmd) :
    t.windowOf q = s.windowOf q := by
  obtain ⟨slices, m0, fabric⟩ := same.windows
  obtain ⟨-, slices⟩ := slices wf
  unfold State.windowOf
  split <;> simp only [slices, m0, fabric]

end Untouched

/-- A packet whose number stands in its window with another check is refused (R572). -/
theorem State.accept_of_used {s : State} {path : Path} {t0 : Tile} {cont : List Tile} {op : BitVec 16} {q : Cmd}
    {e : WinEntry} (cmd : cmdOf path t0 cont = (op, q)) (good : ∀ t ∈ cont, tileOk t = true)
    (used : (s.windowOf q).find? (fun e => e.seq = q.seq) = some e) (other : e.check ≠ q.check) :
    s.accept path t0 cont = s.refuse op q .badParam := by
  have goodTiles : (cont.any fun t => !tileOk t) = false := by simpa using good
  unfold State.accept
  simp only [cmd, goodTiles, used, other, Bool.false_eq_true, if_false]

/-- Settles O12: the packet is refused, and its refusal touches nothing. -/
theorem usedNumberIsRefused : Obligations.UsedNumberIsRefused := by
  unfold Obligations.UsedNumberIsRefused
  intro s path t0 cont op q e cmd good used other wf
  have refused : s.accept path t0 cont = s.refuse op q .badParam := State.accept_of_used cmd good used other
  have same : Untouched s (s.accept path t0 cont) := refused ▸ Untouched.refuse s op q .badParam
  exact ⟨refused, same.windowOf wf q, same.objects⟩

end Sys2Proof.Machine

/-!
IRQ_STATUS (O13, R551) and the layout of a reply's tile 0 (O14, R561).
-/
namespace Sys2Proof.Machine

/-! ## IRQ_STATUS (R551) -/

theorem getLsbD_one_shiftLeft {n b : Nat} (isBit : b < 64) : (((1 <<< n : Nat) : BitVec 64)).getLsbD b = (b == n) := by
  rw [BitVec.natCast_eq_ofNat, BitVec.getLsbD_ofNat, Nat.one_shiftLeft, Nat.testBit_two_pow, decide_eq_true isBit,
    Bool.true_and, beq_eq_decide, decide_eq_decide]
  exact eq_comm

/-- A cause sets its slice's bit exactly when no vector goes out. -/
theorem State.irq_signal (s : State) (n off b : Nat) (isBit : b < 64) :
    (s.signal n off).host.irq.getLsbD b = (s.host.irq.getLsbD b ||
      (((s.sl n).cfg.vecCount = 0 || (s.msixByte (16 * ((s.sl n).cfg.vecBase.toNat + off) + 12)).getLsbD 0) && b == n)) := by
  unfold State.signal
  dsimp only
  split
  · next none => simp only [BitVec.getLsbD_or, getLsbD_one_shiftLeft isBit, none, decide_true, Bool.true_or, Bool.true_and]
  · next some =>
    split
    · next masked => simp only [BitVec.getLsbD_or, getLsbD_one_shiftLeft isBit, masked, Bool.or_true, Bool.true_and]
    · next sent =>
      rw [Bool.eq_false_iff.2 sent, decide_eq_false some, Bool.or_self, Bool.false_and, Bool.or_false, State.emit]

/-- The bits that a word written to a half of IRQ_STATUS names. -/
theorem getLsbD_put_half (hi : Bool) (v : Word32) {b : Nat} (isBit : b < 64) :
    (put 64 (if hi then 32 else 0) v).getLsbD b =
      if hi then decide (32 ≤ b) && v.getLsbD (b - 32) else decide (b < 32) && v.getLsbD b := by
  cases hi
  · simp only [put, Bool.false_eq_true, if_false, BitVec.shiftLeft_zero, BitVec.getLsbD_setWidth, isBit, decide_true,
      Bool.true_and]
    by_cases low : b < 32
    · simp [low]
    · simp [low, BitVec.getLsbD_of_ge v b (Nat.not_lt.1 low)]
  · by_cases high : 32 ≤ b
    · simp [put, isBit, high, Nat.not_lt.2 high]
    · simp [put, high, Nat.not_le.1 high]

/-- Settles O13. -/
theorem interruptStatusBits : Obligations.InterruptStatusBits := by
  unfold Obligations.InterruptStatusBits
  refine ⟨fun s n off b isBit => State.irq_signal s n.val off b isBit,
    fun s hi v running => ⟨s.writeIrq hi v, ok_of_running _ running, fun b isBit => ?_⟩⟩
  rw [State.writeIrq, BitVec.getLsbD_and, BitVec.getLsbD_not, getLsbD_put_half hi v isBit]
  simp [isBit]

/-! ## Fields of a sealed tile (R561) -/

/-- A field put at a place is read back there. -/
theorem extractLsb'_put_same {W lo n : Nat} (v : BitVec n) (fits : lo + n ≤ W) : (put W lo v).extractLsb' lo n = v := by
  apply BitVec.eq_of_getLsbD_eq
  intro i isBit
  have inside : lo + i < W := by omega
  simp [put, isBit, inside]

/-- A field put apart from a place leaves it 0. -/
theorem extractLsb'_put_apart {W lo n start len : Nat} (v : BitVec n) (apart : lo + n ≤ start ∨ start + len ≤ lo) :
    (put W lo v).extractLsb' start len = 0#len := by
  apply BitVec.eq_of_getLsbD_eq
  intro i isBit
  rcases apart with below | above
  · have outside : n ≤ start + i - lo := by omega
    simp [put, BitVec.getLsbD_of_ge v _ outside]
  · have outside : start + i < lo := by omega
    simp [put, outside]

/-- A part of a field is that part of its value. -/
theorem extractLsb'_put_within {W n start len : Nat} (t : BitVec W) (within : start + len ≤ n) (fits : n ≤ W) :
    (put W 0 (t.extractLsb' 0 n)).extractLsb' start len = t.extractLsb' start len := by
  apply BitVec.eq_of_getLsbD_eq
  intro i isBit
  have inside : start + i < n := by omega
  have inside' : start + i < W := by omega
  simp [put, isBit, inside, inside']

/-- A sealed tile is its first 60 bytes and their check (R561). -/
theorem sealTile_eq (t : Tile) :
    sealTile t = put 512 0 (t.extractLsb' 0 480) ||| put 512 480 (crc32c (bytesOf t 60)) :=
  congrArg (· ||| put 512 480 (crc32c (bytesOf t 60))) (BitVec.shiftLeft_zero _).symm

/-- Sealing changes the check alone. -/
theorem extractLsb'_sealTile {start len : Nat} (t : Tile) (body : start + len ≤ 480) :
    (sealTile t).extractLsb' start len = t.extractLsb' start len := by
  rw [sealTile_eq, BitVec.extractLsb'_or, extractLsb'_put_within t body (by decide), extractLsb'_put_apart _ (.inr body),
    BitVec.or_zero]

theorem bytesOf_sealTile (t : Tile) : bytesOf (sealTile t) 60 = bytesOf t 60 :=
  List.map_congr_left fun k inBody => extractLsb'_sealTile t (by have := List.mem_range.1 inBody; omega)

/-- A sealed tile's check is right. -/
theorem tileOk_sealTile (t : Tile) : tileOk (sealTile t) = true := by
  have check : (sealTile t).extractLsb' 480 32 = crc32c (bytesOf t 60) := by
    rw [sealTile_eq, BitVec.extractLsb'_or, extractLsb'_put_apart _ (.inl (Nat.le_refl 480)),
      extractLsb'_put_same _ (by decide), BitVec.zero_or]
  rw [tileOk, check, bytesOf_sealTile, beq_self_eq_true]

theorem getLsbD_of_extractLsb' {w start : Nat} {t : BitVec w} {b : Bool} (field : t.extractLsb' start 1 = bit b) :
    t.getLsbD start = b := by
  have read : (t.extractLsb' start 1).getLsbD 0 = t.getLsbD start := by simp
  rw [← read, field]
  cases b <;> rfl

/-- Settles O14: every field lies apart from the others, and below the check. -/
theorem replyTileLayout : Obligations.ReplyTileLayout := by
  unfold Obligations.ReplyTileLayout
  intro r st k replay phase valid
  refine ⟨?_, getLsbD_of_extractLsb' (b := false) ?_, getLsbD_of_extractLsb' ?_, getLsbD_of_extractLsb' ?_,
    getLsbD_of_extractLsb' ?_, ?_, ?_, ?_, ?_, ?_, ?_, ?_, tileOk_sealTile _⟩
  all_goals
    simp (disch := omega) only [Reply.tile0, extractLsb'_sealTile, BitVec.extractLsb'_or, extractLsb'_put_same,
      extractLsb'_put_apart, BitVec.or_zero, BitVec.zero_or]
  rfl

end Sys2Proof.Machine

/-!
Steps, resets and the opcode table (O1, O4, O5, O6, O18).
-/
namespace Sys2Proof.Machine

/-! ## Steps (R565, R632) -/

/-- Settles O1. -/
theorem stepRunsTheFrontCommand : Obligations.StepRunsTheFrontCommand := by
  unfold Obligations.StepRunsTheFrontCommand
  intro s i rest front
  rw [step, front]

/-- A device that has stopped answers the state it is in. -/
theorem ok_of_stopped {s : State} (t : State) (stopped : s.sys.stopped = true) : ok s t = .next s := by
  simp only [ok, stopped, if_true]

theorem resetNow_of_stopped {s : State} (n : Nat) {out : Out} {t : State} (answers : out = .next t)
    (stopped : s.sys.stopped = true) : resetNow n s out = .next s := by
  rw [answers]
  exact ok_of_stopped _ stopped

/-- Settles O4: but for RESET, every command of the dispatch answers a stopped device's state through `ok`. -/
theorem stoppedDeviceWaitsForReset : Obligations.StoppedDeviceWaitsForReset := by
  unfold Obligations.StoppedDeviceWaitsForReset
  intro i s stopped noReset
  cases i
  case reset src => exact absurd rfl (noReset src)
  case sliceConfig | sliceReset => exact resetNow_of_stopped _ rfl stopped
  all_goals exact ok_of_stopped _ stopped

/-! ## The opcode table (R590) -/

/-- The opcodes of the rows rise. -/
theorem hostRows_rise : (hostRows.map (·.1)).IsChain (· < ·) := by simp [hostRows]

theorem hostExec_hostRows : ∀ e ∈ hostRows, ∃ f, hostExec e.1 = some f ∧ ∀ q s, exec (e.2 q) s = f q s := by
  simp only [hostRows, List.forall_mem_append, List.forall_mem_cons, List.not_mem_nil, IsEmpty.forall_iff, implies_true,
    and_true]
  and_intros
  all_goals exact ⟨_, rfl, fun _ _ => rfl⟩

/-- Settles O6. -/
theorem packetsActAsTheirRows : Obligations.PacketsActAsTheirRows := by
  unfold Obligations.PacketsActAsTheirRows
  exact ⟨rfl, (List.isChain_iff_pairwise.1 hostRows_rise).imp Nat.ne_of_lt, hostExec_hostRows⟩

/-! ## Resets (R567, R621, R622, R646) -/

theorem State.rg_reset (c t : Nat) (r : BitVec 5) : State.reset.rg c t r = 0 := by
  show (if r = 0 then 0 else _) = _
  split <;> rfl

/-- Settles O5. -/
theorem resetState : Obligations.ResetState := by
  unfold Obligations.ResetState
  exact ⟨rfl, fun _ => rfl, rfl, rfl, rfl, rfl, fun _ => rfl, fun _ => rfl, rfl, rfl, State.rg_reset, rfl⟩

/-- The areas of Selvedge, which hold entries, and the records that outlive a start (R646). -/
def Selvedge.areas (v : Selvedge) := (v.events, v.startup, v.snap)
/-- The lasting records: retired cores, stop counts, the DRAM training and the stored ID. -/
def Selvedge.lasting (v : Selvedge) := (v.retired, v.stopCount, v.trained, v.fabricId)

theorem Selvedge.areas_saved (v : Selvedge) : v.saved.areas = v.areas := by
  unfold Selvedge.saved
  split <;> rfl

theorem Selvedge.areas_recovered (v : Selvedge) : v.recovered.areas = v.areas := by
  unfold Selvedge.recovered
  split
  · rfl
  · split <;> rfl

/-- Records that were written are read back from the newer copy while it is good. -/
theorem Selvedge.lasting_recovered {v : Selvedge} (writes : v.stopped = false) (good : v.newBad = false) :
    v.saved.recovered.lasting = v.lasting := by
  unfold Selvedge.saved
  split
  · next same =>
    have same : v.records = v.recNew := same.resolve_left (Bool.eq_false_iff.1 writes)
    rw [Selvedge.recovered, good, ← same]
    rfl
  · rfl

/-- A step counted as failed changes no area and none of the lasting records. -/
theorem State.failOnce_keeps {β : Type} (φ : Selvedge → β) (counts : ∀ v f, φ { v with failCount := f } = φ v) (s : State)
    (n : Nat) : φ (s.failOnce n).selv = φ s.selv := by
  unfold State.failOnce
  split
  · rfl
  · exact counts ..

/-- Selvedge after a reset: its saved records read back, and the steps that hung counted as failed. -/
theorem State.afterReset_selv_keeps {β : Type} (φ : Selvedge → β) (counts : ∀ v f, φ { v with failCount := f } = φ v)
    (starts : ∀ v cause, φ (Selvedge.kept v cause) = φ v) (s : State) (cause : Nat) :
    φ (s.afterReset cause).selv = φ s.selv.saved.recovered :=
  (starts _ cause).trans (foldl_keeps (fun s : State => φ s.selv) State.failOnce (State.failOnce_keeps φ counts) _ _)

/-- Settles O18. -/
theorem resetKeepsTheRecordOnly : Obligations.ResetKeepsTheRecordOnly := by
  unfold Obligations.ResetKeepsTheRecordOnly
  intro s cause
  have areas : (s.afterReset cause).selv.areas = s.selv.areas :=
    (State.afterReset_selv_keeps Selvedge.areas (fun _ _ => rfl) (fun _ _ => rfl) s cause).trans
      ((Selvedge.areas_recovered _).trans (Selvedge.areas_saved _))
  have lasting : (s.afterReset cause).selv.lasting = s.selv.saved.recovered.lasting :=
    State.afterReset_selv_keeps Selvedge.lasting (fun _ _ => rfl) (fun _ _ => rfl) s cause
  simp only [Selvedge.areas, Prod.mk.injEq] at areas
  obtain ⟨events, startup, snap⟩ := areas
  refine ⟨rfl, rfl, rfl, rfl, rfl, rfl, rfl, rfl, rfl, rfl, rfl, rfl, rfl, rfl, events, startup, snap, rfl, rfl,
    fun writes good => ?_⟩
  simpa only [Selvedge.lasting, Prod.mk.injEq] using lasting.trans (Selvedge.lasting_recovered writes good)

end Sys2Proof.Machine

/-!
Device and slice commands (O29): one lemma for each command, then the statement itself. An admitted packet executes once its
own conditions hold (`runCmd_of_admits`); the rest of its `Can.x` decides those conditions.
-/
namespace Sys2Proof.Machine

/-! ## The device (R582, R599, R600, R636) -/

theorem exec_deviceConfig_of_can {q : Cmd} {s : State} (h : Can.deviceConfig q s = true) :
    exec (.deviceConfig q) s = .next (
      execPlan (setOp 0x001 .all DevCfg.rsv) q
        { keys := [(.device, 0)]
          eff := { s with host.devCfg := DevCfg.ofTile (q.tile 1) } }) := by
  simp only [Can.deviceConfig, Bool.and_eq_true, decide_eq_true_eq] at h
  obtain ⟨⟨admitted, handle⟩, sl0⟩ := h
  exact runCmd_of_admits admitted (.inl rfl) (by simp [handle]) sl0 rfl (List.forall_mem_nil _)

theorem exec_deviceGet_of_can {q : Cmd} {s : State} (h : Can.deviceGet q s = true) :
    exec (.deviceGet q) s = .next (
      execPlan (getOp 0x002 .all) q
        { keys := [(.device, 0)]
          changes := false
          replyTiles := 3
          eff := s
          tiles := [s.host.devCfg.toTile, s.ident.toTile] }) := by
  simp only [Can.deviceGet, Bool.and_eq_true, decide_eq_true_eq] at h
  obtain ⟨⟨admitted, handle⟩, mayClear⟩ := h
  exact runCmd_of_admits admitted (.inl rfl) (by simp [handle]) mayClear rfl (List.forall_mem_nil _)

theorem exec_modeSet_of_can {q : Cmd} {s : State} (h : Can.modeSet q s = true) :
    exec (.modeSet q) s = .next (
      execPlan (actOp 0x003 .all (used 16 1)) q
        { keys := [(.mode, 0)]
          changes := false
          eff := match Mode.ofCode (q.u8 16) with | some m => s.beginMode m | none => s
          wait := some .modeSet }) := by
  simp only [Can.modeSet, Bool.and_eq_true, Bool.not_eq_true', decide_eq_true_eq] at h
  obtain ⟨⟨⟨⟨⟨admitted, handle⟩, sl0⟩, settled⟩, copied⟩, may⟩ := h
  cases named : Mode.ofCode (q.u8 16) with
  | none => simp [named] at may
  | some m =>
    simp only [named, Bool.and_eq_true, Bool.not_eq_true'] at may
    obtain ⟨⟨row, hostReady⟩, ready⟩ := may
    unfold exec execModeSet
    simp only [named]
    with_reducible
      exact runCmd_of_admits admitted (.inl rfl) (by simp [handle]) sl0 (by simp only [settled, copied, Bool.or_self])
        (List.forall_mem_cons.2 ⟨by simpa [row] using hostReady,
          List.forall_mem_singleton.2 (by simp only [ready, Bool.not_true])⟩)

theorem exec_snapshot_of_can {q : Cmd} {s : State} (h : Can.snapshot q s = true) :
    exec (.snapshot q) s = .next (
      let n := s.requester q
      let addr := q.u64 16
      let flags : BitVec 8 := BitVec.ofNat 8 (q.u8 32)
      let recs := s.snapConfig n
      execPlan (actOp 0x004 .live (used 16 17)) q
        { keys := [(.device, 0)]
          changes := false
          eff := { s with host.snapshot := some ⟨n, addr, flags, true, s.host.devGen, s.wall, recs.flatten, recs.length⟩ }
          wait := some .snapshot }) := by
  simp only [Can.snapshot, Bool.and_eq_true, Bool.not_eq_true'] at h
  obtain ⟨⟨⟨⟨⟨⟨admitted, length⟩, handle⟩, address⟩, flags⟩, room⟩, none⟩ := h
  exact runCmd_of_admits admitted (.inl rfl)
    (List.forall_mem_cons.2 ⟨length, List.forall_mem_singleton.2 (by simp only [address, flags]; simpa using handle)⟩)
    rfl none (List.forall_mem_singleton.2 room)

theorem exec_ping_of_can {q : Cmd} {s : State} (h : Can.ping q s = true) :
    exec (.ping q) s = .next (
      execPlan (actOp 0x005 .all 0) q
        { keys := [(.device, 0)]
          changes := false
          eff := s
          data := dat 16 s.host.devGen ||| dat 24 s.wall ||| dat 32 (s.modeCode.setWidth 8) }) := by
  simp only [Can.ping, Bool.and_eq_true, decide_eq_true_eq] at h
  obtain ⟨admitted, handle⟩ := h
  exact runCmd_of_admits admitted (.inl rfl) (by simp [handle]) rfl rfl (List.forall_mem_nil _)

/-! ## Slices (R554, R555, R585, R586) -/

/-- A command of a device that has not stopped ends its slice's reset when the replies that wait have changed. -/
theorem resetNow_of_running {n : Nat} {s t : State} {out : Out} (running : s.sys.stopped = false) (answers : out = .next t) :
    resetNow n s out = .next (if t.host.deferred = s.host.deferred then t else t.tryReset n) := by
  rw [answers]
  exact ok_of_running _ running

theorem running_of_admits {info : OpInfo} {q : Cmd} {s : State} {keys : List ObjKey} {changes : Bool} {k : Nat}
    (admitted : s.admits info q keys changes k = true) : s.sys.stopped = false := by
  simp only [State.admits, Bool.and_eq_true, Bool.not_eq_true'] at admitted
  tauto

theorem exec_sliceConfig_of_can {q : Cmd} {s : State} (h : Can.sliceConfig q s = true) :
    exec (.sliceConfig q) s = .next (
      let c := SliceCfg.ofTile (q.tile 1)
      let h := s.sl q.h
      let s1 := s.modSl q.h fun h => { h with cfg := c }
      let again : Bool := (h.cfg.enable = 1 && c.rings ≠ h.cfg.rings) && (q.h = 0 && q.path = .mailbox) && h.st.state ≠ 0 &&
        c.enable = 1
      let done := execPlan (setOp 0x101 .all SliceCfg.rsv) q
        { keys := [(.slice, q.h)]
          eff := if again then s.beginReset 0
            else if c.enable = 1 ∧ h.st.state = 0 then s1.modSl q.h SliceHost.attach
            else if c.enable = 0 ∧ h.st.state ≠ 0 then (s1.endQuiesce q.h .busy).modSl q.h SliceHost.detach
            else s1
          wait := if again then some (.sliceReset 0) else none }
      if done.host.deferred = s.host.deferred then done else done.tryReset 0) := by
  simp only [Can.sliceConfig, Bool.and_eq_true, Bool.not_eq_true'] at h
  obtain ⟨⟨⟨⟨⟨⟨admitted, isSlice⟩, sl0⟩, dram⟩, good⟩, rings⟩, window⟩ := h
  unfold exec execSliceConfig
  with_reducible
    exact resetNow_of_running (running_of_admits admitted)
      (runCmd_of_admits admitted (.inl rfl) (by simpa using isSlice) sl0 rfl
        (List.forall_mem_cons.2 ⟨dram, List.forall_mem_cons.2 ⟨good, List.forall_mem_cons.2 ⟨rings,
          List.forall_mem_singleton.2 window⟩⟩⟩))

theorem exec_sliceGet_of_can {q : Cmd} {s : State} (h : Can.sliceGet q s = true) :
    exec (.sliceGet q) s = .next (
      let h := s.sl q.h
      execPlan (getOp 0x102 .all) q
        { keys := [(.slice, q.h)]
          changes := false
          replyTiles := 3
          eff := if q.clear then s.modSl q.h fun h =>
                { h with st := { h.st with cmdAccepted := 0, cmdReplayed := 0, cmdRejected := 0, replyOrphan := 0, dmaErr := 0
                                           sqHalts := 0, doorbellBad := 0 } }
              else s
          tiles := [h.cfg.toTile, h.st.toTile] }) := by
  simp only [Can.sliceGet, Bool.and_eq_true, Bool.not_eq_true'] at h
  obtain ⟨⟨⟨admitted, isSlice⟩, may⟩, mayClear⟩ := h
  exact runCmd_of_admits admitted (.inl rfl) (by simpa using isSlice) may rfl (List.forall_mem_singleton.2 mayClear)

theorem exec_sliceQuiesce_of_can {q : Cmd} {s : State} (h : Can.sliceQuiesce q s = true) :
    exec (.sliceQuiesce q) s = .next (
      execPlan (actOp 0x103 .all 0) q
        { keys := [(.slice, q.h)]
          eff := s.modSl q.h fun h => { h with st := { h.st with state := if h.st.state = 3 then 3 else 2 } }
          wait := some (.quiesce q.h (s.now + 100000000)) }) := by
  simp only [Can.sliceQuiesce, Bool.and_eq_true, Bool.not_eq_true'] at h
  obtain ⟨⟨⟨⟨admitted, isSlice⟩, mine⟩, attached⟩, noReset⟩ := h
  exact runCmd_of_admits admitted (.inl rfl) (by simpa using isSlice) mine rfl
    (List.forall_mem_singleton.2 (Bool.or_eq_false_iff.2 ⟨attached, noReset⟩))

theorem exec_sliceResume_of_can {q : Cmd} {s : State} (h : Can.sliceResume q s = true) :
    exec (.sliceResume q) s = .next (
      execPlan (actOp 0x104 .all 0) q
        { keys := [(.slice, q.h)]
          eff := s.modSl q.h fun h => { h with st := { h.st with state := 1 } } }) := by
  simp only [Can.sliceResume, Bool.and_eq_true, Bool.not_eq_true'] at h
  obtain ⟨⟨⟨admitted, isSlice⟩, mine⟩, quiesced⟩ := h
  exact runCmd_of_admits admitted (.inl rfl) (by simpa using isSlice) mine rfl (List.forall_mem_singleton.2 quiesced)

theorem exec_sliceReset_of_can {q : Cmd} {s : State} (h : Can.sliceReset q s = true) :
    exec (.sliceReset q) s = .next (
      let done := execPlan (actOp 0x105 .all 0) q
        { keys := [(.slice, q.h)], eff := s.beginReset q.h, wait := some (.sliceReset q.h) }
      if done.host.deferred = s.host.deferred then done else done.tryReset q.h) := by
  simp only [Can.sliceReset, Bool.and_eq_true, Bool.not_eq_true', decide_eq_true_eq, decide_eq_false_iff_not] at h
  obtain ⟨⟨⟨⟨admitted, isSlice⟩, notSl0⟩, mine⟩, quiesced⟩ := h
  unfold exec execSliceReset
  with_reducible
    exact resetNow_of_running (running_of_admits admitted)
      (runCmd_of_admits admitted (.inl rfl) (by simp [isSlice, notSl0]) mine rfl
        (List.forall_mem_singleton.2 (by simp [quiesced])))

/-- Settles O29: each command answers what its lemma above says. -/
theorem deviceAndSliceCommands : Obligations.DeviceAndSliceCommands := by
  unfold Obligations.DeviceAndSliceCommands
  exact ⟨fun _ _ h => exec_deviceConfig_of_can h,
    fun _ _ h => exec_deviceGet_of_can h,
    fun _ _ h => exec_modeSet_of_can h,
    fun _ _ h => exec_snapshot_of_can h,
    fun _ _ h => exec_ping_of_can h,
    fun _ _ h => exec_sliceConfig_of_can h,
    fun _ _ h => exec_sliceGet_of_can h,
    fun _ _ h => exec_sliceQuiesce_of_can h,
    fun _ _ h => exec_sliceResume_of_can h,
    fun _ _ h => exec_sliceReset_of_can h⟩

end Sys2Proof.Machine

/-!
Selvedge, image and statistics commands (O39): one lemma for each command, then the statement itself. An admitted packet
executes once its own conditions hold (`runCmd_of_admits`); the rest of its `Can.x` decides those conditions.
-/
namespace Sys2Proof.Machine

/-! ## Selvedge (R616, R649) -/

theorem exec_selvedgeRead_of_can {q : Cmd} {s : State} (h : Can.selvedgeRead q s = true) :
    exec (.selvedgeRead q) s = .next (
      let area := q.u8 16
      let all := s.selvEntries area
      let next := s.selv.nextSeq area
      let oldest := (all.head?.map (·.1)).getD next
      let first : Word32 := BitVec.ofNat 32 (q.u32 20)
      let from' := if serialLt first oldest then oldest else first
      let out := ((all.filter fun p => !serialLt p.1 from').take (q.u8 24)).map (·.2)
      execPlan (actOp 0xD01 .all (used 16 1 ||| used 20 5)) q
        { keys := [(.selvedge, 0)]
          changes := false
          replyTiles := 1 + out.length
          eff := s
          data := dat 16 oldest ||| dat 20 next
          tiles := out }) := by
  simp only [Can.selvedgeRead, Bool.and_eq_true, Bool.not_eq_true', decide_eq_true_eq] at h
  obtain ⟨⟨⟨⟨⟨admitted, handle⟩, area⟩, count⟩, sl0⟩, opened⟩ := h
  exact runCmd_of_admits admitted (.inl rfl) (by simp [handle, area, count]) sl0 rfl (List.forall_mem_singleton.2 opened)

theorem exec_selvedgeClearArm_of_can {q : Cmd} {s : State} (h : Can.selvedgeClearArm q s = true) :
    exec (.selvedgeClearArm q) s = .next (
      let tok : Word32 := (Config.random s.time.free).setWidth 32
      let scope := q.u8 16
      execPlan (actOp 0xD02 .comm (used 16 1)) q
        { keys := [(.selvedge, 0)]
          changes := false
          eff := { s.drawn with host.clearArm := some (tok, BitVec.ofNat 8 scope, s.now, q.path) }
          data := dat 16 tok }) := by
  simp only [Can.selvedgeClearArm, Bool.and_eq_true, decide_eq_true_eq] at h
  obtain ⟨⟨⟨admitted, handle⟩, scope⟩, sl0⟩ := h
  exact runCmd_of_admits admitted (.inl rfl) (by simp [handle, scope]) sl0 rfl (List.forall_mem_nil _)

theorem exec_selvedgeClear_of_can {q : Cmd} {s : State} (h : Can.selvedgeClear q s = true) :
    exec (.selvedgeClear q) s = .next (
      let scope := q.u8 16
      let v := s.selv
      let v1 := if scope.testBit 0 then { v with events := [] } else v
      let v2 := if scope.testBit 1 then { v1 with startup := [], stepLevel := [], stepHung := [], failCount := [] } else v1
      let eff := { { s with selv := v2 }.recordClear scope q.path with host.clearArm := none }
      execPlan (actOp 0xD03 .comm (used 16 1 ||| used 20 4)) q
        { keys := [(.selvedge, 0)]
          eff := eff
          wait := if scope = 0 then none else some .selvedgeClear }) := by
  simp only [Can.selvedgeClear, Bool.and_eq_true] at h
  obtain ⟨⟨⟨⟨⟨admitted, handle⟩, scope⟩, sl0⟩, armed⟩, byPath⟩ := h
  simp only [decide_eq_true_eq] at handle scope
  exact runCmd_of_admits admitted (.inl rfl) (by simp [handle, scope]) sl0 rfl
    (List.forall_mem_singleton.2 (Bool.or_eq_false_iff.2 ⟨Bool.not_eq_false' .. ▸ armed, Bool.not_eq_false' .. ▸ byPath⟩))

/-! ## Boot images (R615, R650) -/

theorem exec_imageWrite_of_can {q : Cmd} {s : State} (h : Can.imageWrite q s = true) :
    exec (.imageWrite q) s = .next (
      let u := q.u32 16
      execPlan { opcode := 0xD20, modes := .live, minTiles := 2, maxTiles := 64, uses := used 16 4 } q
        { keys := [(.image, q.h)]
          eff := (q.cont.zipIdx).foldl (fun (s : State) (p : Tile × Nat) =>
              let t := sealTile p.1
              { s with sys.flash := Tab.set 0 s.sys.flash (q.h * 131072 + u + p.2) t }.emit (.flash q.h (u + p.2) t)) s }) := by
  simp only [Can.imageWrite, Bool.and_eq_true, Bool.not_eq_true'] at h
  obtain ⟨⟨⟨⟨admitted, isSlot⟩, inSlot⟩, sl0⟩, unloaded⟩ := h
  simp only [decide_eq_true_eq] at isSlot
  exact runCmd_of_admits admitted (.inl rfl)
    (List.forall_mem_singleton.2 (Bool.or_eq_false_iff.2 ⟨decide_eq_false (Nat.not_le.2 isSlot), inSlot⟩)) sl0 rfl
    (List.forall_mem_singleton.2 unloaded)

theorem exec_imageCommit_of_can {q : Cmd} {s : State} (h : Can.imageCommit q s = true) :
    exec (.imageCommit q) s = .next (
      execPlan (actOp 0xD21 .live (used 16 4)) q
        { keys := [(.image, q.h)]
          eff := { s with selv.activeSlot := BitVec.ofNat 1 q.h } }) := by
  simp only [Can.imageCommit, Bool.and_eq_true, Bool.not_eq_true'] at h
  obtain ⟨⟨⟨⟨⟨admitted, isSlot⟩, units⟩, sl0⟩, unloaded⟩, good⟩ := h
  simp only [decide_eq_true_eq] at isSlot
  exact runCmd_of_admits admitted (.inl rfl) (by simp [isSlot, units]) sl0 rfl
    (List.forall_mem_cons.2 ⟨unloaded, List.forall_mem_singleton.2 good⟩)

/-! ## Statistics (R617, R618) -/

theorem exec_statsRead_of_can {q : Cmd} {s : State} (h : Can.statsRead q s = true) :
    exec (.statsRead q) s = .next (
      let scope := q.u8 16
      let all := (statItems scope q.h).getD []
      let is := (all.drop (q.u16 18)).take 126
      let clear := q.opt 20 0
      execPlan (actOp 0xE01 .all (used 16 1 ||| used 18 2 ||| dat 20 (1 : BitVec 1))) q
        { keys := [(.counters, 0)]
          changes := false
          replyTiles := 1 + (is.length + 1) / 2
          eff := if clear then is.foldl State.statClear s else s
          data := dat 16 (BitVec.ofNat 16 all.length) ||| dat 18 (BitVec.ofNat 16 is.length)
          tiles := tiles60 (is.flatMap s.statBytes) }) := by
  simp only [Can.statsRead, Bool.and_eq_true, Bool.not_eq_true'] at h
  obtain ⟨⟨⟨⟨admitted, listed⟩, present⟩, may⟩, mayClear⟩ := h
  exact runCmd_of_admits admitted (.inl rfl) (List.forall_mem_singleton.2 (Bool.or_eq_false_iff.2 ⟨listed, present⟩)) may rfl
    (List.forall_mem_singleton.2 mayClear)

theorem exec_counterRangeSet_of_can {q : Cmd} {s : State} (h : Can.counterRangeSet q s = true) :
    exec (.counterRangeSet q) s = .next (
      let a := q.u32 16
      let n := q.u32 20
      execPlan (actOp 0xE02 .live (used 16 8)) q
        { keys := [(.counters, q.h)]
          eff := { s with host.ctrRange := Tab.set (0, 0) s.host.ctrRange q.h (a, n) } }) := by
  simp only [Can.counterRangeSet, Bool.and_eq_true, Bool.not_eq_true'] at h
  obtain ⟨⟨⟨⟨admitted, isSlice⟩, inTable⟩, sl0⟩, apart⟩ := h
  simp only [decide_eq_true_eq] at isSlice
  exact runCmd_of_admits admitted (.inl rfl)
    (List.forall_mem_singleton.2 (Bool.or_eq_false_iff.2 ⟨decide_eq_false (Nat.not_le.2 isSlice), inTable⟩)) sl0 rfl
    (List.forall_mem_singleton.2 apart)

theorem exec_counterRead_of_can {q : Cmd} {s : State} (h : Can.counterRead q s = true) :
    exec (.counterRead q) s = .next (
      let a := q.u32 16
      let n := q.u8 20
      let me := s.requester q
      let ps := (List.range n).map fun i => Tab.get (0, 0) s.host.pairs (a + i)
      let k := (n + 2) / 3
      execPlan (actOp 0xE03 .live (used 16 5 ||| dat 21 (1 : BitVec 1))) q
        { keys := [(.counters, me)]
          changes := false
          replyTiles := 1 + k
          eff := if q.opt 21 0 then
                { s with host.pairs := (List.range n).foldl (fun m i => Tab.set (0, 0) m (a + i) (0, 0)) s.host.pairs }
              else s
          tiles := (List.range k).map fun i => pairTile (ps.drop (3 * i) |>.take 3) }) := by
  obtain ⟨h, owned⟩ := Bool.and_eq_true_iff.1 h
  simp only [Bool.and_eq_true, decide_eq_true_eq] at h
  obtain ⟨⟨admitted, handle⟩, count⟩ := h
  exact runCmd_of_admits admitted (.inl rfl) (by simp [handle, count]) owned rfl (List.forall_mem_nil _)

theorem exec_counterRangeGet_of_can {q : Cmd} {s : State} (h : Can.counterRangeGet q s = true) :
    exec (.counterRangeGet q) s = .next (
      let r := Tab.get (0, 0) s.host.ctrRange q.h
      execPlan (getOp 0xE04 .live) q
        { keys := [(.counters, q.h)]
          changes := false
          eff := s
          data := dat 16 (BitVec.ofNat 32 r.1) ||| dat 20 (BitVec.ofNat 32 r.2) }) := by
  simp only [Can.counterRangeGet, Bool.and_eq_true, Bool.not_eq_true'] at h
  obtain ⟨⟨⟨admitted, isSlice⟩, mine⟩, mayClear⟩ := h
  exact runCmd_of_admits admitted (.inl rfl) (by simpa using isSlice) mine rfl (List.forall_mem_singleton.2 mayClear)

/-- Settles O39: each command answers what its lemma above says. -/
theorem selvedgeImageAndStatisticsCommands : Obligations.SelvedgeImageAndStatisticsCommands := by
  unfold Obligations.SelvedgeImageAndStatisticsCommands
  exact ⟨fun _ _ h => exec_selvedgeRead_of_can h,
    fun _ _ h => exec_selvedgeClearArm_of_can h,
    fun _ _ h => exec_selvedgeClear_of_can h,
    fun _ _ h => exec_imageWrite_of_can h,
    fun _ _ h => exec_imageCommit_of_can h,
    fun _ _ h => exec_statsRead_of_can h,
    fun _ _ h => exec_counterRangeSet_of_can h,
    fun _ _ h => exec_counterRead_of_can h,
    fun _ _ h => exec_counterRangeGet_of_can h⟩

end Sys2Proof.Machine

/-!
Host-interface events (O41): one lemma for each event and form, then the statement itself. An event that may take place runs
on a device that has not stopped (`ok_of_running`, `ok_if_of_running`); the rest of its `Can.x` decides the guards of its
`exec` arm.
-/
namespace Sys2Proof.Machine

/-! ## Held commands and the registers of BAR0 (R546 to R552, R568) -/

theorem exec_heldCommandExecute_of_can {n : Nat} {h : Held} {s : State} (can : Can.heldCommandExecute n h s = true) :
    exec (.heldCommandExecute n) s = .next (
      let s2 := ({ s with host.held := s.host.held.take n } : State).runHost (h.opcode.setWidth 16) h.cmd
      { s2 with host.held := s2.host.held ++ s.host.held.drop (n + 1) }) := by
  simp only [Can.heldCommandExecute, Bool.and_eq_true, Bool.not_eq_true', beq_iff_eq] at can
  obtain ⟨running, held⟩ := can
  refine (ok_of_running _ running).trans ?_
  simp only [held]

theorem exec_identRead_of_can {addr : BitVec 19} {size : Nat} {s : State} (h : Can.identRead addr size s = true) :
    exec (.identRead addr size) s = .next (
      let s1 : State := if addr.toNat = 0 then { s with host.identLatch := s.ident.toTile } else s
      s1.emit (.barRead addr.toNat (if size = 8 then s1.barWord (addr.toNat + 4) ++ s1.barWord addr.toNat
        else (s1.barWord addr.toNat).setWidth 64))) := by
  simp only [Can.identRead, Bool.and_eq_true, Bool.not_eq_true'] at h
  obtain ⟨running, aligned⟩ := h
  exact (ok_of_running _ running).trans (congrArg Host.Outcome.next (if_neg (Bool.eq_false_iff.mp aligned)))

theorem exec_devResetWrite_of_can {s : State} (h : Can.devResetWrite s = true) :
    exec (.devResetWrite 0xA5A5) s = .next { s with host.resetArm := some (s.now + 1000000) } := by
  simp only [Can.devResetWrite, Bool.not_eq_true'] at h
  exact (ok_of_running _ h).trans (congrArg Host.Outcome.next (if_pos rfl))

theorem exec_devResetWrite_of_can_act {t : Nat} {s : State} (h : Can.devResetWrite_act t s = true) :
    exec (.devResetWrite 0x5A5A) s = .next (s.deviceReset 2) := by
  simp only [Can.devResetWrite_act, Bool.and_eq_true, Bool.not_eq_true', beq_iff_eq] at h
  obtain ⟨⟨running, armed⟩, inTime⟩ := h
  refine (ok_of_running _ running).trans (congrArg Host.Outcome.next ?_)
  exact (if_neg (by decide)).trans (if_pos ⟨rfl, by simp only [armed, Option.any_some, inTime]⟩)

theorem exec_devResetWrite_of_can_disarm {v : BitVec 32} {s : State} (h : Can.devResetWrite_disarm v s = true) :
    exec (.devResetWrite v) s = .next { s with host.resetArm := none } := by
  simp only [Can.devResetWrite_disarm, Bool.and_eq_true, Bool.not_eq_true', bne_iff_ne] at h
  obtain ⟨⟨running, noArm⟩, noAct⟩ := h
  refine (ok_of_running _ running).trans (congrArg Host.Outcome.next ?_)
  exact (if_neg noArm).trans (if_neg fun act => noAct act.1)

theorem exec_devResetArmExpiry_of_can {t : Nat} {s : State} (h : Can.devResetArmExpiry t s = true) :
    exec .devResetArmExpiry s = .next { s with host.resetArm := none } := by
  simp only [Can.devResetArmExpiry, Bool.and_eq_true, Bool.not_eq_true', beq_iff_eq] at h
  obtain ⟨⟨running, armed⟩, late⟩ := h
  exact ok_if_of_running _ running (by simp only [armed, Option.any_some, late])

theorem exec_irqStatusWrite_of_can {hi : Bool} {v : BitVec 32} {s : State} (h : Can.irqStatusWrite s = true) :
    exec (.irqStatusWrite hi v) s = .next
      { s with host.irq := s.host.irq &&& ~~~ put 64 (if hi then 32 else 0) v } := by
  simp only [Can.irqStatusWrite, Bool.not_eq_true'] at h
  exact ok_of_running _ h

theorem exec_mboxInWrite_of_can {v : BitVec 32} {s : State} (h : Can.mboxInWrite v s = true) :
    exec (.mboxInWrite v) s = .next (
      let s1 := s.mboxStore 60 v
      ({ s1 with host.mboxOut := pendingTile (cmdOf .mailbox s1.host.mboxIn []).2.seq false, host.mboxPending := true } :
        State).accept .mailbox s1.host.mboxIn []) := by
  simp only [Can.mboxInWrite, Bool.and_eq_true, Bool.not_eq_true', decide_eq_true_eq] at h
  obtain ⟨⟨⟨⟨running, ready⟩, free⟩, good⟩, oneTile⟩ := h
  refine (ok_of_running _ running).trans (congrArg Host.Outcome.next ?_)
  unfold State.mboxSubmit
  simp only [ready, free, good, oneTile, Bool.not_true, Bool.false_eq_true, if_false, ne_eq, not_true_eq_false]

theorem exec_mboxInWrite_of_can_overrun {v : BitVec 32} {s : State} (h : Can.mboxInWrite_overrun s = true) :
    exec (.mboxInWrite v) s = .next ((s.mboxStore 60 v).bump .mboxOverrun 0) := by
  simp only [Can.mboxInWrite_overrun, Bool.and_eq_true, Bool.not_eq_true'] at h
  obtain ⟨⟨running, ready⟩, waits⟩ := h
  refine (ok_of_running _ running).trans (congrArg Host.Outcome.next ?_)
  exact (if_neg (by simp [ready])).trans (if_pos waits)

theorem exec_barRegisterWrite_of_can {addr : BitVec 19} {v : BitVec 64} {s : State}
    (h : Can.barRegisterWrite addr s = true) :
    exec (.barRegisterWrite addr 4 v) s = .next
      { s with host.mboxIn := put 512 (8 * (addr.toNat - 0x100)) (v.setWidth 32) |||
        (s.host.mboxIn &&& ~~~ put 512 (8 * (addr.toNat - 0x100)) (BitVec.allOnes 32)) } := by
  simp only [Can.barRegisterWrite, Bool.and_eq_true, Bool.not_eq_true', decide_eq_true_eq] at h
  obtain ⟨⟨⟨running, aligned⟩, low⟩, high⟩ := h
  refine (ok_of_running _ running).trans (congrArg Host.Outcome.next ?_)
  dsimp only
  rw [if_neg (by simp [barBad, aligned]), if_neg (by omega), if_neg (by omega), if_neg (by omega), if_pos ⟨low, high⟩]
  rfl

theorem exec_barRegisterWrite_of_can_bad {addr : BitVec 19} {size : Nat} {v : BitVec 64} {s : State}
    (h : Can.barRegisterWrite_bad addr size s = true) :
    exec (.barRegisterWrite addr size v) s = .next (s.bump .barBadAccess 0) := by
  simp only [Can.barRegisterWrite_bad, Bool.and_eq_true, Bool.not_eq_true'] at h
  obtain ⟨running, bad⟩ := h
  exact (ok_of_running _ running).trans (congrArg Host.Outcome.next (if_pos bad))

theorem exec_hostReset_of_can {k : HostLoss} {s : State} (h : Can.hostReset s = true) :
    exec (.hostReset k) s = .next s.hostReset := by
  simp only [Can.hostReset, Bool.not_eq_true'] at h
  cases k <;> exact ok_of_running _ h

/-! ## Submission and reply rings, event items (R545, R553, R558, R559) -/

/-- An attached slice that is not being reset takes a good doorbell. -/
theorem doorbell_taken_of_attached {st : BitVec 3} (attached : st ≠ 0) (noReset : st ≠ 4) {bad : Prop} (good : ¬ bad) :
    ¬ (st = 0 ∨ st = 4 ∨ bad) := not_or.2 ⟨attached, not_or.2 ⟨noReset, good⟩⟩

theorem exec_sqTailWrite_of_can {n : Fin 64} {v : BitVec 32} {s : State} (h : Can.sqTailWrite n v s = true) :
    exec (.sqTailWrite n v) s = .next (s.modSl n fun h => { h with sqTail := v.extractLsb' 0 13 }) := by
  simp only [Can.sqTailWrite, Bool.and_eq_true, Bool.not_eq_true', beq_iff_eq, bne_iff_ne, decide_eq_true_eq] at h
  obtain ⟨⟨⟨⟨⟨running, attached⟩, noReset⟩, reserved⟩, noResync⟩, inRing⟩ := h
  refine (ok_of_running _ running).trans (congrArg Host.Outcome.next ?_)
  unfold State.writeTail
  simp only [noResync, Bool.false_eq_true, if_false]
  exact if_neg (doorbell_taken_of_attached attached noReset
    (not_or.2 ⟨not_not.2 reserved, not_or.2 ⟨fun g => by simp at g, Nat.not_lt.2 inRing⟩⟩))

theorem exec_sqTailWrite_of_can_resync {n : Fin 64} {v : BitVec 32} {s : State} (h : Can.sqTailWrite_resync n v s = true) :
    exec (.sqTailWrite n v) s = .next (
      s.modSl n fun h => { h with sqTail := v.extractLsb' 0 13, st.sqHalted := 0
                                  st.sqFetch := BitVec.ofNat 13 ((v.extractLsb' 16 13).toNat % (2 * h.sqDepth)) }) := by
  simp only [Can.sqTailWrite_resync, Bool.and_eq_true, Bool.not_eq_true', beq_iff_eq, bne_iff_ne, decide_eq_true_eq] at h
  obtain ⟨⟨⟨⟨⟨⟨running, attached⟩, noReset⟩, reserved⟩, resync⟩, halted⟩, inRing⟩ := h
  refine (ok_of_running _ running).trans (congrArg Host.Outcome.next ?_)
  unfold State.writeTail
  simp only [resync, if_true]
  exact if_neg (doorbell_taken_of_attached attached noReset 
    (not_or.2 ⟨not_not.2 reserved, not_or.2 ⟨fun g => by simp [halted] at g, Nat.not_lt.2 inRing⟩⟩))

theorem exec_cqHeadWrite_of_can {n : Fin 64} {v : BitVec 32} {s : State} (h : Can.cqHeadWrite n v s = true) :
    exec (.cqHeadWrite n v) s = .next (s.modSl n fun h => { h with cqHead := v.extractLsb' 0 13 }) := by
  simp only [Can.cqHeadWrite, Bool.and_eq_true, Bool.not_eq_true', beq_iff_eq, bne_iff_ne, decide_eq_true_eq] at h
  obtain ⟨⟨⟨⟨running, attached⟩, noReset⟩, reserved⟩, inRing⟩ := h
  refine (ok_of_running _ running).trans (congrArg Host.Outcome.next ?_)
  exact if_neg (doorbell_taken_of_attached attached noReset (not_or.2 ⟨not_not.2 reserved, Nat.not_lt.2 inRing⟩))

/-- A good first tile whose command stands in the ring is accepted, if its reply tiles find room. -/
theorem State.fetchSq_of_good {s : State} {n : Fin 64} {t0 : Tile} {rest : List Tile} (good : tileOk t0 = true)
    (some : tilesOf t0 ≠ 0) (few : tilesOf t0 ≤ 64)
    (rung : tilesOf t0 ≤ countDiff (s.sl n).sqTail.toNat (s.sl n).st.sqFetch.toNat (s.sl n).sqDepth)
    (read : tilesOf t0 ≤ rest.length + 1) :
    s.fetchSq n (t0 :: rest) = s.cqRoom
      ((s.modSl n fun h => { h with st := { h.st with
        sqFetch := BitVec.ofNat 13 ((h.st.sqFetch.toNat + tilesOf t0) % (2 * h.sqDepth)) } }).accept (.sq n) t0
          (cmdOf (.sq n) t0 (rest.take (tilesOf t0 - 1))).2.cont) n := by
  unfold State.fetchSq
  dsimp only
  rw [if_neg (by simp [good]), if_neg (not_or.2 ⟨some, Nat.not_lt.2 few⟩),
    if_neg (not_or.2 ⟨Nat.not_lt.2 rung, Nat.not_lt.2 read⟩)]

theorem exec_sqFetch_of_can {n : Fin 64} {t0 : Tile} {rest : List Tile} {s : State} (h : Can.sqFetch n t0 rest s = true) :
    exec (.sqFetch n (some (t0 :: rest))) s = .next (
      let s1 := s.modSl n fun h => { h with st := { h.st with
        sqFetch := BitVec.ofNat 13 ((h.st.sqFetch.toNat + tilesOf t0) % (2 * h.sqDepth)) } }
      s1.accept (.sq n) t0 (cmdOf (.sq n) t0 (rest.take (tilesOf t0 - 1))).2.cont) := by
  simp only [Can.sqFetch, Bool.and_eq_true, Bool.not_eq_true', bne_iff_ne, decide_eq_true_eq] at h
  obtain ⟨⟨⟨⟨⟨⟨⟨running, fetches⟩, good⟩, some⟩, few⟩, rung⟩, read⟩, room⟩ := h
  refine (ok_if_of_running _ running fetches).trans (congrArg Host.Outcome.next ?_)
  exact (State.fetchSq_of_good good some few rung read).trans (if_pos room)

theorem exec_sqFetch_of_can_error {n : Fin 64} {s : State} (h : Can.sqFetch_error n s = true) :
    exec (.sqFetch n none) s = .next ((s.dmaErr n).haltSq n 2) := by
  simp only [Can.sqFetch_error, Bool.and_eq_true, Bool.not_eq_true'] at h
  obtain ⟨running, fetches⟩ := h
  exact ok_if_of_running _ running fetches

theorem exec_eventItemCopy_of_can {n : Fin 64} {it : Tile} {s : State} (h : Can.eventItemCopy n it s = true) :
    exec (.eventItemCopy n) s = .next (
      let h := s.sl n
      let q := (it.extractLsb' 32 32).toNat % (s.ring h.cfg.evtRing.toNat).depth
      ((ringPop s h.cfg.evtRing.toNat).1.emit (.hostTile n (h.cfg.evtBase + BitVec.ofNat 64 (64 * q)) it)).signal n
        (if h.cfg.vecCount = 1 then 0 else 1)) := by
  simp only [Can.eventItemCopy, Bool.and_eq_true, Bool.not_eq_true', beq_iff_eq, bne_iff_ne] at h
  obtain ⟨⟨⟨running, attached⟩, enabled⟩, popped⟩ := h
  have pop : ringPop s (s.sl n).cfg.evtRing.toNat = ((ringPop s (s.sl n).cfg.evtRing.toNat).1, it, 0) := Prod.ext rfl popped
  refine (ok_of_running _ running).trans (congrArg Host.Outcome.next ?_)
  dsimp only
  rw [if_neg (not_or.2 ⟨attached, by rw [enabled]; decide⟩), pop]
  rfl

/-! ## Management frames (R579) -/

theorem exec_mgmtCommandFrame_of_can {bs : List (BitVec 8)} {s : State} (h : Can.mgmtCommandFrame bs s = true) :
    exec (.mgmtCommandFrame bs) s = .next (
      let body := slice bs 18 (bs.length - 22)
      let t0 : Tile := leBits 512 (slice body 0 64)
      let cont : List Tile := (List.range (tilesOf t0 - 1)).map fun i => leBits 512 (slice body (64 * (i + 1)) 64)
      ({ s with host.m0Peers := s.host.m0Peers ++ [((cmdOf .m0 t0 cont).2.seq, leBits 48 (slice bs 6 6))] } : State).accept
        .m0 t0 cont) := by
  simp only [Can.mgmtCommandFrame, Bool.and_eq_true, Bool.not_eq_true', beq_iff_eq, bne_iff_ne, decide_eq_true_eq] at h
  obtain ⟨⟨⟨⟨⟨⟨⟨⟨⟨⟨⟨running, long⟩, short⟩, fcs⟩, toMe⟩, type⟩, version⟩, allowed⟩, length⟩, good⟩, some⟩, few⟩ := h
  refine (ok_of_running _ running).trans (congrArg Host.Outcome.next ?_)
  dsimp only
  have least : 64 ≤ bs.length := by omega
  rw [if_neg (by simp [least, short, fcs, toMe, type, version]),
    if_neg (by simpa [long, length, good, some, few, or_iff_not_imp_left, and_assoc] using allowed)]

/-! ## Host rings (R547, R574 to R576) -/

/-- Two updates that agree on a host ring make the same state. -/
theorem modHr_congr {s : State} {r : Nat} {f g : HostRing → HostRing} (agree : f (s.hr r) = g (s.hr r)) :
    s.modHr r f = s.modHr r g := by
  have agree' : f (Tab.get {} s.host.rings r) = g (Tab.get {} s.host.rings r) := agree
  simp only [State.modHr, Tab.upd, agree']

theorem exec_hrPoll_of_can {r : Fin 512} {it : BitVec 128} {s : State} (h : Can.hrPoll r it s = true) :
    exec (.hrPoll r (some it)) s = .next (s.modHr r fun g => { g.read s.now true with ready := g.ready ++ [it] }) := by
  simp only [Can.hrPoll, Bool.and_eq_true, Bool.not_eq_true', beq_iff_eq, decide_eq_true_eq] at h
  obtain ⟨⟨⟨⟨running, reads⟩, receives⟩, owned⟩, room⟩ := h
  refine (ok_of_running _ running).trans (congrArg Host.Outcome.next ?_)
  dsimp only
  rw [if_neg (by simp [reads])]
  exact modHr_congr (by simp only [owned, decide_eq_true room, Bool.or_true, Bool.and_true, receives, and_self, if_true])

theorem exec_hrTxItem_of_can {r : Fin 512} {item : BitVec 128} {bs : List (BitVec 8)} {s : State}
    (h : Can.hrTxItem r item bs s = true) :
    exec (.hrTxItem r item (some bs)) s = .next (
      (((s.modHr r fun g => g.read s.now true).takeTx r item (some bs)).1.bump .hrFrames r).writeItem r
        (put 128 0 (item.extractLsb' 0 112) ||| put 128 112 (0 : BitVec 8))) := by
  simp only [Can.hrTxItem, Bool.and_eq_true, Bool.not_eq_true', beq_iff_eq] at h
  obtain ⟨⟨⟨⟨running, reads⟩, sends⟩, owned⟩, taken⟩ := h
  have take : (s.modHr r fun g => g.read s.now true).takeTx r item (some bs) = (_, 0) := Prod.ext rfl taken
  refine (ok_of_running _ running).trans (congrArg Host.Outcome.next ?_)
  dsimp only
  rw [if_neg (by simp [reads, sends, owned]), take]
  rfl

theorem exec_hrRxWriteback_of_can {r : Fin 512} {d : Delivery} {rest : List Delivery} {s : State}
    (h : Can.hrRxWriteback r d rest s = true) :
    exec (.hrRxWriteback r) s = .next (
      let n := (s.hr r).cfg.owner.toNat
      let s1 := (s.emit (.hostBytes n (d.item.extractLsb' 0 64) d.bytes)).modHr r fun g => { g with inFlight := rest }
      (((s1.writeItem r d.item).bump .hrFrames r).deliveryGone d).tryReset n) := by
  simp only [Can.hrRxWriteback, Bool.and_eq_true, Bool.not_eq_true', beq_iff_eq] at h
  obtain ⟨⟨running, settled⟩, oldest⟩ := h
  refine (ok_of_running _ running).trans (congrArg Host.Outcome.next ?_)
  dsimp only
  rw [if_neg (Bool.eq_false_iff.mp settled), oldest]

/-! ## Quiesce and reset of a slice (R585, R586) -/

theorem exec_selfDrainExpiry_of_can {n : Fin 64} {t : Nat} {s : State} (h : Can.selfDrainExpiry n t s = true) :
    exec (.selfDrainExpiry n) s = .next (
      ((s.selfDraining n).foldl (fun (s : State) r => (s.bumpBy .hrSquashed r (s.hr r).inFlight.length).squash r) s).endReset
        n) := by
  simp only [Can.selfDrainExpiry, Bool.and_eq_true, Bool.not_eq_true', beq_iff_eq] at h
  obtain ⟨⟨⟨running, resetting⟩, drains⟩, due⟩ := h
  exact ok_if_of_running _ running ⟨resetting, by simp only [drains, Option.any_some, due]⟩

/-- Ending the one reply that waits. -/
theorem State.finish_of_single {s : State} {d : Deferred} {sel : Wait → Bool} (single : s.host.deferred = [d])
    (selected : sel d.wait = true) (st : Status) (data : BitVec 352) (tiles : List Tile) :
    s.finish sel st data tiles = ({ s with host.deferred := [] } : State).complete d.cmd d.keys d.replyTiles
      { opcode := d.opcode, status := st, device := s.devId.setWidth 8, seq := d.cmd.seq
        gen := (d.keys.head?.map s.gen).getD 0, handle := d.cmd.handle, data := data, tiles := tiles } := by
  unfold State.finish
  simp only [single, List.find?_cons, selected, List.erase_cons_head]
  rfl

theorem exec_quiesceTimeout_of_can {n : Fin 64} {d : Deferred} {due : Nat} {s : State}
    (h : Can.quiesceTimeout n d due s = true) :
    exec (.quiesceTimeout n) s = .next (
      ({ s with host.deferred := [] } : State).complete d.cmd d.keys d.replyTiles
        { opcode := d.opcode, status := .busy, device := s.devId.setWidth 8, seq := d.cmd.seq
          gen := (d.keys.head?.map s.gen).getD 0, handle := d.cmd.handle }) := by
  simp only [Can.quiesceTimeout, Bool.and_eq_true, Bool.not_eq_true', beq_iff_eq] at h
  obtain ⟨⟨⟨running, single⟩, waits⟩, late⟩ := h
  refine (ok_of_running _ running).trans (congrArg Host.Outcome.next ?_)
  simp only [single, List.filter_cons, waits, late, decide_true, Bool.and_self, if_true, List.filter_nil, List.foldl_cons,
    List.foldl_nil]
  exact State.finish_of_single single (by simp [waits, of_decide_eq_true late]) ..

theorem exec_quiesceDone_of_can {n : Fin 64} {s : State} (h : Can.quiesceDone n s = true) :
    exec (.quiesceDone n) s = .next ((s.modSl n fun h => { h with st := { h.st with state := 3 } }).endQuiesce n .ok) := by
  simp only [Can.quiesceDone, Bool.and_eq_true, Bool.not_eq_true', beq_iff_eq] at h
  obtain ⟨⟨running, quiescing⟩, idle⟩ := h
  exact ok_if_of_running _ running ⟨.inl quiescing, idle⟩

/-- Settles O41: each event answers what its lemma above says. -/
theorem hostInterfaceEvents : Obligations.HostInterfaceEvents := by
  unfold Obligations.HostInterfaceEvents
  exact ⟨fun _ _ _ h => exec_heldCommandExecute_of_can h,
    fun _ _ _ h => exec_identRead_of_can h,
    fun _ h => exec_devResetWrite_of_can h,
    fun _ _ h => exec_devResetWrite_of_can_act h,
    fun _ _ h => exec_devResetWrite_of_can_disarm h,
    fun _ _ h => exec_devResetArmExpiry_of_can h,
    fun _ _ _ h => exec_irqStatusWrite_of_can h,
    fun _ _ h => exec_mboxInWrite_of_can h,
    fun _ _ h => exec_mboxInWrite_of_can_overrun h,
    fun _ _ _ h => exec_sqTailWrite_of_can h,
    fun _ _ _ h => exec_sqTailWrite_of_can_resync h,
    fun _ _ _ h => exec_cqHeadWrite_of_can h,
    fun _ _ _ h => exec_barRegisterWrite_of_can h,
    fun _ _ _ _ h => exec_barRegisterWrite_of_can_bad h,
    fun _ _ h => exec_hostReset_of_can h,
    fun _ _ _ _ h => exec_sqFetch_of_can h,
    fun _ _ h => exec_sqFetch_of_can_error h,
    fun _ _ _ h => exec_eventItemCopy_of_can h,
    fun _ _ h => exec_mgmtCommandFrame_of_can h,
    fun _ _ _ h => exec_hrPoll_of_can h,
    fun _ _ _ _ h => exec_hrTxItem_of_can h,
    fun _ _ _ _ h => exec_hrRxWriteback_of_can h,
    fun _ _ _ h => exec_selfDrainExpiry_of_can h,
    fun _ _ _ _ h => exec_quiesceTimeout_of_can h,
    fun _ _ h => exec_quiesceDone_of_can h⟩

end Sys2Proof.Machine

/-!
Mode, Selvedge, start-up and board events (O49): one lemma for each event and form, then the statement itself. An event that
may take place runs on a device that has not stopped (`ok_of_running`, `ok_if_of_running`), a reset on a stopped one too; the
rest of its `Can.x` decides the guards of its `exec` arm.
-/
namespace Sys2Proof.Machine

/-! ## Modes (R58, R636, R640, R643) -/

theorem exec_modeChangeDone_of_can {old new : Mode} {s : State} (h : Can.modeChangeDone old new s = true) :
    exec .modeChangeDone s = .next (
      let beat := decide (s.sys.mode = .run) && (decide (new = .hold) || decide (new = .shadow))
      (({ s with sys.modeChange := none } : State).enterMode new beat).modeGen.finish (· == .modeSet) .ok 0 []) := by
  simp only [Can.modeChangeDone, Bool.and_eq_true, Bool.not_eq_true', beq_iff_eq, bne_iff_ne] at h
  obtain ⟨⟨⟨running, changing⟩, noListen⟩, notSafe⟩ := h
  refine (ok_of_running _ running).trans (congrArg Host.Outcome.next ?_)
  rw [changing, noListen]
  exact if_neg notSafe

theorem exec_modeChangeDone_of_can_safe {old : Mode} {s : State} (h : Can.modeChangeDone_safe old s = true) :
    exec .modeChangeDone s = .next (
      let t := (({ s with sys.modeChange := none } : State).enterMode .safe (s.sys.mode = .run)).modeGen.finish
        (· == .modeSet) .ok 0 []
      { t with sys.safeSince := some t.now, sys.autoRestart := false, selv.safeStarts := t.selv.safeStarts + 1 }) := by
  simp only [Can.modeChangeDone_safe, Bool.and_eq_true, Bool.not_eq_true', beq_iff_eq] at h
  obtain ⟨⟨running, changing⟩, noListen⟩ := h
  refine (ok_of_running _ running).trans (congrArg Host.Outcome.next ?_)
  rw [changing, noListen]
  exact if_pos rfl

theorem exec_cpWatchdog_of_can {s : State} (h : Can.cpWatchdog s = true) :
    exec .cpWatchdog s = .next (s.fatal 0x0D0C 0 0) := by
  simp only [Can.cpWatchdog, Bool.not_eq_true'] at h
  exact ok_of_running _ h

theorem exec_autoRestart_of_can {s : State} (h : Can.autoRestart s = true) :
    exec .autoRestart s = .next (s.deviceReset 4) := by
  simp only [Can.autoRestart, Bool.and_eq_true, Bool.not_eq_true'] at h
  obtain ⟨running, due⟩ := h
  exact ok_if_of_running _ running due

/-! ## Selvedge and the board's power (R648) -/

/-- Selvedge writes while its store is ready, it has not stopped, and the write before has had its time. -/
theorem selvedgeWrite_guard {s : State} (flows : s.selv.stopped = false) (opened : s.selv.opened = true)
    (due : s.selv.writeAt ≤ s.now) : ¬ (s.selv.stopped = true ∨ (!s.selv.opened) = true ∨ s.now < s.selv.writeAt) := by
  simp only [flows, opened, Bool.not_true, Bool.false_eq_true, false_or]
  exact Nat.not_lt.2 due

theorem exec_selvedgeWrite_of_can {e : SelvEntry} {s : State} (h : Can.selvedgeWrite e s = true) :
    exec (.selvedgeWrite true) s = .next (
      let s1 : State := { s with selv.queue := s.selv.queue.erase e, selv.writeAt := s.now + 2000 }
      ((s1.storeEntry e (s1.recordTile e)).clearedNote e).droppedNote) := by
  simp only [Can.selvedgeWrite, Bool.and_eq_true, Bool.not_eq_true', beq_iff_eq, decide_eq_true_eq] at h
  obtain ⟨⟨⟨⟨running, flows⟩, opened⟩, due⟩, next⟩ := h
  refine (ok_of_running _ running).trans (congrArg Host.Outcome.next ?_)
  rw [if_neg (selvedgeWrite_guard flows opened due), next]
  rfl

theorem exec_selvedgeWrite_of_can_fail {e : SelvEntry} {s : State} (h : Can.selvedgeWrite_fail e s = true) :
    exec (.selvedgeWrite false) s = .next (
      let s1 : State := { s with selv.queue := s.selv.queue.erase e, selv.writeAt := s.now + 2000 }
      ((s1.storeEntry { e with code := 0 } s1.badTile).drawn.drawn.clearedNote e).fatal 0x0701 0 0) := by
  simp only [Can.selvedgeWrite_fail, Bool.and_eq_true, Bool.not_eq_true', beq_iff_eq, bne_iff_ne, decide_eq_true_eq] at h
  obtain ⟨⟨⟨⟨⟨running, flows⟩, opened⟩, due⟩, next⟩, record⟩ := h
  refine (ok_of_running _ running).trans (congrArg Host.Outcome.next ?_)
  rw [if_neg (selvedgeWrite_guard flows opened due), next]
  exact (if_neg Bool.false_ne_true).trans (if_neg fun snap => record snap.1)

theorem exec_powerFail_of_can {s : State} (h : Can.powerFail s = true) :
    exec .powerFail s = .next (
      let pay : BitVec 288 := put 288 0 s.sys.mode.code ||| put 288 32 s.host.devGen ||| put 288 64 (satNat 32 s.selv.queue.length)
      let e : SelvEntry := { area := 0, code := 0x0D07, mode := s.sys.mode, wall := s.wall, handle := 0, payload := pay }
      let s1 : State := { s with selv := { s.selv.dropSnap.putRing 0 (s.recordTile e) with queue := [], stopped := true } }
      let s2 : State := { s1 with host.evCtr := Tab.upd 0 s1.host.evCtr 0x0D07 satInc }
      (s2.postItem 0 0x0D07 0 0 pay).finish (· == .selvedgeClear) .internal 0 []) := by
  simp only [Can.powerFail, Bool.and_eq_true, Bool.not_eq_true'] at h
  obtain ⟨⟨running, flows⟩, opened⟩ := h
  exact (ok_of_running _ running).trans (congrArg Host.Outcome.next (if_neg (by simp [flows, opened])))

theorem exec_powerRestored_of_can {s : State} (h : Can.powerRestored s = true) :
    exec .powerRestored s = .next (({ s with selv.stopped := false } : State).reportDev 0x0D08 0 0) := by
  simp only [Can.powerRestored, Bool.and_eq_true, Bool.not_eq_true'] at h
  obtain ⟨running, stopped⟩ := h
  exact ok_if_of_running _ running stopped

/-! ## Resets and start-up (R621, R628, R629) -/

theorem exec_reset_powerOn (straps : BitVec 6) (s : State) :
    exec (.reset (.powerOn straps)) s = .next (
      let t := s.afterReset 0
      { t with sys := { t.sys with idSel := straps, thermTrip := false, thermAlert := false, refLost := [] } }) := rfl

theorem exec_reset_resetN_of_can {straps : BitVec 6} {s : State} (h : Can.reset_n s = true) :
    exec (.reset (.resetN straps)) s = .next { s.afterReset 1 with sys.idSel := straps } :=
  congrArg Host.Outcome.next (if_pos h)

theorem exec_startupStepDone_of_can {e : StepEnd} {s : State} (h : Can.startupStepDone e s = true) :
    exec (.startupStepDone e) s = .next (s.stepPassed e) := by
  simp only [Can.startupStepDone, Bool.and_eq_true, Bool.not_eq_true', bne_iff_ne] at h
  obtain ⟨⟨⟨running, starting⟩, noTraining⟩, passed⟩ := h
  refine (ok_of_running _ running).trans (congrArg Host.Outcome.next ?_)
  rw [if_neg (by simp [starting]), if_neg noTraining, if_pos passed]

theorem exec_startupStepDone_of_can_fail {e : StepEnd} {s : State} (h : Can.startupStepDone_fail e s = true) :
    exec (.startupStepDone e) s = .next (s.stepFailed 0) := by
  simp only [Can.startupStepDone_fail, Bool.and_eq_true, Bool.not_eq_true', bne_iff_ne] at h
  obtain ⟨⟨⟨running, starting⟩, noTraining⟩, failed⟩ := h
  refine (ok_of_running _ running).trans (congrArg Host.Outcome.next ?_)
  rw [if_neg (by simp [starting]), if_neg noTraining, if_neg (Bool.eq_false_iff.mp failed)]

theorem exec_stepLimitExpiry_of_can {s : State} (h : Can.stepLimitExpiry s = true) :
    exec .stepLimitExpiry s = .next (s.stepFailed 0) := by
  simp only [Can.stepLimitExpiry, Bool.and_eq_true, Bool.not_eq_true', decide_eq_true_eq] at h
  obtain ⟨⟨running, starting⟩, late⟩ := h
  exact ok_if_of_running _ running ⟨starting, late⟩

theorem exec_bootWdg_of_can {s : State} (h : Can.bootWdg s = true) :
    exec .bootWdg s = .next (s.afterReset 3) := by
  simp only [Can.bootWdg, Bool.and_eq_true, Bool.not_eq_true', decide_eq_true_eq] at h
  obtain ⟨⟨running, starting⟩, late⟩ := h
  exact ok_if_of_running _ running ⟨starting, late⟩

/-! ## Clocks and temperature (R661, R673) -/

theorem exec_refclkLoss_of_can {s : State} (h : Can.refclkLoss s = true) :
    exec (.refclkLoss .k) s = .next (
      (List.range 4).foldl (fun (s : State) k => if (s.link k).cfg.enable = 1 then s.linkFail k else s)
        { s with sys.refLost := Tab.set false s.sys.refLost 2 true }) := by
  simp only [Can.refclkLoss, Bool.and_eq_true, Bool.not_eq_true'] at h
  obtain ⟨running, present⟩ := h
  exact (ok_of_running _ running).trans (congrArg Host.Outcome.next (if_neg (Bool.eq_false_iff.mp present)))

theorem exec_refclkLoss_of_can_pcie {s : State} (h : Can.refclkLoss_pcie s = true) :
    exec (.refclkLoss .pcie) s = .next ({ s with sys.refLost := Tab.set false s.sys.refLost 3 true } : State).hostReset := by
  simp only [Can.refclkLoss_pcie, Bool.and_eq_true, Bool.not_eq_true'] at h
  obtain ⟨running, present⟩ := h
  exact (ok_of_running _ running).trans (congrArg Host.Outcome.next (if_neg (Bool.eq_false_iff.mp present)))

theorem exec_thermAlert_of_can {hot : Bool} {s : State} (h : Can.thermAlert hot s = true) :
    exec (.thermAlert hot) s = .next (({ s with sys.thermAlert := hot } : State).emit (.thermAlert hot)) := by
  simp only [Can.thermAlert, Bool.and_eq_true, Bool.not_eq_true', bne_iff_ne] at h
  obtain ⟨running, changes⟩ := h
  exact (ok_of_running _ running).trans (congrArg Host.Outcome.next (if_neg changes))

theorem exec_thermTrip_of_can {s : State} (h : Can.thermTrip s = true) :
    exec .thermTrip s = .next (({ s with sys.thermTrip := true } : State).emit .thermTrip) := by
  simp only [Can.thermTrip, Bool.and_eq_true, Bool.not_eq_true'] at h
  obtain ⟨running, first⟩ := h
  exact (ok_of_running _ running).trans (congrArg Host.Outcome.next (if_neg (Bool.eq_false_iff.mp first)))

theorem exec_sysXinLoss_of_can {s : State} (h : Can.sysXinLoss s = true) :
    exec .sysXinLoss s = .next { s with sys := { s.sys with xinLost := true, stopped := true } } := by
  simp only [Can.sysXinLoss, Bool.not_eq_true'] at h
  exact ok_of_running _ h

theorem exec_refclkRestore_of_can {c : RefClk} {s : State} (h : Can.refclkRestore s = true) :
    exec (.refclkRestore c) s = .next { s with sys.refLost := Tab.set false s.sys.refLost (refIdx c) false } := by
  simp only [Can.refclkRestore, Bool.not_eq_true'] at h
  exact ok_of_running _ h

/-! ## Snapshots (R582, R583) -/

theorem exec_snapshotCopyDone_of_can {n : Snapshot} {s : State} (h : Can.snapshotCopyDone n s = true) :
    exec .snapshotCopyDone s = .next { s with host.snapshot := some { n with staging := false } } := by
  simp only [Can.snapshotCopyDone, Bool.and_eq_true, Bool.not_eq_true', beq_iff_eq] at h
  obtain ⟨⟨running, pending⟩, dram⟩ := h
  refine (ok_of_running _ running).trans (congrArg Host.Outcome.next ?_)
  rw [pending]
  exact if_pos dram

theorem exec_snapshotDone_of_can {n : Snapshot} {s : State} (h : Can.snapshotDone n s = true) :
    exec .snapshotDone s = .next (
      let live := (if n.flags.getLsbD 0 then (snapSlices n.slice).flatMap s.snapTable else []) ++
        (if n.flags.getLsbD 1 then s.snapCounters n.slice else [])
      let body := n.tiles ++ live.flatten
      let head := sealTile (put 512 0 (1 : BitVec 16) ||| put 512 16 n.flags ||| put 512 32 n.devGen |||
        put 512 64 n.wall ||| put 512 128 Config.serial ||| put 512 192 (BitVec.ofNat 32 (n.records + live.length)) |||
        put 512 224 (BitVec.ofNat 32 (body.length + 1)) ||| put 512 256 (BitVec.ofNat 8 n.slice))
      let s1 := (body.zipIdx).foldl (fun (s : State) (p : Tile × Nat) =>
        s.emit (.hostTile n.slice (n.addr + BitVec.ofNat 64 (64 * (p.2 + 1))) p.1)) s
      ({ s1.emit (.hostTile n.slice n.addr head) with host.snapshot := none } : State).finish (· == .snapshot) .ok
        (dat 16 n.devGen ||| dat 20 (BitVec.ofNat 32 (body.length + 1))) []) := by
  simp only [Can.snapshotDone, Bool.and_eq_true, Bool.not_eq_true', beq_iff_eq] at h
  obtain ⟨running, pending⟩ := h
  refine (ok_of_running _ running).trans ?_
  simp only [pending]

/-- Settles O49: each event answers what its lemma above says. -/
theorem modeAndBoardEvents : Obligations.ModeAndBoardEvents := by
  unfold Obligations.ModeAndBoardEvents
  exact ⟨fun _ _ _ h => exec_modeChangeDone_of_can h,
    fun _ _ h => exec_modeChangeDone_of_can_safe h,
    fun _ h => exec_cpWatchdog_of_can h,
    fun _ _ h => exec_selvedgeWrite_of_can h,
    fun _ _ h => exec_selvedgeWrite_of_can_fail h,
    fun _ h => exec_powerFail_of_can h,
    fun _ h => exec_powerRestored_of_can h,
    fun straps s _ => exec_reset_powerOn straps s,
    fun _ _ h => exec_reset_resetN_of_can h,
    fun _ _ h => exec_startupStepDone_of_can h,
    fun _ _ h => exec_startupStepDone_of_can_fail h,
    fun _ h => exec_stepLimitExpiry_of_can h,
    fun _ h => exec_bootWdg_of_can h,
    fun _ h => exec_autoRestart_of_can h,
    fun _ h => exec_refclkLoss_of_can h,
    fun _ h => exec_refclkLoss_of_can_pcie h,
    fun _ _ h => exec_thermAlert_of_can h,
    fun _ h => exec_thermTrip_of_can h,
    fun _ _ h => exec_snapshotCopyDone_of_can h,
    fun _ _ h => exec_snapshotDone_of_can h,
    fun _ h => exec_sysXinLoss_of_can h,
    fun _ _ h => exec_refclkRestore_of_can h⟩

end Sys2Proof.Machine
